-- ==== Sys2Proof/Word.lean ====
section
/-! DEFINITION. The word types of the LD-4824: what the manual treats as bits is a bit vector, and nothing else is. -/

namespace Sys2Proof

/-- One byte of memory or of a frame (R21: memory is little-endian). -/
abbrev Byte := BitVec 8

/-- One register of a register slot (R12: 32 bits). -/
abbrev Word := BitVec 32

end Sys2Proof
end

