-- ==== Sys2Proof/Machine/Bits.lean ====
section
/-! DEFINITION. Bit fields, byte order and signed values: the conversions every chapter uses. -/

namespace Sys2Proof.Machine

/-- Bits [hi:lo] of a number, read as a number. -/
def bitsOf (v hi lo : Nat) : Nat := (v / 2 ^ lo) % 2 ^ (hi + 1 - lo)

/-- Bit `i` of a number. -/
def bitOf (v i : Nat) : Bool := v / 2 ^ i % 2 == 1

/-- One bit as a number. -/
def b2n (b : Bool) : Nat := if b then 1 else 0

/-- `v` with bits [hi:lo] replaced by the low bits of `x`. -/
def setBits (v hi lo x : Nat) : Nat :=
  v - bitsOf v hi lo * 2 ^ lo + (x % 2 ^ (hi + 1 - lo)) * 2 ^ lo

/-- `v` with bit `i` set to `b`. -/
def setBit (v i : Nat) (b : Bool) : Nat := setBits v i i (b2n b)

/-- The numbers of the set bits of `v` below `n`, lowest first. -/
def bitList (n v : Nat) : List Nat := (List.range n).filter (bitOf v)

/-- The mask whose set bits are `l`. -/
def maskOf (l : List Nat) : Nat := l.foldl (fun m i => m ||| 2 ^ i) 0

/-- A two's-complement number of `w` bits. -/
def signed (w v : Nat) : Int :=
  let u := v % 2 ^ w
  if u < 2 ^ (w - 1) then (u : Int) else (u : Int) - (2 ^ w : Nat)

/-- The `w`-bit two's-complement pattern of an integer. -/
def unsignedOf (w : Nat) (x : Int) : Nat := (x % ((2 ^ w : Nat) : Int)).toNat

/-- An integer held to the range [lo, hi]. -/
def clampI (lo hi x : Int) : Int := if x < lo then lo else if hi < x then hi else x

/-- A number held to the range [lo, hi]. -/
def clampN (lo hi x : Nat) : Nat := if x < lo then lo else if hi < x then hi else x

/-- Addition that saturates at `top`. -/
def satAdd (top a b : Nat) : Nat := min top (a + b)

/-- The quotient rounded up; 0 for a divisor of 0. -/
def ceilDiv (a b : Nat) : Nat := (a + b - 1) / b

/-- The quotient rounded to the nearest integer, halves away from zero. -/
def roundDivI (a : Int) (b : Nat) : Int :=
  if 0 ≤ a then Int.fdiv (2 * a + b) (2 * b) else - Int.fdiv (2 * (-a) + b) (2 * b)

/-- Saturating signed 32-bit value. -/
def sat32 (x : Int) : Int := clampI (-(2 ^ 31)) (2 ^ 31 - 1) x

/-- The number whose little-endian bytes are `l` (R21). -/
def leNat : List Byte → Nat
  | [] => 0
  | b :: l => b.toNat + 256 * leNat l

/-- The `n` little-endian bytes of `v` (R21). -/
def leBytes : Nat → Nat → List Byte
  | 0, _ => []
  | n + 1, v => BitVec.ofNat 8 v :: leBytes n (v / 256)

/-- The number whose big-endian bytes are `l`. -/
def beNat (l : List Byte) : Nat := l.foldl (fun a b => a * 256 + b.toNat) 0

/-- The `n` big-endian bytes of `v`. -/
def beBytes (n v : Nat) : List Byte := (leBytes n v).reverse

/-- Bytes `o` to `o + n - 1` of `l`, read little-endian; a byte past the end reads as zero. -/
def leAt (l : List Byte) (o n : Nat) : Nat := leNat ((l.drop o).take n)

/-- Bytes `o` to `o + n - 1` of `l`, read big-endian. -/
def beAt (l : List Byte) (o n : Nat) : Nat := beNat ((l.drop o).take n)

/-- Byte `o` of `l`, zero past the end. -/
def byteAt (l : List Byte) (o : Nat) : Nat := (l.getD o 0).toNat

/-- Exactly `n` bytes: `l` cut, or filled with zeros. -/
def padTo (n : Nat) (l : List Byte) : List Byte := l.take n ++ List.replicate (n - l.length) 0

/-- `l` with the bytes `x` written from offset `o`, within the length of `l`. -/
def patchAt (l : List Byte) (o : Nat) (x : List Byte) : List Byte :=
  l.take o ++ (x.take (l.length - o)) ++ l.drop (o + x.length)

/-- A field with a default: a stored zero selects it (R189, R280, R367, R516). -/
def dflt (v d : Nat) : Nat := if v = 0 then d else v

/-- The 32-bit register word of a number. -/
def w32 (v : Nat) : Word := BitVec.ofNat 32 v

/-- One bit of CRC-32C, reflected. -/
def crcBit (c : Nat) : Nat := if c % 2 = 1 then c / 2 ^^^ 0x82F63B78 else c / 2

/-- CRC-32C of bytes. -/
def crc32c (l : List Byte) : Nat :=
  (l.foldl (fun c b => crcBit (crcBit (crcBit (crcBit (crcBit (crcBit (crcBit (crcBit (c ^^^ b.toNat))))))))) 0xFFFFFFFF) ^^^ 0xFFFFFFFF

end Sys2Proof.Machine
end

