-- ==== Sys2Proof/Machine/F64.lean ====
section
/-! DEFINITION. IEEE 754 binary64 as the gateway computes it (R376): values, rounding to nearest even, the four operations. -/

namespace Sys2Proof.Machine

/-- A binary64 value: not a number, an infinity, or m × 2ᵉ. -/
inductive F64 where
  | nan
  | inf (neg : Bool)
  | fin (m : Int) (e : Int)
  deriving DecidableEq, Repr

/-- The value of 64 bits. -/
def f64OfBits (w : Nat) : F64 :=
  let e := bitsOf w 62 52
  let f := bitsOf w 51 0
  let neg := bitOf w 63
  let sg := fun (m : Nat) => if neg then -(m : Int) else (m : Int)
  if e = 2047 then (if f = 0 then .inf neg else .nan)
  else if e = 0 then .fin (sg f) (-1074)
  else .fin (sg (f + 4503599627370496)) ((e : Int) - 1075)

/-- The value is finite. -/
def F64.isFin : F64 → Bool
  | .fin _ _ => true
  | _ => false

/-- The value is zero. -/
def F64.isZero : F64 → Bool
  | .fin m _ => m == 0
  | _ => false

/-- num / den rounded to binary64, ties to even. -/
def f64Round (num : Int) (den : Nat) : F64 :=
  if num = 0 ∨ den = 0 then .fin 0 0
  else
    let a := num.natAbs
    let scale := fun (k : Int) => if 0 ≤ k then (a * 2 ^ k.toNat, den) else (a, den * 2 ^ (-k).toNat)
    let k0 : Int := 52 + (Nat.log2 den : Int) - (Nat.log2 a : Int)
    let p0 := scale k0
    let k1 := if p0.1 / p0.2 < 4503599627370496 then k0 + 1 else k0
    let k := if 1074 < k1 then 1074 else k1
    let p := scale k
    let q := p.1 / p.2
    let r := p.1 % p.2
    let q := if p.2 < 2 * r ∨ (p.2 = 2 * r ∧ q % 2 = 1) then q + 1 else q
    if k ≤ -971 ∧ (9007199254740992 : Nat) * 2 ^ 971 ≤ q * 2 ^ (-k).toNat then .inf (decide (num < 0))
    else .fin (if num < 0 then -(q : Int) else (q : Int)) (-k)

/-- m × 2ᵉ rounded. -/
def f64Scaled (m e : Int) : F64 :=
  if 0 ≤ e then f64Round (m * (2 ^ e.toNat : Nat)) 1 else f64Round m (2 ^ (-e).toNat)

def F64.neg : F64 → F64
  | .nan => .nan
  | .inf b => .inf (!b)
  | .fin m e => .fin (-m) e

/-- The value is negative. -/
def F64.isNeg : F64 → Bool
  | .nan => false
  | .inf b => b
  | .fin m _ => decide (m < 0)

def F64.mul (a b : F64) : F64 :=
  match a, b with
  | .nan, _ | _, .nan => .nan
  | .inf x, y | y, .inf x => if y.isZero then .nan else .inf (x != y.isNeg)
  | .fin m e, .fin n f => f64Scaled (m * n) (e + f)

def F64.add (a b : F64) : F64 :=
  match a, b with
  | .nan, _ | _, .nan => .nan
  | .inf x, .inf y => if x = y then .inf x else .nan
  | .inf x, _ | _, .inf x => .inf x
  | .fin m e, .fin n f =>
    let g := min e f
    f64Scaled (m * (2 ^ (e - g).toNat : Nat) + n * (2 ^ (f - g).toNat : Nat)) g

def F64.div (a b : F64) : F64 :=
  match a, b with
  | .nan, _ | _, .nan => .nan
  | .inf _, .inf _ => .nan
  | .inf x, y => .inf (x != y.isNeg)
  | .fin _ _, .inf _ => .fin 0 0
  | .fin m e, .fin n f =>
    if n = 0 then (if m = 0 then .nan else .inf (decide (m < 0)))
    else
      let m := if n < 0 then -m else m
      let d := e - f
      if 0 ≤ d then f64Round (m * (2 ^ d.toNat : Nat)) n.natAbs else f64Round m (n.natAbs * 2 ^ (-d).toNat)

/-- The nearest integer held to [lo, hi], ties away from zero; none for no number. -/
def F64.toInt (a : F64) (lo hi : Int) : Option Int :=
  match a with
  | .nan => none
  | .inf neg => some (if neg then lo else hi)
  | .fin m e => some (clampI lo hi (if 0 ≤ e then m * (2 ^ e.toNat : Nat) else roundDivI m (2 ^ (-e).toNat)))

end Sys2Proof.Machine
end

