-- ==== Sys2Proof/Machine/Fix.lean ====
section
/-! DEFINITION. Fixed-point arithmetic of real functions, far inside the accuracies the manual asks for (R109, R128,
R194): values are integers in units of 2⁻⁴⁸. -/

namespace Sys2Proof.Machine

/-- One, in units of 2⁻⁴⁸. -/
def fxOne : Int := 281474976710656

/-- Product of two fixed-point numbers. -/
def fxMul (a b : Int) : Int := Int.fdiv (a * b) fxOne

/-- Quotient of two fixed-point numbers; 0 where the divisor is 0. -/
def fxDiv (a b : Int) : Int := if b = 0 then 0 else Int.fdiv (a * fxOne) b

/-- `n` squarings. -/
def fxSquares : Nat → Int → Int
  | 0, x => x
  | n + 1, x => fxSquares n (fxMul x x)

/-- The sum of xᵏ/k! from term `k`, `n` terms; `t` is the current term. -/
def fxExpTerms (x : Int) : Nat → Nat → Int → Int
  | 0, _, _ => 0
  | n + 1, k, t => t + fxExpTerms x n (k + 1) (Int.fdiv (fxMul t x) (k + 1))

/-- eˣ for |x| up to about 30. -/
def fxExp (x : Int) : Int := fxSquares 10 (fxExpTerms (Int.fdiv x 1024) 8 0 fxOne)

/-- 1 − e⁻ˣ for x ≥ 0, accurate relative to itself: a small x goes through the series. -/
def fxLoss (x : Int) : Int := if x < 17592186044416 then -(fxExpTerms (-x) 8 1 (-x)) else fxOne - fxExp (-x)

/-- The sum of z^(2k+1)/(2k+1) from term `k`, `n` terms; `p` is z^(2k+1). -/
def fxAtanhTerms (z2 : Int) : Nat → Nat → Int → Int
  | 0, _, _ => 0
  | n + 1, k, p => Int.fdiv p (2 * k + 1) + fxAtanhTerms z2 n (k + 1) (fxMul p z2)

/-- ln 2 in units of 2⁻⁴⁸. -/
def fxLn2 : Int := 195103586505167

/-- ln x for a fixed-point x > 0; 0 elsewhere. -/
def fxLn (x : Int) : Int :=
  if x ≤ 0 then 0
  else
    let k : Int := (Nat.log2 x.toNat : Int) - 48
    let m := if 0 ≤ k then Int.fdiv x (2 ^ k.toNat : Nat) else x * (2 ^ (-k).toNat : Nat)
    let z := fxDiv (m - fxOne) (m + fxOne)
    2 * fxAtanhTerms (fxMul z z) 18 0 z + k * fxLn2

/-- xʸ for x > 0. -/
def fxPow (x y : Int) : Int := if x ≤ 0 then 0 else fxExp (fxMul y (fxLn x))

/-- A Q16.16 number as a fixed-point number. -/
def fxOfQ (q : Int) : Int := q * 4294967296

/-- A fixed-point number rounded to Q16.16, halves away from zero. -/
def fxToQ (x : Int) : Int := roundDivI x 4294967296

end Sys2Proof.Machine
end

