-- ==== Sys2Proof/Machine/NMap.lean ====
section
/-! DEFINITION. Sparse data by key: a list of (key, value) pairs with keys strictly rising.
Every sparse part of the state (memory, registers, channels, element instances) is held in this one form,
so that equal contents are equal data. -/

namespace Sys2Proof.Machine

/-- Sparse data by a natural-number key, keys strictly rising. -/
abbrev NMap (α : Type) := List (Nat × α)

/-- The entry at key `k`, if the map lists one. -/
def nfind {α : Type} : NMap α → Nat → Option α
  | [], _ => none
  | (j, v) :: m, k => if j = k then some v else nfind m k

/-- The value at key `k`, or `d` where the map lists none. -/
def ngetD {α : Type} (m : NMap α) (k : Nat) (d : α) : α := (nfind m k).getD d

/-- The map with `v` at key `k`. -/
def nset {α : Type} : NMap α → Nat → α → NMap α
  | [], k, v => [(k, v)]
  | (j, w) :: m, k, v =>
    if k < j then (k, v) :: (j, w) :: m
    else if k = j then (k, v) :: m
    else (j, w) :: nset m k v

/-- The map with no entry at key `k`. -/
def nerase {α : Type} : NMap α → Nat → NMap α
  | [], _ => []
  | (j, w) :: m, k => if j = k then nerase m k else (j, w) :: nerase m k

/-- The map with `v` at key `k`, in the form that lists no entry equal to the default `d`. -/
def nput {α : Type} [DecidableEq α] (d : α) (m : NMap α) (k : Nat) (v : α) : NMap α :=
  if v = d then nerase m k else nset m k v

/-- Keys strictly rising, every key at least `lo`. -/
def nsorted {α : Type} : Nat → NMap α → Bool
  | _, [] => true
  | lo, (j, _) :: m => decide (lo ≤ j) && nsorted (j + 1) m

/-- No entry equal to the default. -/
def nclean {α : Type} [DecidableEq α] (d : α) (m : NMap α) : Bool := m.all (fun e => decide (e.2 ≠ d))

/-- The values of a map, in key order. -/
def nvals {α : Type} (m : NMap α) : List α := m.map Prod.snd

/-- The map with `f` applied to every value it lists. -/
def nmap {α β : Type} (f : Nat → α → β) (m : NMap α) : NMap β := m.map (fun e => (e.1, f e.1 e.2))

end Sys2Proof.Machine
end

