-- ==== Sys2Proof/Machine/StatePe.lean ====
section
/-! DEFINITION. State of the protection engine (chapters 04 and 05) beside its registers. -/

namespace Sys2Proof.Machine

/-- The state an element instance keeps (R195–R211): one record serves every element, each using the fields its rule
names; real values in units of 2⁻⁴⁸ but where a field says otherwise. -/
structure ElSt where
  /-- A usable run has been made since the initial state. -/
  begun : Bool := false
  /-- Accumulated time A of R195, µs in units of 2⁻⁴⁸. -/
  a    : Int := 0
  /-- The operate condition holds (dropout and hysteresis). -/
  h    : Bool := false
  trip : Bool := false
  /-- Consecutive operating runs. -/
  n    : Nat := 0
  /-- H; θw; E, in units of 2⁻⁹⁶; F. -/
  f    : Int := 0
  /-- T_w of the last run; M. -/
  g    : Int := 0
  /-- Last inputs, latest first, Q16.16. -/
  xs   : List Int := []
  /-- Event flags of the last WIN runs, latest first. -/
  win  : List Bool := []
  /-- Time in the present phase, below pick-up, or of the pulse, µs. -/
  t    : Nat := 0
  el   : Nat := 0
  /-- Level of the timer's input. -/
  cat  : Nat := 0
  /-- State bytes of a user element (R215). -/
  user : List Byte := []
  deriving DecidableEq, Repr

/-- One copy of an instance. -/
structure Copy where
  pair : Nat
  bank : Nat
  st   : ElSt := {}
  trip : Bool := false
  deriving DecidableEq, Repr

/-- An element instance (R183). -/
structure Inst where
  type   : Nat
  cls    : Nat
  dual   : Bool := false
  vote   : Bool := false
  failsafe : Bool := false
  auto   : Bool := false
  report : Bool := false
  nin    : Nat := 0
  /-- Sources of the inputs, then the extra terminals of R203. -/
  inputs : List Nat := []
  resp   : Nat := 0
  mask   : Nat := 0
  bulletin : Option Nat := none
  blk    : List Byte := []
  cost   : Nat := 0
  size   : Nat := 0
  /-- Parameters that take effect at the next run, and whether that run starts from the initial state (R184, R196). -/
  pend   : Option (List Byte) := none
  renew  : Bool := false
  slot   : Nat := 0
  /-- Copies A and B; none where it does not exist. -/
  a      : Option Copy := none
  b      : Option Copy := none
  /-- Alignment delay, fast ticks, and worst-case response, µs (R152). -/
  delay  : Nat := 0
  resp_w : Nat := 0
  unplaced : Bool := false
  degraded : Bool := false
  /-- A new copy B takes the survivor's state at its first tick (R172). -/
  fresh  : Bool := false
  /-- Re-placed and not run again yet (R172). -/
  await  : Bool := false
  disabled : Bool := false
  disagree : Bool := false
  disCount : Nat := 0
  /-- Consecutive stopped runs (R151). -/
  stops  : Nat := 0
  trip   : Bool := false
  start  : Bool := false
  /-- Words of the analog and the trip output (R192). -/
  aWord  : Nat := 0
  tWord  : Nat := 0
  deriving DecidableEq, Repr

/-- A remote sample in the aligner's window (R159). -/
structure RSmp where
  /-- TD0 time, ns. -/
  t    : Nat
  v    : Int
  q    : Nat
  ok   : Bool
  late : Bool
  deriving DecidableEq, Repr

/-- One value of an ingest handle. -/
structure RVal where
  /-- Samples in rising time, arrival order among equals. -/
  smps : List RSmp := []
  /-- The latest sample accepted, as a word of class 2 (R138). -/
  last : Option Nat := none
  /-- The last VALID value that has left the window, and its quality. -/
  hold : Int := 0
  holdQ : Nat := 0
  deriving DecidableEq, Repr

/-- An open ingest handle (R155, R156, R185). -/
structure Ing where
  foreign : Bool
  missing : Bool
  nval    : Nat
  lat     : Nat
  imax    : Nat
  method  : Bool
  sid     : Nat := 0
  node    : Nat := 0
  subst   : Int := 0
  tmpl    : List Byte := []
  seq     : Option Nat := none
  /-- Fast ticks since the latest accepted sample, or the opening; 64 for more (R164). -/
  idle    : Nat := 0
  vals    : List RVal := []
  deriving DecidableEq, Repr

/-- A local Trip Bulletin (R180, R181). -/
structure Bul where
  count : Nat := 0
  /-- TD0 time, ns, and real time of the last change of state. -/
  td    : Nat := 0
  at_   : Nat := 0
  seq   : Nat := 0
  /-- Next frame of the burst in progress, or heartbeats. -/
  idx   : Option Nat := none
  /-- Real time at which the next frame falls due. -/
  due   : Option Nat := none
  deriving DecidableEq, Repr

/-- A bulletin subscription (R182): the latest frame's state, and when it arrived. -/
structure Sub where
  asserted : Bool := false
  rx       : Nat := 0
  deriving DecidableEq, Repr

/-- The protection engine. -/
structure Pe where
  insts : NMap Inst := []
  ings  : NMap Ing := []
  buls  : NMap Bul := []
  subs  : NMap Sub := []
  /-- Samples of local sources that instances use: grid index and word, latest first (R159, R160). -/
  hist  : NMap (List (Nat × Nat)) := []
  /-- Channels that switch failure instances watch (R209): grid index, what the element sees, and for how long, ns. -/
  chst  : NMap (List (Nat × Nat × Nat)) := []
  /-- Rows that set each channel's trip latch: handles, 4096 + j for subscription j, and 8192 for the row of an instance that
  has been removed (R178). -/
  setBy : NMap (List Nat) := []
  /-- Pairs draining or under test, and pairs out of service after a failed test, one bit each (R165, R174, R487). -/
  draining : Nat := 0
  failed   : Nat := 0
  /-- A reflow is in progress; a full placement by the command with this fetch number (R172, R175). -/
  reflow : Bool := false
  rebal  : Option Nat := none
  /-- Channels whose latch a TRIP_RESET cleared: fast tick, and before it the channel's state and the rows that had set the
  latch (R178). -/
  cleared : NMap (Nat × Nat × List Nat) := []
  /-- Pairs that have left service and carry no instances until the next full placement, one bit each (R174). -/
  empty : Nat := 0
  /-- Loaded user elements by TYPE: the image without its signature (R212). -/
  users : NMap (List Byte) := []
  deriving DecidableEq, Repr

end Sys2Proof.Machine
end

