-- ==== Sys2Proof/Machine/PeElem.lean ====
section
/-! DEFINITION. The Virondeth element library (chapter 05): parameter blocks, costs, and what one run computes. Inputs are
Q16.16 values; results within the accuracy of R194 are formed through the tolerance function a run is given. -/

namespace Sys2Proof.Machine

/-! ### Parameter blocks (R188–R190) -/

/-- Byte, 16-bit, 32-bit and signed 32-bit field of a block. -/
def bU8 (b : List Byte) (o : Nat) : Nat := byteAt b o
def bU16 (b : List Byte) (o : Nat) : Nat := leAt b o 2
def bU32 (b : List Byte) (o : Nat) : Nat := leAt b o 4
def bS32 (b : List Byte) (o : Nat) : Int := signed 32 (leAt b o 4)

/-- A number lies in a range. -/
def inR (v lo hi : Nat) : Bool := decide (lo ≤ v ∧ v ≤ hi)

/-- A signed Q16.16 field is positive, or not negative. -/
def posQ (b : List Byte) (o : Nat) : Bool := decide (0 < bS32 b o)
def nonNegQ (b : List Byte) (o : Nat) : Bool := decide (0 ≤ bS32 b o)

/-- Bytes [o, o + n) of a block are zero. -/
def zeroB (b : List Byte) (o n : Nat) : Bool := ((b.drop o).take n).all (· == 0)

/-- A time of at most 60 s (R198). -/
def delayOk (b : List Byte) (o : Nat) : Bool := inR (bU32 b o) 0 60000000

/-- The common header (R190). -/
def headerOk (b : List Byte) : Bool := inR (bU8 b 0) 0 1 && inR (bU8 b 1) 0 7 && zeroB b 2 6

/-- Bits at and above `n` of a mask are zero. -/
def bitsBelow (v n : Nat) : Bool := decide (v < 2 ^ n)

/-- What a valid block gives: cost, state size, and the extra sources it names. -/
structure ElemUse where
  cost : Nat
  size : Nat
  ext  : List Nat := []
  deriving DecidableEq, Repr

/-- Points of a user curve rise in current and fall in time, and those beyond NPT are zero (R200). -/
def userCurveOk (b : List Byte) : Bool :=
  let n := bU8 b 160
  inR n 2 16 && zeroB b 161 7 && decide (72090 ≤ bS32 b 32) &&
  ((List.range 16).all fun j =>
    if j < n then
      j == 0 || (decide (bS32 b (24 + 8 * j) < bS32 b (32 + 8 * j)) && decide (bU32 b (36 + 8 * j) < bU32 b (28 + 8 * j)))
    else zeroB b (32 + 8 * j) 8)

/-- The library element's check of class, input count and block (R188–R190, R197–R211); what it uses where all holds. -/
def elemCheck (type cls nin : Nat) (b : List Byte) : Option ElemUse :=
  let ok := fun (len : Nat) (classes : List Nat) (lo hi : Nat) (c : Bool) (u : ElemUse) =>
    if b.length = len && classes.contains cls && inR nin lo hi && headerOk b && c then some u else none
  let all := [0, 1, 2]
  match type with
  | 0x0001 => ok 16 [0, 1] 1 1 (posQ b 8 && inR (bU8 b 12) 0 2 && inR (dflt (bU8 b 13) 1) 1 16 && zeroB b 14 2) ⟨48, 16, []⟩
  | 0x0002 => ok 24 all 1 1
      (posQ b 8 && inR (bU8 b 12) 0 2 && inR (dflt (bU8 b 13) 95) 50 99 && zeroB b 14 2 && delayOk b 16 && delayOk b 20) ⟨72, 16, []⟩
  | 0x0003 =>
      let c := bU8 b 12
      ok (if c = 7 then 168 else 32) all 1 1
        (posQ b 8 && inR c 0 7 && inR (bU8 b 13) 0 2 && inR (bU8 b 14) 0 (if 4 ≤ c ∧ c ≤ 6 then 1 else 0) && zeroB b 15 1 &&
          inR (dflt (bU32 b 16) 65536) 3277 131072 && delayOk b 20 && inR (dflt (bU32 b 24) 1310720) 131072 2621440 &&
          inR (bU32 b 28) 0 10000000 && (c != 7 || userCurveOk b))
        ⟨if c = 7 then 310 else if c = 0 ∨ c = 4 then 260 else 150, 32, []⟩
  | 0x0004 => ok 24 [1, 2] 1 8
      (decide (1 ≤ bU32 b 8) && decide (1 ≤ bU16 b 12) && decide (1 ≤ bU16 b 14) && inR (bU16 b 16) 0 10000 &&
        inR (bU8 b 18) 60 250 && inR (dflt (bU8 b 19) 20) 5 100 && inR (bU8 b 20) 0 100 && inR (bU8 b 21) 0 1 &&
        decide (-40 ≤ signed 8 (bU8 b 22) ∧ signed 8 (bU8 b 22) ≤ 125) && (bU8 b 21 == 1 || decide (2 ≤ nin)))
      ⟨150 + 12 * nin, 32, []⟩
  | 0x0005 =>
      let nx := bU8 b 8
      let m := nin + nx
      ok 48 [0, 1] 1 8
        (inR nx 0 8 && inR (dflt (bU8 b 9) 3) 1 16 && bitsBelow (bU16 b 10) m && posQ b 12 &&
          inR (dflt (bU32 b 16) 16384) 3277 65536 && inR (dflt (bU32 b 20) 32768) 6554 131072 && posQ b 24 &&
          zeroB b (28 + 2 * nx) (16 - 2 * nx) && zeroB b 44 4 && inR m 2 16)
        ⟨96 + 20 * m, 24, (List.range nx).map fun i => bU16 b (28 + 2 * i)⟩
  | 0x0006 => ok 28 all 1 1 (posQ b 8 && nonNegQ b 12 && delayOk b 16 && delayOk b 20 && nonNegQ b 24) ⟨64, 16, []⟩
  | 0x0007 => ok 28 all 1 1 (posQ b 8 && nonNegQ b 12 && delayOk b 16 && delayOk b 20 && zeroB b 24 4) ⟨64, 16, []⟩
  | 0x0008 => ok 20 all 1 1 (posQ b 8 && delayOk b 12 && delayOk b 16) ⟨60, 16, []⟩
  | 0x0009 =>
      let w := dflt (bU16 b 18) 200
      ok 24 [0] 1 1
        (posQ b 8 && (bU32 b 12 == 0 || inR (bU32 b 12) 7 65536) && inR (dflt (bU16 b 16) 64) 4 1024 && inR w 16 256 &&
          inR (dflt (bU16 b 20) 40) 1 w && zeroB b 22 2) ⟨210, 64, []⟩
  | 0x000A => ok 28 [1, 2] 1 8
      (bitsBelow (bU16 b 8) nin && zeroB b 10 2 && posQ b 12 && inR (bU32 b 16) 1000 10000000 && delayOk b 20 && delayOk b 24)
      ⟨80 + 10 * nin, 24, []⟩
  | 0x000B => ok 24 all 1 1
      (inR (bU16 b 8) 1 64 && inR (bU8 b 10) 0 2 && zeroB b 11 1 && posQ b 12 && delayOk b 16 && delayOk b 20)
      ⟨70, 16 + 4 * bU16 b 8, []⟩
  | 0x000C => ok 28 [1, 2] 1 1
      (inR (bU8 b 8) 0 63 && inR (bU8 b 9) 1 3 && zeroB b 10 2 && posQ b 12 && inR (bU32 b 16) 0 10000000 && delayOk b 20 &&
        (if bitOf (bU8 b 9) 1 then posQ b 24 else nonNegQ b 24)) ⟨90, 16, []⟩
  | 0x0010 => ok 16 all 1 8
      (inR (bU8 b 8) 0 3 && (if bU8 b 8 = 2 then inR (bU8 b 9) 1 nin else bU8 b 9 == 0) && bitsBelow (bU8 b 10) nin &&
        zeroB b 11 1 && (bU32 b 12 == 0 || posQ b 12)) ⟨30 + 6 * nin, 8, []⟩
  | 0x0011 => ok 24 all 1 1
      (delayOk b 8 && delayOk b 12 && inR (bU8 b 16) 0 1 && (bU8 b 16 == 0 || bU32 b 12 == 0) && zeroB b 17 3 &&
        (bU32 b 20 == 0 || posQ b 20)) ⟨40, 16, []⟩
  | _ => none

/-- The further terminals that a differential element's block names, whatever its other fields hold (R203). -/
def elemExt (type : Nat) (b : List Byte) : List Nat :=
  if type = 0x0005 ∧ b.length = 48 then (List.range (min 8 (bU8 b 8))).map fun i => bU16 b (28 + 2 * i) else []

/-- A change of settings that returns an instance to its initial state (R196). -/
def elemRenews (type : Nat) (old new : List Byte) : Bool :=
  match type with
  | 0x0003 => bU8 old 12 != bU8 new 12 || (bU8 new 12 == 7 && (old.drop 32).take 129 != (new.drop 32).take 129)
  | 0x0005 => bU8 old 8 != bU8 new 8 || (old.drop 28).take 16 != (new.drop 28).take 16
  | 0x000B => bU16 old 8 != bU16 new 8
  | _ => false

/-! ### Timing and dropout (R195) -/

/-- µs in fixed point. -/
def fxUs (n : Nat) : Int := (n : Int) * fxOne

/-- The accumulated time of R195: whether the trip output is asserted in this run, and A. An output once asserted stays so
while the condition holds. -/
def elTimed (st : ElSt) (cond : Bool) (p delay reset : Nat) : Bool × Int :=
  if cond then (st.trip || decide (fxUs delay ≤ st.a + fxUs p), st.a + fxUs p)
  else if reset = 0 then (false, 0)
  else (false, max 0 (st.a - Int.fdiv (fxUs p * delay) reset))

/-- A condition x > thr that, once it holds, keeps holding until x crosses num/den × thr. -/
def overHold (h : Bool) (x thr : Int) (num den : Int) : Bool := if h then decide (x * den > thr * num) else decide (x > thr)

/-- The operating quantity of an overcurrent element by DIR. -/
def opQty (dir : Nat) (c : Int) : Int := if dir = 0 then (c.natAbs : Int) else if dir = 1 then c else -c

/-! ### One run (R197–R211) -/

/-- What a run gives: trip, START, analog output in fixed point, state. -/
structure RunOut where
  trip  : Bool
  start : Bool
  ana   : Int
  st    : ElSt
  deriving DecidableEq, Repr

/-- k, α as hundredths, c and tr of a curve in units of 10⁻⁴ s (R199). -/
def curveOf : Nat → Nat × Nat × Nat × Nat
  | 0 => (1400, 2, 0, 0)
  | 1 => (135000, 100, 0, 0)
  | 2 => (800000, 200, 0, 0)
  | 3 => (1200000, 100, 0, 0)
  | 4 => (515, 2, 1140, 48500)
  | 5 => (196100, 200, 4910, 216000)
  | _ => (282000, 200, 1217, 291000)

/-- n × 10⁻⁴ in fixed point. -/
def fxE4 (n : Nat) : Int := Int.fdiv ((n : Int) * fxOne) 10000

/-- The operate time at q, s; none where H is held (R199, R201). Below a last point at time 0 the manual states no result,
since it takes that time's logarithm: the time is the free value `fr` (DESIGN CHOICE, log entry 53). -/
def itocTime (b : List Byte) (q fr : Int) : Option Int :=
  let tms := fxOfQ (dflt (bU32 b 16) 65536)
  let c := bU8 b 12
  if c ≠ 7 then
    let (k, al, c0, _) := curveOf c
    let pw := if al = 100 then q else if al = 200 then fxMul q q else fxPow q (Int.fdiv (2 * fxOne) 100)
    some (fxMul tms (fxDiv (fxE4 k) (pw - fxOne) + fxE4 c0))
  else
    let n := bU8 b 160
    let gq := fun j => fxOfQ (bS32 b (32 + 8 * j))
    let tj := fun j => Int.fdiv ((bU32 b (36 + 8 * j) : Int) * fxOne) 1000000
    if q ≤ gq 0 then none
    else match (List.range (n - 1)).find? fun j => decide (q ≤ gq (j + 1)) with
      | none => some (fxMul tms (tj (n - 1)))
      | some j =>
        if q = gq (j + 1) then some (fxMul tms (tj (j + 1)))
        else if tj (j + 1) = 0 then some (fr.natAbs)
        else
        let l := fxLn (tj j) + fxDiv (fxMul (fxLn (tj (j + 1)) - fxLn (tj j)) (fxLn q - fxLn (gq j))) (fxLn (gq (j + 1)) - fxLn (gq j))
        some (fxMul tms (fxExp l))

/-- Inverse-time overcurrent (R199–R201) (DEDUCED, log entry 52). -/
def runItoc (b : List Byte) (tol : Nat → Int → Int) (fr : Int) (p : Nat) (st : ElSt) (c : Int) : RunOut :=
  let x := opQty (bU8 b 13) c
  let is_ := bS32 b 8
  let q := min (fxDiv x is_) (fxOfQ (dflt (bU32 b 24) 1310720))
  let ps := Int.fdiv (fxUs p) 1000000
  let st' : ElSt :=
    if x * 10 > is_ * 11 then
      let h := match itocTime b q fr with
        | none => st.f
        | some t => st.f + fxDiv ps (max (max 1 (tol 0 t)) (Int.fdiv ((bU32 b 28 : Int) * fxOne) 1000000))
      { st with f := h, trip := st.trip || decide (fxOne - 281474 ≤ h), t := 0 }
    else if is_ ≤ x then { st with trip := false, t := 0 }
    else if bU8 b 14 = 0 then
      let t := st.t + p
      { st with trip := false, t := t, f := if bU32 b 20 ≤ t then 0 else st.f }
    else
      let (_, _, _, tr) := curveOf (bU8 b 12)
      let d := fxMul (fxDiv ps (fxMul (fxOfQ (dflt (bU32 b 16) 65536)) (fxE4 tr))) (fxOne - fxMul q q)
      { st with trip := false, t := 0, f := max 0 (st.f - tol 0 d) }
  ⟨st'.trip, decide (x * 10 > is_ * 11), min fxOne st'.f, { st' with begun := true }⟩

/-- Wire thermal (R202). -/
def runWire (b : List Byte) (tol : Nat → Int → Int) (p : Nat) (st : ElSt) (xs : List Int) : RunOut :=
  let fixed := bU8 b 21 == 1
  let cur := if fixed then xs else xs.dropLast
  let ta := if fixed then signed 8 (bU8 b 22) * fxOne else fxOfQ (xs.getLastD 0) + signed 8 (bU8 b 23) * fxOne
  let i := fxOfQ (cur.foldl (· + ·) 0)
  let prev := if st.begun then st.g else ta
  let k := fxOne + Int.fdiv ((prev - 20 * fxOne) * bU16 b 16) 1000000
  let pw := fxMul (Int.fdiv (fxMul i i * bU32 b 8) 1000000) k
  let lim := Int.fdiv (pw * bU16 b 12) 1000
  let th := if !st.begun then lim
    else
      let e := fxLoss (Int.fdiv (fxUs p) (bU16 b 14 * 100000))
      fxMul st.f (fxOne - e) + fxMul lim e
  let th := tol 0 th
  let tw := ta + th
  let mx := (bU8 b 18 : Int) * fxOne
  let trip := if tw > mx then true else if tw ≤ mx - (dflt (bU8 b 19) 20 : Nat) * fxOne then false else st.trip
  ⟨trip, decide (tw > mx - bU8 b 20 * fxOne), tw, { st with begun := true, f := th, g := tw, trip := trip }⟩

/-- The signed sum of terminals whose SIGN bits are set negative. -/
def signedSum (sign : Nat) : Nat → List Int → Int
  | _, [] => 0
  | i, x :: l => (if bitOf sign i then -x else x) + signedSum sign (i + 1) l

/-- Current differential (R203). -/
def runDiff (b : List Byte) (tol : Nat → Int → Int) (st : ElSt) (xs : List Int) : RunOut :=
  let id := fxOfQ (signedSum (bU16 b 10) 0 xs).natAbs
  let ib := Int.fdiv (fxOfQ (xs.foldl (fun a x => a + x.natAbs) 0)) 2
  let q := fun o => fxOfQ (bU32 b o : Nat)
  let k1 := fxOfQ (dflt (bU32 b 16) 16384)
  let k2 := fxOfQ (dflt (bU32 b 20) 32768)
  let brk := q 24
  let thr := max (q 12) (if ib ≤ brk then fxMul k1 ib else fxMul k1 brk + fxMul k2 (ib - brk))
  let id := tol 0 id
  let thr := tol 1 thr
  let op := decide (id > thr)
  let n := if op then min 16 (st.n + 1) else 0
  let trip := if st.trip then !(decide (id * 10 ≤ thr * 9)) else op && decide (dflt (bU8 b 9) 3 ≤ n)
  ⟨trip, op, id, { st with begun := true, n := n, trip := trip }⟩

/-- Series-arc signature (R206). -/
def runArc (b : List Byte) (tol : Nat → Int → Int) (st : ElSt) (x : Int) : RunOut :=
  let x := fxOfQ x
  let tau := dflt (bU16 b 16) 64
  let x1 := if st.begun then st.xs.getD 0 0 else x
  let x2 := if st.begun then st.xs.getD 1 0 else x
  let m0 := if st.begun then st.g else x
  let e0 := if st.begun then st.f else 0
  let d := x - 2 * x1 + x2
  -- E in units of 2⁻⁹⁶, and E / M² from the exact square, so that no step leaves the accuracy of R194
  let e := tol 0 (e0 + Int.fdiv (d * d - e0) tau)
  let m := tol 1 (m0 + Int.fdiv (x - m0) tau)
  let big := decide (fxOfQ (bS32 b 8) ≤ (m.natAbs : Int))
  let score := if big then tol 2 (fxDiv e (m * m)) else 0
  let th := if bU32 b 12 = 0 then Int.fdiv (fxOne * 25) 10000 else fxOfQ (bU32 b 12 : Nat)
  let ev := big && decide (score > th)
  let win := (ev :: st.win).take (dflt (bU16 b 18) 200)
  let cnt := (win.filter id).length
  let trip := if dflt (bU16 b 20) 40 ≤ cnt then true else if cnt = 0 then false else st.trip
  ⟨trip, ev, score, { st with begun := true, xs := [x, x1], f := e, g := m, win := win, trip := trip }⟩

/-- Leakage (R207). -/
def runLeak (b : List Byte) (tol : Nat → Int → Int) (p : Nat) (st : ElSt) (xs : List Int) : RunOut :=
  let r := fxOfQ (signedSum (bU16 b 8) 0 xs)
  let e := fxLoss (Int.fdiv (fxUs p) (bU32 b 16))
  let f := tol 0 (st.f + fxMul (r - st.f) e)
  let h := overHold st.h f.natAbs (fxOfQ (bS32 b 12)) 95 100
  let (t, a) := elTimed st h p (bU32 b 20) (bU32 b 24)
  ⟨t, h, f, { st with begun := true, f := f, h := h, a := a, trip := t }⟩

/-- Rate of change (R208). -/
def runRoc (b : List Byte) (tol : Nat → Int → Int) (p : Nat) (st : ElSt) (x : Int) : RunOut :=
  let n := bU16 b 8
  let r := if st.xs.length < n then 0
    else tol 0 (Int.fdiv (fxOfQ (x - st.xs.getD (n - 1) 0) * 1000000) (n * p))
  let q := match bU8 b 10 with | 0 => r | 1 => -r | _ => (r.natAbs : Int)
  let h := decide (n ≤ st.xs.length) && overHold st.h q (fxOfQ (bS32 b 12)) 95 100
  let (t, a) := elTimed st h p (bU32 b 16) (bU32 b 20)
  ⟨t, h, r, { st with begun := true, xs := (x :: st.xs).take n, h := h, a := a, trip := t }⟩

/-- Switch failure (R209); `chst` is what it sees of the channel at the aligned grid point, and for how long, ns. -/
def runSwitch (b : List Byte) (p : Nat) (st : ElSt) (x : Int) (chst : Nat × Nat) : RunOut :=
  let long_ := decide (bU32 b 16 * 1000 ≤ chst.2)
  let stuck := bitOf (bU8 b 9) 0 && chst.1 == 1 && long_ && decide ((x.natAbs : Int) > bS32 b 12)
  let fail := bitOf (bU8 b 9) 1 && chst.1 == 2 && long_ && decide (x < bS32 b 24)
  let (tr, a) := elTimed st (stuck || fail) p (bU32 b 20) 0
  ⟨tr, stuck || fail, fxOfQ x, { st with begun := true, a := a, trip := tr }⟩

/-- Logic (R210). -/
def runLogic (b : List Byte) (st : ElSt) (xs : List Int) : RunOut :=
  let th : Int := if bU32 b 12 = 0 then 32768 else bS32 b 12
  let n := ((List.range xs.length).filter fun i => decide (th ≤ xs.getD i 0) != bitOf (bU8 b 10) i).length
  let t := match bU8 b 8 with
    | 0 => n == xs.length
    | 1 => decide (0 < n)
    | 2 => decide (bU8 b 9 ≤ n)
    | _ => n % 2 == 1
  ⟨t, t, (n : Int) * fxOne, { st with begun := true, trip := t }⟩

/-- Timer (R211) (DEDUCED, log entry 58). -/
def runTimer (b : List Byte) (p : Nat) (st : ElSt) (x : Int) : RunOut :=
  let th : Int := if bU32 b 20 = 0 then 32768 else bS32 b 20
  let on := decide (th ≤ x)
  let prev := st.cat == 1
  let t := if on = prev then st.t + p else p
  let (trip, el) :=
    if bU8 b 16 = 0 then
      (if on && decide (bU32 b 8 ≤ t) then true else if !on && decide (bU32 b 12 ≤ t) then false else st.trip, 0)
    else if st.trip then (decide (st.el + p < bU32 b 8), st.el + p)
    else (on && !prev, 0)
  ⟨trip, on, Int.fdiv (fxUs t) 1000000, { st with begun := true, cat := b2n on, t := t, el := el, trip := trip }⟩

/-- One run of a library element that is not blocked. -/
def elemRun (type : Nat) (b : List Byte) (tol : Nat → Int → Int) (fr : Int) (p : Nat) (st : ElSt) (xs : List Int)
    (chst : Nat × Nat) : RunOut :=
  let x := xs.headD 0
  match type with
  | 0x0001 =>
    let q := opQty (bU8 b 12) x
    let h := overHold st.h q (bS32 b 8) 95 100
    let n := if h then min 16 (st.n + 1) else 0
    let t := h && (st.trip || decide (dflt (bU8 b 13) 1 ≤ n))
    ⟨t, h, fxOfQ q, { st with begun := true, h := h, n := n, trip := t }⟩
  | 0x0002 =>
    let q := opQty (bU8 b 12) x
    let h := overHold st.h q (bS32 b 8) (dflt (bU8 b 13) 95) 100
    let (t, a) := elTimed st h p (bU32 b 16) (bU32 b 20)
    ⟨t, h, fxOfQ q, { st with begun := true, h := h, a := a, trip := t }⟩
  | 0x0003 => runItoc b tol fr p st x
  | 0x0004 => runWire b tol p st xs
  | 0x0005 => runDiff b tol st xs
  | 0x0006 =>
    let thr := bS32 b 8
    let dead := decide (0 < bS32 b 24 ∧ x < bS32 b 24)
    let h := !dead && (if st.h then decide (x ≤ thr + bS32 b 12) else decide (x < thr))
    let (t, a) := elTimed st h p (bU32 b 16) (bU32 b 20)
    ⟨t, h, fxOfQ x, { st with begun := true, h := h, a := a, trip := t }⟩
  | 0x0007 =>
    let thr := bS32 b 8
    let h := if st.h then decide (thr - bS32 b 12 ≤ x) else decide (thr < x)
    let (t, a) := elTimed st h p (bU32 b 16) (bU32 b 20)
    ⟨t, h, fxOfQ x, { st with begun := true, h := h, a := a, trip := t }⟩
  | 0x0008 =>
    let h := overHold st.h (-x) (bS32 b 8) 95 100
    let (t, a) := elTimed st h p (bU32 b 12) (bU32 b 16)
    ⟨t, h, fxOfQ x, { st with begun := true, h := h, a := a, trip := t }⟩
  | 0x0009 => runArc b tol st x
  | 0x000A => runLeak b tol p st xs
  | 0x000B => runRoc b tol p st x
  | 0x000C => runSwitch b p st x chst
  | 0x0010 => runLogic b st xs
  | _ => runTimer b p st x

end Sys2Proof.Machine
end

