-- ==== Sys2Proof/Machine/Reg.lean ====
section
/-! DEFINITION. What a register line of the manual says (R12–R17): address, index strides, world access, reset value,
the access type of every bit, and the place of the register in a value wider than 32 bits. -/

namespace Sys2Proof.Machine

/-- The worlds a register line permits (R17); no line of this device is marked N alone. -/
inductive RegWorld where
  | S | SN
  deriving DecidableEq, Repr

/-- One register line, with up to two indices. The masks hold the bits of each access type (R15); bits in no
mask are RO or reserved. `mwLen`, `mwPos`, `mwJ` and `mwAbs` place the register in a value wider than 32 bits (R13). -/
structure Reg where
  base   : Nat
  s1     : Nat := 0
  n1     : Nat := 1
  s2     : Nat := 0
  n2     : Nat := 1
  world  : RegWorld := .SN
  reset  : Nat := 0
  resetX : List (Nat × Nat) := []
  rw     : Nat := 0
  w1c    : Nat := 0
  w1s    : Nat := 0
  wo     : Nat := 0
  rc     : Nat := 0
  mwLen  : Nat := 1
  mwPos  : Nat := 0
  mwJ    : Bool := false
  mwAbs  : Nat := 0
  /-- Held in the field die: a core-die reset leaves it (R484, R517). -/
  retained : Bool := false
  deriving DecidableEq, Repr

/-- One field of a register: bits [hi:lo]. -/
structure Fld where
  reg : Reg
  hi  : Nat
  lo  : Nat
  deriving DecidableEq, Repr

/-- The address of the register with indices `i` and `j`. -/
def Reg.addr (r : Reg) (i j : Nat) : Nat := r.base + r.s1 * i + r.s2 * j

/-- The reset value the register line gives for index `i`. -/
def Reg.resetAt (r : Reg) (i : Nat) : Word :=
  w32 (((r.resetX.find? (fun e => e.1 == i)).map Prod.snd).getD r.reset)

/-- The indices at which the register line covers address `a`, if it does. -/
def Reg.at? (r : Reg) (a : Nat) : Option (Nat × Nat) :=
  if a < r.base then none
  else
    let o := a - r.base
    let i := if r.s1 = 0 then 0 else if r.s2 ≤ r.s1 then min (r.n1 - 1) (o / r.s1) else (o % r.s2) / r.s1
    let o2 := o - r.s1 * i
    let j := if r.s2 = 0 then 0 else o2 / r.s2
    if i < r.n1 && j < r.n2 && r.s1 * i + r.s2 * j == o then some (i, j) else none

/-- The lowest address and the length of the R13 group of the register at address `a` with second index `j`
(DEDUCED, log entry 12). -/
def Reg.group (r : Reg) (a j : Nat) : Nat × Nat :=
  if r.mwAbs ≠ 0 then (r.mwAbs, r.mwLen)
  else (a - 4 * (r.mwPos + if r.mwJ then j else 0), r.mwLen)

/-- The register's value after a write of `v` over `old`, by the access types of R15 (R14: other bits keep their value). -/
def Reg.written (r : Reg) (old v : Word) : Word :=
  let kept := (old &&& ~~~ (w32 r.rw)) ||| (v &&& w32 r.rw)
  (kept &&& ~~~ (v &&& w32 r.w1c)) ||| (v &&& w32 r.w1s)

/-- The islands that the hardware keeps clocked and powered (R498). -/
def hwIslands : List Nat := [0, 8, 18, 19, 25, 42, 44, 45]

/-- One source's `FCU_SRCi_CFG` default: class, IRQ, FENCE, ERRN, DEVICE, broken-pair class and pen (R475, R490). -/
def fcuCfg (cls irq fence errn dev bcls pen : Nat) : Nat :=
  cls + irq * 4 + fence * 8 + errn * 16 + dev * 32 + pen * 65536 + bcls * 4194304

/-- The five sources of a lockstep core pair with pen `pen`, from group base `b` (R475; R471 makes a broken
pair fatal). -/
def fcuPair (b pen : Nat) : List (Nat × Nat) :=
  [(b, fcuCfg 1 1 1 1 0 2 pen), (b + 1, fcuCfg 1 1 1 1 0 2 pen), (b + 2, fcuCfg 2 1 1 1 0 2 pen),
   (b + 3, fcuCfg 0 1 0 0 0 1 pen), (b + 4, fcuCfg 1 1 0 1 0 1 pen)]

/-- The eight sources of element-processor pair `p` (R475). -/
def fcuEp (p : Nat) : List (Nat × Nat) :=
  let b := 0x100 + 8 * p
  let pen := 9 + p
  [(b, fcuCfg 1 1 1 1 0 2 pen), (b + 1, fcuCfg 1 1 1 1 0 2 pen), (b + 2, fcuCfg 2 1 1 1 0 2 pen),
   (b + 3, fcuCfg 0 1 0 0 0 1 pen), (b + 4, fcuCfg 1 1 1 1 0 1 pen), (b + 5, fcuCfg 0 1 0 0 0 1 pen),
   (b + 6, fcuCfg 0 1 0 0 0 1 pen), (b + 7, fcuCfg 1 1 0 0 0 1 pen)]

/-- The default `FCU_SRCi_CFG` words of every source R475 lists; an ID not listed is unused. -/
def fcuSourceResets : List (Nat × Nat) :=
  ((List.range 7).flatMap fun p => fcuPair (8 * p) (1 + p)) ++ fcuPair 0x38 8 ++
  ((List.range 4).flatMap fun a => [(0x40 + 2 * a, fcuCfg 0 1 0 0 0 1 17), (0x41 + 2 * a, fcuCfg 1 1 0 0 0 1 17)]) ++
  [(0x48, fcuCfg 0 1 0 0 0 1 17), (0x49, fcuCfg 1 1 0 0 0 1 17), (0x4A, fcuCfg 2 1 1 1 0 1 17)] ++
  ((List.range 17).flatMap fun b =>
    [(0x60 + 4 * b, fcuCfg 0 1 0 0 0 1 0), (0x61 + 4 * b, fcuCfg 1 1 0 1 0 1 0),
     (0x62 + 4 * b, fcuCfg 1 1 0 1 0 1 0), (0x63 + 4 * b, fcuCfg 1 1 0 0 0 1 0)]) ++
  ((List.range 4).flatMap fun k =>
    let pen := if k = 2 then 33 else if k = 3 then 18 else 0
    [(0xA4 + 2 * k, fcuCfg 0 1 0 0 0 1 pen), (0xA5 + 2 * k, fcuCfg 1 1 0 1 0 1 pen)]) ++
  [(0xAC, fcuCfg 0 1 0 0 0 1 0), (0xC0, fcuCfg 0 0 0 0 0 1 0), (0xC1, fcuCfg 2 0 0 1 1 2 0)] ++
  ((List.range 8).flatMap fcuEp) ++
  [(0x140, fcuCfg 1 1 0 1 0 1 0)] ++
  ((List.range 64).map fun n => (0x180 + n, fcuCfg 1 1 0 1 0 1 0)) ++
  [(0x1C0, fcuCfg 0 1 0 0 0 1 0), (0x1C1, fcuCfg 1 1 0 1 0 1 0)] ++
  ((List.range 8).map fun d => (0x1D0 + d, fcuCfg 0 1 0 0 0 1 0)) ++
  ((List.range 4).map fun k => (0x1E0 + k, fcuCfg 0 1 0 0 0 1 31)) ++
  ((List.range 10).map fun p => (0x1F0 + p, fcuCfg 1 1 1 0 0 1 (19 + p))) ++
  [(0x1FA, fcuCfg 1 1 1 1 0 1 18), (0x1FB, fcuCfg 1 1 1 1 0 1 29), (0x1FC, fcuCfg 1 1 1 1 0 1 30),
   (0x1FD, fcuCfg 1 1 1 1 0 1 31), (0x200, fcuCfg 1 1 0 1 0 1 0), (0x201, fcuCfg 0 1 0 0 0 1 0),
   (0x202, fcuCfg 1 1 1 0 0 1 32), (0x210, fcuCfg 2 0 0 1 1 2 0), (0x211, fcuCfg 2 0 0 1 1 2 0),
   (0x212, fcuCfg 1 1 1 0 0 2 0), (0x220, fcuCfg 0 1 0 0 0 1 0), (0x3F0, fcuCfg 2 0 0 1 1 2 0)]

end Sys2Proof.Machine
end

