-- ==== Sys2Proof/Machine/RegsCc.lean ====
section
/-! DEFINITION. The registers of the slots CC, MS, SF: one descriptor a register and one a field,
as the register lines and tables of spec/ give them (the rule is the one that opens the register list). -/

namespace Sys2Proof.Machine

/-- `CC_ID` (R438). -/
def CC_ID : Reg := { base := 0x40000000, reset := 0x482400A0 }
/-- `CC_ID.STEPPING`. -/
def CC_ID_STEPPING : Fld := ⟨CC_ID, 15, 0⟩
/-- `CC_ID.PART`. -/
def CC_ID_PART : Fld := ⟨CC_ID, 31, 16⟩

/-- `CC_MTIME_LO` (R438). -/
def CC_MTIME_LO : Reg := { base := 0x40000010, mwLen := 2 }
/-- `CC_MTIME_LO.MTIME`. -/
def CC_MTIME_LO_MTIME : Fld := ⟨CC_MTIME_LO, 31, 0⟩

/-- `CC_MTIME_HI` (R438). -/
def CC_MTIME_HI : Reg := { base := 0x40000014, mwLen := 2, mwPos := 1 }
/-- `CC_MTIME_HI.MTIME`. -/
def CC_MTIME_HI_MTIME : Fld := ⟨CC_MTIME_HI, 31, 0⟩

/-- `CC_EVT` (R438). -/
def CC_EVT : Reg := { base := 0x40000018, w1c := 0xFF }
/-- `CC_EVT.FENCE`. -/
def CC_EVT_FENCE : Fld := ⟨CC_EVT, 6, 0⟩
/-- `CC_EVT.TAKEOVER`. -/
def CC_EVT_TAKEOVER : Fld := ⟨CC_EVT, 7, 7⟩

/-- `CC_EVT_EN` (R438). -/
def CC_EVT_EN : Reg := { base := 0x4000001C, rw := 0xFF }
/-- `CC_EVT_EN.FENCE`. -/
def CC_EVT_EN_FENCE : Fld := ⟨CC_EVT_EN, 6, 0⟩
/-- `CC_EVT_EN.TAKEOVER`. -/
def CC_EVT_EN_TAKEOVER : Fld := ⟨CC_EVT_EN, 7, 7⟩

/-- `CC_HARTh_MTIMECMP_LO` (R438). -/
def CC_HARTh_MTIMECMP_LO : Reg := { base := 0x40000100, s1 := 0x10, n1 := 12, reset := 0xFFFFFFFF, rw := 0xFFFFFFFF, mwLen := 2 }
/-- `CC_HARTh_MTIMECMP_LO.CMP`. -/
def CC_HARTh_MTIMECMP_LO_CMP : Fld := ⟨CC_HARTh_MTIMECMP_LO, 31, 0⟩

/-- `CC_HARTh_MTIMECMP_HI` (R438). -/
def CC_HARTh_MTIMECMP_HI : Reg := { base := 0x40000104, s1 := 0x10, n1 := 12, reset := 0xFFFFFFFF, rw := 0xFFFFFFFF, mwLen := 2, mwPos := 1 }
/-- `CC_HARTh_MTIMECMP_HI.CMP`. -/
def CC_HARTh_MTIMECMP_HI_CMP : Fld := ⟨CC_HARTh_MTIMECMP_HI, 31, 0⟩

/-- `CC_PAIRp_STATUS` (R438). -/
def CC_PAIRp_STATUS : Reg := { base := 0x40001000, s1 := 0x40, n1 := 7, resetX := [(1, 0x100), (2, 0x200), (3, 0x300), (4, 0x400), (5, 0x500), (6, 0x604)], w1c := 0x20 }
/-- `CC_PAIRp_STATUS.STATE`. -/
def CC_PAIRp_STATUS_STATE : Fld := ⟨CC_PAIRp_STATUS, 2, 0⟩
/-- `CC_PAIRp_STATUS.CAUSE`. -/
def CC_PAIRp_STATUS_CAUSE : Fld := ⟨CC_PAIRp_STATUS, 4, 3⟩
/-- `CC_PAIRp_STATUS.HO_REFUSED`. -/
def CC_PAIRp_STATUS_HO_REFUSED : Fld := ⟨CC_PAIRp_STATUS, 5, 5⟩
/-- `CC_PAIRp_STATUS.HART`. -/
def CC_PAIRp_STATUS_HART : Fld := ⟨CC_PAIRp_STATUS, 11, 8⟩

/-- `CC_PAIRp_CTRL` (R438). -/
def CC_PAIRp_CTRL : Reg := { base := 0x40001004, s1 := 0x40, n1 := 7, wo := 0x3 }
/-- `CC_PAIRp_CTRL.HANDOVER`. -/
def CC_PAIRp_CTRL_HANDOVER : Fld := ⟨CC_PAIRp_CTRL, 0, 0⟩
/-- `CC_PAIRp_CTRL.RESTART`. -/
def CC_PAIRp_CTRL_RESTART : Fld := ⟨CC_PAIRp_CTRL, 1, 1⟩

/-- `CC_PAIRp_RVEC_LO` (R438). -/
def CC_PAIRp_RVEC_LO : Reg := { base := 0x40001008, s1 := 0x40, n1 := 7, world := .S, rw := 0xFFFFFFFC, mwLen := 2 }
/-- `CC_PAIRp_RVEC_LO.RVEC`. -/
def CC_PAIRp_RVEC_LO_RVEC : Fld := ⟨CC_PAIRp_RVEC_LO, 31, 2⟩

/-- `CC_PAIRp_RVEC_HI` (R438). -/
def CC_PAIRp_RVEC_HI : Reg := { base := 0x4000100C, s1 := 0x40, n1 := 7, world := .S, rw := 0xFF, mwLen := 2, mwPos := 1 }
/-- `CC_PAIRp_RVEC_HI.RVEC`. -/
def CC_PAIRp_RVEC_HI_RVEC : Fld := ⟨CC_PAIRp_RVEC_HI, 7, 0⟩

/-- `CC_PAIRp_FOLD` (R438). -/
def CC_PAIRp_FOLD : Reg := { base := 0x40001010, s1 := 0x40, n1 := 7 }
/-- `CC_PAIRp_FOLD.CRC`. -/
def CC_PAIRp_FOLD_CRC : Fld := ⟨CC_PAIRp_FOLD, 31, 0⟩

/-- `CC_PAIRp_MISMATCH` (R438). -/
def CC_PAIRp_MISMATCH : Reg := { base := 0x40001014, s1 := 0x40, n1 := 7, rc := 0xFFFF }
/-- `CC_PAIRp_MISMATCH.COUNT`. -/
def CC_PAIRp_MISMATCH_COUNT : Fld := ⟨CC_PAIRp_MISMATCH, 15, 0⟩

/-- `CC_SPX_CFG` (R438). -/
def CC_SPX_CFG : Reg := { base := 0x40002000, world := .S, rw := 0x3F }
/-- `CC_SPX_CFG.AUTO`. -/
def CC_SPX_CFG_AUTO : Fld := ⟨CC_SPX_CFG, 5, 0⟩

/-- `CC_LOCK_CFG` (R438). -/
def CC_LOCK_CFG : Reg := { base := 0x40002008, world := .S, reset := 0xA, rw := 0xFFFF }
/-- `CC_LOCK_CFG.REPEAT_S`. -/
def CC_LOCK_CFG_REPEAT_S : Fld := ⟨CC_LOCK_CFG, 15, 0⟩

/-- The register lines of the CC slot. -/
def regsCC : List Reg :=
  [CC_ID, CC_MTIME_LO, CC_MTIME_HI, CC_EVT,
   CC_EVT_EN, CC_HARTh_MTIMECMP_LO, CC_HARTh_MTIMECMP_HI, CC_PAIRp_STATUS,
   CC_PAIRp_CTRL, CC_PAIRp_RVEC_LO, CC_PAIRp_RVEC_HI, CC_PAIRp_FOLD,
   CC_PAIRp_MISMATCH, CC_SPX_CFG, CC_LOCK_CFG]

/-- `MS_ID` (R439). -/
def MS_ID : Reg := { base := 0x41000000, reset := 0x482400A0 }
/-- `MS_ID.STEPPING`. -/
def MS_ID_STEPPING : Fld := ⟨MS_ID, 15, 0⟩
/-- `MS_ID.PART`. -/
def MS_ID_PART : Fld := ⟨MS_ID, 31, 16⟩

/-- `MS_EVT` (R439). -/
def MS_EVT : Reg := { base := 0x41000010, w1c := 0x1FF }
/-- `MS_EVT.CE`. -/
def MS_EVT_CE : Fld := ⟨MS_EVT, 3, 0⟩
/-- `MS_EVT.UE`. -/
def MS_EVT_UE : Fld := ⟨MS_EVT, 7, 4⟩
/-- `MS_EVT.MIGRATED`. -/
def MS_EVT_MIGRATED : Fld := ⟨MS_EVT, 8, 8⟩

/-- `MS_EVT_EN` (R439). -/
def MS_EVT_EN : Reg := { base := 0x41000014, rw := 0x1FF }
/-- `MS_EVT_EN.CE`. -/
def MS_EVT_EN_CE : Fld := ⟨MS_EVT_EN, 3, 0⟩
/-- `MS_EVT_EN.UE`. -/
def MS_EVT_EN_UE : Fld := ⟨MS_EVT_EN, 7, 4⟩
/-- `MS_EVT_EN.MIGRATED`. -/
def MS_EVT_EN_MIGRATED : Fld := ⟨MS_EVT_EN, 8, 8⟩

/-- `MS_SPARE_CTRL` (R439). -/
def MS_SPARE_CTRL : Reg := { base := 0x41000020, rw := 0xF, wo := 0x30 }
/-- `MS_SPARE_CTRL.BANK`. -/
def MS_SPARE_CTRL_BANK : Fld := ⟨MS_SPARE_CTRL, 3, 0⟩
/-- `MS_SPARE_CTRL.GO`. -/
def MS_SPARE_CTRL_GO : Fld := ⟨MS_SPARE_CTRL, 4, 4⟩
/-- `MS_SPARE_CTRL.RETURN`. -/
def MS_SPARE_CTRL_RETURN : Fld := ⟨MS_SPARE_CTRL, 5, 5⟩

/-- `MS_SPARE_CFG` (R439). -/
def MS_SPARE_CFG : Reg := { base := 0x41000024, reset := 0x400, rw := 0xFFFFFFFF }
/-- `MS_SPARE_CFG.AUTO`. -/
def MS_SPARE_CFG_AUTO : Fld := ⟨MS_SPARE_CFG, 0, 0⟩
/-- `MS_SPARE_CFG.THRESH`. -/
def MS_SPARE_CFG_THRESH : Fld := ⟨MS_SPARE_CFG, 31, 1⟩

/-- `MS_SPARE_STATUS` (R439). -/
def MS_SPARE_STATUS : Reg := { base := 0x41000028, w1c := 0x4 }
/-- `MS_SPARE_STATUS.IN_USE`. -/
def MS_SPARE_STATUS_IN_USE : Fld := ⟨MS_SPARE_STATUS, 0, 0⟩
/-- `MS_SPARE_STATUS.BUSY`. -/
def MS_SPARE_STATUS_BUSY : Fld := ⟨MS_SPARE_STATUS, 1, 1⟩
/-- `MS_SPARE_STATUS.REFUSED`. -/
def MS_SPARE_STATUS_REFUSED : Fld := ⟨MS_SPARE_STATUS, 2, 2⟩
/-- `MS_SPARE_STATUS.BANK`. -/
def MS_SPARE_STATUS_BANK : Fld := ⟨MS_SPARE_STATUS, 11, 8⟩

/-- `MS_SCRUBm_CFG` (R439). -/
def MS_SCRUBm_CFG : Reg := { base := 0x41000030, s1 := 0x4, n1 := 4, reset := 0x3C, resetX := [(2, 0x15180), (3, 0xE10)], rw := 0xFFFFF }
/-- `MS_SCRUBm_CFG.PERIOD`. -/
def MS_SCRUBm_CFG_PERIOD : Fld := ⟨MS_SCRUBm_CFG, 19, 0⟩

/-- `MS_ERR_STATUS` (R439). -/
def MS_ERR_STATUS : Reg := { base := 0x41000040, w1c := 0x20 }
/-- `MS_ERR_STATUS.COUNT`. -/
def MS_ERR_STATUS_COUNT : Fld := ⟨MS_ERR_STATUS, 4, 0⟩
/-- `MS_ERR_STATUS.OVF`. -/
def MS_ERR_STATUS_OVF : Fld := ⟨MS_ERR_STATUS, 5, 5⟩

/-- `MS_ERR_INFO` (R439). -/
def MS_ERR_INFO : Reg := { base := 0x41000044, mwLen := 5 }
/-- `MS_ERR_INFO.MEM`. -/
def MS_ERR_INFO_MEM : Fld := ⟨MS_ERR_INFO, 1, 0⟩
/-- `MS_ERR_INFO.KIND`. -/
def MS_ERR_INFO_KIND : Fld := ⟨MS_ERR_INFO, 2, 2⟩
/-- `MS_ERR_INFO.INITIATOR`. -/
def MS_ERR_INFO_INITIATOR : Fld := ⟨MS_ERR_INFO, 15, 8⟩
/-- `MS_ERR_INFO.VALID`. -/
def MS_ERR_INFO_VALID : Fld := ⟨MS_ERR_INFO, 31, 31⟩

/-- `MS_ERR_ADDR_LO` (R439). -/
def MS_ERR_ADDR_LO : Reg := { base := 0x41000048, mwLen := 5, mwPos := 1 }
/-- `MS_ERR_ADDR_LO.ADDR`. -/
def MS_ERR_ADDR_LO_ADDR : Fld := ⟨MS_ERR_ADDR_LO, 31, 0⟩

/-- `MS_ERR_ADDR_HI` (R439). -/
def MS_ERR_ADDR_HI : Reg := { base := 0x4100004C, mwLen := 5, mwPos := 2 }
/-- `MS_ERR_ADDR_HI.ADDR`. -/
def MS_ERR_ADDR_HI_ADDR : Fld := ⟨MS_ERR_ADDR_HI, 7, 0⟩

/-- `MS_ERR_TIME_LO` (R439). -/
def MS_ERR_TIME_LO : Reg := { base := 0x41000050, mwLen := 5, mwPos := 3 }
/-- `MS_ERR_TIME_LO.TIME`. -/
def MS_ERR_TIME_LO_TIME : Fld := ⟨MS_ERR_TIME_LO, 31, 0⟩

/-- `MS_ERR_TIME_HI` (R439). -/
def MS_ERR_TIME_HI : Reg := { base := 0x41000054, mwLen := 5, mwPos := 4 }
/-- `MS_ERR_TIME_HI.TIME`. -/
def MS_ERR_TIME_HI_TIME : Fld := ⟨MS_ERR_TIME_HI, 31, 0⟩

/-- `MS_BANKb_CE` (R439). -/
def MS_BANKb_CE : Reg := { base := 0x41000100, s1 := 0x4, n1 := 17, rc := 0xFFFF }
/-- `MS_BANKb_CE.COUNT`. -/
def MS_BANKb_CE_COUNT : Fld := ⟨MS_BANKb_CE, 15, 0⟩

/-- `MS_DDR_STATUS` (R439). -/
def MS_DDR_STATUS : Reg := { base := 0x41000200, rc := 0xFFFF0000 }
/-- `MS_DDR_STATUS.UP`. -/
def MS_DDR_STATUS_UP : Fld := ⟨MS_DDR_STATUS, 0, 0⟩
/-- `MS_DDR_STATUS.ECC`. -/
def MS_DDR_STATUS_ECC : Fld := ⟨MS_DDR_STATUS, 1, 1⟩
/-- `MS_DDR_STATUS.DENSITY`. -/
def MS_DDR_STATUS_DENSITY : Fld := ⟨MS_DDR_STATUS, 3, 2⟩
/-- `MS_DDR_STATUS.CE`. -/
def MS_DDR_STATUS_CE : Fld := ⟨MS_DDR_STATUS, 31, 16⟩

/-- The register lines of the MS slot. -/
def regsMS : List Reg :=
  [MS_ID, MS_EVT, MS_EVT_EN, MS_SPARE_CTRL,
   MS_SPARE_CFG, MS_SPARE_STATUS, MS_SCRUBm_CFG, MS_ERR_STATUS,
   MS_ERR_INFO, MS_ERR_ADDR_LO, MS_ERR_ADDR_HI, MS_ERR_TIME_LO,
   MS_ERR_TIME_HI, MS_BANKb_CE, MS_DDR_STATUS]

/-- `SF_FN_ID` (R256). -/
def SF_FN_ID : Reg := { base := 0x42000000, s1 := 0x1000, n1 := 64, resetX := (0, 0x100) :: (List.range 63).map (fun n => (n + 1, n + 1)) }
/-- `SF_FN_ID.FN`. -/
def SF_FN_ID_FN : Fld := ⟨SF_FN_ID, 5, 0⟩
/-- `SF_FN_ID.STATE`. -/
def SF_FN_ID_STATE : Fld := ⟨SF_FN_ID, 9, 8⟩
/-- `SF_FN_ID.WORLD`. -/
def SF_FN_ID_WORLD : Fld := ⟨SF_FN_ID, 10, 10⟩

/-- `SF_FN_STATUS` (R256). -/
def SF_FN_STATUS : Reg := { base := 0x42000004, s1 := 0x1000, n1 := 64 }
/-- `SF_FN_STATUS.INFLIGHT`. -/
def SF_FN_STATUS_INFLIGHT : Fld := ⟨SF_FN_STATUS, 8, 0⟩
/-- `SF_FN_STATUS.LIMIT`. -/
def SF_FN_STATUS_LIMIT : Fld := ⟨SF_FN_STATUS, 24, 16⟩

/-- `SF_MBX_CMDw` (R256). -/
def SF_MBX_CMDw : Reg := { base := 0x42000040, s1 := 0x1000, n1 := 64, s2 := 0x4, n2 := 16, wo := 0xFFFFFFFF }
/-- `SF_MBX_CMDw.WORD`. -/
def SF_MBX_CMDw_WORD : Fld := ⟨SF_MBX_CMDw, 31, 0⟩

/-- `SF_MBX_RESULTw` (R256). -/
def SF_MBX_RESULTw : Reg := { base := 0x42000080, s1 := 0x1000, n1 := 64, s2 := 0x4, n2 := 4 }
/-- `SF_MBX_RESULTw.WORD`. -/
def SF_MBX_RESULTw_WORD : Fld := ⟨SF_MBX_RESULTw, 31, 0⟩

/-- `SF_MBX_CFG` (R256). -/
def SF_MBX_CFG : Reg := { base := 0x42000090, s1 := 0x1000, n1 := 64, rw := 0xFF }
/-- `SF_MBX_CFG.IDENTITY`. -/
def SF_MBX_CFG_IDENTITY : Fld := ⟨SF_MBX_CFG, 7, 0⟩

/-- `SF_MBX_STATUS` (R256). -/
def SF_MBX_STATUS : Reg := { base := 0x42000094, s1 := 0x1000, n1 := 64, w1c := 0x2 }
/-- `SF_MBX_STATUS.BUSY`. -/
def SF_MBX_STATUS_BUSY : Fld := ⟨SF_MBX_STATUS, 0, 0⟩
/-- `SF_MBX_STATUS.OVERWRITE`. -/
def SF_MBX_STATUS_OVERWRITE : Fld := ⟨SF_MBX_STATUS, 1, 1⟩

/-- `SF_QPq_SQ_BASE_LO` (R256). -/
def SF_QPq_SQ_BASE_LO : Reg := { base := 0x42000100, s1 := 0x1000, n1 := 64, s2 := 0x40, n2 := 8, rw := 0xFFFFFFC0, mwLen := 2 }
/-- `SF_QPq_SQ_BASE_LO.ADDR`. -/
def SF_QPq_SQ_BASE_LO_ADDR : Fld := ⟨SF_QPq_SQ_BASE_LO, 31, 6⟩

/-- `SF_QPq_SQ_BASE_HI` (R256). -/
def SF_QPq_SQ_BASE_HI : Reg := { base := 0x42000104, s1 := 0x1000, n1 := 64, s2 := 0x40, n2 := 8, rw := 0xFFFFFFFF, mwLen := 2, mwPos := 1 }
/-- `SF_QPq_SQ_BASE_HI.ADDR`. -/
def SF_QPq_SQ_BASE_HI_ADDR : Fld := ⟨SF_QPq_SQ_BASE_HI, 31, 0⟩

/-- `SF_QPq_CQ_BASE_LO` (R256). -/
def SF_QPq_CQ_BASE_LO : Reg := { base := 0x42000108, s1 := 0x1000, n1 := 64, s2 := 0x40, n2 := 8, rw := 0xFFFFFFC0, mwLen := 2 }
/-- `SF_QPq_CQ_BASE_LO.ADDR`. -/
def SF_QPq_CQ_BASE_LO_ADDR : Fld := ⟨SF_QPq_CQ_BASE_LO, 31, 6⟩

/-- `SF_QPq_CQ_BASE_HI` (R256). -/
def SF_QPq_CQ_BASE_HI : Reg := { base := 0x4200010C, s1 := 0x1000, n1 := 64, s2 := 0x40, n2 := 8, rw := 0xFFFFFFFF, mwLen := 2, mwPos := 1 }
/-- `SF_QPq_CQ_BASE_HI.ADDR`. -/
def SF_QPq_CQ_BASE_HI_ADDR : Fld := ⟨SF_QPq_CQ_BASE_HI, 31, 0⟩

/-- `SF_QPq_CFG` (R256). -/
def SF_QPq_CFG : Reg := { base := 0x42000110, s1 := 0x1000, n1 := 64, s2 := 0x40, n2 := 8, rw := 0x8003FFFF }
/-- `SF_QPq_CFG.SQ_ORDER`. -/
def SF_QPq_CFG_SQ_ORDER : Fld := ⟨SF_QPq_CFG, 3, 0⟩
/-- `SF_QPq_CFG.CQ_ORDER`. -/
def SF_QPq_CFG_CQ_ORDER : Fld := ⟨SF_QPq_CFG, 7, 4⟩
/-- `SF_QPq_CFG.IDENTITY`. -/
def SF_QPq_CFG_IDENTITY : Fld := ⟨SF_QPq_CFG, 15, 8⟩
/-- `SF_QPq_CFG.IRQ_ALL`. -/
def SF_QPq_CFG_IRQ_ALL : Fld := ⟨SF_QPq_CFG, 16, 16⟩
/-- `SF_QPq_CFG.PRIO`. -/
def SF_QPq_CFG_PRIO : Fld := ⟨SF_QPq_CFG, 17, 17⟩
/-- `SF_QPq_CFG.EN`. -/
def SF_QPq_CFG_EN : Fld := ⟨SF_QPq_CFG, 31, 31⟩

/-- `SF_QPq_SQ_TAIL` (R256). -/
def SF_QPq_SQ_TAIL : Reg := { base := 0x42000114, s1 := 0x1000, n1 := 64, s2 := 0x40, n2 := 8, rw := 0xFFF }
/-- `SF_QPq_SQ_TAIL.INDEX`. -/
def SF_QPq_SQ_TAIL_INDEX : Fld := ⟨SF_QPq_SQ_TAIL, 11, 0⟩

/-- `SF_QPq_CQ_HEAD` (R256). -/
def SF_QPq_CQ_HEAD : Reg := { base := 0x42000118, s1 := 0x1000, n1 := 64, s2 := 0x40, n2 := 8, rw := 0xFFF }
/-- `SF_QPq_CQ_HEAD.INDEX`. -/
def SF_QPq_CQ_HEAD_INDEX : Fld := ⟨SF_QPq_CQ_HEAD, 11, 0⟩

/-- `SF_QPq_STATUS` (R256). -/
def SF_QPq_STATUS : Reg := { base := 0x4200011C, s1 := 0x1000, n1 := 64, s2 := 0x40, n2 := 8 }
/-- `SF_QPq_STATUS.SQ_HEAD`. -/
def SF_QPq_STATUS_SQ_HEAD : Fld := ⟨SF_QPq_STATUS, 11, 0⟩
/-- `SF_QPq_STATUS.ACTIVE`. -/
def SF_QPq_STATUS_ACTIVE : Fld := ⟨SF_QPq_STATUS, 12, 12⟩
/-- `SF_QPq_STATUS.ERR`. -/
def SF_QPq_STATUS_ERR : Fld := ⟨SF_QPq_STATUS, 15, 13⟩
/-- `SF_QPq_STATUS.INFLIGHT`. -/
def SF_QPq_STATUS_INFLIGHT : Fld := ⟨SF_QPq_STATUS, 24, 16⟩

/-- `SF_ID` (R257). -/
def SF_ID : Reg := { base := 0x42080000, reset := 0x482400A0 }
/-- `SF_ID.STEPPING`. -/
def SF_ID_STEPPING : Fld := ⟨SF_ID, 15, 0⟩
/-- `SF_ID.PART`. -/
def SF_ID_PART : Fld := ⟨SF_ID, 31, 16⟩

/-- `SF_INFLIGHT` (R257). -/
def SF_INFLIGHT : Reg := { base := 0x42080004 }
/-- `SF_INFLIGHT.COUNT`. -/
def SF_INFLIGHT_COUNT : Fld := ⟨SF_INFLIGHT, 10, 0⟩

/-- `SF_DIRTY_COUNT` (R257). -/
def SF_DIRTY_COUNT : Reg := { base := 0x42080008, rc := 0xFFFF }
/-- `SF_DIRTY_COUNT.COUNT`. -/
def SF_DIRTY_COUNT_COUNT : Fld := ⟨SF_DIRTY_COUNT, 15, 0⟩

/-- `SF_EVT` (R257). -/
def SF_EVT : Reg := { base := 0x4208000C, w1c := 0x7 }
/-- `SF_EVT.DIRTY`. -/
def SF_EVT_DIRTY : Fld := ⟨SF_EVT, 0, 0⟩
/-- `SF_EVT.XLATE`. -/
def SF_EVT_XLATE : Fld := ⟨SF_EVT, 1, 1⟩
/-- `SF_EVT.QERR`. -/
def SF_EVT_QERR : Fld := ⟨SF_EVT, 2, 2⟩

/-- `SF_EVT_EN` (R257). -/
def SF_EVT_EN : Reg := { base := 0x42080010, rw := 0x7 }
/-- `SF_EVT_EN.DIRTY`. -/
def SF_EVT_EN_DIRTY : Fld := ⟨SF_EVT_EN, 0, 0⟩
/-- `SF_EVT_EN.XLATE`. -/
def SF_EVT_EN_XLATE : Fld := ⟨SF_EVT_EN, 1, 1⟩
/-- `SF_EVT_EN.QERR`. -/
def SF_EVT_EN_QERR : Fld := ⟨SF_EVT_EN, 2, 2⟩

/-- `SF_PF_IMSIC_LO` (R257). -/
def SF_PF_IMSIC_LO : Reg := { base := 0x42080018, rw := 0xFFFFFFFF, mwLen := 2 }
/-- `SF_PF_IMSIC_LO.ADDR`. -/
def SF_PF_IMSIC_LO_ADDR : Fld := ⟨SF_PF_IMSIC_LO, 31, 0⟩

/-- `SF_PF_IMSIC_HI` (R257). -/
def SF_PF_IMSIC_HI : Reg := { base := 0x4208001C, rw := 0xFF, mwLen := 2, mwPos := 1 }
/-- `SF_PF_IMSIC_HI.ADDR`. -/
def SF_PF_IMSIC_HI_ADDR : Fld := ⟨SF_PF_IMSIC_HI, 7, 0⟩

/-- `SF_PF_EVT_ID` (R257). -/
def SF_PF_EVT_ID : Reg := { base := 0x42080020, rw := 0xFF }
/-- `SF_PF_EVT_ID.IDENTITY`. -/
def SF_PF_EVT_ID_IDENTITY : Fld := ⟨SF_PF_EVT_ID, 7, 0⟩

/-- `SF_EXPERT_ALLOW` (R257). -/
def SF_EXPERT_ALLOW : Reg := { base := 0x42080024 }
/-- `SF_EXPERT_ALLOW.ALLOW`. -/
def SF_EXPERT_ALLOW_ALLOW : Fld := ⟨SF_EXPERT_ALLOW, 13, 0⟩

/-- `SF_FNn_STATE` (R257). -/
def SF_FNn_STATE : Reg := { base := 0x42081000, s1 := 0x4, n1 := 64, resetX := [(0, 0x81)] }
/-- `SF_FNn_STATE.STATE`. -/
def SF_FNn_STATE_STATE : Fld := ⟨SF_FNn_STATE, 1, 0⟩
/-- `SF_FNn_STATE.WORLD`. -/
def SF_FNn_STATE_WORLD : Fld := ⟨SF_FNn_STATE, 2, 2⟩
/-- `SF_FNn_STATE.DIRTY`. -/
def SF_FNn_STATE_DIRTY : Fld := ⟨SF_FNn_STATE, 3, 3⟩
/-- `SF_FNn_STATE.NQP`. -/
def SF_FNn_STATE_NQP : Fld := ⟨SF_FNn_STATE, 7, 4⟩
/-- `SF_FNn_STATE.INFLIGHT`. -/
def SF_FNn_STATE_INFLIGHT : Fld := ⟨SF_FNn_STATE, 16, 8⟩

/-- `SF_MODE` (R276). -/
def SF_MODE : Reg := { base := 0x42080030 }
/-- `SF_MODE.MODE`. -/
def SF_MODE_MODE : Fld := ⟨SF_MODE, 3, 0⟩
/-- `SF_MODE.PREPARING`. -/
def SF_MODE_PREPARING : Fld := ⟨SF_MODE, 4, 4⟩
/-- `SF_MODE.NO_CFG`. -/
def SF_MODE_NO_CFG : Fld := ⟨SF_MODE, 5, 5⟩
/-- `SF_MODE.PRESENT`. -/
def SF_MODE_PRESENT : Fld := ⟨SF_MODE, 15, 8⟩
/-- `SF_MODE.PENDING`. -/
def SF_MODE_PENDING : Fld := ⟨SF_MODE, 22, 16⟩

/-- `SF_IMAGE_STATUS` (R276). -/
def SF_IMAGE_STATUS : Reg := { base := 0x42080034 }
/-- `SF_IMAGE_STATUS.CFG_HALF`. -/
def SF_IMAGE_STATUS_CFG_HALF : Fld := ⟨SF_IMAGE_STATUS, 0, 0⟩
/-- `SF_IMAGE_STATUS.CFG_OTHER`. -/
def SF_IMAGE_STATUS_CFG_OTHER : Fld := ⟨SF_IMAGE_STATUS, 3, 1⟩
/-- `SF_IMAGE_STATUS.BOOT_HALF`. -/
def SF_IMAGE_STATUS_BOOT_HALF : Fld := ⟨SF_IMAGE_STATUS, 4, 4⟩
/-- `SF_IMAGE_STATUS.BOOT_OTHER`. -/
def SF_IMAGE_STATUS_BOOT_OTHER : Fld := ⟨SF_IMAGE_STATUS, 7, 5⟩
/-- `SF_IMAGE_STATUS.STAGING`. -/
def SF_IMAGE_STATUS_STAGING : Fld := ⟨SF_IMAGE_STATUS, 8, 8⟩

/-- The register lines of the SF slot. -/
def regsSF : List Reg :=
  [SF_FN_ID, SF_FN_STATUS, SF_MBX_CMDw, SF_MBX_RESULTw,
   SF_MBX_CFG, SF_MBX_STATUS, SF_QPq_SQ_BASE_LO, SF_QPq_SQ_BASE_HI,
   SF_QPq_CQ_BASE_LO, SF_QPq_CQ_BASE_HI, SF_QPq_CFG, SF_QPq_SQ_TAIL,
   SF_QPq_CQ_HEAD, SF_QPq_STATUS, SF_ID, SF_INFLIGHT,
   SF_DIRTY_COUNT, SF_EVT, SF_EVT_EN, SF_PF_IMSIC_LO,
   SF_PF_IMSIC_HI, SF_PF_EVT_ID, SF_EXPERT_ALLOW, SF_FNn_STATE,
   SF_MODE, SF_IMAGE_STATUS]

end Sys2Proof.Machine
end

