-- ==== Sys2Proof/Machine/RegsNet.lean ====
section
/-! DEFINITION. The registers of the slots TBU, ESW, FBC, SGW, PLB: one descriptor a register and one a field,
as the register lines and tables of spec/ give them (the rule is the one that opens the register list). -/

namespace Sys2Proof.Machine

/-- `TBU_ID` (R330). -/
def TBU_ID : Reg := { base := 0x45000000, reset := 0x482400A0 }
/-- `TBU_ID.STEPPING`. -/
def TBU_ID_STEPPING : Fld := ⟨TBU_ID, 15, 0⟩
/-- `TBU_ID.PART`. -/
def TBU_ID_PART : Fld := ⟨TBU_ID, 31, 16⟩

/-- `TBU_EVT` (R330). -/
def TBU_EVT : Reg := { base := 0x45000010, w1c := 0x1FFFFF }
/-- `TBU_EVT.STEP_REFUSED`. -/
def TBU_EVT_STEP_REFUSED : Fld := ⟨TBU_EVT, 3, 0⟩
/-- `TBU_EVT.SET_REFUSED`. -/
def TBU_EVT_SET_REFUSED : Fld := ⟨TBU_EVT, 7, 4⟩
/-- `TBU_EVT.HOLDOVER`. -/
def TBU_EVT_HOLDOVER : Fld := ⟨TBU_EVT, 11, 8⟩
/-- `TBU_EVT.FREE`. -/
def TBU_EVT_FREE : Fld := ⟨TBU_EVT, 15, 12⟩
/-- `TBU_EVT.INC_REFUSED`. -/
def TBU_EVT_INC_REFUSED : Fld := ⟨TBU_EVT, 19, 16⟩
/-- `TBU_EVT.TSQ_OVF`. -/
def TBU_EVT_TSQ_OVF : Fld := ⟨TBU_EVT, 20, 20⟩

/-- `TBU_EVT_EN` (R330). -/
def TBU_EVT_EN : Reg := { base := 0x45000014, rw := 0x1FFFFF }
/-- `TBU_EVT_EN.STEP_REFUSED`. -/
def TBU_EVT_EN_STEP_REFUSED : Fld := ⟨TBU_EVT_EN, 3, 0⟩
/-- `TBU_EVT_EN.SET_REFUSED`. -/
def TBU_EVT_EN_SET_REFUSED : Fld := ⟨TBU_EVT_EN, 7, 4⟩
/-- `TBU_EVT_EN.HOLDOVER`. -/
def TBU_EVT_EN_HOLDOVER : Fld := ⟨TBU_EVT_EN, 11, 8⟩
/-- `TBU_EVT_EN.FREE`. -/
def TBU_EVT_EN_FREE : Fld := ⟨TBU_EVT_EN, 15, 12⟩
/-- `TBU_EVT_EN.INC_REFUSED`. -/
def TBU_EVT_EN_INC_REFUSED : Fld := ⟨TBU_EVT_EN, 19, 16⟩
/-- `TBU_EVT_EN.TSQ_OVF`. -/
def TBU_EVT_EN_TSQ_OVF : Fld := ⟨TBU_EVT_EN, 20, 20⟩

/-- `TBU_SNAP` (R330). -/
def TBU_SNAP : Reg := { base := 0x45000018, wo := 0x1 }
/-- `TBU_SNAP.CAPTURE`. -/
def TBU_SNAP_CAPTURE : Fld := ⟨TBU_SNAP, 0, 0⟩

/-- `TBU_TS_ETYPE` (R330). -/
def TBU_TS_ETYPE : Reg := { base := 0x45000030, reset := 0x88F7, rw := 0xFFFF }
/-- `TBU_TS_ETYPE.ETYPE`. -/
def TBU_TS_ETYPE_ETYPE : Fld := ⟨TBU_TS_ETYPE, 15, 0⟩

/-- `TBU_TS_EN` (R330). -/
def TBU_TS_EN : Reg := { base := 0x45000034, rw := 0x3FF }
/-- `TBU_TS_EN.EN`. -/
def TBU_TS_EN_EN : Fld := ⟨TBU_TS_EN, 9, 0⟩

/-- `TBU_TSQ_STATUS` (R330). -/
def TBU_TSQ_STATUS : Reg := { base := 0x45000038, rc := 0xFFFF0000 }
/-- `TBU_TSQ_STATUS.COUNT`. -/
def TBU_TSQ_STATUS_COUNT : Fld := ⟨TBU_TSQ_STATUS, 8, 0⟩
/-- `TBU_TSQ_STATUS.OVF`. -/
def TBU_TSQ_STATUS_OVF : Fld := ⟨TBU_TSQ_STATUS, 31, 16⟩

/-- `TBU_TSQ_INFO` (R330). -/
def TBU_TSQ_INFO : Reg := { base := 0x45000040, mwLen := 20, mwAbs := 0x45000040 }
/-- `TBU_TSQ_INFO.DOMAIN`. -/
def TBU_TSQ_INFO_DOMAIN : Fld := ⟨TBU_TSQ_INFO, 15, 8⟩
/-- `TBU_TSQ_INFO.MSGTYPE`. -/
def TBU_TSQ_INFO_MSGTYPE : Fld := ⟨TBU_TSQ_INFO, 19, 16⟩
/-- `TBU_TSQ_INFO.PORT`. -/
def TBU_TSQ_INFO_PORT : Fld := ⟨TBU_TSQ_INFO, 23, 20⟩
/-- `TBU_TSQ_INFO.DIR`. -/
def TBU_TSQ_INFO_DIR : Fld := ⟨TBU_TSQ_INFO, 24, 24⟩
/-- `TBU_TSQ_INFO.VALID`. -/
def TBU_TSQ_INFO_VALID : Fld := ⟨TBU_TSQ_INFO, 31, 31⟩

/-- `TBU_TSQ_SEQ` (R330). -/
def TBU_TSQ_SEQ : Reg := { base := 0x45000044, mwLen := 20, mwAbs := 0x45000040 }
/-- `TBU_TSQ_SEQ.SEQ`. -/
def TBU_TSQ_SEQ_SEQ : Fld := ⟨TBU_TSQ_SEQ, 15, 0⟩

/-- `TBU_TSQ_Dd_NSQ` (R330). -/
def TBU_TSQ_Dd_NSQ : Reg := { base := 0x45000050, s1 := 0x10, n1 := 4, mwLen := 20, mwAbs := 0x45000040 }
/-- `TBU_TSQ_Dd_NSQ.QNS`. -/
def TBU_TSQ_Dd_NSQ_QNS : Fld := ⟨TBU_TSQ_Dd_NSQ, 1, 0⟩
/-- `TBU_TSQ_Dd_NSQ.NS`. -/
def TBU_TSQ_Dd_NSQ_NS : Fld := ⟨TBU_TSQ_Dd_NSQ, 31, 2⟩

/-- `TBU_TSQ_Dd_SEC_LO` (R330). -/
def TBU_TSQ_Dd_SEC_LO : Reg := { base := 0x45000054, s1 := 0x10, n1 := 4, mwLen := 20, mwAbs := 0x45000040 }
/-- `TBU_TSQ_Dd_SEC_LO.SEC`. -/
def TBU_TSQ_Dd_SEC_LO_SEC : Fld := ⟨TBU_TSQ_Dd_SEC_LO, 31, 0⟩

/-- `TBU_TSQ_Dd_SEC_HI` (R330). -/
def TBU_TSQ_Dd_SEC_HI : Reg := { base := 0x45000058, s1 := 0x10, n1 := 4, mwLen := 20, mwAbs := 0x45000040 }
/-- `TBU_TSQ_Dd_SEC_HI.SEC`. -/
def TBU_TSQ_Dd_SEC_HI_SEC : Fld := ⟨TBU_TSQ_Dd_SEC_HI, 15, 0⟩

/-- `TBU_TDd_TIME_FRAC` (R330). -/
def TBU_TDd_TIME_FRAC : Reg := { base := 0x45000100, s1 := 0x40, n1 := 4, rw := 0xFFFFFFFF, mwLen := 4 }
/-- `TBU_TDd_TIME_FRAC.FRAC`. -/
def TBU_TDd_TIME_FRAC_FRAC : Fld := ⟨TBU_TDd_TIME_FRAC, 31, 0⟩

/-- `TBU_TDd_TIME_NS` (R330). -/
def TBU_TDd_TIME_NS : Reg := { base := 0x45000104, s1 := 0x40, n1 := 4, rw := 0xFFFFFFFF, mwLen := 4, mwPos := 1 }
/-- `TBU_TDd_TIME_NS.NS`. -/
def TBU_TDd_TIME_NS_NS : Fld := ⟨TBU_TDd_TIME_NS, 31, 0⟩

/-- `TBU_TDd_TIME_SEC_LO` (R330). -/
def TBU_TDd_TIME_SEC_LO : Reg := { base := 0x45000108, s1 := 0x40, n1 := 4, rw := 0xFFFFFFFF, mwLen := 4, mwPos := 2 }
/-- `TBU_TDd_TIME_SEC_LO.SEC`. -/
def TBU_TDd_TIME_SEC_LO_SEC : Fld := ⟨TBU_TDd_TIME_SEC_LO, 31, 0⟩

/-- `TBU_TDd_TIME_SEC_HI` (R330). -/
def TBU_TDd_TIME_SEC_HI : Reg := { base := 0x4500010C, s1 := 0x40, n1 := 4, rw := 0xFFFF, mwLen := 4, mwPos := 3 }
/-- `TBU_TDd_TIME_SEC_HI.SEC`. -/
def TBU_TDd_TIME_SEC_HI_SEC : Fld := ⟨TBU_TDd_TIME_SEC_HI, 15, 0⟩

/-- `TBU_SNAPd_FRAC` (R330). -/
def TBU_SNAPd_FRAC : Reg := { base := 0x45000300, s1 := 0x10, n1 := 4, mwLen := 4 }
/-- `TBU_SNAPd_FRAC.FRAC`. -/
def TBU_SNAPd_FRAC_FRAC : Fld := ⟨TBU_SNAPd_FRAC, 31, 0⟩

/-- `TBU_SNAPd_NS` (R330). -/
def TBU_SNAPd_NS : Reg := { base := 0x45000304, s1 := 0x10, n1 := 4, mwLen := 4, mwPos := 1 }
/-- `TBU_SNAPd_NS.NS`. -/
def TBU_SNAPd_NS_NS : Fld := ⟨TBU_SNAPd_NS, 31, 0⟩

/-- `TBU_SNAPd_SEC_LO` (R330). -/
def TBU_SNAPd_SEC_LO : Reg := { base := 0x45000308, s1 := 0x10, n1 := 4, mwLen := 4, mwPos := 2 }
/-- `TBU_SNAPd_SEC_LO.SEC`. -/
def TBU_SNAPd_SEC_LO_SEC : Fld := ⟨TBU_SNAPd_SEC_LO, 31, 0⟩

/-- `TBU_SNAPd_SEC_HI` (R330). -/
def TBU_SNAPd_SEC_HI : Reg := { base := 0x4500030C, s1 := 0x10, n1 := 4, mwLen := 4, mwPos := 3 }
/-- `TBU_SNAPd_SEC_HI.SEC`. -/
def TBU_SNAPd_SEC_HI_SEC : Fld := ⟨TBU_SNAPd_SEC_HI, 15, 0⟩

/-- `TBU_TDd_INC_FRAC` (R330). -/
def TBU_TDd_INC_FRAC : Reg := { base := 0x45000110, s1 := 0x40, n1 := 4, rw := 0xFFFFFFFF, mwLen := 2 }
/-- `TBU_TDd_INC_FRAC.FRAC`. -/
def TBU_TDd_INC_FRAC_FRAC : Fld := ⟨TBU_TDd_INC_FRAC, 31, 0⟩

/-- `TBU_TDd_INC_NS` (R330). -/
def TBU_TDd_INC_NS : Reg := { base := 0x45000114, s1 := 0x40, n1 := 4, reset := 0x2, rw := 0xF, mwLen := 2, mwPos := 1 }
/-- `TBU_TDd_INC_NS.NS`. -/
def TBU_TDd_INC_NS_NS : Fld := ⟨TBU_TDd_INC_NS, 3, 0⟩

/-- `TBU_TDd_STEP_LO` (R330). -/
def TBU_TDd_STEP_LO : Reg := { base := 0x45000118, s1 := 0x40, n1 := 4, wo := 0xFFFFFFFF, mwLen := 2 }
/-- `TBU_TDd_STEP_LO.STEP`. -/
def TBU_TDd_STEP_LO_STEP : Fld := ⟨TBU_TDd_STEP_LO, 31, 0⟩

/-- `TBU_TDd_STEP_HI` (R330). -/
def TBU_TDd_STEP_HI : Reg := { base := 0x4500011C, s1 := 0x40, n1 := 4, wo := 0xFFFFFFFF, mwLen := 2, mwPos := 1 }
/-- `TBU_TDd_STEP_HI.STEP`. -/
def TBU_TDd_STEP_HI_STEP : Fld := ⟨TBU_TDd_STEP_HI, 31, 0⟩

/-- `TBU_TDd_CTRL` (R330). -/
def TBU_TDd_CTRL : Reg := { base := 0x45000120, s1 := 0x40, n1 := 4, wo := 0x7 }
/-- `TBU_TDd_CTRL.LOCK`. -/
def TBU_TDd_CTRL_LOCK : Fld := ⟨TBU_TDd_CTRL, 0, 0⟩
/-- `TBU_TDd_CTRL.UNLOCK`. -/
def TBU_TDd_CTRL_UNLOCK : Fld := ⟨TBU_TDd_CTRL, 1, 1⟩
/-- `TBU_TDd_CTRL.REFRESH`. -/
def TBU_TDd_CTRL_REFRESH : Fld := ⟨TBU_TDd_CTRL, 2, 2⟩

/-- `TBU_TDd_CFG` (R330). -/
def TBU_TDd_CFG : Reg := { base := 0x45000124, s1 := 0x40, n1 := 4, reset := 0x19003E8, rw := 0xFFFFFFF }
/-- `TBU_TDd_CFG.STEP_MAX`. -/
def TBU_TDd_CFG_STEP_MAX : Fld := ⟨TBU_TDd_CFG, 19, 0⟩
/-- `TBU_TDd_CFG.REFRESH_T`. -/
def TBU_TDd_CFG_REFRESH_T : Fld := ⟨TBU_TDd_CFG, 27, 20⟩

/-- `TBU_TDd_HOLD` (R330). -/
def TBU_TDd_HOLD : Reg := { base := 0x45000128, s1 := 0x40, n1 := 4, reset := 0x7D0, rw := 0xFFFF }
/-- `TBU_TDd_HOLD.HOLD_T`. -/
def TBU_TDd_HOLD_HOLD_T : Fld := ⟨TBU_TDd_HOLD, 15, 0⟩

/-- `TBU_TDd_STATUS` (R330). -/
def TBU_TDd_STATUS : Reg := { base := 0x4500012C, s1 := 0x40, n1 := 4 }
/-- `TBU_TDd_STATUS.STATE`. -/
def TBU_TDd_STATUS_STATE : Fld := ⟨TBU_TDd_STATUS, 1, 0⟩
/-- `TBU_TDd_STATUS.STEP_PENDING`. -/
def TBU_TDd_STATUS_STEP_PENDING : Fld := ⟨TBU_TDd_STATUS, 2, 2⟩
/-- `TBU_TDd_STATUS.REMAIN`. -/
def TBU_TDd_STATUS_REMAIN : Fld := ⟨TBU_TDd_STATUS, 31, 16⟩

/-- `TBU_TDd_STEP_CNT` (R330). -/
def TBU_TDd_STEP_CNT : Reg := { base := 0x45000130, s1 := 0x40, n1 := 4, rc := 0xFFFF }
/-- `TBU_TDd_STEP_CNT.COUNT`. -/
def TBU_TDd_STEP_CNT_COUNT : Fld := ⟨TBU_TDd_STEP_CNT, 15, 0⟩

/-- `TBU_PORTp_LAT` (R330). -/
def TBU_PORTp_LAT : Reg := { base := 0x45000400, s1 := 0x10, n1 := 10, rw := 0xFFFFFFFF }
/-- `TBU_PORTp_LAT.RX_LAT`. -/
def TBU_PORTp_LAT_RX_LAT : Fld := ⟨TBU_PORTp_LAT, 15, 0⟩
/-- `TBU_PORTp_LAT.TX_LAT`. -/
def TBU_PORTp_LAT_TX_LAT : Fld := ⟨TBU_PORTp_LAT, 31, 16⟩

/-- `TBU_PORTp_PTPQ` (R330). -/
def TBU_PORTp_PTPQ : Reg := { base := 0x45000404, s1 := 0x10, n1 := 10, rw := 0xFF }
/-- `TBU_PORTp_PTPQ.QUEUE`. -/
def TBU_PORTp_PTPQ_QUEUE : Fld := ⟨TBU_PORTp_PTPQ, 6, 0⟩
/-- `TBU_PORTp_PTPQ.EN`. -/
def TBU_PORTp_PTPQ_EN : Fld := ⟨TBU_PORTp_PTPQ, 7, 7⟩

/-- The register lines of the TBU slot. -/
def regsTBU : List Reg :=
  [TBU_ID, TBU_EVT, TBU_EVT_EN, TBU_SNAP,
   TBU_TS_ETYPE, TBU_TS_EN, TBU_TSQ_STATUS, TBU_TSQ_INFO,
   TBU_TSQ_SEQ, TBU_TSQ_Dd_NSQ, TBU_TSQ_Dd_SEC_LO, TBU_TSQ_Dd_SEC_HI,
   TBU_TDd_TIME_FRAC, TBU_TDd_TIME_NS, TBU_TDd_TIME_SEC_LO, TBU_TDd_TIME_SEC_HI,
   TBU_SNAPd_FRAC, TBU_SNAPd_NS, TBU_SNAPd_SEC_LO, TBU_SNAPd_SEC_HI,
   TBU_TDd_INC_FRAC, TBU_TDd_INC_NS, TBU_TDd_STEP_LO, TBU_TDd_STEP_HI,
   TBU_TDd_CTRL, TBU_TDd_CFG, TBU_TDd_HOLD, TBU_TDd_STATUS,
   TBU_TDd_STEP_CNT, TBU_PORTp_LAT, TBU_PORTp_PTPQ]

/-- `ESW_ID` (R307). -/
def ESW_ID : Reg := { base := 0x46000000, reset := 0x482400A0 }
/-- `ESW_ID.STEPPING`. -/
def ESW_ID_STEPPING : Fld := ⟨ESW_ID, 15, 0⟩
/-- `ESW_ID.PART`. -/
def ESW_ID_PART : Fld := ⟨ESW_ID, 31, 16⟩

/-- `ESW_DEV_ETYPE` (R307). -/
def ESW_DEV_ETYPE : Reg := { base := 0x46000004, reset := 0x88B5, rw := 0xFFFF }
/-- `ESW_DEV_ETYPE.ETYPE`. -/
def ESW_DEV_ETYPE_ETYPE : Fld := ⟨ESW_DEV_ETYPE, 15, 0⟩

/-- `ESW_NODE_ID` (R307). -/
def ESW_NODE_ID : Reg := { base := 0x46000008, rw := 0xFFFF }
/-- `ESW_NODE_ID.NODE`. -/
def ESW_NODE_ID_NODE : Fld := ⟨ESW_NODE_ID, 15, 0⟩

/-- `ESW_EVT` (R307). -/
def ESW_EVT : Reg := { base := 0x46000010, w1c := 0x3F }
/-- `ESW_EVT.LINK`. -/
def ESW_EVT_LINK : Fld := ⟨ESW_EVT, 0, 0⟩
/-- `ESW_EVT.QERR`. -/
def ESW_EVT_QERR : Fld := ⟨ESW_EVT, 1, 1⟩
/-- `ESW_EVT.PN_THRESH`. -/
def ESW_EVT_PN_THRESH : Fld := ⟨ESW_EVT, 2, 2⟩
/-- `ESW_EVT.SF_BLOCKED`. -/
def ESW_EVT_SF_BLOCKED : Fld := ⟨ESW_EVT, 3, 3⟩
/-- `ESW_EVT.ETYPE_REFUSED`. -/
def ESW_EVT_ETYPE_REFUSED : Fld := ⟨ESW_EVT, 4, 4⟩
/-- `ESW_EVT.PLCA`. -/
def ESW_EVT_PLCA : Fld := ⟨ESW_EVT, 5, 5⟩

/-- `ESW_EVT_EN` (R307). -/
def ESW_EVT_EN : Reg := { base := 0x46000014, rw := 0x3F }
/-- `ESW_EVT_EN.LINK`. -/
def ESW_EVT_EN_LINK : Fld := ⟨ESW_EVT_EN, 0, 0⟩
/-- `ESW_EVT_EN.QERR`. -/
def ESW_EVT_EN_QERR : Fld := ⟨ESW_EVT_EN, 1, 1⟩
/-- `ESW_EVT_EN.PN_THRESH`. -/
def ESW_EVT_EN_PN_THRESH : Fld := ⟨ESW_EVT_EN, 2, 2⟩
/-- `ESW_EVT_EN.SF_BLOCKED`. -/
def ESW_EVT_EN_SF_BLOCKED : Fld := ⟨ESW_EVT_EN, 3, 3⟩
/-- `ESW_EVT_EN.ETYPE_REFUSED`. -/
def ESW_EVT_EN_ETYPE_REFUSED : Fld := ⟨ESW_EVT_EN, 4, 4⟩
/-- `ESW_EVT_EN.PLCA`. -/
def ESW_EVT_EN_PLCA : Fld := ⟨ESW_EVT_EN, 5, 5⟩

/-- `ESW_SF_BLOCKEDw` (R307). -/
def ESW_SF_BLOCKEDw : Reg := { base := 0x46000020, s1 := 0x4, n1 := 8, w1c := 0xFFFFFFFF }
/-- `ESW_SF_BLOCKEDw.BLOCKED`. -/
def ESW_SF_BLOCKEDw_BLOCKED : Fld := ⟨ESW_SF_BLOCKEDw, 31, 0⟩

/-- `ESW_PORTp_LINK` (R307). -/
def ESW_PORTp_LINK : Reg := { base := 0x46000100, s1 := 0x10, n1 := 10 }
/-- `ESW_PORTp_LINK.UP`. -/
def ESW_PORTp_LINK_UP : Fld := ⟨ESW_PORTp_LINK, 0, 0⟩
/-- `ESW_PORTp_LINK.RATE`. -/
def ESW_PORTp_LINK_RATE : Fld := ⟨ESW_PORTp_LINK, 2, 1⟩
/-- `ESW_PORTp_LINK.PLCA_ACTIVE`. -/
def ESW_PORTp_LINK_PLCA_ACTIVE : Fld := ⟨ESW_PORTp_LINK, 3, 3⟩
/-- `ESW_PORTp_LINK.PLCA_FALLBACK`. -/
def ESW_PORTp_LINK_PLCA_FALLBACK : Fld := ⟨ESW_PORTp_LINK, 4, 4⟩

/-- `ESW_PORTp_CNTc_LO` (R307). -/
def ESW_PORTp_CNTc_LO : Reg := { base := 0x46001000, s1 := 0x100, n1 := 12, s2 := 0x8, n2 := 32, rc := 0xFFFFFFFF, mwLen := 2 }
/-- `ESW_PORTp_CNTc_LO.COUNT`. -/
def ESW_PORTp_CNTc_LO_COUNT : Fld := ⟨ESW_PORTp_CNTc_LO, 31, 0⟩

/-- `ESW_PORTp_CNTc_HI` (R307). -/
def ESW_PORTp_CNTc_HI : Reg := { base := 0x46001004, s1 := 0x100, n1 := 12, s2 := 0x8, n2 := 32, mwLen := 2, mwPos := 1 }
/-- `ESW_PORTp_CNTc_HI.COUNT`. -/
def ESW_PORTp_CNTc_HI_COUNT : Fld := ⟨ESW_PORTp_CNTc_HI, 31, 0⟩

/-- `ESW_Qq_BASE` (R307). -/
def ESW_Qq_BASE : Reg := { base := 0x42000800, s1 := 0x1000, n1 := 64, s2 := 0x10, n2 := 128, rw := 0xFFFFFFFF }
/-- `ESW_Qq_BASE.BASE`. -/
def ESW_Qq_BASE_BASE : Fld := ⟨ESW_Qq_BASE, 31, 0⟩

/-- `ESW_Qq_CFG` (R307). -/
def ESW_Qq_CFG : Reg := { base := 0x42000804, s1 := 0x1000, n1 := 64, s2 := 0x10, n2 := 128, rw := 0x1FFFF }
/-- `ESW_Qq_CFG.TX_ORDER`. -/
def ESW_Qq_CFG_TX_ORDER : Fld := ⟨ESW_Qq_CFG, 3, 0⟩
/-- `ESW_Qq_CFG.RX_ORDER`. -/
def ESW_Qq_CFG_RX_ORDER : Fld := ⟨ESW_Qq_CFG, 7, 4⟩
/-- `ESW_Qq_CFG.IDENTITY`. -/
def ESW_Qq_CFG_IDENTITY : Fld := ⟨ESW_Qq_CFG, 15, 8⟩
/-- `ESW_Qq_CFG.EN`. -/
def ESW_Qq_CFG_EN : Fld := ⟨ESW_Qq_CFG, 16, 16⟩
/-- `ESW_Qq_CFG.ERR`. -/
def ESW_Qq_CFG_ERR : Fld := ⟨ESW_Qq_CFG, 18, 17⟩

/-- `ESW_Qq_TX_TAIL` (R307). -/
def ESW_Qq_TX_TAIL : Reg := { base := 0x42000808, s1 := 0x1000, n1 := 64, s2 := 0x10, n2 := 128, rw := 0xFFF }
/-- `ESW_Qq_TX_TAIL.INDEX`. -/
def ESW_Qq_TX_TAIL_INDEX : Fld := ⟨ESW_Qq_TX_TAIL, 11, 0⟩

/-- `ESW_Qq_RX_TAIL` (R307). -/
def ESW_Qq_RX_TAIL : Reg := { base := 0x4200080C, s1 := 0x1000, n1 := 64, s2 := 0x10, n2 := 128, rw := 0xFFF }
/-- `ESW_Qq_RX_TAIL.INDEX`. -/
def ESW_Qq_RX_TAIL_INDEX : Fld := ⟨ESW_Qq_RX_TAIL, 11, 0⟩

/-- The register lines of the ESW slot. -/
def regsESW : List Reg :=
  [ESW_ID, ESW_DEV_ETYPE, ESW_NODE_ID, ESW_EVT,
   ESW_EVT_EN, ESW_SF_BLOCKEDw, ESW_PORTp_LINK, ESW_PORTp_CNTc_LO,
   ESW_PORTp_CNTc_HI, ESW_Qq_BASE, ESW_Qq_CFG, ESW_Qq_TX_TAIL,
   ESW_Qq_RX_TAIL]

/-- `FBC_ID` (R368). -/
def FBC_ID : Reg := { base := 0x47000000, reset := 0x482400A0 }
/-- `FBC_ID.STEPPING`. -/
def FBC_ID_STEPPING : Fld := ⟨FBC_ID, 15, 0⟩
/-- `FBC_ID.PART`. -/
def FBC_ID_PART : Fld := ⟨FBC_ID, 31, 16⟩

/-- `FBC_XCVR` (R368). -/
def FBC_XCVR : Reg := { base := 0x47000010 }
/-- `FBC_XCVR.CAN_SLEEP`. -/
def FBC_XCVR_CAN_SLEEP : Fld := ⟨FBC_XCVR, 7, 0⟩
/-- `FBC_XCVR.LIN_SLEEP`. -/
def FBC_XCVR_LIN_SLEEP : Fld := ⟨FBC_XCVR, 11, 8⟩
/-- `FBC_XCVR.CAN_FS`. -/
def FBC_XCVR_CAN_FS : Fld := ⟨FBC_XCVR, 19, 12⟩
/-- `FBC_XCVR.LIN_FS`. -/
def FBC_XCVR_LIN_FS : Fld := ⟨FBC_XCVR, 23, 20⟩
/-- `FBC_XCVR.VCAN_UV`. -/
def FBC_XCVR_VCAN_UV : Fld := ⟨FBC_XCVR, 24, 24⟩

/-- `FBC_NETn_STATUS` (R368). -/
def FBC_NETn_STATUS : Reg := { base := 0x47000100, s1 := 0x10, n1 := 16, reset := 0x3 }
/-- `FBC_NETn_STATUS.STATE`. -/
def FBC_NETn_STATUS_STATE : Fld := ⟨FBC_NETn_STATUS, 1, 0⟩
/-- `FBC_NETn_STATUS.NEED`. -/
def FBC_NETn_STATUS_NEED : Fld := ⟨FBC_NETn_STATUS, 2, 2⟩
/-- `FBC_NETn_STATUS.SENDING`. -/
def FBC_NETn_STATUS_SENDING : Fld := ⟨FBC_NETn_STATUS, 3, 3⟩
/-- `FBC_NETn_STATUS.WAKE`. -/
def FBC_NETn_STATUS_WAKE : Fld := ⟨FBC_NETn_STATUS, 7, 4⟩
/-- `FBC_NETn_STATUS.LEFT`. -/
def FBC_NETn_STATUS_LEFT : Fld := ⟨FBC_NETn_STATUS, 31, 16⟩

/-- `FBC_NETn_LAST` (R368). -/
def FBC_NETn_LAST : Reg := { base := 0x47000104, s1 := 0x10, n1 := 16, reset := 0xFFFF, rc := 0xFFFF0000 }
/-- `FBC_NETn_LAST.NODE`. -/
def FBC_NETn_LAST_NODE : Fld := ⟨FBC_NETn_LAST, 15, 0⟩
/-- `FBC_NETn_LAST.COUNT`. -/
def FBC_NETn_LAST_COUNT : Fld := ⟨FBC_NETn_LAST, 31, 16⟩

/-- `FBC_CANc_TXSTATb_0` (R368). -/
def FBC_CANc_TXSTATb_0 : Reg := { base := 0x4710E000, s1 := 0x10000, n1 := 8, s2 := 0x10, n2 := 64 }
/-- `FBC_CANc_TXSTATb_0.STATUS`. -/
def FBC_CANc_TXSTATb_0_STATUS : Fld := ⟨FBC_CANc_TXSTATb_0, 15, 0⟩
/-- `FBC_CANc_TXSTATb_0.DONE`. -/
def FBC_CANc_TXSTATb_0_DONE : Fld := ⟨FBC_CANc_TXSTATb_0, 16, 16⟩
/-- `FBC_CANc_TXSTATb_0.PENDING`. -/
def FBC_CANc_TXSTATb_0_PENDING : Fld := ⟨FBC_CANc_TXSTATb_0, 17, 17⟩
/-- `FBC_CANc_TXSTATb_0.REPL`. -/
def FBC_CANc_TXSTATb_0_REPL : Fld := ⟨FBC_CANc_TXSTATb_0, 31, 24⟩

/-- `FBC_CANc_TXSTATb_TIME_LO` (R368). -/
def FBC_CANc_TXSTATb_TIME_LO : Reg := { base := 0x4710E004, s1 := 0x10000, n1 := 8, s2 := 0x10, n2 := 64, mwLen := 2 }
/-- `FBC_CANc_TXSTATb_TIME_LO.TIME`. -/
def FBC_CANc_TXSTATb_TIME_LO_TIME : Fld := ⟨FBC_CANc_TXSTATb_TIME_LO, 31, 0⟩

/-- `FBC_CANc_TXSTATb_TIME_HI` (R368). -/
def FBC_CANc_TXSTATb_TIME_HI : Reg := { base := 0x4710E008, s1 := 0x10000, n1 := 8, s2 := 0x10, n2 := 64, mwLen := 2, mwPos := 1 }
/-- `FBC_CANc_TXSTATb_TIME_HI.TIME`. -/
def FBC_CANc_TXSTATb_TIME_HI_TIME : Fld := ⟨FBC_CANc_TXSTATb_TIME_HI, 31, 0⟩

/-- `FBC_CANc_TXSTATb_3` (R368). -/
def FBC_CANc_TXSTATb_3 : Reg := { base := 0x4710E00C, s1 := 0x10000, n1 := 8, s2 := 0x10, n2 := 64 }
/-- `FBC_CANc_TXSTATb_3.ATTEMPTS`. -/
def FBC_CANc_TXSTATb_3_ATTEMPTS : Fld := ⟨FBC_CANc_TXSTATb_3, 15, 0⟩

/-- `FBC_CANc_TXREQ_LO` (R368). -/
def FBC_CANc_TXREQ_LO : Reg := { base := 0x4710F000, s1 := 0x10000, n1 := 8, w1s := 0xFFFFFFFF }
/-- `FBC_CANc_TXREQ_LO.REQ`. -/
def FBC_CANc_TXREQ_LO_REQ : Fld := ⟨FBC_CANc_TXREQ_LO, 31, 0⟩

/-- `FBC_CANc_TXREQ_HI` (R368). -/
def FBC_CANc_TXREQ_HI : Reg := { base := 0x4710F004, s1 := 0x10000, n1 := 8, w1s := 0xFFFFFFFF }
/-- `FBC_CANc_TXREQ_HI.REQ`. -/
def FBC_CANc_TXREQ_HI_REQ : Fld := ⟨FBC_CANc_TXREQ_HI, 31, 0⟩

/-- `FBC_CANc_TXABORT_LO` (R368). -/
def FBC_CANc_TXABORT_LO : Reg := { base := 0x4710F008, s1 := 0x10000, n1 := 8, w1s := 0xFFFFFFFF }
/-- `FBC_CANc_TXABORT_LO.ABORT`. -/
def FBC_CANc_TXABORT_LO_ABORT : Fld := ⟨FBC_CANc_TXABORT_LO, 31, 0⟩

/-- `FBC_CANc_TXABORT_HI` (R368). -/
def FBC_CANc_TXABORT_HI : Reg := { base := 0x4710F00C, s1 := 0x10000, n1 := 8, w1s := 0xFFFFFFFF }
/-- `FBC_CANc_TXABORT_HI.ABORT`. -/
def FBC_CANc_TXABORT_HI_ABORT : Fld := ⟨FBC_CANc_TXABORT_HI, 31, 0⟩

/-- `FBC_CANc_TXPEND_LO` (R368). -/
def FBC_CANc_TXPEND_LO : Reg := { base := 0x4710F010, s1 := 0x10000, n1 := 8, mwLen := 2 }
/-- `FBC_CANc_TXPEND_LO.PEND`. -/
def FBC_CANc_TXPEND_LO_PEND : Fld := ⟨FBC_CANc_TXPEND_LO, 31, 0⟩

/-- `FBC_CANc_TXPEND_HI` (R368). -/
def FBC_CANc_TXPEND_HI : Reg := { base := 0x4710F014, s1 := 0x10000, n1 := 8, mwLen := 2, mwPos := 1 }
/-- `FBC_CANc_TXPEND_HI.PEND`. -/
def FBC_CANc_TXPEND_HI_PEND : Fld := ⟨FBC_CANc_TXPEND_HI, 31, 0⟩

/-- `FBC_CANc_SCHED_LO` (R368). -/
def FBC_CANc_SCHED_LO : Reg := { base := 0x4710F018, s1 := 0x10000, n1 := 8, rw := 0xFFFFFFFF, mwLen := 2 }
/-- `FBC_CANc_SCHED_LO.SCHED`. -/
def FBC_CANc_SCHED_LO_SCHED : Fld := ⟨FBC_CANc_SCHED_LO, 31, 0⟩

/-- `FBC_CANc_SCHED_HI` (R368). -/
def FBC_CANc_SCHED_HI : Reg := { base := 0x4710F01C, s1 := 0x10000, n1 := 8, rw := 0xFFFFFFFF, mwLen := 2, mwPos := 1 }
/-- `FBC_CANc_SCHED_HI.SCHED`. -/
def FBC_CANc_SCHED_HI_SCHED : Fld := ⟨FBC_CANc_SCHED_HI, 31, 0⟩

/-- `FBC_CANc_RXF_WIDX` (R368). -/
def FBC_CANc_RXF_WIDX : Reg := { base := 0x4710F020, s1 := 0x10000, n1 := 8 }
/-- `FBC_CANc_RXF_WIDX.INDEX`. -/
def FBC_CANc_RXF_WIDX_INDEX : Fld := ⟨FBC_CANc_RXF_WIDX, 6, 0⟩

/-- `FBC_CANc_RXF_RIDX` (R368). -/
def FBC_CANc_RXF_RIDX : Reg := { base := 0x4710F024, s1 := 0x10000, n1 := 8, rw := 0x7F }
/-- `FBC_CANc_RXF_RIDX.INDEX`. -/
def FBC_CANc_RXF_RIDX_INDEX : Fld := ⟨FBC_CANc_RXF_RIDX, 6, 0⟩

/-- `FBC_CANc_ERR` (R368). -/
def FBC_CANc_ERR : Reg := { base := 0x4710F030, s1 := 0x10000, n1 := 8 }
/-- `FBC_CANc_ERR.TEC`. -/
def FBC_CANc_ERR_TEC : Fld := ⟨FBC_CANc_ERR, 7, 0⟩
/-- `FBC_CANc_ERR.REC`. -/
def FBC_CANc_ERR_REC : Fld := ⟨FBC_CANc_ERR, 15, 8⟩
/-- `FBC_CANc_ERR.STATE`. -/
def FBC_CANc_ERR_STATE : Fld := ⟨FBC_CANc_ERR, 17, 16⟩
/-- `FBC_CANc_ERR.COUNTING`. -/
def FBC_CANc_ERR_COUNTING : Fld := ⟨FBC_CANc_ERR, 18, 18⟩
/-- `FBC_CANc_ERR.OCC`. -/
def FBC_CANc_ERR_OCC : Fld := ⟨FBC_CANc_ERR, 25, 19⟩

/-- `FBC_CANc_CTRL` (R368). -/
def FBC_CANc_CTRL : Reg := { base := 0x4710F034, s1 := 0x10000, n1 := 8, wo := 0x1 }
/-- `FBC_CANc_CTRL.RECOVER`. -/
def FBC_CANc_CTRL_RECOVER : Fld := ⟨FBC_CANc_CTRL, 0, 0⟩

/-- `FBC_CANc_COLL_ID` (R368). -/
def FBC_CANc_COLL_ID : Reg := { base := 0x4710F038, s1 := 0x10000, n1 := 8 }
/-- `FBC_CANc_COLL_ID.ID`. -/
def FBC_CANc_COLL_ID_ID : Fld := ⟨FBC_CANc_COLL_ID, 31, 0⟩

/-- `FBC_CANc_COLL_CNT` (R368). -/
def FBC_CANc_COLL_CNT : Reg := { base := 0x4710F03C, s1 := 0x10000, n1 := 8, rc := 0xFFFF }
/-- `FBC_CANc_COLL_CNT.COUNT`. -/
def FBC_CANc_COLL_CNT_COUNT : Fld := ⟨FBC_CANc_COLL_CNT, 15, 0⟩

/-- `FBC_CANc_EVT` (R368). -/
def FBC_CANc_EVT : Reg := { base := 0x4710F040, s1 := 0x10000, n1 := 8, w1c := 0x7F }
/-- `FBC_CANc_EVT.TXDONE`. -/
def FBC_CANc_EVT_TXDONE : Fld := ⟨FBC_CANc_EVT, 0, 0⟩
/-- `FBC_CANc_EVT.RXNE`. -/
def FBC_CANc_EVT_RXNE : Fld := ⟨FBC_CANc_EVT, 1, 1⟩
/-- `FBC_CANc_EVT.RXOVF`. -/
def FBC_CANc_EVT_RXOVF : Fld := ⟨FBC_CANc_EVT, 2, 2⟩
/-- `FBC_CANc_EVT.EPASS`. -/
def FBC_CANc_EVT_EPASS : Fld := ⟨FBC_CANc_EVT, 3, 3⟩
/-- `FBC_CANc_EVT.BOFF`. -/
def FBC_CANc_EVT_BOFF : Fld := ⟨FBC_CANc_EVT, 4, 4⟩
/-- `FBC_CANc_EVT.BOFF_END`. -/
def FBC_CANc_EVT_BOFF_END : Fld := ⟨FBC_CANc_EVT, 5, 5⟩
/-- `FBC_CANc_EVT.COLL`. -/
def FBC_CANc_EVT_COLL : Fld := ⟨FBC_CANc_EVT, 6, 6⟩

/-- `FBC_CANc_EVT_EN` (R368). -/
def FBC_CANc_EVT_EN : Reg := { base := 0x4710F044, s1 := 0x10000, n1 := 8, rw := 0x7F }
/-- `FBC_CANc_EVT_EN.TXDONE`. -/
def FBC_CANc_EVT_EN_TXDONE : Fld := ⟨FBC_CANc_EVT_EN, 0, 0⟩
/-- `FBC_CANc_EVT_EN.RXNE`. -/
def FBC_CANc_EVT_EN_RXNE : Fld := ⟨FBC_CANc_EVT_EN, 1, 1⟩
/-- `FBC_CANc_EVT_EN.RXOVF`. -/
def FBC_CANc_EVT_EN_RXOVF : Fld := ⟨FBC_CANc_EVT_EN, 2, 2⟩
/-- `FBC_CANc_EVT_EN.EPASS`. -/
def FBC_CANc_EVT_EN_EPASS : Fld := ⟨FBC_CANc_EVT_EN, 3, 3⟩
/-- `FBC_CANc_EVT_EN.BOFF`. -/
def FBC_CANc_EVT_EN_BOFF : Fld := ⟨FBC_CANc_EVT_EN, 4, 4⟩
/-- `FBC_CANc_EVT_EN.BOFF_END`. -/
def FBC_CANc_EVT_EN_BOFF_END : Fld := ⟨FBC_CANc_EVT_EN, 5, 5⟩
/-- `FBC_CANc_EVT_EN.COLL`. -/
def FBC_CANc_EVT_EN_COLL : Fld := ⟨FBC_CANc_EVT_EN, 6, 6⟩

/-- `FBC_CANc_IRQ` (R368). -/
def FBC_CANc_IRQ : Reg := { base := 0x4710F048, s1 := 0x10000, n1 := 8, rw := 0xFF }
/-- `FBC_CANc_IRQ.IDENTITY`. -/
def FBC_CANc_IRQ_IDENTITY : Fld := ⟨FBC_CANc_IRQ, 7, 0⟩

/-- `FBC_CANc_CATCHf_ID` (R368). -/
def FBC_CANc_CATCHf_ID : Reg := { base := 0x4710F080, s1 := 0x10000, n1 := 8, s2 := 0x4, n2 := 8, rw := 0xFF }
/-- `FBC_CANc_CATCHf_ID.IDENTITY`. -/
def FBC_CANc_CATCHf_ID_IDENTITY : Fld := ⟨FBC_CANc_CATCHf_ID, 7, 0⟩

/-- `FBC_CANc_CNT` (R368). -/
def FBC_CANc_CNT : Reg := { base := 0x4710F050, s1 := 0x10000, n1 := 8, rc := 0xFFFFFFFF }
/-- `FBC_CANc_CNT.RX_DROP`. -/
def FBC_CANc_CNT_RX_DROP : Fld := ⟨FBC_CANc_CNT, 15, 0⟩
/-- `FBC_CANc_CNT.SCHED_MISS`. -/
def FBC_CANc_CNT_SCHED_MISS : Fld := ⟨FBC_CANc_CNT, 31, 16⟩

/-- `FBC_LINl_EVT` (R368). -/
def FBC_LINl_EVT : Reg := { base := 0x47180800, s1 := 0x1000, n1 := 4, w1c := 0x7 }
/-- `FBC_LINl_EVT.RX`. -/
def FBC_LINl_EVT_RX : Fld := ⟨FBC_LINl_EVT, 0, 0⟩
/-- `FBC_LINl_EVT.ERR`. -/
def FBC_LINl_EVT_ERR : Fld := ⟨FBC_LINl_EVT, 1, 1⟩
/-- `FBC_LINl_EVT.SLEEP`. -/
def FBC_LINl_EVT_SLEEP : Fld := ⟨FBC_LINl_EVT, 2, 2⟩

/-- `FBC_LINl_EVT_EN` (R368). -/
def FBC_LINl_EVT_EN : Reg := { base := 0x47180804, s1 := 0x1000, n1 := 4, rw := 0x7 }
/-- `FBC_LINl_EVT_EN.RX`. -/
def FBC_LINl_EVT_EN_RX : Fld := ⟨FBC_LINl_EVT_EN, 0, 0⟩
/-- `FBC_LINl_EVT_EN.ERR`. -/
def FBC_LINl_EVT_EN_ERR : Fld := ⟨FBC_LINl_EVT_EN, 1, 1⟩
/-- `FBC_LINl_EVT_EN.SLEEP`. -/
def FBC_LINl_EVT_EN_SLEEP : Fld := ⟨FBC_LINl_EVT_EN, 2, 2⟩

/-- `FBC_LINl_IRQ` (R368). -/
def FBC_LINl_IRQ : Reg := { base := 0x47180808, s1 := 0x1000, n1 := 4, rw := 0xFF }
/-- `FBC_LINl_IRQ.IDENTITY`. -/
def FBC_LINl_IRQ_IDENTITY : Fld := ⟨FBC_LINl_IRQ, 7, 0⟩

/-- The register lines of the FBC slot. -/
def regsFBC : List Reg :=
  [FBC_ID, FBC_XCVR, FBC_NETn_STATUS, FBC_NETn_LAST,
   FBC_CANc_TXSTATb_0, FBC_CANc_TXSTATb_TIME_LO, FBC_CANc_TXSTATb_TIME_HI, FBC_CANc_TXSTATb_3,
   FBC_CANc_TXREQ_LO, FBC_CANc_TXREQ_HI, FBC_CANc_TXABORT_LO, FBC_CANc_TXABORT_HI,
   FBC_CANc_TXPEND_LO, FBC_CANc_TXPEND_HI, FBC_CANc_SCHED_LO, FBC_CANc_SCHED_HI,
   FBC_CANc_RXF_WIDX, FBC_CANc_RXF_RIDX, FBC_CANc_ERR, FBC_CANc_CTRL,
   FBC_CANc_COLL_ID, FBC_CANc_COLL_CNT, FBC_CANc_EVT, FBC_CANc_EVT_EN,
   FBC_CANc_IRQ, FBC_CANc_CATCHf_ID, FBC_CANc_CNT, FBC_LINl_EVT,
   FBC_LINl_EVT_EN, FBC_LINl_IRQ]

/-- `SGW_ID` (R386). -/
def SGW_ID : Reg := { base := 0x48000000, reset := 0x482400A0 }
/-- `SGW_ID.STEPPING`. -/
def SGW_ID_STEPPING : Fld := ⟨SGW_ID, 15, 0⟩
/-- `SGW_ID.PART`. -/
def SGW_ID_PART : Fld := ⟨SGW_ID, 31, 16⟩

/-- `SGW_EVT` (R386). -/
def SGW_EVT : Reg := { base := 0x48000010, w1c := 0xF }
/-- `SGW_EVT.TIMEOUT`. -/
def SGW_EVT_TIMEOUT : Fld := ⟨SGW_EVT, 0, 0⟩
/-- `SGW_EVT.QUEUE_OVF`. -/
def SGW_EVT_QUEUE_OVF : Fld := ⟨SGW_EVT, 1, 1⟩
/-- `SGW_EVT.SAT`. -/
def SGW_EVT_SAT : Fld := ⟨SGW_EVT, 2, 2⟩
/-- `SGW_EVT.RX_REFUSED`. -/
def SGW_EVT_RX_REFUSED : Fld := ⟨SGW_EVT, 3, 3⟩

/-- `SGW_EVT_EN` (R386). -/
def SGW_EVT_EN : Reg := { base := 0x48000014, rw := 0xF }
/-- `SGW_EVT_EN.TIMEOUT`. -/
def SGW_EVT_EN_TIMEOUT : Fld := ⟨SGW_EVT_EN, 0, 0⟩
/-- `SGW_EVT_EN.QUEUE_OVF`. -/
def SGW_EVT_EN_QUEUE_OVF : Fld := ⟨SGW_EVT_EN, 1, 1⟩
/-- `SGW_EVT_EN.SAT`. -/
def SGW_EVT_EN_SAT : Fld := ⟨SGW_EVT_EN, 2, 2⟩
/-- `SGW_EVT_EN.RX_REFUSED`. -/
def SGW_EVT_EN_RX_REFUSED : Fld := ⟨SGW_EVT_EN, 3, 3⟩

/-- `SGW_CNT` (R386). -/
def SGW_CNT : Reg := { base := 0x48000020, rc := 0xFFFFFFFF }
/-- `SGW_CNT.RX_SHORT`. -/
def SGW_CNT_RX_SHORT : Fld := ⟨SGW_CNT, 7, 0⟩
/-- `SGW_CNT.RX_IP`. -/
def SGW_CNT_RX_IP : Fld := ⟨SGW_CNT, 15, 8⟩
/-- `SGW_CNT.QUEUE_OVF`. -/
def SGW_CNT_QUEUE_OVF : Fld := ⟨SGW_CNT, 31, 16⟩

/-- The register lines of the SGW slot. -/
def regsSGW : List Reg :=
  [SGW_ID, SGW_EVT, SGW_EVT_EN, SGW_CNT]

/-- `PLB_STATUS` (R401). -/
def PLB_STATUS : Reg := { base := 0x49000004 }
/-- `PLB_STATUS.UP`. -/
def PLB_STATUS_UP : Fld := ⟨PLB_STATUS, 0, 0⟩
/-- `PLB_STATUS.ROLE`. -/
def PLB_STATUS_ROLE : Fld := ⟨PLB_STATUS, 1, 1⟩
/-- `PLB_STATUS.SPEED`. -/
def PLB_STATUS_SPEED : Fld := ⟨PLB_STATUS, 4, 2⟩
/-- `PLB_STATUS.WIDTH`. -/
def PLB_STATUS_WIDTH : Fld := ⟨PLB_STATUS, 6, 5⟩
/-- `PLB_STATUS.TAGS`. -/
def PLB_STATUS_TAGS : Fld := ⟨PLB_STATUS, 14, 8⟩

/-- `PLB_EVT` (R401). -/
def PLB_EVT : Reg := { base := 0x49000010, w1c := 0x3F }
/-- `PLB_EVT.LINK`. -/
def PLB_EVT_LINK : Fld := ⟨PLB_EVT, 0, 0⟩
/-- `PLB_EVT.DISCARD`. -/
def PLB_EVT_DISCARD : Fld := ⟨PLB_EVT, 1, 1⟩
/-- `PLB_EVT.HELD_TO`. -/
def PLB_EVT_HELD_TO : Fld := ⟨PLB_EVT, 2, 2⟩
/-- `PLB_EVT.CPL_TO`. -/
def PLB_EVT_CPL_TO : Fld := ⟨PLB_EVT, 3, 3⟩
/-- `PLB_EVT.INB_MISS`. -/
def PLB_EVT_INB_MISS : Fld := ⟨PLB_EVT, 4, 4⟩
/-- `PLB_EVT.PEER_LOST`. -/
def PLB_EVT_PEER_LOST : Fld := ⟨PLB_EVT, 5, 5⟩

/-- `PLB_EVT_EN` (R401). -/
def PLB_EVT_EN : Reg := { base := 0x49000014, rw := 0x3F }
/-- `PLB_EVT_EN.LINK`. -/
def PLB_EVT_EN_LINK : Fld := ⟨PLB_EVT_EN, 0, 0⟩
/-- `PLB_EVT_EN.DISCARD`. -/
def PLB_EVT_EN_DISCARD : Fld := ⟨PLB_EVT_EN, 1, 1⟩
/-- `PLB_EVT_EN.HELD_TO`. -/
def PLB_EVT_EN_HELD_TO : Fld := ⟨PLB_EVT_EN, 2, 2⟩
/-- `PLB_EVT_EN.CPL_TO`. -/
def PLB_EVT_EN_CPL_TO : Fld := ⟨PLB_EVT_EN, 3, 3⟩
/-- `PLB_EVT_EN.INB_MISS`. -/
def PLB_EVT_EN_INB_MISS : Fld := ⟨PLB_EVT_EN, 4, 4⟩
/-- `PLB_EVT_EN.PEER_LOST`. -/
def PLB_EVT_EN_PEER_LOST : Fld := ⟨PLB_EVT_EN, 5, 5⟩

/-- `PLB_DISC_STATUS` (R401). -/
def PLB_DISC_STATUS : Reg := { base := 0x49000020, w1c := 0x10 }
/-- `PLB_DISC_STATUS.COUNT`. -/
def PLB_DISC_STATUS_COUNT : Fld := ⟨PLB_DISC_STATUS, 3, 0⟩
/-- `PLB_DISC_STATUS.OVF`. -/
def PLB_DISC_STATUS_OVF : Fld := ⟨PLB_DISC_STATUS, 4, 4⟩

/-- `PLB_DISC_INFO` (R401). -/
def PLB_DISC_INFO : Reg := { base := 0x49000024, mwLen := 3 }
/-- `PLB_DISC_INFO.LENGTH`. -/
def PLB_DISC_INFO_LENGTH : Fld := ⟨PLB_DISC_INFO, 9, 0⟩
/-- `PLB_DISC_INFO.WINDOW`. -/
def PLB_DISC_INFO_WINDOW : Fld := ⟨PLB_DISC_INFO, 19, 16⟩
/-- `PLB_DISC_INFO.VALID`. -/
def PLB_DISC_INFO_VALID : Fld := ⟨PLB_DISC_INFO, 31, 31⟩

/-- `PLB_DISC_ADDR_LO` (R401). -/
def PLB_DISC_ADDR_LO : Reg := { base := 0x49000028, mwLen := 3, mwPos := 1 }
/-- `PLB_DISC_ADDR_LO.ADDR`. -/
def PLB_DISC_ADDR_LO_ADDR : Fld := ⟨PLB_DISC_ADDR_LO, 31, 0⟩

/-- `PLB_DISC_ADDR_HI` (R401). -/
def PLB_DISC_ADDR_HI : Reg := { base := 0x4900002C, mwLen := 3, mwPos := 2 }
/-- `PLB_DISC_ADDR_HI.ADDR`. -/
def PLB_DISC_ADDR_HI_ADDR : Fld := ⟨PLB_DISC_ADDR_HI, 7, 0⟩

/-- `PLB_HB_CTRL` (R401). -/
def PLB_HB_CTRL : Reg := { base := 0x49000030, rw := 0x1 }
/-- `PLB_HB_CTRL.ACTIVE`. -/
def PLB_HB_CTRL_ACTIVE : Fld := ⟨PLB_HB_CTRL, 0, 0⟩

/-- `PLB_HB_RX` (R401). -/
def PLB_HB_RX : Reg := { base := 0x49000034 }
/-- `PLB_HB_RX.COUNT`. -/
def PLB_HB_RX_COUNT : Fld := ⟨PLB_HB_RX, 15, 0⟩
/-- `PLB_HB_RX.ACTIVE`. -/
def PLB_HB_RX_ACTIVE : Fld := ⟨PLB_HB_RX, 16, 16⟩

/-- `PLB_MSIX_SEND` (R401). -/
def PLB_MSIX_SEND : Reg := { base := 0x49000040, wo := 0x3F }
/-- `PLB_MSIX_SEND.VECTOR`. -/
def PLB_MSIX_SEND_VECTOR : Fld := ⟨PLB_MSIX_SEND, 5, 0⟩

/-- The register lines of the PLB slot. -/
def regsPLB : List Reg :=
  [PLB_STATUS, PLB_EVT, PLB_EVT_EN, PLB_DISC_STATUS,
   PLB_DISC_INFO, PLB_DISC_ADDR_LO, PLB_DISC_ADDR_HI, PLB_HB_CTRL,
   PLB_HB_RX, PLB_MSIX_SEND]

end Sys2Proof.Machine
end

