-- ==== Sys2Proof/Machine/RegsPda.lean ====
section
/-! DEFINITION. The registers of the slots PDA, PE: one descriptor a register and one a field,
as the register lines and tables of spec/ give them (the rule is the one that opens the register list). -/

namespace Sys2Proof.Machine

/-- `PDA_ID` (R81). -/
def PDA_ID : Reg := { base := 0x43000000, reset := 0x482400A0 }
/-- `PDA_ID.STEPPING`. -/
def PDA_ID_STEPPING : Fld := ⟨PDA_ID, 15, 0⟩
/-- `PDA_ID.PART`. -/
def PDA_ID_PART : Fld := ⟨PDA_ID, 31, 16⟩

/-- `PDA_CP_STATUS` (R81). -/
def PDA_CP_STATUS : Reg := { base := 0x43000010 }
/-- `PDA_CP_STATUS.CP_OK`. -/
def PDA_CP_STATUS_CP_OK : Fld := ⟨PDA_CP_STATUS, 0, 0⟩
/-- `PDA_CP_STATUS.UV_DEFER`. -/
def PDA_CP_STATUS_UV_DEFER : Fld := ⟨PDA_CP_STATUS, 1, 1⟩
/-- `PDA_CP_STATUS.UV_OFF`. -/
def PDA_CP_STATUS_UV_OFF : Fld := ⟨PDA_CP_STATUS, 2, 2⟩

/-- `PDA_CH_EVT_LO` (R81). -/
def PDA_CH_EVT_LO : Reg := { base := 0x43000020, w1c := 0xFFFFFFFF }
/-- `PDA_CH_EVT_LO.EVT`. -/
def PDA_CH_EVT_LO_EVT : Fld := ⟨PDA_CH_EVT_LO, 31, 0⟩

/-- `PDA_CH_EVT_HI` (R81). -/
def PDA_CH_EVT_HI : Reg := { base := 0x43000024, w1c := 0xFFFFFFFF }
/-- `PDA_CH_EVT_HI.EVT`. -/
def PDA_CH_EVT_HI_EVT : Fld := ⟨PDA_CH_EVT_HI, 31, 0⟩

/-- `PDA_CH_IRQ_EN_LO` (R81). -/
def PDA_CH_IRQ_EN_LO : Reg := { base := 0x43000028, rw := 0xFFFFFFFF }
/-- `PDA_CH_IRQ_EN_LO.EN`. -/
def PDA_CH_IRQ_EN_LO_EN : Fld := ⟨PDA_CH_IRQ_EN_LO, 31, 0⟩

/-- `PDA_CH_IRQ_EN_HI` (R81). -/
def PDA_CH_IRQ_EN_HI : Reg := { base := 0x4300002C, rw := 0xFFFFFFFF }
/-- `PDA_CH_IRQ_EN_HI.EN`. -/
def PDA_CH_IRQ_EN_HI_EN : Fld := ⟨PDA_CH_IRQ_EN_HI, 31, 0⟩

/-- `PDA_SENSEOUTk_CFG` (R81). -/
def PDA_SENSEOUTk_CFG : Reg := { base := 0x43000040, s1 := 0x4, n1 := 4, rw := 0xFF }
/-- `PDA_SENSEOUTk_CFG.CHANNEL`. -/
def PDA_SENSEOUTk_CFG_CHANNEL : Fld := ⟨PDA_SENSEOUTk_CFG, 5, 0⟩
/-- `PDA_SENSEOUTk_CFG.SOURCE`. -/
def PDA_SENSEOUTk_CFG_SOURCE : Fld := ⟨PDA_SENSEOUTk_CFG, 7, 6⟩

/-- `PDA_SENSEOUTk_FS` (R81). -/
def PDA_SENSEOUTk_FS : Reg := { base := 0x43000050, s1 := 0x4, n1 := 4, reset := 0x100000, rw := 0xFFFFFFFF }
/-- `PDA_SENSEOUTk_FS.FS`. -/
def PDA_SENSEOUTk_FS_FS : Fld := ⟨PDA_SENSEOUTk_FS, 31, 0⟩

/-- `PDA_LIMP_STATUS` (R81). -/
def PDA_LIMP_STATUS : Reg := { base := 0x43000060 }
/-- `PDA_LIMP_STATUS.LIMP_PIN`. -/
def PDA_LIMP_STATUS_LIMP_PIN : Fld := ⟨PDA_LIMP_STATUS, 0, 0⟩
/-- `PDA_LIMP_STATUS.LIMP_ACTIVE`. -/
def PDA_LIMP_STATUS_LIMP_ACTIVE : Fld := ⟨PDA_LIMP_STATUS, 1, 1⟩
/-- `PDA_LIMP_STATUS.LH`. -/
def PDA_LIMP_STATUS_LH : Fld := ⟨PDA_LIMP_STATUS, 15, 8⟩

/-- `PDA_CHn_CTRL` (R81). -/
def PDA_CHn_CTRL : Reg := { base := 0x43001000, s1 := 0x40, n1 := 64, reset := 0x223F0, rw := 0x3FFFF }
/-- `PDA_CHn_CTRL.REQ`. -/
def PDA_CHn_CTRL_REQ : Fld := ⟨PDA_CHn_CTRL, 1, 0⟩
/-- `PDA_CHn_CTRL.FAST_OFF`. -/
def PDA_CHn_CTRL_FAST_OFF : Fld := ⟨PDA_CHn_CTRL, 2, 2⟩
/-- `PDA_CHn_CTRL.B2B`. -/
def PDA_CHn_CTRL_B2B : Fld := ⟨PDA_CHn_CTRL, 3, 3⟩
/-- `PDA_CHn_CTRL.CEIL_CODE`. -/
def PDA_CHn_CTRL_CEIL_CODE : Fld := ⟨PDA_CHn_CTRL, 9, 4⟩
/-- `PDA_CHn_CTRL.SRC_CODE`. -/
def PDA_CHn_CTRL_SRC_CODE : Fld := ⟨PDA_CHn_CTRL, 13, 10⟩
/-- `PDA_CHn_CTRL.SINK_CODE`. -/
def PDA_CHn_CTRL_SINK_CODE : Fld := ⟨PDA_CHn_CTRL, 17, 14⟩

/-- `PDA_CHn_STATUS` (R81). -/
def PDA_CHn_STATUS : Reg := { base := 0x43001004, s1 := 0x40, n1 := 64 }
/-- `PDA_CHn_STATUS.STATE`. -/
def PDA_CHn_STATUS_STATE : Fld := ⟨PDA_CHn_STATUS, 7, 0⟩
/-- `PDA_CHn_STATUS.LIMP_CTRL`. -/
def PDA_CHn_STATUS_LIMP_CTRL : Fld := ⟨PDA_CHn_STATUS, 8, 8⟩
/-- `PDA_CHn_STATUS.HELD`. -/
def PDA_CHn_STATUS_HELD : Fld := ⟨PDA_CHn_STATUS, 9, 9⟩
/-- `PDA_CHn_STATUS.THERMAL_LATCH`. -/
def PDA_CHn_STATUS_THERMAL_LATCH : Fld := ⟨PDA_CHn_STATUS, 10, 10⟩
/-- `PDA_CHn_STATUS.OFFDIAG`. -/
def PDA_CHn_STATUS_OFFDIAG : Fld := ⟨PDA_CHn_STATUS, 11, 11⟩
/-- `PDA_CHn_STATUS.RETRY_LEFT`. -/
def PDA_CHn_STATUS_RETRY_LEFT : Fld := ⟨PDA_CHn_STATUS, 19, 16⟩

/-- `PDA_CHn_FAULT` (R81). -/
def PDA_CHn_FAULT : Reg := { base := 0x43001008, s1 := 0x40, n1 := 64, w1c := 0x7FFFF }
/-- `PDA_CHn_FAULT.FAULT`. -/
def PDA_CHn_FAULT_FAULT : Fld := ⟨PDA_CHn_FAULT, 18, 0⟩

/-- `PDA_CHn_PWM_PERIOD` (R81). -/
def PDA_CHn_PWM_PERIOD : Reg := { base := 0x4300100C, s1 := 0x40, n1 := 64, reset := 0xF4240, rw := 0xFFFFFFFF }
/-- `PDA_CHn_PWM_PERIOD.PERIOD`. -/
def PDA_CHn_PWM_PERIOD_PERIOD : Fld := ⟨PDA_CHn_PWM_PERIOD, 31, 0⟩

/-- `PDA_CHn_PWM_DUTY` (R81). -/
def PDA_CHn_PWM_DUTY : Reg := { base := 0x43001010, s1 := 0x40, n1 := 64, rw := 0xFFFFFFFF }
/-- `PDA_CHn_PWM_DUTY.DUTY_SET`. -/
def PDA_CHn_PWM_DUTY_DUTY_SET : Fld := ⟨PDA_CHn_PWM_DUTY, 15, 0⟩
/-- `PDA_CHn_PWM_DUTY.PHASE`. -/
def PDA_CHn_PWM_DUTY_PHASE : Fld := ⟨PDA_CHn_PWM_DUTY, 31, 16⟩

/-- `PDA_CHn_PWM_CFG` (R81). -/
def PDA_CHn_PWM_CFG : Reg := { base := 0x43001014, s1 := 0x40, n1 := 64, rw := 0xFFFFFFFF }
/-- `PDA_CHn_PWM_CFG.VNOM`. -/
def PDA_CHn_PWM_CFG_VNOM : Fld := ⟨PDA_CHn_PWM_CFG, 15, 0⟩
/-- `PDA_CHn_PWM_CFG.MINON`. -/
def PDA_CHn_PWM_CFG_MINON : Fld := ⟨PDA_CHn_PWM_CFG, 31, 16⟩

/-- `PDA_CHn_PWM_APPLIED` (R81). -/
def PDA_CHn_PWM_APPLIED : Reg := { base := 0x43001018, s1 := 0x40, n1 := 64 }
/-- `PDA_CHn_PWM_APPLIED.DUTY_APPLIED`. -/
def PDA_CHn_PWM_APPLIED_DUTY_APPLIED : Fld := ⟨PDA_CHn_PWM_APPLIED, 15, 0⟩
/-- `PDA_CHn_PWM_APPLIED.COMP_HOLD`. -/
def PDA_CHn_PWM_APPLIED_COMP_HOLD : Fld := ⟨PDA_CHn_PWM_APPLIED, 16, 16⟩

/-- `PDA_CHn_DIAG_OFF` (R81). -/
def PDA_CHn_DIAG_OFF : Reg := { base := 0x4300101C, s1 := 0x40, n1 := 64, reset := 0x19190, rw := 0x7FFFF }
/-- `PDA_CHn_DIAG_OFF.PU_SEL`. -/
def PDA_CHn_DIAG_OFF_PU_SEL : Fld := ⟨PDA_CHn_DIAG_OFF, 1, 0⟩
/-- `PDA_CHn_DIAG_OFF.INTERVAL`. -/
def PDA_CHn_DIAG_OFF_INTERVAL : Fld := ⟨PDA_CHn_DIAG_OFF, 11, 2⟩
/-- `PDA_CHn_DIAG_OFF.SETTLE`. -/
def PDA_CHn_DIAG_OFF_SETTLE : Fld := ⟨PDA_CHn_DIAG_OFF, 15, 12⟩
/-- `PDA_CHn_DIAG_OFF.COUNT`. -/
def PDA_CHn_DIAG_OFF_COUNT : Fld := ⟨PDA_CHn_DIAG_OFF, 18, 16⟩

/-- `PDA_CHn_DIAG_ON` (R81). -/
def PDA_CHn_DIAG_ON : Reg := { base := 0x43001020, s1 := 0x40, n1 := 64, reset := 0x64143, rw := 0x3FFFFF }
/-- `PDA_CHn_DIAG_ON.DESAT`. -/
def PDA_CHn_DIAG_ON_DESAT : Fld := ⟨PDA_CHn_DIAG_ON, 3, 0⟩
/-- `PDA_CHn_DIAG_ON.BLANK`. -/
def PDA_CHn_DIAG_ON_BLANK : Fld := ⟨PDA_CHn_DIAG_ON, 11, 4⟩
/-- `PDA_CHn_DIAG_ON.OLON_T`. -/
def PDA_CHn_DIAG_ON_OLON_T : Fld := ⟨PDA_CHn_DIAG_ON, 21, 12⟩

/-- `PDA_CHn_THRESH` (R81). -/
def PDA_CHn_THRESH : Reg := { base := 0x43001024, s1 := 0x40, n1 := 64, reset := 0xA050000, rw := 0xFFFFFFFF }
/-- `PDA_CHn_THRESH.I_OLON`. -/
def PDA_CHn_THRESH_I_OLON : Fld := ⟨PDA_CHn_THRESH, 15, 0⟩
/-- `PDA_CHn_THRESH.I_STUCK`. -/
def PDA_CHn_THRESH_I_STUCK : Fld := ⟨PDA_CHn_THRESH, 23, 16⟩
/-- `PDA_CHn_THRESH.I_REV`. -/
def PDA_CHn_THRESH_I_REV : Fld := ⟨PDA_CHn_THRESH, 31, 24⟩

/-- `PDA_CHn_ORPHAN` (R81). -/
def PDA_CHn_ORPHAN : Reg := { base := 0x43001028, s1 := 0x40, n1 := 64, reset := 0x190, rw := 0x7FF }
/-- `PDA_CHn_ORPHAN.ORPHAN`. -/
def PDA_CHn_ORPHAN_ORPHAN : Fld := ⟨PDA_CHn_ORPHAN, 1, 0⟩
/-- `PDA_CHn_ORPHAN.THOLD`. -/
def PDA_CHn_ORPHAN_THOLD : Fld := ⟨PDA_CHn_ORPHAN, 10, 2⟩

/-- `PDA_CHn_LIMP` (R81). -/
def PDA_CHn_LIMP : Reg := { base := 0x4300102C, s1 := 0x40, n1 := 64, rw := 0xFF01FF }
/-- `PDA_CHn_LIMP.LH_MASK`. -/
def PDA_CHn_LIMP_LH_MASK : Fld := ⟨PDA_CHn_LIMP, 7, 0⟩
/-- `PDA_CHn_LIMP.LIMP_ALWAYS`. -/
def PDA_CHn_LIMP_LIMP_ALWAYS : Fld := ⟨PDA_CHn_LIMP, 8, 8⟩
/-- `PDA_CHn_LIMP.LIMP_DUTY`. -/
def PDA_CHn_LIMP_LIMP_DUTY : Fld := ⟨PDA_CHn_LIMP, 23, 16⟩

/-- `PDA_CHn_LIMP_I2T` (R81). -/
def PDA_CHn_LIMP_I2T : Reg := { base := 0x43001030, s1 := 0x40, n1 := 64, rw := 0xFFFFFFFF }
/-- `PDA_CHn_LIMP_I2T.INOM`. -/
def PDA_CHn_LIMP_I2T_INOM : Fld := ⟨PDA_CHn_LIMP_I2T, 15, 0⟩
/-- `PDA_CHn_LIMP_I2T.LIMIT`. -/
def PDA_CHn_LIMP_I2T_LIMIT : Fld := ⟨PDA_CHn_LIMP_I2T, 31, 16⟩

/-- `PDA_CHn_PROFILE` (R81). -/
def PDA_CHn_PROFILE : Reg := { base := 0x43001034, s1 := 0x40, n1 := 64 }
/-- `PDA_CHn_PROFILE.PROFILE`. -/
def PDA_CHn_PROFILE_PROFILE : Fld := ⟨PDA_CHn_PROFILE, 15, 0⟩

/-- `PDA_PROFILEp` (R121). -/
def PDA_PROFILEp : Reg := { base := 0x43010000, s1 := 0x80, n1 := 128, s2 := 0x4, n2 := 32 }
/-- `PDA_PROFILEp.REC`. -/
def PDA_PROFILEp_REC : Fld := ⟨PDA_PROFILEp, 31, 0⟩

/-- `PDA_CHn_INRUSH` (R121). -/
def PDA_CHn_INRUSH : Reg := { base := 0x43002000, s1 := 0x20, n1 := 64 }
/-- `PDA_CHn_INRUSH.CLOCK`. -/
def PDA_CHn_INRUSH_CLOCK : Fld := ⟨PDA_CHn_INRUSH, 19, 0⟩
/-- `PDA_CHn_INRUSH.IN_WINDOW`. -/
def PDA_CHn_INRUSH_IN_WINDOW : Fld := ⟨PDA_CHn_INRUSH, 20, 20⟩
/-- `PDA_CHn_INRUSH.PAUSED`. -/
def PDA_CHn_INRUSH_PAUSED : Fld := ⟨PDA_CHn_INRUSH, 21, 21⟩

/-- `PDA_CHn_I2T` (R121). -/
def PDA_CHn_I2T : Reg := { base := 0x43002004, s1 := 0x20, n1 := 64 }
/-- `PDA_CHn_I2T.B`. -/
def PDA_CHn_I2T_B : Fld := ⟨PDA_CHn_I2T, 31, 0⟩

/-- `PDA_CHn_RISE` (R121). -/
def PDA_CHn_RISE : Reg := { base := 0x43002008, s1 := 0x20, n1 := 64 }
/-- `PDA_CHn_RISE.RISE`. -/
def PDA_CHn_RISE_RISE : Fld := ⟨PDA_CHn_RISE, 31, 0⟩

/-- `PDA_CHn_TJ` (R121). -/
def PDA_CHn_TJ : Reg := { base := 0x4300200C, s1 := 0x20, n1 := 64 }
/-- `PDA_CHn_TJ.TJ`. -/
def PDA_CHn_TJ_TJ : Fld := ⟨PDA_CHn_TJ, 31, 0⟩

/-- `PDA_CHn_TW` (R121). -/
def PDA_CHn_TW : Reg := { base := 0x43002010, s1 := 0x20, n1 := 64 }
/-- `PDA_CHn_TW.TW`. -/
def PDA_CHn_TW_TW : Fld := ⟨PDA_CHn_TW, 31, 0⟩

/-- `PDA_CHn_RESTART` (R121). -/
def PDA_CHn_RESTART : Reg := { base := 0x43002014, s1 := 0x20, n1 := 64 }
/-- `PDA_CHn_RESTART.DELAY_LEFT`. -/
def PDA_CHn_RESTART_DELAY_LEFT : Fld := ⟨PDA_CHn_RESTART, 15, 0⟩
/-- `PDA_CHn_RESTART.USED`. -/
def PDA_CHn_RESTART_USED : Fld := ⟨PDA_CHn_RESTART, 19, 16⟩
/-- `PDA_CHn_RESTART.PENDING`. -/
def PDA_CHn_RESTART_PENDING : Fld := ⟨PDA_CHn_RESTART, 20, 20⟩
/-- `PDA_CHn_RESTART.LATCH_WAIT`. -/
def PDA_CHn_RESTART_LATCH_WAIT : Fld := ⟨PDA_CHn_RESTART, 21, 21⟩
/-- `PDA_CHn_RESTART.CP_WAIT`. -/
def PDA_CHn_RESTART_CP_WAIT : Fld := ⟨PDA_CHn_RESTART, 22, 22⟩

/-- `PDA_CHn_PAUSE` (R121). -/
def PDA_CHn_PAUSE : Reg := { base := 0x43002018, s1 := 0x20, n1 := 64 }
/-- `PDA_CHn_PAUSE.LAST`. -/
def PDA_CHn_PAUSE_LAST : Fld := ⟨PDA_CHn_PAUSE, 23, 0⟩
/-- `PDA_CHn_PAUSE.COUNT`. -/
def PDA_CHn_PAUSE_COUNT : Fld := ⟨PDA_CHn_PAUSE, 31, 24⟩

/-- `PDA_GRPk_DROOP` (R121). -/
def PDA_GRPk_DROOP : Reg := { base := 0x43003000, s1 := 0x20, n1 := 8, reset := 0x14C6, rw := 0x1FFF }
/-- `PDA_GRPk_DROOP.PCT`. -/
def PDA_GRPk_DROOP_PCT : Fld := ⟨PDA_GRPk_DROOP, 6, 0⟩
/-- `PDA_GRPk_DROOP.EN`. -/
def PDA_GRPk_DROOP_EN : Fld := ⟨PDA_GRPk_DROOP, 7, 7⟩
/-- `PDA_GRPk_DROOP.PAUSE_MAX`. -/
def PDA_GRPk_DROOP_PAUSE_MAX : Fld := ⟨PDA_GRPk_DROOP, 12, 8⟩

/-- `PDA_GRPk_STATUS` (R121). -/
def PDA_GRPk_STATUS : Reg := { base := 0x43003004, s1 := 0x20, n1 := 8 }
/-- `PDA_GRPk_STATUS.EVENT`. -/
def PDA_GRPk_STATUS_EVENT : Fld := ⟨PDA_GRPk_STATUS, 0, 0⟩
/-- `PDA_GRPk_STATUS.VREF`. -/
def PDA_GRPk_STATUS_VREF : Fld := ⟨PDA_GRPk_STATUS, 31, 16⟩

/-- `PDA_GRPk_DROOP_CNT` (R121). -/
def PDA_GRPk_DROOP_CNT : Reg := { base := 0x43003008, s1 := 0x20, n1 := 8, rc := 0xFFFF }
/-- `PDA_GRPk_DROOP_CNT.COUNT`. -/
def PDA_GRPk_DROOP_CNT_COUNT : Fld := ⟨PDA_GRPk_DROOP_CNT, 15, 0⟩

/-- `PDA_MEAS_CURn` (R146). -/
def PDA_MEAS_CURn : Reg := { base := 0x43004000, s1 := 0x10, n1 := 64, s2 := 0x4, n2 := 4, mwLen := 4, mwJ := true }
/-- `PDA_MEAS_CURn.WORD`. -/
def PDA_MEAS_CURn_WORD : Fld := ⟨PDA_MEAS_CURn, 31, 0⟩

/-- `PDA_MEAS_OUTn` (R146). -/
def PDA_MEAS_OUTn : Reg := { base := 0x43004400, s1 := 0x10, n1 := 64, s2 := 0x4, n2 := 4, mwLen := 4, mwJ := true }
/-- `PDA_MEAS_OUTn.WORD`. -/
def PDA_MEAS_OUTn_WORD : Fld := ⟨PDA_MEAS_OUTn, 31, 0⟩

/-- `PDA_MEAS_GRPk` (R146). -/
def PDA_MEAS_GRPk : Reg := { base := 0x43004800, s1 := 0x10, n1 := 8, s2 := 0x4, n2 := 4, mwLen := 4, mwJ := true }
/-- `PDA_MEAS_GRPk.WORD`. -/
def PDA_MEAS_GRPk_WORD : Fld := ⟨PDA_MEAS_GRPk, 31, 0⟩

/-- `PDA_MEAS_AINj` (R146). -/
def PDA_MEAS_AINj : Reg := { base := 0x43004900, s1 := 0x10, n1 := 12, s2 := 0x4, n2 := 4, mwLen := 4, mwJ := true }
/-- `PDA_MEAS_AINj.WORD`. -/
def PDA_MEAS_AINj_WORD : Fld := ⟨PDA_MEAS_AINj, 31, 0⟩

/-- `PDA_MEAS_INTi` (R146). -/
def PDA_MEAS_INTi : Reg := { base := 0x43004A00, s1 := 0x10, n1 := 7, s2 := 0x4, n2 := 4, mwLen := 4, mwJ := true }
/-- `PDA_MEAS_INTi.WORD`. -/
def PDA_MEAS_INTi_WORD : Fld := ⟨PDA_MEAS_INTi, 31, 0⟩

/-- `PDA_AINj_CFG` (R146). -/
def PDA_AINj_CFG : Reg := { base := 0x43004C00, s1 := 0x10, n1 := 12, reset := 0x2, resetX := [(8, 0x1), (9, 0x1), (10, 0x1), (11, 0x1)], rw := 0x3 }
/-- `PDA_AINj_CFG.MODE`. -/
def PDA_AINj_CFG_MODE : Fld := ⟨PDA_AINj_CFG, 1, 0⟩

/-- `PDA_AINj_SCALE` (R146). -/
def PDA_AINj_SCALE : Reg := { base := 0x43004C04, s1 := 0x10, n1 := 12, reset := 0x10000, rw := 0xFFFFFFFF }
/-- `PDA_AINj_SCALE.SCALE`. -/
def PDA_AINj_SCALE_SCALE : Fld := ⟨PDA_AINj_SCALE, 31, 0⟩

/-- `PDA_AINj_OFFSET` (R146). -/
def PDA_AINj_OFFSET : Reg := { base := 0x43004C08, s1 := 0x10, n1 := 12, rw := 0xFFFFFFFF }
/-- `PDA_AINj_OFFSET.OFFSET`. -/
def PDA_AINj_OFFSET_OFFSET : Fld := ⟨PDA_AINj_OFFSET, 31, 0⟩

/-- `PDA_CHn_UCAL` (R146). -/
def PDA_CHn_UCAL : Reg := { base := 0x43005000, s1 := 0x8, n1 := 64 }
/-- `PDA_CHn_UCAL.UOFS`. -/
def PDA_CHn_UCAL_UOFS : Fld := ⟨PDA_CHn_UCAL, 31, 0⟩

/-- `PDA_CHn_UGAIN` (R146). -/
def PDA_CHn_UGAIN : Reg := { base := 0x43005004, s1 := 0x8, n1 := 64, reset := 0x10000 }
/-- `PDA_CHn_UGAIN.UGAIN`. -/
def PDA_CHn_UGAIN_UGAIN : Fld := ⟨PDA_CHn_UGAIN, 31, 0⟩

/-- `PDA_STREAMs_WIDX` (R146). -/
def PDA_STREAMs_WIDX : Reg := { base := 0x43005400, s1 := 0x10, n1 := 64 }
/-- `PDA_STREAMs_WIDX.WIDX`. -/
def PDA_STREAMs_WIDX_WIDX : Fld := ⟨PDA_STREAMs_WIDX, 31, 0⟩

/-- `PDA_STREAMs_STATUS` (R146). -/
def PDA_STREAMs_STATUS : Reg := { base := 0x43005404, s1 := 0x10, n1 := 64, rc := 0xFFFF0000 }
/-- `PDA_STREAMs_STATUS.OPEN`. -/
def PDA_STREAMs_STATUS_OPEN : Fld := ⟨PDA_STREAMs_STATUS, 0, 0⟩
/-- `PDA_STREAMs_STATUS.DEST`. -/
def PDA_STREAMs_STATUS_DEST : Fld := ⟨PDA_STREAMs_STATUS, 1, 1⟩
/-- `PDA_STREAMs_STATUS.DROPS`. -/
def PDA_STREAMs_STATUS_DROPS : Fld := ⟨PDA_STREAMs_STATUS, 31, 16⟩

/-- `PDA_MEAS_LINK` (R146). -/
def PDA_MEAS_LINK : Reg := { base := 0x43005800, rc := 0xFFFF }
/-- `PDA_MEAS_LINK.HOLDS`. -/
def PDA_MEAS_LINK_HOLDS : Fld := ⟨PDA_MEAS_LINK, 15, 0⟩

/-- The register lines of the PDA slot. -/
def regsPDA : List Reg :=
  [PDA_ID, PDA_CP_STATUS, PDA_CH_EVT_LO, PDA_CH_EVT_HI,
   PDA_CH_IRQ_EN_LO, PDA_CH_IRQ_EN_HI, PDA_SENSEOUTk_CFG, PDA_SENSEOUTk_FS,
   PDA_LIMP_STATUS, PDA_CHn_CTRL, PDA_CHn_STATUS, PDA_CHn_FAULT,
   PDA_CHn_PWM_PERIOD, PDA_CHn_PWM_DUTY, PDA_CHn_PWM_CFG, PDA_CHn_PWM_APPLIED,
   PDA_CHn_DIAG_OFF, PDA_CHn_DIAG_ON, PDA_CHn_THRESH, PDA_CHn_ORPHAN,
   PDA_CHn_LIMP, PDA_CHn_LIMP_I2T, PDA_CHn_PROFILE, PDA_PROFILEp,
   PDA_CHn_INRUSH, PDA_CHn_I2T, PDA_CHn_RISE, PDA_CHn_TJ,
   PDA_CHn_TW, PDA_CHn_RESTART, PDA_CHn_PAUSE, PDA_GRPk_DROOP,
   PDA_GRPk_STATUS, PDA_GRPk_DROOP_CNT, PDA_MEAS_CURn, PDA_MEAS_OUTn,
   PDA_MEAS_GRPk, PDA_MEAS_AINj, PDA_MEAS_INTi, PDA_AINj_CFG,
   PDA_AINj_SCALE, PDA_AINj_OFFSET, PDA_CHn_UCAL, PDA_CHn_UGAIN,
   PDA_STREAMs_WIDX, PDA_STREAMs_STATUS, PDA_MEAS_LINK]

/-- `PE_ID` (R187). -/
def PE_ID : Reg := { base := 0x44000000, reset := 0x482400A0 }
/-- `PE_ID.STEPPING`. -/
def PE_ID_STEPPING : Fld := ⟨PE_ID, 15, 0⟩
/-- `PE_ID.PART`. -/
def PE_ID_PART : Fld := ⟨PE_ID, 31, 16⟩

/-- `PE_STATUS` (R187). -/
def PE_STATUS : Reg := { base := 0x44000004 }
/-- `PE_STATUS.INSERV`. -/
def PE_STATUS_INSERV : Fld := ⟨PE_STATUS, 7, 0⟩
/-- `PE_STATUS.PENNED`. -/
def PE_STATUS_PENNED : Fld := ⟨PE_STATUS, 15, 8⟩
/-- `PE_STATUS.DRAINING`. -/
def PE_STATUS_DRAINING : Fld := ⟨PE_STATUS, 23, 16⟩
/-- `PE_STATUS.REFLOW`. -/
def PE_STATUS_REFLOW : Fld := ⟨PE_STATUS, 24, 24⟩
/-- `PE_STATUS.UNPLACED_ANY`. -/
def PE_STATUS_UNPLACED_ANY : Fld := ⟨PE_STATUS, 25, 25⟩

/-- `PE_PLACE_CFG` (R187). -/
def PE_PLACE_CFG : Reg := { base := 0x44000010, reset := 0x5A, rw := 0x7F }
/-- `PE_PLACE_CFG.FILL_PCT`. -/
def PE_PLACE_CFG_FILL_PCT : Fld := ⟨PE_PLACE_CFG, 6, 0⟩

/-- `PE_PLACE_GEN` (R187). -/
def PE_PLACE_GEN : Reg := { base := 0x44000014 }
/-- `PE_PLACE_GEN.GEN`. -/
def PE_PLACE_GEN_GEN : Fld := ⟨PE_PLACE_GEN, 31, 0⟩

/-- `PE_TICK_LO` (R187). -/
def PE_TICK_LO : Reg := { base := 0x44000020, mwLen := 2 }
/-- `PE_TICK_LO.TICK`. -/
def PE_TICK_LO_TICK : Fld := ⟨PE_TICK_LO, 31, 0⟩

/-- `PE_TICK_HI` (R187). -/
def PE_TICK_HI : Reg := { base := 0x44000024, mwLen := 2, mwPos := 1 }
/-- `PE_TICK_HI.TICK`. -/
def PE_TICK_HI_TICK : Fld := ⟨PE_TICK_HI, 31, 0⟩

/-- `PE_EPp_LOAD` (R187). -/
def PE_EPp_LOAD : Reg := { base := 0x44000100, s1 := 0x10, n1 := 8 }
/-- `PE_EPp_LOAD.PEAK`. -/
def PE_EPp_LOAD_PEAK : Fld := ⟨PE_EPp_LOAD, 15, 0⟩
/-- `PE_EPp_LOAD.INWORDS`. -/
def PE_EPp_LOAD_INWORDS : Fld := ⟨PE_EPp_LOAD, 26, 16⟩

/-- `PE_EPp_OVERRUN` (R187). -/
def PE_EPp_OVERRUN : Reg := { base := 0x44000104, s1 := 0x10, n1 := 8, rc := 0xFFFF }
/-- `PE_EPp_OVERRUN.COUNT`. -/
def PE_EPp_OVERRUN_COUNT : Fld := ⟨PE_EPp_OVERRUN, 15, 0⟩

/-- `PE_TRIPLATCH_LO` (R187). -/
def PE_TRIPLATCH_LO : Reg := { base := 0x44000200, mwLen := 2 }
/-- `PE_TRIPLATCH_LO.LATCH`. -/
def PE_TRIPLATCH_LO_LATCH : Fld := ⟨PE_TRIPLATCH_LO, 31, 0⟩

/-- `PE_TRIPLATCH_HI` (R187). -/
def PE_TRIPLATCH_HI : Reg := { base := 0x44000204, mwLen := 2, mwPos := 1 }
/-- `PE_TRIPLATCH_HI.LATCH`. -/
def PE_TRIPLATCH_HI_LATCH : Fld := ⟨PE_TRIPLATCH_HI, 31, 0⟩

/-- `PE_TRIP_EVT_LO` (R187). -/
def PE_TRIP_EVT_LO : Reg := { base := 0x44000208, w1c := 0xFFFFFFFF }
/-- `PE_TRIP_EVT_LO.EVT`. -/
def PE_TRIP_EVT_LO_EVT : Fld := ⟨PE_TRIP_EVT_LO, 31, 0⟩

/-- `PE_TRIP_EVT_HI` (R187). -/
def PE_TRIP_EVT_HI : Reg := { base := 0x4400020C, w1c := 0xFFFFFFFF }
/-- `PE_TRIP_EVT_HI.EVT`. -/
def PE_TRIP_EVT_HI_EVT : Fld := ⟨PE_TRIP_EVT_HI, 31, 0⟩

/-- `PE_TRIP_IRQ_EN_LO` (R187). -/
def PE_TRIP_IRQ_EN_LO : Reg := { base := 0x44000210, rw := 0xFFFFFFFF }
/-- `PE_TRIP_IRQ_EN_LO.EN`. -/
def PE_TRIP_IRQ_EN_LO_EN : Fld := ⟨PE_TRIP_IRQ_EN_LO, 31, 0⟩

/-- `PE_TRIP_IRQ_EN_HI` (R187). -/
def PE_TRIP_IRQ_EN_HI : Reg := { base := 0x44000214, rw := 0xFFFFFFFF }
/-- `PE_TRIP_IRQ_EN_HI.EN`. -/
def PE_TRIP_IRQ_EN_HI_EN : Fld := ⟨PE_TRIP_IRQ_EN_HI, 31, 0⟩

/-- `PE_BUL_DMAC_LO` (R187). -/
def PE_BUL_DMAC_LO : Reg := { base := 0x44000300, rw := 0xFFFFFFFF, mwLen := 2 }
/-- `PE_BUL_DMAC_LO.DMAC`. -/
def PE_BUL_DMAC_LO_DMAC : Fld := ⟨PE_BUL_DMAC_LO, 31, 0⟩

/-- `PE_BUL_DMAC_HI` (R187). -/
def PE_BUL_DMAC_HI : Reg := { base := 0x44000304, rw := 0xFFFF, mwLen := 2, mwPos := 1 }
/-- `PE_BUL_DMAC_HI.DMAC`. -/
def PE_BUL_DMAC_HI_DMAC : Fld := ⟨PE_BUL_DMAC_HI, 15, 0⟩

/-- `PE_BUL_CFG` (R187). -/
def PE_BUL_CFG : Reg := { base := 0x44000308, rw := 0x1EFFF }
/-- `PE_BUL_CFG.VLAN`. -/
def PE_BUL_CFG_VLAN : Fld := ⟨PE_BUL_CFG, 11, 0⟩
/-- `PE_BUL_CFG.PCP`. -/
def PE_BUL_CFG_PCP : Fld := ⟨PE_BUL_CFG, 15, 13⟩
/-- `PE_BUL_CFG.EN`. -/
def PE_BUL_CFG_EN : Fld := ⟨PE_BUL_CFG, 16, 16⟩

/-- `PE_BUL_STATE` (R187). -/
def PE_BUL_STATE : Reg := { base := 0x4400030C }
/-- `PE_BUL_STATE.ASSERTED`. -/
def PE_BUL_STATE_ASSERTED : Fld := ⟨PE_BUL_STATE, 31, 0⟩

/-- `PE_SUBj_SRC` (R187). -/
def PE_SUBj_SRC : Reg := { base := 0x44000400, s1 := 0x10, n1 := 32, rw := 0xC01FFFFF }
/-- `PE_SUBj_SRC.NODE`. -/
def PE_SUBj_SRC_NODE : Fld := ⟨PE_SUBj_SRC, 15, 0⟩
/-- `PE_SUBj_SRC.BULLETIN`. -/
def PE_SUBj_SRC_BULLETIN : Fld := ⟨PE_SUBj_SRC, 20, 16⟩
/-- `PE_SUBj_SRC.STALE_TRIP`. -/
def PE_SUBj_SRC_STALE_TRIP : Fld := ⟨PE_SUBj_SRC, 30, 30⟩
/-- `PE_SUBj_SRC.EN`. -/
def PE_SUBj_SRC_EN : Fld := ⟨PE_SUBj_SRC, 31, 31⟩

/-- `PE_SUBj_MASK_LO` (R187). -/
def PE_SUBj_MASK_LO : Reg := { base := 0x44000404, s1 := 0x10, n1 := 32, rw := 0xFFFFFFFF, mwLen := 2 }
/-- `PE_SUBj_MASK_LO.MASK`. -/
def PE_SUBj_MASK_LO_MASK : Fld := ⟨PE_SUBj_MASK_LO, 31, 0⟩

/-- `PE_SUBj_MASK_HI` (R187). -/
def PE_SUBj_MASK_HI : Reg := { base := 0x44000408, s1 := 0x10, n1 := 32, rw := 0xFFFFFFFF, mwLen := 2, mwPos := 1 }
/-- `PE_SUBj_MASK_HI.MASK`. -/
def PE_SUBj_MASK_HI_MASK : Fld := ⟨PE_SUBj_MASK_HI, 31, 0⟩

/-- `PE_SUBj_STAT` (R187). -/
def PE_SUBj_STAT : Reg := { base := 0x4400040C, s1 := 0x10, n1 := 32 }
/-- `PE_SUBj_STAT.ASSERTED`. -/
def PE_SUBj_STAT_ASSERTED : Fld := ⟨PE_SUBj_STAT, 0, 0⟩
/-- `PE_SUBj_STAT.STALE`. -/
def PE_SUBj_STAT_STALE : Fld := ⟨PE_SUBj_STAT, 1, 1⟩
/-- `PE_SUBj_STAT.COUNT`. -/
def PE_SUBj_STAT_COUNT : Fld := ⟨PE_SUBj_STAT, 31, 16⟩

/-- `PE_INGh_STATUS` (R187). -/
def PE_INGh_STATUS : Reg := { base := 0x44000800, s1 := 0x20, n1 := 128 }
/-- `PE_INGh_STATUS.OPEN`. -/
def PE_INGh_STATUS_OPEN : Fld := ⟨PE_INGh_STATUS, 0, 0⟩
/-- `PE_INGh_STATUS.FOREIGN`. -/
def PE_INGh_STATUS_FOREIGN : Fld := ⟨PE_INGh_STATUS, 1, 1⟩
/-- `PE_INGh_STATUS.STALE`. -/
def PE_INGh_STATUS_STALE : Fld := ⟨PE_INGh_STATUS, 2, 2⟩

/-- `PE_INGh_LATE` (R187). -/
def PE_INGh_LATE : Reg := { base := 0x44000804, s1 := 0x20, n1 := 128, rc := 0xFFFF }
/-- `PE_INGh_LATE.LATE`. -/
def PE_INGh_LATE_LATE : Fld := ⟨PE_INGh_LATE, 15, 0⟩

/-- `PE_INGh_DROP` (R187). -/
def PE_INGh_DROP : Reg := { base := 0x44000808, s1 := 0x20, n1 := 128, rc := 0xFFFFFFFF }
/-- `PE_INGh_DROP.MALFORMED`. -/
def PE_INGh_DROP_MALFORMED : Fld := ⟨PE_INGh_DROP, 7, 0⟩
/-- `PE_INGh_DROP.DOMAIN`. -/
def PE_INGh_DROP_DOMAIN : Fld := ⟨PE_INGh_DROP, 15, 8⟩
/-- `PE_INGh_DROP.STALE`. -/
def PE_INGh_DROP_STALE : Fld := ⟨PE_INGh_DROP, 23, 16⟩
/-- `PE_INGh_DROP.FUTURE`. -/
def PE_INGh_DROP_FUTURE : Fld := ⟨PE_INGh_DROP, 31, 24⟩

/-- `PE_INGh_GAP` (R187). -/
def PE_INGh_GAP : Reg := { base := 0x4400080C, s1 := 0x20, n1 := 128, rc := 0xFFFF }
/-- `PE_INGh_GAP.GAPS`. -/
def PE_INGh_GAP_GAPS : Fld := ⟨PE_INGh_GAP, 15, 0⟩

/-- The register lines of the PE slot. -/
def regsPE : List Reg :=
  [PE_ID, PE_STATUS, PE_PLACE_CFG, PE_PLACE_GEN,
   PE_TICK_LO, PE_TICK_HI, PE_EPp_LOAD, PE_EPp_OVERRUN,
   PE_TRIPLATCH_LO, PE_TRIPLATCH_HI, PE_TRIP_EVT_LO, PE_TRIP_EVT_HI,
   PE_TRIP_IRQ_EN_LO, PE_TRIP_IRQ_EN_HI, PE_BUL_DMAC_LO, PE_BUL_DMAC_HI,
   PE_BUL_CFG, PE_BUL_STATE, PE_SUBj_SRC, PE_SUBj_MASK_LO,
   PE_SUBj_MASK_HI, PE_SUBj_STAT, PE_INGh_STATUS, PE_INGh_LATE,
   PE_INGh_DROP, PE_INGh_GAP]

end Sys2Proof.Machine
end

