-- ==== Sys2Proof/Machine/RegsSys.lean ====
section
/-! DEFINITION. The registers of the slots SEC, FCU, PCS, DBG: one descriptor a register and one a field,
as the register lines and tables of spec/ give them (the rule is the one that opens the register list). -/

namespace Sys2Proof.Machine

/-- `SEC_ID` (R469). -/
def SEC_ID : Reg := { base := 0x4A000000, reset := 0x482400A0 }
/-- `SEC_ID.STEPPING`. -/
def SEC_ID_STEPPING : Fld := ⟨SEC_ID, 15, 0⟩
/-- `SEC_ID.PART`. -/
def SEC_ID_PART : Fld := ⟨SEC_ID, 31, 16⟩

/-- `SEC_STATUS` (R469). -/
def SEC_STATUS : Reg := { base := 0x4A000004 }
/-- `SEC_STATUS.LC`. -/
def SEC_STATUS_LC : Fld := ⟨SEC_STATUS, 2, 0⟩
/-- `SEC_STATUS.SW_DOWN`. -/
def SEC_STATUS_SW_DOWN : Fld := ⟨SEC_STATUS, 3, 3⟩
/-- `SEC_STATUS.BOOT_FAIL`. -/
def SEC_STATUS_BOOT_FAIL : Fld := ⟨SEC_STATUS, 4, 4⟩
/-- `SEC_STATUS.FAIL_STEP`. -/
def SEC_STATUS_FAIL_STEP : Fld := ⟨SEC_STATUS, 7, 5⟩
/-- `SEC_STATUS.ROOT`. -/
def SEC_STATUS_ROOT : Fld := ⟨SEC_STATUS, 11, 8⟩
/-- `SEC_STATUS.BOOT_RB`. -/
def SEC_STATUS_BOOT_RB : Fld := ⟨SEC_STATUS, 23, 16⟩
/-- `SEC_STATUS.CFG_RB`. -/
def SEC_STATUS_CFG_RB : Fld := ⟨SEC_STATUS, 31, 24⟩

/-- `SEC_EVT` (R469). -/
def SEC_EVT : Reg := { base := 0x4A000010, w1c := 0x1F }
/-- `SEC_EVT.GK`. -/
def SEC_EVT_GK : Fld := ⟨SEC_EVT, 0, 0⟩
/-- `SEC_EVT.SW_DOWN`. -/
def SEC_EVT_SW_DOWN : Fld := ⟨SEC_EVT, 1, 1⟩
/-- `SEC_EVT.RNG_FAIL`. -/
def SEC_EVT_RNG_FAIL : Fld := ⟨SEC_EVT, 2, 2⟩
/-- `SEC_EVT.DBG_TOKEN`. -/
def SEC_EVT_DBG_TOKEN : Fld := ⟨SEC_EVT, 3, 3⟩
/-- `SEC_EVT.LC_ERR`. -/
def SEC_EVT_LC_ERR : Fld := ⟨SEC_EVT, 4, 4⟩

/-- `SEC_EVT_EN` (R469). -/
def SEC_EVT_EN : Reg := { base := 0x4A000014, rw := 0x1F }
/-- `SEC_EVT_EN.GK`. -/
def SEC_EVT_EN_GK : Fld := ⟨SEC_EVT_EN, 0, 0⟩
/-- `SEC_EVT_EN.SW_DOWN`. -/
def SEC_EVT_EN_SW_DOWN : Fld := ⟨SEC_EVT_EN, 1, 1⟩
/-- `SEC_EVT_EN.RNG_FAIL`. -/
def SEC_EVT_EN_RNG_FAIL : Fld := ⟨SEC_EVT_EN, 2, 2⟩
/-- `SEC_EVT_EN.DBG_TOKEN`. -/
def SEC_EVT_EN_DBG_TOKEN : Fld := ⟨SEC_EVT_EN, 3, 3⟩
/-- `SEC_EVT_EN.LC_ERR`. -/
def SEC_EVT_EN_LC_ERR : Fld := ⟨SEC_EVT_EN, 4, 4⟩

/-- `SEC_GK_STATUS` (R469). -/
def SEC_GK_STATUS : Reg := { base := 0x4A000020, w1c := 0x20 }
/-- `SEC_GK_STATUS.COUNT`. -/
def SEC_GK_STATUS_COUNT : Fld := ⟨SEC_GK_STATUS, 4, 0⟩
/-- `SEC_GK_STATUS.OVF`. -/
def SEC_GK_STATUS_OVF : Fld := ⟨SEC_GK_STATUS, 5, 5⟩

/-- `SEC_GK_INFO` (R469). -/
def SEC_GK_INFO : Reg := { base := 0x4A000024, mwLen := 3 }
/-- `SEC_GK_INFO.GK`. -/
def SEC_GK_INFO_GK : Fld := ⟨SEC_GK_INFO, 4, 0⟩
/-- `SEC_GK_INFO.KIND`. -/
def SEC_GK_INFO_KIND : Fld := ⟨SEC_GK_INFO, 7, 5⟩
/-- `SEC_GK_INFO.INITIATOR`. -/
def SEC_GK_INFO_INITIATOR : Fld := ⟨SEC_GK_INFO, 15, 8⟩
/-- `SEC_GK_INFO.WORLD`. -/
def SEC_GK_INFO_WORLD : Fld := ⟨SEC_GK_INFO, 16, 16⟩
/-- `SEC_GK_INFO.WRITE`. -/
def SEC_GK_INFO_WRITE : Fld := ⟨SEC_GK_INFO, 17, 17⟩
/-- `SEC_GK_INFO.VALID`. -/
def SEC_GK_INFO_VALID : Fld := ⟨SEC_GK_INFO, 31, 31⟩

/-- `SEC_GK_ADDR_LO` (R469). -/
def SEC_GK_ADDR_LO : Reg := { base := 0x4A000028, mwLen := 3, mwPos := 1 }
/-- `SEC_GK_ADDR_LO.ADDR`. -/
def SEC_GK_ADDR_LO_ADDR : Fld := ⟨SEC_GK_ADDR_LO, 31, 0⟩

/-- `SEC_GK_ADDR_HI` (R469). -/
def SEC_GK_ADDR_HI : Reg := { base := 0x4A00002C, mwLen := 3, mwPos := 2 }
/-- `SEC_GK_ADDR_HI.ADDR`. -/
def SEC_GK_ADDR_HI_ADDR : Fld := ⟨SEC_GK_ADDR_HI, 7, 0⟩

/-- `SEC_DEVID_LO` (R469). -/
def SEC_DEVID_LO : Reg := { base := 0x4A000030, mwLen := 2 }
/-- `SEC_DEVID_LO.DEVID`. -/
def SEC_DEVID_LO_DEVID : Fld := ⟨SEC_DEVID_LO, 31, 0⟩

/-- `SEC_DEVID_HI` (R469). -/
def SEC_DEVID_HI : Reg := { base := 0x4A000034, mwLen := 2, mwPos := 1 }
/-- `SEC_DEVID_HI.DEVID`. -/
def SEC_DEVID_HI_DEVID : Fld := ⟨SEC_DEVID_HI, 31, 0⟩

/-- `SEC_WORLD_MAP` (R469). -/
def SEC_WORLD_MAP : Reg := { base := 0x4A000038 }
/-- `SEC_WORLD_MAP.MAP`. -/
def SEC_WORLD_MAP_MAP : Fld := ⟨SEC_WORLD_MAP, 15, 0⟩

/-- `SEC_LC_CTRL` (R469). -/
def SEC_LC_CTRL : Reg := { base := 0x4A000040, world := .S, wo := 0xFF07 }
/-- `SEC_LC_CTRL.TARGET`. -/
def SEC_LC_CTRL_TARGET : Fld := ⟨SEC_LC_CTRL, 2, 0⟩
/-- `SEC_LC_CTRL.CONFIRM`. -/
def SEC_LC_CTRL_CONFIRM : Fld := ⟨SEC_LC_CTRL, 15, 8⟩

/-- `SEC_OTP_CTRL` (R469). -/
def SEC_OTP_CTRL : Reg := { base := 0x4A000050, world := .S, rw := 0xFF, w1c := 0x800, wo := 0x300 }
/-- `SEC_OTP_CTRL.ITEM`. -/
def SEC_OTP_CTRL_ITEM : Fld := ⟨SEC_OTP_CTRL, 3, 0⟩
/-- `SEC_OTP_CTRL.WORD`. -/
def SEC_OTP_CTRL_WORD : Fld := ⟨SEC_OTP_CTRL, 7, 4⟩
/-- `SEC_OTP_CTRL.READ`. -/
def SEC_OTP_CTRL_READ : Fld := ⟨SEC_OTP_CTRL, 8, 8⟩
/-- `SEC_OTP_CTRL.PROG`. -/
def SEC_OTP_CTRL_PROG : Fld := ⟨SEC_OTP_CTRL, 9, 9⟩
/-- `SEC_OTP_CTRL.BUSY`. -/
def SEC_OTP_CTRL_BUSY : Fld := ⟨SEC_OTP_CTRL, 10, 10⟩
/-- `SEC_OTP_CTRL.ERR`. -/
def SEC_OTP_CTRL_ERR : Fld := ⟨SEC_OTP_CTRL, 11, 11⟩

/-- `SEC_OTP_DATA` (R469). -/
def SEC_OTP_DATA : Reg := { base := 0x4A000054, world := .S, rw := 0xFFFFFFFF }
/-- `SEC_OTP_DATA.DATA`. -/
def SEC_OTP_DATA_DATA : Fld := ⟨SEC_OTP_DATA, 31, 0⟩

/-- `SEC_CALL_BASE_LO` (R469). -/
def SEC_CALL_BASE_LO : Reg := { base := 0x4A000060, world := .S, rw := 0xFFFFFF80, mwLen := 2 }
/-- `SEC_CALL_BASE_LO.BASE`. -/
def SEC_CALL_BASE_LO_BASE : Fld := ⟨SEC_CALL_BASE_LO, 31, 7⟩

/-- `SEC_CALL_BASE_HI` (R469). -/
def SEC_CALL_BASE_HI : Reg := { base := 0x4A000064, world := .S, rw := 0xFF, mwLen := 2, mwPos := 1 }
/-- `SEC_CALL_BASE_HI.BASE`. -/
def SEC_CALL_BASE_HI_BASE : Fld := ⟨SEC_CALL_BASE_HI, 7, 0⟩

/-- `SEC_CALL_CFG` (R469). -/
def SEC_CALL_CFG : Reg := { base := 0x4A000068, world := .S, rw := 0x80FF0F0F }
/-- `SEC_CALL_CFG.ORDER`. -/
def SEC_CALL_CFG_ORDER : Fld := ⟨SEC_CALL_CFG, 3, 0⟩
/-- `SEC_CALL_CFG.HART`. -/
def SEC_CALL_CFG_HART : Fld := ⟨SEC_CALL_CFG, 11, 8⟩
/-- `SEC_CALL_CFG.IDENTITY`. -/
def SEC_CALL_CFG_IDENTITY : Fld := ⟨SEC_CALL_CFG, 23, 16⟩
/-- `SEC_CALL_CFG.EN`. -/
def SEC_CALL_CFG_EN : Fld := ⟨SEC_CALL_CFG, 31, 31⟩

/-- `SEC_CALL_TAIL` (R469). -/
def SEC_CALL_TAIL : Reg := { base := 0x4A00006C, world := .S }
/-- `SEC_CALL_TAIL.TAIL`. -/
def SEC_CALL_TAIL_TAIL : Fld := ⟨SEC_CALL_TAIL, 11, 0⟩

/-- `SEC_CALL_ANSw` (R469). -/
def SEC_CALL_ANSw : Reg := { base := 0x4A000070, s1 := 0x4, n1 := 4, world := .S, wo := 0xFFFFFFFF }
/-- `SEC_CALL_ANSw.ANSWER`. -/
def SEC_CALL_ANSw_ANSWER : Fld := ⟨SEC_CALL_ANSw, 31, 0⟩

/-- `SEC_CALL_LATE` (R469). -/
def SEC_CALL_LATE : Reg := { base := 0x4A000080, world := .S, rc := 0xFFFF }
/-- `SEC_CALL_LATE.COUNT`. -/
def SEC_CALL_LATE_COUNT : Fld := ⟨SEC_CALL_LATE, 15, 0⟩

/-- `SEC_DBG_CHALw` (R469). -/
def SEC_DBG_CHALw : Reg := { base := 0x4A000100, s1 := 0x4, n1 := 8 }
/-- `SEC_DBG_CHALw.CHAL`. -/
def SEC_DBG_CHALw_CHAL : Fld := ⟨SEC_DBG_CHALw, 31, 0⟩

/-- `SEC_DBG_EN` (R469). -/
def SEC_DBG_EN : Reg := { base := 0x4A000120 }
/-- `SEC_DBG_EN.ENABLES`. -/
def SEC_DBG_EN_ENABLES : Fld := ⟨SEC_DBG_EN, 3, 0⟩
/-- `SEC_DBG_EN.TOKEN`. -/
def SEC_DBG_EN_TOKEN : Fld := ⟨SEC_DBG_EN, 4, 4⟩

/-- `SEC_DBG_CTRL` (R469). -/
def SEC_DBG_CTRL : Reg := { base := 0x4A000124, world := .S, wo := 0x1 }
/-- `SEC_DBG_CTRL.REVOKE`. -/
def SEC_DBG_CTRL_REVOKE : Fld := ⟨SEC_DBG_CTRL, 0, 0⟩

/-- `SEC_RNG_STATUS` (R469). -/
def SEC_RNG_STATUS : Reg := { base := 0x4A000130 }
/-- `SEC_RNG_STATUS.AVAIL`. -/
def SEC_RNG_STATUS_AVAIL : Fld := ⟨SEC_RNG_STATUS, 4, 0⟩
/-- `SEC_RNG_STATUS.FAIL`. -/
def SEC_RNG_STATUS_FAIL : Fld := ⟨SEC_RNG_STATUS, 5, 5⟩

/-- `SEC_RNG_DATA` (R469). -/
def SEC_RNG_DATA : Reg := { base := 0x4A000134, rc := 0xFFFFFFFF }
/-- `SEC_RNG_DATA.DATA`. -/
def SEC_RNG_DATA_DATA : Fld := ⟨SEC_RNG_DATA, 31, 0⟩

/-- `SEC_KEY_DATAw` (R469). -/
def SEC_KEY_DATAw : Reg := { base := 0x4A000200, s1 := 0x4, n1 := 8, world := .S, wo := 0xFFFFFFFF }
/-- `SEC_KEY_DATAw.DATA`. -/
def SEC_KEY_DATAw_DATA : Fld := ⟨SEC_KEY_DATAw, 31, 0⟩

/-- `SEC_KEY_CTRL` (R469). -/
def SEC_KEY_CTRL : Reg := { base := 0x4A000220, world := .S, wo := 0x31F }
/-- `SEC_KEY_CTRL.SLOT`. -/
def SEC_KEY_CTRL_SLOT : Fld := ⟨SEC_KEY_CTRL, 4, 0⟩
/-- `SEC_KEY_CTRL.ACTION`. -/
def SEC_KEY_CTRL_ACTION : Fld := ⟨SEC_KEY_CTRL, 9, 8⟩

/-- `SEC_KEYk_POL` (R469). -/
def SEC_KEYk_POL : Reg := { base := 0x4A000300, s1 := 0x10, n1 := 32, world := .S, rw := 0xF }
/-- `SEC_KEYk_POL.OPS`. -/
def SEC_KEYk_POL_OPS : Fld := ⟨SEC_KEYk_POL, 3, 0⟩
/-- `SEC_KEYk_POL.LOADED`. -/
def SEC_KEYk_POL_LOADED : Fld := ⟨SEC_KEYk_POL, 8, 8⟩

/-- `SEC_KEYk_FN_LO` (R469). -/
def SEC_KEYk_FN_LO : Reg := { base := 0x4A000304, s1 := 0x10, n1 := 32, world := .S, rw := 0xFFFFFFFF, mwLen := 2 }
/-- `SEC_KEYk_FN_LO.FN`. -/
def SEC_KEYk_FN_LO_FN : Fld := ⟨SEC_KEYk_FN_LO, 31, 0⟩

/-- `SEC_KEYk_FN_HI` (R469). -/
def SEC_KEYk_FN_HI : Reg := { base := 0x4A000308, s1 := 0x10, n1 := 32, world := .S, rw := 0xFFFFFFFF, mwLen := 2, mwPos := 1 }
/-- `SEC_KEYk_FN_HI.FN`. -/
def SEC_KEYk_FN_HI_FN : Fld := ⟨SEC_KEYk_FN_HI, 31, 0⟩

/-- `SEC_JOBw` (R469). -/
def SEC_JOBw : Reg := { base := 0x4A000600, s1 := 0x4, n1 := 16, world := .S, rw := 0xFFFFFFFF }
/-- `SEC_JOBw.WORD`. -/
def SEC_JOBw_WORD : Fld := ⟨SEC_JOBw, 31, 0⟩

/-- `SEC_JOB_CTRL` (R469). -/
def SEC_JOB_CTRL : Reg := { base := 0x4A000640, world := .S, wo := 0x1 }
/-- `SEC_JOB_CTRL.GO`. -/
def SEC_JOB_CTRL_GO : Fld := ⟨SEC_JOB_CTRL, 0, 0⟩
/-- `SEC_JOB_CTRL.BUSY`. -/
def SEC_JOB_CTRL_BUSY : Fld := ⟨SEC_JOB_CTRL, 1, 1⟩
/-- `SEC_JOB_CTRL.STATUS`. -/
def SEC_JOB_CTRL_STATUS : Fld := ⟨SEC_JOB_CTRL, 31, 16⟩

/-- `SEC_GKg_REGr_BASE` (R469). -/
def SEC_GKg_REGr_BASE : Reg := { base := 0x4A001000, s1 := 0x400, n1 := 22, s2 := 0x20, n2 := 32, rw := 0xFFFFFFFF }
/-- `SEC_GKg_REGr_BASE.BASE`. -/
def SEC_GKg_REGr_BASE_BASE : Fld := ⟨SEC_GKg_REGr_BASE, 31, 0⟩

/-- `SEC_GKg_REGr_SIZE` (R469). -/
def SEC_GKg_REGr_SIZE : Reg := { base := 0x4A001004, s1 := 0x400, n1 := 22, s2 := 0x20, n2 := 32, rw := 0xFFFFFFFF }
/-- `SEC_GKg_REGr_SIZE.SIZE`. -/
def SEC_GKg_REGr_SIZE_SIZE : Fld := ⟨SEC_GKg_REGr_SIZE, 31, 0⟩

/-- `SEC_GKg_REGr_INIT_LO` (R469). -/
def SEC_GKg_REGr_INIT_LO : Reg := { base := 0x4A001008, s1 := 0x400, n1 := 22, s2 := 0x20, n2 := 32, rw := 0xFFFFFFFF, mwLen := 2 }
/-- `SEC_GKg_REGr_INIT_LO.INIT`. -/
def SEC_GKg_REGr_INIT_LO_INIT : Fld := ⟨SEC_GKg_REGr_INIT_LO, 31, 0⟩

/-- `SEC_GKg_REGr_INIT_HI` (R469). -/
def SEC_GKg_REGr_INIT_HI : Reg := { base := 0x4A00100C, s1 := 0x400, n1 := 22, s2 := 0x20, n2 := 32, rw := 0xFFFFFFFF, mwLen := 2, mwPos := 1 }
/-- `SEC_GKg_REGr_INIT_HI.INIT`. -/
def SEC_GKg_REGr_INIT_HI_INIT : Fld := ⟨SEC_GKg_REGr_INIT_HI, 31, 0⟩

/-- `SEC_GKg_REGr_FN_LO` (R469). -/
def SEC_GKg_REGr_FN_LO : Reg := { base := 0x4A001010, s1 := 0x400, n1 := 22, s2 := 0x20, n2 := 32, rw := 0xFFFFFFFF, mwLen := 2 }
/-- `SEC_GKg_REGr_FN_LO.FN`. -/
def SEC_GKg_REGr_FN_LO_FN : Fld := ⟨SEC_GKg_REGr_FN_LO, 31, 0⟩

/-- `SEC_GKg_REGr_FN_HI` (R469). -/
def SEC_GKg_REGr_FN_HI : Reg := { base := 0x4A001014, s1 := 0x400, n1 := 22, s2 := 0x20, n2 := 32, rw := 0xFFFFFFFF, mwLen := 2, mwPos := 1 }
/-- `SEC_GKg_REGr_FN_HI.FN`. -/
def SEC_GKg_REGr_FN_HI_FN : Fld := ⟨SEC_GKg_REGr_FN_HI, 31, 0⟩

/-- `SEC_GKg_REGr_CTRL` (R469). -/
def SEC_GKg_REGr_CTRL : Reg := { base := 0x4A001018, s1 := 0x400, n1 := 22, s2 := 0x20, n2 := 32, rw := 0x3F, w1s := 0x40 }
/-- `SEC_GKg_REGr_CTRL.EN`. -/
def SEC_GKg_REGr_CTRL_EN : Fld := ⟨SEC_GKg_REGr_CTRL, 0, 0⟩
/-- `SEC_GKg_REGr_CTRL.S_R`. -/
def SEC_GKg_REGr_CTRL_S_R : Fld := ⟨SEC_GKg_REGr_CTRL, 1, 1⟩
/-- `SEC_GKg_REGr_CTRL.S_W`. -/
def SEC_GKg_REGr_CTRL_S_W : Fld := ⟨SEC_GKg_REGr_CTRL, 2, 2⟩
/-- `SEC_GKg_REGr_CTRL.N_R`. -/
def SEC_GKg_REGr_CTRL_N_R : Fld := ⟨SEC_GKg_REGr_CTRL, 3, 3⟩
/-- `SEC_GKg_REGr_CTRL.N_W`. -/
def SEC_GKg_REGr_CTRL_N_W : Fld := ⟨SEC_GKg_REGr_CTRL, 4, 4⟩
/-- `SEC_GKg_REGr_CTRL.WORLD`. -/
def SEC_GKg_REGr_CTRL_WORLD : Fld := ⟨SEC_GKg_REGr_CTRL, 5, 5⟩
/-- `SEC_GKg_REGr_CTRL.LOCK`. -/
def SEC_GKg_REGr_CTRL_LOCK : Fld := ⟨SEC_GKg_REGr_CTRL, 6, 6⟩

/-- The register lines of the SEC slot. -/
def regsSEC : List Reg :=
  [SEC_ID, SEC_STATUS, SEC_EVT, SEC_EVT_EN,
   SEC_GK_STATUS, SEC_GK_INFO, SEC_GK_ADDR_LO, SEC_GK_ADDR_HI,
   SEC_DEVID_LO, SEC_DEVID_HI, SEC_WORLD_MAP, SEC_LC_CTRL,
   SEC_OTP_CTRL, SEC_OTP_DATA, SEC_CALL_BASE_LO, SEC_CALL_BASE_HI,
   SEC_CALL_CFG, SEC_CALL_TAIL, SEC_CALL_ANSw, SEC_CALL_LATE,
   SEC_DBG_CHALw, SEC_DBG_EN, SEC_DBG_CTRL, SEC_RNG_STATUS,
   SEC_RNG_DATA, SEC_KEY_DATAw, SEC_KEY_CTRL, SEC_KEYk_POL,
   SEC_KEYk_FN_LO, SEC_KEYk_FN_HI, SEC_JOBw, SEC_JOB_CTRL,
   SEC_GKg_REGr_BASE, SEC_GKg_REGr_SIZE, SEC_GKg_REGr_INIT_LO, SEC_GKg_REGr_INIT_HI,
   SEC_GKg_REGr_FN_LO, SEC_GKg_REGr_FN_HI, SEC_GKg_REGr_CTRL]

/-- `FCU_ID` (R490). -/
def FCU_ID : Reg := { base := 0x4B000000, reset := 0x482400A0 }
/-- `FCU_ID.STEPPING`. -/
def FCU_ID_STEPPING : Fld := ⟨FCU_ID, 15, 0⟩
/-- `FCU_ID.PART`. -/
def FCU_ID_PART : Fld := ⟨FCU_ID, 31, 16⟩

/-- `FCU_STATUS` (R490). -/
def FCU_STATUS : Reg := { base := 0x4B000004, reset := 0x4, rc := 0xFFFF0000 }
/-- `FCU_STATUS.ERRN`. -/
def FCU_STATUS_ERRN : Fld := ⟨FCU_STATUS, 0, 0⟩
/-- `FCU_STATUS.FATAL`. -/
def FCU_STATUS_FATAL : Fld := ⟨FCU_STATUS, 1, 1⟩
/-- `FCU_STATUS.BOOT_HOLD`. -/
def FCU_STATUS_BOOT_HOLD : Fld := ⟨FCU_STATUS, 2, 2⟩
/-- `FCU_STATUS.CLEAR_REFUSED`. -/
def FCU_STATUS_CLEAR_REFUSED : Fld := ⟨FCU_STATUS, 31, 16⟩

/-- `FCU_ERRN_CFG` (R490). -/
def FCU_ERRN_CFG : Reg := { base := 0x4B000010, reset := 0x64, rw := 0x3FFF }
/-- `FCU_ERRN_CFG.MIN_PULSE`. -/
def FCU_ERRN_CFG_MIN_PULSE : Fld := ⟨FCU_ERRN_CFG, 13, 0⟩

/-- `FCU_ERRN_CTRL` (R490). -/
def FCU_ERRN_CTRL : Reg := { base := 0x4B000014, rw := 0x1 }
/-- `FCU_ERRN_CTRL.HOLD`. -/
def FCU_ERRN_CTRL_HOLD : Fld := ⟨FCU_ERRN_CTRL, 0, 0⟩

/-- `FCU_FATAL_CFG` (R490). -/
def FCU_FATAL_CFG : Reg := { base := 0x4B000018, reset := 0xA01, rw := 0xFF03 }
/-- `FCU_FATAL_CFG.REBOOT`. -/
def FCU_FATAL_CFG_REBOOT : Fld := ⟨FCU_FATAL_CFG, 0, 0⟩
/-- `FCU_FATAL_CFG.SAFE_OFF`. -/
def FCU_FATAL_CFG_SAFE_OFF : Fld := ⟨FCU_FATAL_CFG, 1, 1⟩
/-- `FCU_FATAL_CFG.REBOOT_DELAY`. -/
def FCU_FATAL_CFG_REBOOT_DELAY : Fld := ⟨FCU_FATAL_CFG, 15, 8⟩

/-- `FCU_FATAL_SRC` (R490). -/
def FCU_FATAL_SRC : Reg := { base := 0x4B000020, w1c := 0x80000000, retained := true }
/-- `FCU_FATAL_SRC.SRC`. -/
def FCU_FATAL_SRC_SRC : Fld := ⟨FCU_FATAL_SRC, 9, 0⟩
/-- `FCU_FATAL_SRC.COUNT`. -/
def FCU_FATAL_SRC_COUNT : Fld := ⟨FCU_FATAL_SRC, 15, 12⟩
/-- `FCU_FATAL_SRC.VALID`. -/
def FCU_FATAL_SRC_VALID : Fld := ⟨FCU_FATAL_SRC, 31, 31⟩

/-- `FCU_FATAL_TIME_LO` (R490). -/
def FCU_FATAL_TIME_LO : Reg := { base := 0x4B000024, mwLen := 2, retained := true }
/-- `FCU_FATAL_TIME_LO.TIME`. -/
def FCU_FATAL_TIME_LO_TIME : Fld := ⟨FCU_FATAL_TIME_LO, 31, 0⟩

/-- `FCU_FATAL_TIME_HI` (R490). -/
def FCU_FATAL_TIME_HI : Reg := { base := 0x4B000028, mwLen := 2, mwPos := 1, retained := true }
/-- `FCU_FATAL_TIME_HI.TIME`. -/
def FCU_FATAL_TIME_HI_TIME : Fld := ⟨FCU_FATAL_TIME_HI, 31, 0⟩

/-- `FCU_LOG_STATUS` (R490). -/
def FCU_LOG_STATUS : Reg := { base := 0x4B000030, w1c := 0x40 }
/-- `FCU_LOG_STATUS.COUNT`. -/
def FCU_LOG_STATUS_COUNT : Fld := ⟨FCU_LOG_STATUS, 5, 0⟩
/-- `FCU_LOG_STATUS.OVF`. -/
def FCU_LOG_STATUS_OVF : Fld := ⟨FCU_LOG_STATUS, 6, 6⟩

/-- `FCU_LOG_INFO` (R490). -/
def FCU_LOG_INFO : Reg := { base := 0x4B000034, mwLen := 3 }
/-- `FCU_LOG_INFO.SRC`. -/
def FCU_LOG_INFO_SRC : Fld := ⟨FCU_LOG_INFO, 9, 0⟩
/-- `FCU_LOG_INFO.CLASS`. -/
def FCU_LOG_INFO_CLASS : Fld := ⟨FCU_LOG_INFO, 11, 10⟩
/-- `FCU_LOG_INFO.PEN`. -/
def FCU_LOG_INFO_PEN : Fld := ⟨FCU_LOG_INFO, 17, 12⟩
/-- `FCU_LOG_INFO.BROKEN`. -/
def FCU_LOG_INFO_BROKEN : Fld := ⟨FCU_LOG_INFO, 18, 18⟩
/-- `FCU_LOG_INFO.ESCALATED`. -/
def FCU_LOG_INFO_ESCALATED : Fld := ⟨FCU_LOG_INFO, 19, 19⟩
/-- `FCU_LOG_INFO.VALID`. -/
def FCU_LOG_INFO_VALID : Fld := ⟨FCU_LOG_INFO, 31, 31⟩

/-- `FCU_LOG_TIME_LO` (R490). -/
def FCU_LOG_TIME_LO : Reg := { base := 0x4B000038, mwLen := 3, mwPos := 1 }
/-- `FCU_LOG_TIME_LO.TIME`. -/
def FCU_LOG_TIME_LO_TIME : Fld := ⟨FCU_LOG_TIME_LO, 31, 0⟩

/-- `FCU_LOG_TIME_HI` (R490). -/
def FCU_LOG_TIME_HI : Reg := { base := 0x4B00003C, mwLen := 3, mwPos := 2 }
/-- `FCU_LOG_TIME_HI.TIME`. -/
def FCU_LOG_TIME_HI_TIME : Fld := ⟨FCU_LOG_TIME_HI, 31, 0⟩

/-- `FCU_LATCHEDw` (R490). -/
def FCU_LATCHEDw : Reg := { base := 0x4B000080, s1 := 0x4, n1 := 32 }
/-- `FCU_LATCHEDw.LATCHED`. -/
def FCU_LATCHEDw_LATCHED : Fld := ⟨FCU_LATCHEDw, 31, 0⟩

/-- `FCU_SRCi_CFG` (R490). -/
def FCU_SRCi_CFG : Reg := { base := 0x4B001000, s1 := 0x4, n1 := 1024, resetX := fcuSourceResets, rw := 0xFF3F }
/-- `FCU_SRCi_CFG.CLASS`. -/
def FCU_SRCi_CFG_CLASS : Fld := ⟨FCU_SRCi_CFG, 1, 0⟩
/-- `FCU_SRCi_CFG.IRQ`. -/
def FCU_SRCi_CFG_IRQ : Fld := ⟨FCU_SRCi_CFG, 2, 2⟩
/-- `FCU_SRCi_CFG.FENCE`. -/
def FCU_SRCi_CFG_FENCE : Fld := ⟨FCU_SRCi_CFG, 3, 3⟩
/-- `FCU_SRCi_CFG.ERRN`. -/
def FCU_SRCi_CFG_ERRN : Fld := ⟨FCU_SRCi_CFG, 4, 4⟩
/-- `FCU_SRCi_CFG.DEVICE`. -/
def FCU_SRCi_CFG_DEVICE : Fld := ⟨FCU_SRCi_CFG, 5, 5⟩
/-- `FCU_SRCi_CFG.ESC_N`. -/
def FCU_SRCi_CFG_ESC_N : Fld := ⟨FCU_SRCi_CFG, 15, 8⟩
/-- `FCU_SRCi_CFG.PEN`. -/
def FCU_SRCi_CFG_PEN : Fld := ⟨FCU_SRCi_CFG, 21, 16⟩
/-- `FCU_SRCi_CFG.BCLASS`. -/
def FCU_SRCi_CFG_BCLASS : Fld := ⟨FCU_SRCi_CFG, 23, 22⟩

/-- `FCU_SRCi_STATE` (R490). -/
def FCU_SRCi_STATE : Reg := { base := 0x4B002000, s1 := 0x4, n1 := 1024, w1c := 0x6, rc := 0xFFFF0000 }
/-- `FCU_SRCi_STATE.ACTIVE`. -/
def FCU_SRCi_STATE_ACTIVE : Fld := ⟨FCU_SRCi_STATE, 0, 0⟩
/-- `FCU_SRCi_STATE.LATCHED`. -/
def FCU_SRCi_STATE_LATCHED : Fld := ⟨FCU_SRCi_STATE, 1, 1⟩
/-- `FCU_SRCi_STATE.BROKEN`. -/
def FCU_SRCi_STATE_BROKEN : Fld := ⟨FCU_SRCi_STATE, 2, 2⟩
/-- `FCU_SRCi_STATE.COUNT`. -/
def FCU_SRCi_STATE_COUNT : Fld := ⟨FCU_SRCi_STATE, 31, 16⟩

/-- `FCU_PENn_STATUS` (R490). -/
def FCU_PENn_STATUS : Reg := { base := 0x4B003000, s1 := 0x8, n1 := 64 }
/-- `FCU_PENn_STATUS.STATE`. -/
def FCU_PENn_STATUS_STATE : Fld := ⟨FCU_PENn_STATUS, 1, 0⟩
/-- `FCU_PENn_STATUS.SRC`. -/
def FCU_PENn_STATUS_SRC : Fld := ⟨FCU_PENn_STATUS, 13, 4⟩

/-- `FCU_PENn_CTRL` (R490). -/
def FCU_PENn_CTRL : Reg := { base := 0x4B003004, s1 := 0x8, n1 := 64, wo := 0x1 }
/-- `FCU_PENn_CTRL.RELEASE`. -/
def FCU_PENn_CTRL_RELEASE : Fld := ⟨FCU_PENn_CTRL, 0, 0⟩

/-- The register lines of the FCU slot. -/
def regsFCU : List Reg :=
  [FCU_ID, FCU_STATUS, FCU_ERRN_CFG, FCU_ERRN_CTRL,
   FCU_FATAL_CFG, FCU_FATAL_SRC, FCU_FATAL_TIME_LO, FCU_FATAL_TIME_HI,
   FCU_LOG_STATUS, FCU_LOG_INFO, FCU_LOG_TIME_LO, FCU_LOG_TIME_HI,
   FCU_LATCHEDw, FCU_SRCi_CFG, FCU_SRCi_STATE, FCU_PENn_STATUS,
   FCU_PENn_CTRL]

/-- `PCS_ID` (R517). -/
def PCS_ID : Reg := { base := 0x4C000000, reset := 0x482400A0 }
/-- `PCS_ID.STEPPING`. -/
def PCS_ID_STEPPING : Fld := ⟨PCS_ID, 15, 0⟩
/-- `PCS_ID.PART`. -/
def PCS_ID_PART : Fld := ⟨PCS_ID, 31, 16⟩

/-- `PCS_STATE` (R517). -/
def PCS_STATE : Reg := { base := 0x4C000004, reset := 0x3 }
/-- `PCS_STATE.STATE`. -/
def PCS_STATE_STATE : Fld := ⟨PCS_STATE, 2, 0⟩
/-- `PCS_STATE.LIMP`. -/
def PCS_STATE_LIMP : Fld := ⟨PCS_STATE, 3, 3⟩
/-- `PCS_STATE.PROT`. -/
def PCS_STATE_PROT : Fld := ⟨PCS_STATE, 4, 4⟩
/-- `PCS_STATE.DONE`. -/
def PCS_STATE_DONE : Fld := ⟨PCS_STATE, 5, 5⟩

/-- `PCS_EVT` (R517). -/
def PCS_EVT : Reg := { base := 0x4C000010, w1c := 0xF }
/-- `PCS_EVT.PREP`. -/
def PCS_EVT_PREP : Fld := ⟨PCS_EVT, 0, 0⟩
/-- `PCS_EVT.ABORT`. -/
def PCS_EVT_ABORT : Fld := ⟨PCS_EVT, 1, 1⟩
/-- `PCS_EVT.GATED_ACCESS`. -/
def PCS_EVT_GATED_ACCESS : Fld := ⟨PCS_EVT, 2, 2⟩
/-- `PCS_EVT.LIMP`. -/
def PCS_EVT_LIMP : Fld := ⟨PCS_EVT, 3, 3⟩

/-- `PCS_EVT_EN` (R517). -/
def PCS_EVT_EN : Reg := { base := 0x4C000014, rw := 0xF }
/-- `PCS_EVT_EN.PREP`. -/
def PCS_EVT_EN_PREP : Fld := ⟨PCS_EVT_EN, 0, 0⟩
/-- `PCS_EVT_EN.ABORT`. -/
def PCS_EVT_EN_ABORT : Fld := ⟨PCS_EVT_EN, 1, 1⟩
/-- `PCS_EVT_EN.GATED_ACCESS`. -/
def PCS_EVT_EN_GATED_ACCESS : Fld := ⟨PCS_EVT_EN, 2, 2⟩
/-- `PCS_EVT_EN.LIMP`. -/
def PCS_EVT_EN_LIMP : Fld := ⟨PCS_EVT_EN, 3, 3⟩

/-- `PCS_SLEEP_CFG` (R517). -/
def PCS_SLEEP_CFG : Reg := { base := 0x4C000020, rw := 0x1 }
/-- `PCS_SLEEP_CFG.EN`. -/
def PCS_SLEEP_CFG_EN : Fld := ⟨PCS_SLEEP_CFG, 0, 0⟩
/-- `PCS_SLEEP_CFG.T_PREP`. -/
def PCS_SLEEP_CFG_T_PREP : Fld := ⟨PCS_SLEEP_CFG, 31, 16⟩

/-- `PCS_RUN_HOLD` (R517). -/
def PCS_RUN_HOLD : Reg := { base := 0x4C000024, rw := 0x101 }
/-- `PCS_RUN_HOLD.S_HOLD`. -/
def PCS_RUN_HOLD_S_HOLD : Fld := ⟨PCS_RUN_HOLD, 0, 0⟩
/-- `PCS_RUN_HOLD.N_HOLD`. -/
def PCS_RUN_HOLD_N_HOLD : Fld := ⟨PCS_RUN_HOLD, 8, 8⟩

/-- `PCS_WAKE` (R517). -/
def PCS_WAKE : Reg := { base := 0x4C000030, reset := 0x10001, retained := true }
/-- `PCS_WAKE.REASON`. -/
def PCS_WAKE_REASON : Fld := ⟨PCS_WAKE, 3, 0⟩
/-- `PCS_WAKE.INDEX`. -/
def PCS_WAKE_INDEX : Fld := ⟨PCS_WAKE, 15, 8⟩
/-- `PCS_WAKE.COUNT`. -/
def PCS_WAKE_COUNT : Fld := ⟨PCS_WAKE, 31, 16⟩

/-- `PCS_SLEEP_MS` (R517). -/
def PCS_SLEEP_MS : Reg := { base := 0x4C000034, retained := true }
/-- `PCS_SLEEP_MS.MS`. -/
def PCS_SLEEP_MS_MS : Fld := ⟨PCS_SLEEP_MS, 31, 0⟩

/-- `PCS_BOOT_TIME` (R517). -/
def PCS_BOOT_TIME : Reg := { base := 0x4C000040 }
/-- `PCS_BOOT_TIME.PROT`. -/
def PCS_BOOT_TIME_PROT : Fld := ⟨PCS_BOOT_TIME, 15, 0⟩
/-- `PCS_BOOT_TIME.DONE`. -/
def PCS_BOOT_TIME_DONE : Fld := ⟨PCS_BOOT_TIME, 31, 16⟩

/-- `PCS_RESET_CTRL` (R517). -/
def PCS_RESET_CTRL : Reg := { base := 0x4C000050, world := .S, wo := 0xFF01 }
/-- `PCS_RESET_CTRL.CORE`. -/
def PCS_RESET_CTRL_CORE : Fld := ⟨PCS_RESET_CTRL, 0, 0⟩
/-- `PCS_RESET_CTRL.CONFIRM`. -/
def PCS_RESET_CTRL_CONFIRM : Fld := ⟨PCS_RESET_CTRL, 15, 8⟩

/-- `PCS_WK` (R517). -/
def PCS_WK : Reg := { base := 0x4C000060 }
/-- `PCS_WK.LEVEL`. -/
def PCS_WK_LEVEL : Fld := ⟨PCS_WK, 15, 0⟩

/-- `PCS_SD_STATUS` (R517). -/
def PCS_SD_STATUS : Reg := { base := 0x4C000070 }
/-- `PCS_SD_STATUS.RULES`. -/
def PCS_SD_STATUS_RULES : Fld := ⟨PCS_SD_STATUS, 6, 0⟩
/-- `PCS_SD_STATUS.PARK`. -/
def PCS_SD_STATUS_PARK : Fld := ⟨PCS_SD_STATUS, 15, 8⟩
/-- `PCS_SD_STATUS.EST`. -/
def PCS_SD_STATUS_EST : Fld := ⟨PCS_SD_STATUS, 31, 16⟩

/-- `PCS_ISLi_STATUS` (R517). -/
def PCS_ISLi_STATUS : Reg := { base := 0x4C000500, s1 := 0x4, n1 := 46, reset := 0x3, resetX := hwIslands.map (fun i => (i, 7)) }
/-- `PCS_ISLi_STATUS.CLK`. -/
def PCS_ISLi_STATUS_CLK : Fld := ⟨PCS_ISLi_STATUS, 0, 0⟩
/-- `PCS_ISLi_STATUS.PWR`. -/
def PCS_ISLi_STATUS_PWR : Fld := ⟨PCS_ISLi_STATUS, 1, 1⟩
/-- `PCS_ISLi_STATUS.HW`. -/
def PCS_ISLi_STATUS_HW : Fld := ⟨PCS_ISLi_STATUS, 2, 2⟩
/-- `PCS_ISLi_STATUS.DRAINING`. -/
def PCS_ISLi_STATUS_DRAINING : Fld := ⟨PCS_ISLi_STATUS, 3, 3⟩

/-- `PCS_ISLi_VOTE` (R448). -/
def PCS_ISLi_VOTE : Reg := { base := 0x4C000400, s1 := 0x4, n1 := 46, reset := 0x303, rw := 0x303 }
/-- `PCS_ISLi_VOTE.S_CLK`. -/
def PCS_ISLi_VOTE_S_CLK : Fld := ⟨PCS_ISLi_VOTE, 0, 0⟩
/-- `PCS_ISLi_VOTE.S_PWR`. -/
def PCS_ISLi_VOTE_S_PWR : Fld := ⟨PCS_ISLi_VOTE, 1, 1⟩
/-- `PCS_ISLi_VOTE.N_CLK`. -/
def PCS_ISLi_VOTE_N_CLK : Fld := ⟨PCS_ISLi_VOTE, 8, 8⟩
/-- `PCS_ISLi_VOTE.N_PWR`. -/
def PCS_ISLi_VOTE_N_PWR : Fld := ⟨PCS_ISLi_VOTE, 9, 9⟩

/-- The register lines of the PCS slot. -/
def regsPCS : List Reg :=
  [PCS_ID, PCS_STATE, PCS_EVT, PCS_EVT_EN,
   PCS_SLEEP_CFG, PCS_RUN_HOLD, PCS_WAKE, PCS_SLEEP_MS,
   PCS_BOOT_TIME, PCS_RESET_CTRL, PCS_WK, PCS_SD_STATUS,
   PCS_ISLi_STATUS, PCS_ISLi_VOTE]

/-- `DBG_ID` (R533). -/
def DBG_ID : Reg := { base := 0x4D000000, reset := 0x482400A0 }
/-- `DBG_ID.STEPPING`. -/
def DBG_ID_STEPPING : Fld := ⟨DBG_ID, 15, 0⟩
/-- `DBG_ID.PART`. -/
def DBG_ID_PART : Fld := ⟨DBG_ID, 31, 16⟩

/-- `DBG_STATUS` (R533). -/
def DBG_STATUS : Reg := { base := 0x4D000004 }
/-- `DBG_STATUS.HALTED`. -/
def DBG_STATUS_HALTED : Fld := ⟨DBG_STATUS, 11, 0⟩
/-- `DBG_STATUS.ACTIVE`. -/
def DBG_STATUS_ACTIVE : Fld := ⟨DBG_STATUS, 12, 12⟩

/-- `DBG_EVT` (R533). -/
def DBG_EVT : Reg := { base := 0x4D000010, w1c := 0xFF }
/-- `DBG_EVT.SAMPLE`. -/
def DBG_EVT_SAMPLE : Fld := ⟨DBG_EVT, 7, 0⟩

/-- `DBG_EVT_EN` (R533). -/
def DBG_EVT_EN : Reg := { base := 0x4D000014, rw := 0xFF }
/-- `DBG_EVT_EN.SAMPLE`. -/
def DBG_EVT_EN_SAMPLE : Fld := ⟨DBG_EVT_EN, 7, 0⟩

/-- `DBG_SBA` (R533). -/
def DBG_SBA : Reg := { base := 0x4D000018, world := .S, rw := 0x1 }
/-- `DBG_SBA.WORLD`. -/
def DBG_SBA_WORLD : Fld := ⟨DBG_SBA, 0, 0⟩

/-- `DBG_LOADER_STATUS` (R533). -/
def DBG_LOADER_STATUS : Reg := { base := 0x4D000020 }
/-- `DBG_LOADER_STATUS.PHASE`. -/
def DBG_LOADER_STATUS_PHASE : Fld := ⟨DBG_LOADER_STATUS, 1, 0⟩
/-- `DBG_LOADER_STATUS.FAIL`. -/
def DBG_LOADER_STATUS_FAIL : Fld := ⟨DBG_LOADER_STATUS, 7, 4⟩

/-- `DBG_CNTe_LO` (R533). -/
def DBG_CNTe_LO : Reg := { base := 0x4D001000, s1 := 0x8, n1 := 512, mwLen := 2 }
/-- `DBG_CNTe_LO.COUNT`. -/
def DBG_CNTe_LO_COUNT : Fld := ⟨DBG_CNTe_LO, 31, 0⟩

/-- `DBG_CNTe_HI` (R533). -/
def DBG_CNTe_HI : Reg := { base := 0x4D001004, s1 := 0x8, n1 := 512, mwLen := 2, mwPos := 1 }
/-- `DBG_CNTe_HI.COUNT`. -/
def DBG_CNTe_HI_COUNT : Fld := ⟨DBG_CNTe_HI, 15, 0⟩

/-- `DBG_EVTe_CFG` (R533). -/
def DBG_EVTe_CFG : Reg := { base := 0x4D002000, s1 := 0x4, n1 := 512, rw := 0xF }
/-- `DBG_EVTe_CFG.FSET`. -/
def DBG_EVTe_CFG_FSET : Fld := ⟨DBG_EVTe_CFG, 2, 0⟩
/-- `DBG_EVTe_CFG.FILT`. -/
def DBG_EVTe_CFG_FILT : Fld := ⟨DBG_EVTe_CFG, 3, 3⟩

/-- `DBG_FSETf_MATCH` (R533). -/
def DBG_FSETf_MATCH : Reg := { base := 0x4D003000, s1 := 0x20, n1 := 8, reset := 0xFFF, rw := 0x1FFF }
/-- `DBG_FSETf_MATCH.PRIV`. -/
def DBG_FSETf_MATCH_PRIV : Fld := ⟨DBG_FSETf_MATCH, 5, 0⟩
/-- `DBG_FSETf_MATCH.WORLD`. -/
def DBG_FSETf_MATCH_WORLD : Fld := ⟨DBG_FSETf_MATCH, 7, 6⟩
/-- `DBG_FSETf_MATCH.CLASS`. -/
def DBG_FSETf_MATCH_CLASS : Fld := ⟨DBG_FSETf_MATCH, 11, 8⟩
/-- `DBG_FSETf_MATCH.ADDR_EN`. -/
def DBG_FSETf_MATCH_ADDR_EN : Fld := ⟨DBG_FSETf_MATCH, 12, 12⟩

/-- `DBG_FSETf_INIT` (R533). -/
def DBG_FSETf_INIT : Reg := { base := 0x4D003004, s1 := 0x20, n1 := 8, rw := 0xFFFF }
/-- `DBG_FSETf_INIT.INIT_ID`. -/
def DBG_FSETf_INIT_INIT_ID : Fld := ⟨DBG_FSETf_INIT, 7, 0⟩
/-- `DBG_FSETf_INIT.INIT_MASK`. -/
def DBG_FSETf_INIT_INIT_MASK : Fld := ⟨DBG_FSETf_INIT, 15, 8⟩

/-- `DBG_FSETf_BASE_LO` (R533). -/
def DBG_FSETf_BASE_LO : Reg := { base := 0x4D003008, s1 := 0x20, n1 := 8, rw := 0xFFFFFFFF, mwLen := 2 }
/-- `DBG_FSETf_BASE_LO.ADDR`. -/
def DBG_FSETf_BASE_LO_ADDR : Fld := ⟨DBG_FSETf_BASE_LO, 31, 0⟩

/-- `DBG_FSETf_BASE_HI` (R533). -/
def DBG_FSETf_BASE_HI : Reg := { base := 0x4D00300C, s1 := 0x20, n1 := 8, rw := 0xFF, mwLen := 2, mwPos := 1 }
/-- `DBG_FSETf_BASE_HI.ADDR`. -/
def DBG_FSETf_BASE_HI_ADDR : Fld := ⟨DBG_FSETf_BASE_HI, 7, 0⟩

/-- `DBG_FSETf_LIMIT_LO` (R533). -/
def DBG_FSETf_LIMIT_LO : Reg := { base := 0x4D003010, s1 := 0x20, n1 := 8, rw := 0xFFFFFFFF, mwLen := 2 }
/-- `DBG_FSETf_LIMIT_LO.ADDR`. -/
def DBG_FSETf_LIMIT_LO_ADDR : Fld := ⟨DBG_FSETf_LIMIT_LO, 31, 0⟩

/-- `DBG_FSETf_LIMIT_HI` (R533). -/
def DBG_FSETf_LIMIT_HI : Reg := { base := 0x4D003014, s1 := 0x20, n1 := 8, rw := 0xFF, mwLen := 2, mwPos := 1 }
/-- `DBG_FSETf_LIMIT_HI.ADDR`. -/
def DBG_FSETf_LIMIT_HI_ADDR : Fld := ⟨DBG_FSETf_LIMIT_HI, 7, 0⟩

/-- `DBG_SMPs_CFG` (R533). -/
def DBG_SMPs_CFG : Reg := { base := 0x4D004000, s1 := 0x10, n1 := 8, rw := 0x3FF }
/-- `DBG_SMPs_CFG.EVENT`. -/
def DBG_SMPs_CFG_EVENT : Fld := ⟨DBG_SMPs_CFG, 8, 0⟩
/-- `DBG_SMPs_CFG.EN`. -/
def DBG_SMPs_CFG_EN : Fld := ⟨DBG_SMPs_CFG, 9, 9⟩
/-- `DBG_SMPs_CFG.WORLD`. -/
def DBG_SMPs_CFG_WORLD : Fld := ⟨DBG_SMPs_CFG, 10, 10⟩

/-- `DBG_SMPs_PERIOD` (R533). -/
def DBG_SMPs_PERIOD : Reg := { base := 0x4D004004, s1 := 0x10, n1 := 8, rw := 0xFFFFFFFF }
/-- `DBG_SMPs_PERIOD.PERIOD`. -/
def DBG_SMPs_PERIOD_PERIOD : Fld := ⟨DBG_SMPs_PERIOD, 31, 0⟩

/-- `DBG_SMP_STATUS` (R533). -/
def DBG_SMP_STATUS : Reg := { base := 0x4D004100, w1c := 0x80 }
/-- `DBG_SMP_STATUS.COUNT`. -/
def DBG_SMP_STATUS_COUNT : Fld := ⟨DBG_SMP_STATUS, 6, 0⟩
/-- `DBG_SMP_STATUS.OVF`. -/
def DBG_SMP_STATUS_OVF : Fld := ⟨DBG_SMP_STATUS, 7, 7⟩

/-- `DBG_SMP_INFO` (R533). -/
def DBG_SMP_INFO : Reg := { base := 0x4D004104, mwLen := 5 }
/-- `DBG_SMP_INFO.SAMPLER`. -/
def DBG_SMP_INFO_SAMPLER : Fld := ⟨DBG_SMP_INFO, 2, 0⟩
/-- `DBG_SMP_INFO.HART`. -/
def DBG_SMP_INFO_HART : Fld := ⟨DBG_SMP_INFO, 7, 4⟩
/-- `DBG_SMP_INFO.MODE`. -/
def DBG_SMP_INFO_MODE : Fld := ⟨DBG_SMP_INFO, 10, 8⟩
/-- `DBG_SMP_INFO.SECURE`. -/
def DBG_SMP_INFO_SECURE : Fld := ⟨DBG_SMP_INFO, 11, 11⟩
/-- `DBG_SMP_INFO.VALID`. -/
def DBG_SMP_INFO_VALID : Fld := ⟨DBG_SMP_INFO, 31, 31⟩

/-- `DBG_SMP_PC_LO` (R533). -/
def DBG_SMP_PC_LO : Reg := { base := 0x4D004108, mwLen := 5, mwPos := 1 }
/-- `DBG_SMP_PC_LO.PC`. -/
def DBG_SMP_PC_LO_PC : Fld := ⟨DBG_SMP_PC_LO, 31, 0⟩

/-- `DBG_SMP_PC_HI` (R533). -/
def DBG_SMP_PC_HI : Reg := { base := 0x4D00410C, mwLen := 5, mwPos := 2 }
/-- `DBG_SMP_PC_HI.PC`. -/
def DBG_SMP_PC_HI_PC : Fld := ⟨DBG_SMP_PC_HI, 31, 0⟩

/-- `DBG_SMP_TIME_LO` (R533). -/
def DBG_SMP_TIME_LO : Reg := { base := 0x4D004110, mwLen := 5, mwPos := 3 }
/-- `DBG_SMP_TIME_LO.TIME`. -/
def DBG_SMP_TIME_LO_TIME : Fld := ⟨DBG_SMP_TIME_LO, 31, 0⟩

/-- `DBG_SMP_TIME_HI` (R533). -/
def DBG_SMP_TIME_HI : Reg := { base := 0x4D004114, mwLen := 5, mwPos := 4 }
/-- `DBG_SMP_TIME_HI.TIME`. -/
def DBG_SMP_TIME_HI_TIME : Fld := ⟨DBG_SMP_TIME_HI, 31, 0⟩

/-- The register lines of the DBG slot. -/
def regsDBG : List Reg :=
  [DBG_ID, DBG_STATUS, DBG_EVT, DBG_EVT_EN,
   DBG_SBA, DBG_LOADER_STATUS, DBG_CNTe_LO, DBG_CNTe_HI,
   DBG_EVTe_CFG, DBG_FSETf_MATCH, DBG_FSETf_INIT, DBG_FSETf_BASE_LO,
   DBG_FSETf_BASE_HI, DBG_FSETf_LIMIT_LO, DBG_FSETf_LIMIT_HI, DBG_SMPs_CFG,
   DBG_SMPs_PERIOD, DBG_SMP_STATUS, DBG_SMP_INFO, DBG_SMP_PC_LO,
   DBG_SMP_PC_HI, DBG_SMP_TIME_LO, DBG_SMP_TIME_HI]

end Sys2Proof.Machine
end

