-- ==== Sys2Proof/Config.lean ====
section
/-! DEFINITION. What the manual leaves to the implementation or leaves open: constants without a body, so that no
proof can see what they are. -/

namespace Sys2Proof.Config

/-- A byte the manual leaves open, the `n`-th taken (DESIGN CHOICE, log entries 5 and 8). -/
opaque freeByte : Nat → Byte

/-- A number the manual leaves open, the `n`-th taken (DESIGN CHOICE, log entry 8). -/
opaque freeNat : Nat → Nat

/-- An integer the manual leaves open, the `n`-th taken (DESIGN CHOICE, log entry 8). -/
opaque freeInt : Nat → Int

/-- The PCI vendor ID that Dandiper holds (R388). -/
opaque vendorId : Nat

/-- The MAC address of frames that the device builds itself; the manual does not give it (DEDUCED, log entry 67). -/
opaque deviceMac : Nat

/-- Validation of a MACsec frame with GCM-AES-XPN-256 (R282): key, SCI, packet number, the octets authenticated in clear,
and the protected octets with their check value; the user octets where the check passes. -/
opaque macsecOpen : List Byte → Nat → Nat → List Byte → List Byte → Option (List Byte)

/-- Element-processor code of a user element (R215): what its run entry makes of the image, the context record, the input
words, the parameter block and the state. Nothing where the run is stopped (R151); else the output record and the new
state. The manual does not give the processor's instructions. -/
opaque userRun : List Byte → List Byte → List Byte → List Byte → List Byte → Option (List Byte × List Byte)

/-- The addresses of a user element's four areas in the data memory of pair `p` (8: while its parameters are checked),
state bank `b`: input words, parameter block, state, output record (R215). The manual does not give them (DESIGN CHOICE,
log entry 8). -/
opaque userArea : Nat → Nat → Nat → BitVec 32

/-- A user element's parameter check entry (R215): true where it accepts. -/
opaque userCheck : List Byte → List Byte → List Byte → Bool

/-- A user element's initial-state entry (R213). -/
opaque userInit : List Byte → List Byte → List Byte → List Byte

/-- Time that one Sheepdog sample takes beside its wetting, ns; the manual does not give it (R516) (DEDUCED, log entry 88). -/
opaque sdSampleNs : Nat

/-- SHA3-512 (FIPS 202). -/
opaque sha3_512 : List Byte → List Byte

/-- Verification of an ML-DSA-87 signature with an empty context string (FIPS 204): public key, message, signature. -/
opaque mlDsaVerify : List Byte → List Byte → List Byte → Bool

/-- SHAKE256 (FIPS 202): message and output length in bytes. -/
opaque shake256 : List Byte → Nat → List Byte

/-- ML-DSA.KeyGen (FIPS 204) from a 32-byte seed: the public key. -/
opaque mlDsaPk : List Byte → List Byte

/-- An ML-DSA-87 signature with an empty context string (FIPS 204): the key's seed, the message, and the randomness. -/
opaque mlDsaSign : List Byte → List Byte → Nat → List Byte

/-- AES-256-GCM (R463): key, IV, additional data, plaintext; the ciphertext and the 16-byte tag. -/
opaque gcmEncrypt : List Byte → List Byte → List Byte → List Byte → List Byte × List Byte

/-- AES-256-GCM decryption: key, IV, additional data, ciphertext, tag; the plaintext where the tag matches. -/
opaque gcmDecrypt : List Byte → List Byte → List Byte → List Byte → List Byte → Option (List Byte)

/-- The device unique secret (R454); never readable. -/
opaque dus : List Byte

/-- The Dandiper public key under which type 1 components are signed (R450). -/
opaque dandiperPk : List Byte

end Sys2Proof.Config
end

