-- ==== Sys2Proof/Machine/StateNet.lean ====
section
/-! DEFINITION. State of the networks (chapters 08, 10, 11) beside their registers. -/

namespace Sys2Proof.Machine

/-- A frame inside the bridge: addresses, VLAN, and the bytes from the EtherType on, without tags and FCS
(DESIGN CHOICE, log entry 99). -/
structure EthFrame where
  dst   : Nat
  src   : Nat
  vid   : Nat
  pcp   : Nat
  dei   : Bool := false
  body  : List Byte
  /-- Sequence number of an R-tag (R295). -/
  rtag  : Option Nat := none
  /-- The port at which it entered. -/
  ing   : Nat
  /-- The only port it may leave on (R326). -/
  bound : Option Nat := none
  /-- Transmit descriptor to be written back: Ethernet queue and the number of its fetch (R300). -/
  wb    : Option (Nat × Nat) := none
  /-- TD0 time of reception, ns. -/
  rxTd  : Nat := 0
  /-- Real time of the end of the frame. -/
  rxAt  : Nat := 0
  deriving DecidableEq, Repr

/-- A gate control list in force (R288–R291). -/
structure GateRun where
  /-- Base time and length of the cycle, ns, and the extension, ns. -/
  base  : Nat
  len   : Nat
  ext   : Nat := 0
  /-- Gate states and duration of each entry, ns; the durations sum to the cycle. -/
  list  : List (Nat × Nat)
  /-- Domain time, ns, of the cycle's start, entry in force, and the end of that entry. -/
  cycle : Nat
  idx   : Nat := 0
  till  : Nat
  /-- Waiting for the first cycle start after a step (R291). -/
  hold  : Bool := false
  deriving DecidableEq, Repr

/-- One switch port beyond its registers. -/
structure Port where
  /-- Stored frames by traffic class, oldest first. -/
  queues : NMap (List EthFrame) := []
  /-- Real time at which the medium is free again. -/
  busy   : Nat := 0
  /-- Credit of a shaped class in bits × 10⁶, and the real time up to which it is counted (R292). -/
  credit : NMap (Int × Nat) := []
  run    : Option GateRun := none
  /-- Gate states in force, one bit a class. -/
  gates  : Nat := 255
  /-- A new list, which starts at its `till` (R290). -/
  next   : Option GateRun := none
  /-- Real time of the last BEACON received or sent, or of link up (R280, R281). -/
  beacon : Nat := 0
  /-- On a PLCA port: the end of the latest frame sent, real time, and the frames sent after the first of its transmit
  opportunity (R280). -/
  burst  : Option (Nat × Nat) := none
  deriving DecidableEq, Repr

/-- A flow meter's buckets in bits × 10⁶ and the real time of their last fill; red latch (R294). -/
structure Meter where
  c    : Int
  e    : Int
  at_  : Nat
  red  : Bool := false
  deriving DecidableEq, Repr

/-- The vector recovery function of a stream (R295). -/
structure Recovery where
  seq   : Nat := 0
  hist  : List Bool := []
  any   : Bool := true
  /-- Real time of the last accepted frame. -/
  at_   : Nat := 0
  deriving DecidableEq, Repr

/-- A MACsec association (R282, R283, R463). -/
structure Sa where
  port : Nat
  tx   : Bool
  sci  : Nat
  an   : Nat
  slot : Nat
  key  : List Byte
  /-- Next packet number to send, or lowest not yet received. -/
  pn   : Nat
  deriving DecidableEq, Repr

/-- A transmit descriptor whose frame is stored (R300): the number of its fetch, its function address and 16 bytes, and the TD0
time, ns, at which the frame first started to cross a medium. -/
structure TxWait where
  id   : Nat
  addr : Nat
  desc : List Byte
  sent : Option Nat := none
  deriving DecidableEq, Repr

/-- A guest Ethernet queue beyond its registers (R299–R304). -/
structure EthQ where
  txHead : Nat := 0
  rxHead : Nat := 0
  /-- Real time of the first write-back not yet announced (R303). -/
  irq    : Option Nat := none
  /-- Transmit descriptors whose frames are stored. -/
  wait   : List TxWait := []
  /-- Transmit descriptors fetched so far. -/
  fetched : Nat := 0
  deriving DecidableEq, Repr

/-- What a port sent last: the frame's bytes, and the association it was protected with. -/
structure SentFrame where
  bytes : List Byte
  sa    : Option (Nat × Nat × Nat) := none
  deriving DecidableEq, Repr

/-- The Ethernet switch (chapter 08). -/
structure Esw where
  ports : NMap Port := []
  /-- Learned addresses by VID × 2⁴⁸ + MAC: port and real time last seen (R284). -/
  learned : NMap (Nat × Nat) := []
  meters : NMap Meter := []
  gen   : NMap Nat := []
  recov : NMap Recovery := []
  /-- Stream gates that keep their state until a time of their domain (R320): gate, open, domain time. -/
  held  : NMap (Bool × Nat) := []
  sas   : List Sa := []
  queues : NMap EthQ := []
  /-- Device EtherType in force, and the real time of the latest accepted write (R298). -/
  etype : Nat := 0x88B5
  etypeAt : Option Nat := none
  /-- Frames that port M has taken and their units have not yet handled, oldest first (R296). -/
  mq    : List EthFrame := []
  sent  : NMap SentFrame := []
  deriving DecidableEq, Repr

/-- A pending CAN frame: the snapshot of its header and buffer data (R337), and what has befallen it during an attempt
(R340) (DESIGN CHOICE, log entry 99). -/
structure CanFrame where
  hdr : List Byte
  data : List Byte
  /-- Real time of the request. -/
  req : Nat
  attempts : Nat := 0
  expired : Bool := false
  aborted : Bool := false
  deriving DecidableEq, Repr

/-- The attempt in progress: buffer (64 is the Bellwether's), frame, data as read for it, TD0 time of the start of frame. -/
structure CanTx where
  buf  : Nat
  frame : CanFrame
  data : List Byte
  sof  : Nat
  /-- A request has replaced the frame meanwhile (R337). -/
  replaced : Bool := false
  /-- VCAN has been below its threshold during the attempt: it cannot succeed (R333). -/
  uv : Bool := false
  deriving DecidableEq, Repr

/-- A schedule matrix in force (R342, R343): its record; the window in force, its start and the next column's start in its
domain, ns. -/
structure MatRun where
  raw  : List Byte
  row  : Nat := 0
  col  : Nat := 0
  start : Nat := 0
  next : Nat
  /-- A first column has begun. -/
  begun : Bool := false
  /-- The domain was stepped: the window in force stays until `next`, a cycle start (R291, R320). -/
  hold : Bool := false
  /-- The miss of the window in force has been counted. -/
  missed : Bool := false
  deriving DecidableEq, Repr

/-- One CAN controller beyond its registers. -/
structure Can where
  pend : NMap CanFrame := []
  cur  : Option CanTx := none
  mat  : Option MatRun := none
  matNext : Option MatRun := none
  /-- XL ring: next offset to write, and for each FIFO entry not consumed the bytes it holds there, oldest first (R351). -/
  ringAt : Nat := 0
  ring : List Nat := []
  /-- The frame that left the controller last: ID word, header byte 4, data, TD0 time of its start. -/
  sent : Option (Nat × Nat × List Byte × Nat) := none
  deriving DecidableEq, Repr

/-- One LIN channel beyond its registers. -/
structure Lin where
  /-- Schedule entry of the next slot, and its real time. -/
  idx  : Nat := 0
  slotAt : Option Nat := none
  /-- Identifier of the header sent last, and the bytes of the response published last. -/
  cur  : Option Nat := none
  resp : List Byte := []
  /-- Recent writes into the channel's buffers, newest first: real time, identifier, and the data bytes before the write. A
  response carries the data as it stood when the response started (R353). -/
  hist : List (Nat × Nat × List Byte) := []
  /-- Real time of the latest 1 ms wake pulse sent (R361, R365). -/
  pulse : Option Nat := none
  /-- Real time of the last bus activity. -/
  act  : Nat := 0
  /-- The commander is sending the go-to-sleep command (R362). -/
  gts  : Bool := false
  deriving DecidableEq, Repr

/-- One network-management network beyond its registers (R354–R362). -/
structure Net where
  /-- Real time at which the idle timer expires. -/
  idleAt : Nat := 0
  /-- Real time of the end of T_PREP. -/
  prepAt : Option Nat := none
  /-- The commit point, and what has arrived since: a wake detected, a need (R362). -/
  commit : Option Nat := none
  wakeSeen : Bool := false
  needSeen : Bool := false
  /-- Real time and flags beside NEED of the next Bellwether. -/
  due  : Option (Nat × Nat) := none
  seq  : Nat := 0
  /-- Bellwethers received since boot (R366). -/
  count : Nat := 0
  /-- Real time at which a need woke the network last. -/
  needWake : Option Nat := none
  /-- Error state of the network's CAN controller before it left the bus at the commit (R362). -/
  errSt : Nat := 3
  deriving DecidableEq, Repr

/-- The fieldbus controllers and network management (chapter 10). -/
structure Fbc where
  /-- Bytes of the message areas, by offset in the FBC slot (R334, R335). -/
  area : NMap Byte := []
  can  : NMap Can := []
  lin  : NMap Lin := []
  net  : NMap Net := []
  /-- Real time of the last refresh of each transceiver (field die; 0–7 CAN, 8–11 LIN), and those in fail-safe (R364). -/
  refresh : NMap Nat := []
  fs   : Nat := 0
  /-- Networks whose wake detection is armed (field die). -/
  armed : Nat := 0
  deriving DecidableEq, Repr

/-- An image of a transmit PDU: its bytes, the TD0 time at which it was built, ns, and the update count then (R378, R379). -/
structure GwImage where
  data : List Byte
  at_  : Nat
  upd  : Nat
  deriving DecidableEq, Repr

/-- A transmit PDU's state, and a receive PDU's (R370–R378). -/
structure GwPdu where
  /-- The PDU's bytes as last received or, for a transmit PDU, as its signal values stand. -/
  img  : List Byte := []
  /-- TD0 time, ns, of the next PERIODIC transmission. -/
  next : Option Nat := none
  /-- Real time of the previous transmission (R374). -/
  last : Option Nat := none
  /-- An update waits for the end of the gap. -/
  wait : Bool := false
  /-- Queued images of RESCALE updates, oldest first (R375). -/
  queue : List GwImage := []
  /-- A LIN PDU written into its buffer, whose response has not started: it takes further updates (R378). -/
  open_ : Bool := false
  /-- Updates, wrapping (R379). -/
  upd  : Nat := 0
  /-- Real time of the last frame taken, or of the start; timed out (R377). -/
  seen : Nat := 0
  timedOut : Bool := false
  deriving DecidableEq, Repr

/-- A signal defined by SIGNAL_DEFINE or the settings: its 48 parameter bytes, and its raw value (R373, R374, R383). -/
structure GwSignal where
  raw  : List Byte
  val  : Nat
  deriving DecidableEq, Repr

/-- A route in force (R375, R384). -/
structure GwRoute where
  src  : Nat
  dst  : Nat
  mode : Nat
  onTimeout : Nat
  fwd  : Nat := 0
  sat  : Nat := 0
  timedOut : Bool := false
  seen : Bool := false
  /-- Real time of the grid point at which ROUTE_CREATE took effect. -/
  since : Nat := 0
  deriving DecidableEq, Repr

/-- A transmit container: entries waiting as PDU and its words, and the real time of the first (R380). -/
structure GwCont where
  entries : List (Nat × List Nat) := []
  since : Option Nat := none
  seq  : Nat := 0
  deriving DecidableEq, Repr

/-- The signal gateway (chapter 11). -/
structure Sgw where
  pdus : NMap GwPdu := []
  sigs : NMap GwSignal := []
  routes : NMap GwRoute := []
  /-- Routes that ROUTE_DELETE has removed, as number, route and real time: a frame that ended before is still carried by them
  (R378). -/
  gone : List (Nat × GwRoute × Nat) := []
  conts : NMap GwCont := []
  /-- IPv4 identification of the next datagram (R372). -/
  ipId : Nat := 0
  deriving DecidableEq, Repr

/-- A read that the bridge has issued: tag or 64 for a held read, initiator, window, local address, length, real time of
issue (R392, R393). -/
structure PlbRead where
  tag  : Nat
  init : Nat
  win  : Nat
  addr : Nat
  len  : Nat
  at_  : Nat
  /-- Bytes fetched beyond the request are kept as a prefetch line (R396). -/
  fetch : Nat := 0
  /-- Its pair has been fenced since: the response is discarded (R414). -/
  void : Bool := false
  deriving DecidableEq, Repr

/-- A prefetch line: window, local address of its first byte, its bytes, delivered flags, real time of the last use. -/
structure PfLine where
  win  : Nat
  addr : Nat
  data : List Byte
  got  : List Bool
  used : Nat
  deriving DecidableEq, Repr

/-- A record of the discard ring (R397). -/
structure PlbDisc where
  len  : Nat
  win  : Nat
  addr : Nat
  deriving DecidableEq, Repr

/-- What the bridge has sent to the partner: a posted write or a read request, with the request's kind (0 memory write,
1 memory read, 2 configuration write, 3 configuration read, 4 MSI-X message), partner address, and bytes or length. -/
structure PlbSent where
  kind : Nat
  addr : Nat
  data : List Byte := []
  len  : Nat := 0
  deriving DecidableEq, Repr

/-- The partner link (R387–R401). -/
structure Plb where
  /-- Requests handed to the partner, oldest first. -/
  posted : List PlbSent := []
  reads : List PlbRead := []
  /-- Data reads waiting for a tag, oldest first (R392). -/
  queue : List PlbRead := []
  lines : List PfLine := []
  disc : List PlbDisc := []
  /-- Answers to inbound requests: bytes read, or none for Unsupported Request. -/
  inAnswer : Option (List Byte) := none
  /-- Completions that came for no outstanding read (R393). -/
  unexpected : Nat := 0
  hbCount : Nat := 0
  hbDue : Option Nat := none
  /-- Real time of the last heartbeat from the partner, or of the start; lost since. -/
  hbSeen : Nat := 0
  hbLost : Bool := false
  /-- MSI-X table bytes and pending bits (R388). -/
  msixTable : NMap Byte := []
  msixPend : Nat := 0
  /-- Addresses that the partner has given BAR0 and BAR2 (R388). -/
  bar0 : Nat := 0
  bar2 : Nat := 0
  deriving DecidableEq, Repr

end Sys2Proof.Machine
end

