-- ==== Sys2Proof/Machine/StatePda.lean ====
section
/-! DEFINITION. State of the power distribution array (chapters 01–03) beside its registers. -/

namespace Sys2Proof.Machine

/-- What a channel's gate driver does (R32–R36). -/
inductive Gate where
  | off | charging | on | sink | fast
  deriving DecidableEq, Repr

/-- The field die's copy of a channel's settings (R67): the words of CTRL, ORPHAN, LIMP and LIMP_I2T. -/
structure FdCopy where
  ctrl   : Word := 0x223F0
  orphan : Word := 0x190
  limp   : Word := 0
  i2t    : Word := 0
  deriving DecidableEq, Repr

/-- A request that has reached the PDA and is not in force yet (R36). -/
structure PendReq where
  req  : Nat
  fast : Bool
  duty : Option Nat := none
  /-- The command that made it, by fetch number; none for a register write. -/
  cmd  : Option Nat := none
  wait : Bool := false
  /-- Real time at which it reached the PDA. -/
  at_  : Nat
  deriving DecidableEq, Repr

/-- A channel's PWM sequence (R40): the values latched at the last period start. -/
structure PwmRun where
  /-- A period has begun. -/
  begun  : Bool := false
  period : Nat := 0
  duty   : Nat := 0
  /-- TD0 time, ns, of the period in progress; in HELD, before a period has begun, of the first start to come. -/
  start  : Int := 0
  /-- Real time of the same. -/
  startAt : Nat := 0
  /-- Length of the on-time of this period, ns. -/
  onFor  : Nat := 0
  /-- Real time of the on-edge. -/
  onAt   : Nat := 0
  /-- In the on-time. -/
  on     : Bool := false
  /-- The on-edge is deferred by the charge pump (R35). -/
  deferred : Bool := false
  /-- Real time at which the last off-time began (R94). -/
  offAt  : Option Nat := none
  /-- The channel entered PWM from OFF and has not turned on yet (R89). -/
  entry  : Bool := false
  /-- MINON (µs) in force: that of the last period start, kept in HELD (R62). -/
  minon  : Nat := 0
  /-- TD0 time, ns, modulo the period, of the start instants of the sequence in force: of the last period start (R40). -/
  phase  : Nat := 0
  /-- Before a period has begun: the TD0 time, ns, from which the first start instant is sought (R40). -/
  from_  : Nat := 0
  /-- Real time from which the blanking time of the on-time counts: the on-edge, later by every paused grid point (R96). -/
  blankFrom : Nat := 0
  deriving DecidableEq, Repr

/-- One channel beyond its registers. -/
structure Ch where
  /-- State of R56, thermal latch (R110), retries left and used since the refill (R113–R117). -/
  state : Nat := 0
  thermal : Bool := false
  left  : Nat := 0
  used  : Nat := 0
  copy  : FdCopy := {}
  /-- Fault bits the field die keeps (R57). -/
  kept  : Nat := 0
  gate  : Gate := .off
  /-- The owner's last request in force: 0 off, 1 on, 2 PWM (R63, R73, R114). -/
  req   : Nat := 0
  /-- Real time at which it took effect. -/
  reqAt : Option Nat := none
  pend  : Option PendReq := none
  /-- The CH_SET commands waiting for ON (R76); each keeps the TD0 time of its grid point. -/
  waitOn : List Nat := []
  /-- CH_PWM_CONFIG commands that wait for the period start. -/
  pwmCmds : List Nat := []
  pwm   : Option PwmRun := none
  /-- Since when no recomputation has had a usable V_group (R43), real time. -/
  holdSince : Option Nat := none
  /-- Blanking time left, in grid points (R37). -/
  blank : Nat := 0
  desat : Nat := 0
  stuck : Nat := 0
  rev   : Nat := 0
  /-- TD0 time of the first counted sample below I_OLON (R52). -/
  olon  : Option Nat := none
  /-- The open-load time has run out at a counted sample. -/
  olonDue : Bool := false
  /-- State and gate drive at the instant of the latest current sample. -/
  smpState : Nat := 0
  smpOn : Bool := false
  /-- The conversion code of that sample. -/
  smpCode : Int := 0
  /-- What a switch failure element sees of the channel (R209): 0 other, 1 off or tripped, 2 ON; the real time since which. -/
  swCat : Nat := 1
  swAt  : Nat := 0
  /-- The current sample on which the checks of the latest grid point acted (R124), Q16.16. -/
  act : Option Int := none
  /-- Off-state tests (R48–R51): TD0 time of the next test, end of the settle time of the test in progress, last result
  (0 open load, 1 short to supply) and its run, real time of the last turn-off. -/
  offNext : Option Nat := none
  offBusy : Option Nat := none
  offLast : Option Nat := none
  offRun  : Nat := 0
  unavail : Bool := false
  offAt   : Option Nat := none
  /-- The diagnosis record's last trip (R79). -/
  tripTd : Nat := 0
  cause  : Nat := 0
  trips  : Nat := 0
  openTests : Nat := 0
  /-- Real time of the last trip. -/
  tripAt : Option Nat := none
  /-- A trip whose outcome settles at the next grid point; true if a REQ 0 had started the turn-off (R62, R118). -/
  settle : Option Bool := none
  /-- Inrush clock in 10 µs units, its reset at the next grid point, pause (R89, R96). -/
  clock : Nat := 0
  /-- A turn-on has set the clock since protection became active: it advances (R89). -/
  clockRuns : Bool := false
  clockNew : Bool := false
  paused : Bool := false
  pausePts : Nat := 0
  /-- I²t accumulator, in units of 2⁻³² A² × 10 µs (R92). -/
  b : Nat := 0
  /-- Restart delay left in grid points, and whether a restart is pending (R114). -/
  delay : Nat := 0
  restart : Bool := false
  /-- Grid points of trip-free on-time (R117). -/
  refill : Nat := 0
  /-- Kettle (R100–R102): stages and wire in fixed point; mean square (Q32), V_g and I_on (Q16) in use. -/
  th1 : Int := 0
  th2 : Int := 0
  th3 : Int := 0
  thw : Int := 0
  ms2 : Int := 0
  vg  : Int := 0
  ion : Int := 0
  /-- Sums over the millisecond: squares and their count, on-currents and their count, transitions. -/
  sum2 : Int := 0
  n2   : Nat := 0
  sumOn : Int := 0
  nOn  : Nat := 0
  ntr  : Nat := 0
  /-- Charges of the gate in the millisecond that a turn-off cut short before they were seen complete. -/
  unseen : Nat := 0
  /-- The next update is the first after protection became active on a conducting channel (R108). -/
  first : Bool := false
  /-- Hold and orphan states (R61–R66): real end of T_hold, orphan HOLD or FOLLOW-LIMP in force. -/
  holdEnd : Option Nat := none
  orphanHold : Bool := false
  follow : Bool := false
  /-- Limp (R69–R73): tripped in LIMP, LATCHED at the takeover, accumulator (2⁻³² A² × 100 µs), release requested at
  a real time, next limp or park PWM edge and whether it is an on-edge. -/
  limpTrip : Bool := false
  limpLatched : Bool := false
  limpA  : Nat := 0
  relAt  : Option Nat := none
  edge   : Option (Nat × Bool) := none
  edgeDuty : Nat := 0
  /-- Real time at which the limp PWM last turned the gate off (R94). -/
  edgeOff : Option Nat := none
  /-- A turn-on by the field die, in HELD or LIMP, that waits for the charge pump (R35). -/
  pumpWait : Bool := false
  /-- Bytes 0–7 of the profile in force while the channel is in use (R88). -/
  fixed : Option (List Byte) := none
  deriving DecidableEq, Repr

/-- One supply group beyond its registers (R55, R95–R97). -/
structure Grp where
  uv : Bool := false
  /-- Grid index of the first and of the latest sample of the run below 5.5 V (or, under UV, above 5.8 V). -/
  run : Option (Nat × Nat) := none
  /-- VALID supply samples of the last millisecond: grid index and Q16.16 value, latest first. -/
  hist : List (Nat × Int) := []
  /-- A droop event in progress: frozen sum and count of V_ref, grid index of its start. -/
  event : Option (Int × Nat × Nat) := none
  /-- Ended by PAUSE_MAX: no new event before a sample at or above the threshold. -/
  blocked : Bool := false
  /-- Sum and count of the VALID samples of the millisecond (R100). -/
  sumV : Int := 0
  nV   : Nat := 0
  deriving DecidableEq, Repr

/-- A measurement stream (R139–R145). -/
structure Stream where
  fn     : Nat
  ring   : Bool
  order  : Nat
  batch  : Nat
  period : Nat
  id     : Nat
  /-- Destination MAC and tag for the network, or the ring's base address. -/
  mac    : Nat := 0
  tag    : Nat := 0
  base   : Nat := 0
  srcs   : List Nat
  seq    : Nat := 0
  gap    : Bool := false
  /-- Words of the sets not yet sent, oldest set first. -/
  sets   : List (List Nat) := []
  widx   : Nat := 0
  /-- Sources whose channel left the owner (R145). -/
  lost   : List Nat := []
  /-- Grid index of the latest publication, or of the opening: the first set is taken at the instant after it (R139). -/
  last   : Option Nat := none
  /-- A frame that port M has not accepted yet: sequence, flags and words (R142). -/
  wait   : Option (Nat × Nat × List Nat) := none
  /-- A frame has gone out since the stream was opened. -/
  sent   : Bool := false
  deriving DecidableEq, Repr

/-- User terms of a source that no register shows (R566): gain and offset, Q16.16. -/
structure UserTerms where
  gain : Nat := 65536
  ofs  : Int := 0
  deriving DecidableEq, Repr

/-- A selected sense output in the field die (R59, R60), and the level every output drives, µV. -/
structure Sense where
  sel   : Bool := false
  level : Nat := 0
  deriving DecidableEq, Repr

/-- The power distribution array (DEDUCED, log entry 6). -/
structure Pda where
  ch   : NMap Ch := []
  grp  : NMap Grp := []
  /-- Profiles 1–127: 128 bytes each (R82). -/
  profiles : NMap (List Byte) := []
  /-- Latest measurement word of each local source, by source ID (R137). -/
  words : NMap Nat := []
  /-- Last VALID value of each source (R103, R131). -/
  valid : NMap Int := []
  /-- Samples of a source still to come that are not VALID (R127, R135). -/
  skip  : NMap Nat := []
  /-- Samples of a source still to come after a TD0 step (R131). -/
  step  : NMap Nat := []
  /-- User terms of the sources of kinds 1–3. -/
  user  : NMap UserTerms := []
  /-- Offset measured since the shipped trim, Q16.16 (R134). -/
  trim  : NMap Int := []
  /-- Offset calibrations running: real end time and command (R134). -/
  cal   : NMap (Nat × Nat) := []
  streams : NMap Stream := []
  sense : NMap Sense := []
  /-- Charge pump below 8 V above the highest group (field die, R35). -/
  cpLow : Bool := false
  /-- Channels and coarse currents: real time of the last limp I²t update (R71). -/
  limpTick : Nat := 0
  /-- Channels whose bitstream lost bits since the last grid point (R133). -/
  lostBits : List Nat := []
  /-- The core die is declared lost (R61). -/
  lost  : Bool := true
  /-- The core die has loaded the base configuration once since VBAT (R67). -/
  loaded : Bool := false
  deriving DecidableEq, Repr

end Sys2Proof.Machine
end

