-- ==== Sys2Proof/Syntax.lean ====
section
/-! DEFINITION. The commands the block takes from outside: one constructor for each row of the table of operations
and events, with the row's operands. -/

namespace Sys2Proof

/-- The initiator of an access: its 8-bit ID and its world (R440). -/
structure Init where
  id     : BitVec 8
  secure : Bool
  deriving DecidableEq, Repr

/-- A command descriptor's 64 bytes, by field (R22). -/
structure Desc where
  opcode   : BitVec 16
  tag      : BitVec 16
  fence    : Bool
  atomic   : Bool
  notify   : Bool
  expert   : Bool
  rsvd     : BitVec 4
  group    : BitVec 8
  target   : BitVec 16
  deadline : BitVec 64
  /-- Words 1–3: 48 parameter bytes. -/
  params   : List Byte
  deriving DecidableEq, Repr

/-- A command handed to the service: the issuing function, the queue it comes from (0–7, or 8 for the mailbox),
and the descriptor but for its opcode, which the row names. -/
structure Req where
  fn       : Nat
  src      : Nat
  tag      : BitVec 16
  fence    : Bool
  atomic   : Bool
  notify   : Bool
  expert   : Bool
  rsvd     : BitVec 4
  group    : BitVec 8
  target   : BitVec 16
  deadline : BitVec 64
  params   : List Byte
  deriving DecidableEq, Repr

/-- What the converters deliver at a grid point (R122–R130): per source index, the decimator code of a current, the
14-bit code of a voltage, the 12-bit code of an analog input, and an internal quantity in Q16.16. A source that is
not listed delivers the code of zero. -/
structure GridIn where
  cur : List (Nat × Int) := []
  out : List (Nat × Nat) := []
  grp : List (Nat × Nat) := []
  ain : List (Nat × Nat) := []
  int : List (Nat × Int) := []
  deriving DecidableEq, Repr

/-- What Sheepdog's samples read in a cycle (R509, R511): WK inputs and VBAT in 0.1 V, raw analog codes, the junction
temperature in °C, and coarse park currents in 0.1 A by slot. An input that is not listed reads zero. -/
structure SdIn where
  wk   : List (Nat × Nat) := []
  ain  : List (Nat × Nat) := []
  vbat : Nat := 0
  temp : Int := 0
  cur  : List (Nat × Int) := []
  deriving DecidableEq, Repr

/-- What the field die's charge-pump comparators see (R35, R537), in mV: the pump's output, VBAT, and the group supplies. A
group that is not listed is at 0 V; the rows that carry it take the event itself, with no supply present, where it is not written. -/
structure PumpIn where
  cp   : Nat := 0
  vbat : Nat := 0
  grp  : List (Nat × Nat) := []
  deriving DecidableEq, Repr

/-- A CAN frame as it ends on the bus (R348, R349): its ID word, bytes 4–6 and the acceptance field of a receive entry, its
data, and how many ns before its end its start of frame lay. `errs` is the increase of the receive error counter that
ISO 11898-1 gives for a frame with an error, which is not received. -/
structure CanRx where
  id   : BitVec 32
  fmt  : BitVec 8
  sdt  : BitVec 8 := 0
  vcid : BitVec 8 := 0
  af   : BitVec 32 := 0
  data : List Byte
  ago  : Nat := 0
  errs : Nat := 0
  deriving DecidableEq, Repr

/-- How a transmit attempt ends (R338–R347): sent; arbitration lost; or an error, with the increase of the transmit error
counter that ISO 11898-1 gives, and whether it meets the conditions of an identifier collision. -/
inductive CanEnd where
  | sent
  | lost
  | error (inc : Nat) (collision : Bool)
  deriving DecidableEq, Repr

/-- The commands (spec/opcode_table.json), in the order of the table but for those without operands, which stand last. -/
inductive Instr where
  /-- CH_SET (R76). Command requesting a channel off, on or PWM, with optional duty, fast-off and wait-for-on. -/
  | chSet (r : Req)
  /-- CH_PWM_CONFIG (R76). Command setting a channel's PWM period, duty, phase, VNOM and MINON from the next period start. -/
  | chPwmConfig (r : Req)
  /-- CH_CLEAR_LATCH (R116). Command making a LATCHED channel OFF and refilling its retry budget. -/
  | chClearLatch (r : Req)
  /-- CH_DIAG_READ (R78). Command returning a channel summary and optional record, clearing fault bits, and possibly withheld on a wait mask. -/
  | chDiagRead (r : Req)
  /-- CH_ASSIGN_PROFILE (R87). Command assigning a profile to an OFF or LATCHED channel, copying its gate and ceiling codes and refilling the budget. -/
  | chAssignProfile (r : Req)
  /-- CH_SENSEOUT_SELECT (R76). Command selecting the channel, source and full scale of a sense output. -/
  | chSenseoutSelect (r : Req)
  /-- PROFILE_WRITE (R119). PF command writing a 128-byte profile record after validating it. -/
  | profileWrite (r : Req)
  /-- PROFILE_READ (R119). Command writing a defined profile record to the issuer's memory. -/
  | profileRead (r : Req)
  /-- MEAS_STREAM_OPEN (R139). Command opening a measurement stream to the network or to a host ring. -/
  | measStreamOpen (r : Req)
  /-- MEAS_READ (R138). Command returning the latest measurement word of a source. -/
  | measRead (r : Req)
  /-- MEAS_CALIBRATE (R134). Command running an offset calibration or setting or restoring user gain and offset of a source. -/
  | measCalibrate (r : Req)
  /-- MEAS_STREAM_CLOSE (R144). Command stopping a stream after the current publication instant and flushing a final frame. -/
  | measStreamClose (r : Req)
  /-- ELEM_CREATE (R183). Command creating and placing a protection element instance. -/
  | elemCreate (r : Req)
  /-- ELEM_PARAM (R184). Command replacing an instance's parameter block from its next run. -/
  | elemParam (r : Req)
  /-- ELEM_DELETE (R184). Command stopping an instance at a fast-tick boundary and deasserting its row. -/
  | elemDelete (r : Req)
  /-- ELEM_STATUS (R184). Command returning an instance's trip, start, degraded, unplaced, disabled and disagreement status. -/
  | elemStatus (r : Req)
  /-- PLACEMENT_READ (R186). Command returning one instance's placement summary or the whole placement buffer. -/
  | placementRead (r : Req)
  /-- TRIP_RESET (R178). Command clearing PE trip latches of channels no asserted row targets. -/
  | tripReset (r : Req)
  /-- INGEST_OPEN (R185). Command opening a native or foreign ingest handle. -/
  | ingestOpen (r : Req)
  /-- INGEST_CLOSE (R184). Command closing an ingest handle no instance uses. -/
  | ingestClose (r : Req)
  /-- PLACEMENT_REBALANCE (R184). PF long operation starting a full placement of all instances. -/
  | placementRebalance (r : Req)
  /-- ELEM_LOAD (R216). PF command verifying and loading a signed user element image. -/
  | elemLoad (r : Req)
  /-- SIGNAL_DEFINE (R383). Command defining a signal's position, encoding and scaling within a PDU. -/
  | signalDefine (r : Req)
  /-- ROUTE_CREATE (R384). Command creating a RATE or RESCALE route between two signals. -/
  | routeCreate (r : Req)
  /-- ROUTE_DELETE (R384). Command deleting a route at a TD0 grid point. -/
  | routeDelete (r : Req)
  /-- ROUTE_STATUS (R384). Command returning a route's update and saturation counts and timeout state. -/
  | routeStatus (r : Req)
  /-- NM_NEED (R366). Command setting the need of a network, waking it from BUS_SLEEP. -/
  | nmNeed (r : Req)
  /-- NM_RELEASE (R366). Command clearing the need of a network. -/
  | nmRelease (r : Req)
  /-- NM_STATUS (R366). Command returning a network's state, need, wake reason and Bellwether record. -/
  | nmStatus (r : Req)
  /-- MODE_SELECT (R267). PF command preparing the tables of another mode overlay. -/
  | modeSelect (r : Req)
  /-- IMAGE_STAGE (R273). PF long operation copying an image into the inactive MRAM area and verifying it. -/
  | imageStage (r : Req)
  /-- IMAGE_COMMIT (R274). PF long operation committing a staged image permanently, on trial, or confirming a trial. -/
  | imageCommit (r : Req)
  /-- MODE_READ (R277). Command returning SF_MODE and the base image BUILD. -/
  | modeRead (r : Req)
  /-- TEST_RUN (R488). PF long operation starting the test of a unit named by test ID. -/
  | testRun (r : Req)
  /-- TEST_RESULT (R488). PF command returning the last result of a unit's test. -/
  | testResult (r : Req)
  /-- TIME_READ (R328). Command reading all four time domains at one tick. -/
  | timeRead (r : Req)
  /-- ATTEST (R458). Long operation requesting a signed attestation report through a secure call. -/
  | attest (r : Req)
  /-- KEY_USE (R463). Secure-call command using a key slot for GCM or MACsec association install or retire. -/
  | keyUse (r : Req)
  /-- FN_QUIESCE (R250). PF command stopping fetch from a VF and draining its commands. -/
  | fnQuiesce (r : Req)
  /-- FN_RESUME (R251). PF command returning a quiescing or quiesced VF to ENABLED. -/
  | fnResume (r : Req)
  /-- OWNERSHIP_SET (R246). PF command moving a range of resources to a new owner at the next grid point. -/
  | ownershipSet (r : Req)
  /-- VF_ENABLE (R249). PF command enabling a VF with its window table, queue pairs, world and interrupt file. -/
  | vfEnable (r : Req)
  /-- VF_DISABLE (R253). PF command disabling a VF cleanly or dirtily. -/
  | vfDisable (r : Req)
  /-- SQ_TAIL_DOORBELL (R224). Write of SF_QPq_SQ_TAIL submitting descriptors or being refused as DOORBELL error. -/
  | sqTailDoorbell (a : Init) (fn : Nat) (q : Nat) (v : Word)
  /-- CQ_HEAD_WRITE (R227). Write of SF_QPq_CQ_HEAD freeing consumed completion entries. -/
  | cqHeadWrite (a : Init) (fn : Nat) (q : Nat) (v : Word)
  /-- QP_CFG_WRITE (R222). Write of SF_QPq_CFG enabling or disabling a queue pair and resetting its indices. -/
  | qpCfgWrite (a : Init) (fn : Nat) (q : Nat) (v : Word)
  /-- MBX_SUBMIT (R230). Write of SF_MBX_CMD15 submitting the mailbox descriptor. -/
  | mbxSubmit (a : Init) (fn : Nat) (v : Word)
  /-- MBX_RESULT_READ (R231). Read of SF_MBX_RESULT0 returning BUSY, the completion, or the completion with REPEAT. -/
  | mbxResultRead (a : Init) (fn : Nat)
  /-- COMMAND_START (R228). Start of a fetched command once completion room and fence order allow. -/
  | commandStart (seq : Nat)
  /-- ATOMIC_GROUP_EFFECT (R235). All members of a closed atomic group take effect at one grid point. -/
  | atomicGroupEffect (fn : Nat) (q : Nat)
  /-- ATOMIC_GROUP_TIMEOUT (R236). An atomic group not closed within 1 ms fails and its members complete ABORTED. -/
  | atomicGroupTimeout (fn : Nat) (q : Nat)
  /-- DEADLINE_MISSED (R239). A command's deadline passes before effect, so it completes DEADLINE_MISSED. -/
  | deadlineMissed (seq : Nat)
  /-- WITHHELD_READ_RELEASE (R78). A withheld CH_DIAG_READ completes when a wait-mask bit becomes set. -/
  | withheldReadRelease (n : Nat) (fn : Nat)
  /-- QUIESCE_DRAINED (R250). The last in-flight command of a quiescing VF completes, so it becomes QUIESCED. -/
  | quiesceDrained (fn : Nat)
  /-- DIRTY_DISABLE_DONE (R253). Executing commands of a dirtily disabled VF finish and VF_DISABLE completes. -/
  | dirtyDisableDone (fn : Nat)
  /-- IMAGE_STAGE_DONE (R273). Staging copy and verification finish and the area becomes STAGED or the stage fails. -/
  | imageStageDone (kind : Nat) (ok : Bool)
  /-- IMAGE_COMMIT_DONE (R274). Commit record written, rollback counter advanced, and the commit completes. -/
  | imageCommitDone (kind : Nat)
  /-- TEST_DONE (R487). A unit test finishes, leaving the unit in service, standby or locked out. -/
  | testDone (id : Nat) (code : Nat) (us : Nat)
  /-- ATTEST_DONE (R458). The attestation report is written and ATTEST's second completion follows. -/
  | attestDone (seq : Nat)
  /-- PROFILE_INDEX_APPLY (R268). A deferred profile index takes effect when its channel next reaches OFF or LATCHED. -/
  | profileIndexApply (n : Nat)
  /-- CH_CTRL_REQ_WRITE (R36). Write of PDA_CHn_CTRL.REQ requesting a channel state. -/
  | chCtrlReqWrite (a : Init) (n : Nat) (v : Word)
  /-- CH_FAULT_CLEAR (R57). W1C write to PDA_CHn_FAULT clearing fault bits and the field die's kept copies. -/
  | chFaultClear (a : Init) (n : Nat) (v : Word)
  /-- CHANNEL_REQUEST_EFFECT (R36). A pending channel request takes effect at the next TD0 grid point. -/
  | channelRequestEffect (n : Nat)
  /-- GRID_POINT (R123). TD0 10 µs grid point: samples taken and PDA envelope, I2T and diagnostic checks applied. -/
  | gridPoint (x : GridIn)
  /-- BLANKING_EXPIRY (R37). Blanking time ends without turn-on complete and the channel trips with DESAT. -/
  | blankingExpiry (n : Nat)
  /-- DESAT (R38). Three counted samples above the desaturation threshold trip the channel. -/
  | desat (n : Nat)
  /-- TURN_OFF_COMPLETE (R39). Gate-source voltage falls below 1 V and the channel is OFF. -/
  | turnOffComplete (n : Nat)
  /-- CEILING_TRIP (R46). Shunt voltage exceeds the ceiling threshold; fast sink engages and SHORT is recorded. -/
  | ceilingTrip (n : Nat) (uv : Nat)
  /-- PWM_PERIOD_START (R40). A PWM period starts and its on-edge turns the gate on. -/
  | pwmPeriodStart (n : Nat)
  /-- PWM_OFF_EDGE (R40). PWM off-edge discharges the gate with the SINK_CODE current. -/
  | pwmOffEdge (n : Nat)
  /-- COMP_HOLD_EXPIRY (R43). After 10 ms without usable V_group, DUTY_APPLIED becomes DUTY_SET. -/
  | compHoldExpiry (n : Nat)
  /-- OFF_STATE_TEST_START (R48). At INTERVAL an off-state test samples OUTnn and connects the pull-up. -/
  | offStateTestStart (n : Nat) (vout : Int) (vgrp : Int)
  /-- OFF_STATE_TEST_SAMPLE (R48). After SETTLE the pulled-up output is sampled and the test result counted. -/
  | offStateTestSample (n : Nat) (vout : Int)
  /-- OPEN_LOAD_ON (R52). Current below I_OLON for OLON_T records OPEN_LOAD_ON. -/
  | openLoadOn (n : Nat)
  /-- STUCK_ON (R53). Three samples above I_STUCK while OFF record STUCK_ON and raise the switch-failure source. -/
  | stuckOn (n : Nat)
  /-- REVERSE (R54). Ten samples below −I_REV record REVERSE and trip a driven B2B channel. -/
  | reverse (n : Nat)
  /-- GROUP_UV_BEGIN (R55). A 100 µs run of samples below 5.5 V begins GROUP_UV for the group. -/
  | groupUvBegin (k : Nat)
  /-- GROUP_UV_END (R55). A 100 µs run of samples above 5.8 V ends GROUP_UV. -/
  | groupUvEnd (k : Nat)
  /-- PAUSE_MAX_EXPIRY (R97). A droop event reaches PAUSE_MAX and ends. -/
  | pauseMaxExpiry (k : Nat)
  /-- CHANNEL_RESTART (R114). A TRIPPED channel restarts once its delay has elapsed and its latches allow. -/
  | channelRestart (n : Nat)
  /-- BUDGET_REFILL (R117). REFILL of trip-free on-time refills the retry budget. -/
  | budgetRefill (n : Nat)
  /-- CORE_DIE_LOST (R61). Field die declares the core die lost and applies hold and orphan states. -/
  | coreDieLost (supply : Bool)
  /-- T_HOLD_EXPIRY (R63). T_hold ends and the channel takes its orphan state. -/
  | tHoldExpiry (n : Nat)
  /-- LIMP_CHANGE (R69). Filtered LIMP input changes, taking over or releasing channels with limp entries. -/
  | limpChange (level : Bool)
  /-- LH_CHANGE (R69). Filtered LH input changes, switching limp channels that map it. -/
  | lhChange (levels : Nat)
  /-- LIMP_RELEASE (R73). Limp releases a channel at the next grid point or field-die tick to its proper state. -/
  | limpRelease (n : Nat)
  /-- LIMP_I2T_UPDATE (R71). Every 100 µs the limp I2T counter is updated and may trip with LIMP_I2T. -/
  | limpI2tUpdate (est : List (Nat × Int))
  /-- LIMP_PWM_EDGE (R69). Field-die 200 Hz limp or park PWM edge switches the gate. -/
  | limpPwmEdge (n : Nat)
  /-- STREAM_PUBLISH (R141). At a publication grid point a stream takes one set of latest words. -/
  | streamPublish (h : Nat)
  /-- OFFSET_CALIBRATION_DONE (R134). A 200 µs offset calibration ends and its offset is added to the trim. -/
  | offsetCalibrationDone (sid : Nat) (ofs : Int)
  /-- LINK_FRAME_ERROR (R133). Lost or failed inter-die frames produce HOLD words and an FCU report. -/
  | linkFrameError (chs : List Nat)
  /-- USER_ELEMENT_DISABLED (R151). Three consecutive stopped runs disable a user instance to FAILSAFE. -/
  | userElementDisabled (h : Nat)
  /-- INGEST_STALE (R164). No accepted sample for 64 fast ticks sets STALE on the handle. -/
  | ingestStale (h : Nat)
  /-- PAIR_RETURN_TO_SERVICE (R173). An EP pair returns to service and unplaced or degraded instances are retried. -/
  | pairReturnToService (p : Nat)
  /-- BULLETIN_FRAME_DUE (R181). A burst or heartbeat Trip Bulletin frame falls due and is sent. -/
  | bulletinFrameDue (b : Nat)
  /-- SUBSCRIPTION_STALE (R182). No bulletin frame for 300 ms makes a subscription STALE. -/
  | subscriptionStale (j : Nat)
  /-- FRAME_RX (R284). An Ethernet frame arrives at a port and is filtered, classified and forwarded. -/
  | frameRx (p : Nat) (b : List Byte) (fcsOk : Bool) (q : Nat)
  /-- FRAME_TX_START (R289). A queued frame starts transmission when its gate interval can hold it. -/
  | frameTxStart (p : Nat) (q : Nat)
  /-- LINK_STATE_CHANGE (R279). A port link goes up or down. -/
  | linkStateChange (p : Nat) (up : Bool)
  /-- PLCA_FALLBACK (R281). A follower sees no BEACON for 2 ms and falls back to CSMA/CD. -/
  | plcaFallback (p : Nat)
  /-- BEACON_RX (R281). A BEACON ends fallback and resumes PLCA opportunities. -/
  | beaconRx (p : Nat)
  /-- GATE_ENTRY_EXPIRY (R288). A gate control list interval ends and the next entry's gate states apply. -/
  | gateEntryExpiry (p : Nat)
  /-- GATE_LIST_SWITCH (R290). A new gate control list takes effect at its first cycle start. -/
  | gateListSwitch (p : Nat)
  /-- ADDRESS_AGE_OUT (R284). A learned address ages out after AGE seconds. -/
  | addressAgeOut (vid : Nat) (mac : Nat)
  /-- FRER_RESET_TIMEOUT (R295). A recovery function's RESET_MS expires and its history resets. -/
  | frerResetTimeout (h : Nat)
  /-- DEV_ETYPE_WRITE (R298). Write of ESW_DEV_ETYPE accepted or refused. -/
  | devEtypeWrite (a : Init) (v : Word)
  /-- SF_BLOCKED_CLEAR (R294). W1C write unblocking a BLOCKED stream filter. -/
  | sfBlockedClear (a : Init) (w : Nat) (v : Word)
  /-- QUEUE_CFG_WRITE (R299). Write of ESW_Qq_CFG enabling a guest Ethernet queue and resetting its heads. -/
  | queueCfgWrite (a : Init) (fn : Nat) (q : Nat) (v : Word)
  /-- QUEUE_TX_TAIL (R300). Write of the transmit tail doorbell handing descriptors to the device. -/
  | queueTxTail (a : Init) (fn : Nat) (q : Nat) (v : Word)
  /-- QUEUE_RX_TAIL (R300). Write of the receive tail doorbell offering receive buffers. -/
  | queueRxTail (a : Init) (fn : Nat) (q : Nat) (v : Word)
  /-- QUEUE_TX_DESCRIPTOR (R301). The device checks and sends one transmit descriptor's frame and writes it back. -/
  | queueTxDescriptor (q : Nat)
  /-- QUEUE_INTERRUPT (R303). At the grid point after write-backs the queue sends its message interrupt. -/
  | queueInterrupt (q : Nat)
  /-- PORT_COUNTER_READ (R305). Read of ESW_PORTp_CNTc_LO returning, latching and clearing the counter. -/
  | portCounterRead (a : Init) (p : Nat) (c : Nat)
  /-- TIME_SET_WRITE (R315). Write of TIME_SEC_HI requesting or refusing a SET of a domain. -/
  | timeSetWrite (a : Init) (d : Nat) (v : Word)
  /-- TIME_SET_APPLY (R315). A requested SET is applied at the next tick or TD0 grid point. -/
  | timeSetApply (d : Nat)
  /-- STEP_WRITE (R316). Write of STEP_HI requesting a step of a domain. -/
  | stepWrite (a : Init) (d : Nat) (v : Word)
  /-- STEP_APPLY (R318). A step is checked and applied, re-forming the grid and schedules. -/
  | stepApply (d : Nat)
  /-- INC_WRITE (R309). Write of INC_NS applying or refusing a new increment. -/
  | incWrite (a : Init) (d : Nat) (v : Word)
  /-- LOCK (R313). Write of CTRL.LOCK declaring a FREE domain LOCKED. -/
  | lock (a : Init) (d : Nat) (v : Word)
  /-- UNLOCK (R313). Write of CTRL.UNLOCK returning a domain to FREE. -/
  | unlock (a : Init) (d : Nat) (v : Word)
  /-- REFRESH (R313). Write of CTRL.REFRESH refreshing a domain. -/
  | refresh (a : Init) (d : Nat) (v : Word)
  /-- SNAP_CAPTURE (R330). Write of TBU_SNAP.CAPTURE copying all four domains at one tick. -/
  | snapCapture (a : Init) (v : Word)
  /-- HOLDOVER_ENTRY (R313). No refresh for REFRESH_T moves a LOCKED domain to HOLDOVER. -/
  | holdoverEntry (d : Nat)
  /-- HOLDOVER_EXPIRY (R313). HOLD_T ends and the domain becomes FREE with an FCU event. -/
  | holdoverExpiry (d : Nat)
  /-- TSQ_INFO_READ (R324). Read of TBU_TSQ_INFO removing the oldest stamp entry and latching it. -/
  | tsqInfoRead (a : Init)
  /-- CAN_TXREQ_WRITE (R337). Write of FBC_CANc_TXREQ snapshotting a buffer and making it pending. -/
  | canTxreqWrite (a : Init) (c : Nat) (w : Nat) (v : Word)
  /-- CAN_TXABORT_WRITE (R340). Write of FBC_CANc_TXABORT aborting a pending frame. -/
  | canTxabortWrite (a : Init) (c : Nat) (w : Nat) (v : Word)
  /-- CAN_RECOVER_WRITE (R346). Write of CTRL.RECOVER starting bus-off recovery under BOFF_MANUAL. -/
  | canRecoverWrite (a : Init) (c : Nat) (v : Word)
  /-- RXF_RIDX_WRITE (R351). Write of the receive FIFO read index consuming entries. -/
  | rxfRidxWrite (a : Init) (c : Nat) (v : Word)
  /-- CAN_ARBITRATION (R338). At bus idle the controller chooses the admitted pending frame and starts an attempt. -/
  | canArbitration (c : Nat)
  /-- CAN_ATTEMPT_END (R341). A transmit attempt ends in success or error, updating counters and status. -/
  | canAttemptEnd (c : Nat) (e : CanEnd)
  /-- VALIDITY_EXPIRY (R340). A pending frame's VALID_MS runs out and it ends EXPIRED. -/
  | validityExpiry (c : Nat) (b : Nat)
  /-- BUS_OFF_END (R346). 128 recessive occurrences end bus-off with counters zeroed. -/
  | busOffEnd (c : Nat)
  /-- SCHED_MISS (R343). An EXCLUSIVE window passes LATEST_k without its frame starting. -/
  | schedMiss (c : Nat)
  /-- CAN_FRAME_RX (R348). A received CAN frame passes catch and acceptance filters to buffers, FIFO or gateway. -/
  | canFrameRx (c : Nat) (f : CanRx)
  /-- LIN_HEADER_SLOT (R353). A commander schedule slot begins and its header is sent. -/
  | linHeaderSlot (l : Nat)
  /-- LIN_RESPONSE (R352). A LIN response ends and its buffer status is written. -/
  | linResponse (l : Nat) (id : Nat) (st : Nat) (data : List Byte) (ago : Nat)
  /-- LIN_GO_TO_SLEEP (R361). A LIN responder receives the go-to-sleep command and commits to sleep. -/
  | linGoToSleep (l : Nat)
  /-- LIN_BUS_IDLE_TIMEOUT (R361). A LIN responder's bus-idle timeout expires and it goes to BUS_SLEEP. -/
  | linBusIdleTimeout (l : Nat)
  /-- BELLWETHER_DUE (R356). A Bellwether falls due under need and is queued or built. -/
  | bellwetherDue (n : Nat)
  /-- IDLE_TIMER_EXPIRY (R361). A network's idle timer expires, entering PREPARE_SLEEP or restarting. -/
  | idleTimerExpiry (n : Nat)
  /-- T_PREP_EXPIRY (R362). T_PREP ends and the network commits to sleep, arming wake detection. -/
  | tPrepExpiry (n : Nat)
  /-- BUS_RELEASE (R362). 10 µs after commit the controller leaves the bus and the medium enters low power. -/
  | busRelease (n : Nat)
  /-- WAKE_DETECTED (R365). Wake pattern, dominant phase or energy wakes a sleeping network. -/
  | wakeDetected (n : Nat)
  /-- TRANSCEIVER_FAILSAFE (R364). No refresh for T_FS puts a transceiver into low power with wake armed. -/
  | transceiverFailsafe (x : Nat)
  /-- VCAN_UV (R333). VCAN crosses its undervoltage threshold, holding buses recessive or releasing them. -/
  | vcanUv (below : Bool)
  /-- GW_PERIODIC_TX (R374). A PERIODIC transmit PDU falls due and is built and sent. -/
  | gwPeriodicTx (p : Nat)
  /-- GW_GAP_END (R374). MIN_GAP ends and a waiting ON_UPDATE image is sent. -/
  | gwGapEnd (p : Nat)
  /-- GW_RX_TIMEOUT (R377). A receive PDU times out and routes apply ON_TIMEOUT. -/
  | gwRxTimeout (p : Nat)
  /-- CONTAINER_HOLD_EXPIRY (R380). HOLD after the first waiting entry sends the Signal Container frame. -/
  | containerHoldExpiry (k : Nat)
  /-- OUTBOUND_WRITE (R391). A posted write through an outbound window is sent to the partner. -/
  | outboundWrite (a : Init) (addr : Nat) (d : List Byte)
  /-- SPLIT_READ (R392). A data-window read takes a tag and issues a split read. -/
  | splitRead (a : Init) (addr : Nat) (n : Nat)
  /-- HELD_READ (R393). A control-window read stalls its initiator until the data returns. -/
  | heldRead (a : Init) (addr : Nat) (n : Nat)
  /-- READ_COMPLETION_RX (R392). A partner completion returns read data and frees the tag. -/
  | readCompletionRx (t : Nat) (d : Option (List Byte))
  /-- CPL_TO (R392). A split read not completed within CPL_TO ends with a bus error. -/
  | cplTo (t : Nat)
  /-- HELD_READ_TIMEOUT (R393). A held read unanswered for 64 µs ends with a bus error. -/
  | heldReadTimeout (i : Nat)
  /-- INBOUND_REQUEST (R388, R394). A partner request is matched against inbound windows and served or refused. `bar` is what it
  addresses at an endpoint: a BAR from 0 to 5, or 6 for the function's configuration space; a root port has only absolute
  addresses. -/
  | inboundRequest (bar : Nat) (w : Bool) (addr : Nat) (n : Nat) (d : List Byte)
  /-- PLB_LINK_CHANGE (R398). The partner link goes down or up, failing outstanding outbound reads on loss. -/
  | plbLinkChange (up : Bool) (speed : Nat) (width : Nat)
  /-- PREFETCH_AGE_EXPIRY (R396). A prefetch line unused for PF_AGE is discarded and recorded. -/
  | prefetchAgeExpiry (k : Nat)
  /-- DISC_INFO_READ (R397). Read of PLB_DISC_INFO removing the oldest discard entry. -/
  | discInfoRead (a : Init)
  /-- HEARTBEAT_RX (R399). A partner heartbeat write is captured in PLB_HB_RX. -/
  | heartbeatRx (d : List Byte)
  /-- MSIX_SEND (R388). Write of PLB_MSIX_SEND sending or pending an MSI-X vector. -/
  | msixSend (a : Init) (v : Word)
  /-- LOCKSTEP_MISMATCH (R414). A boundary comparison mismatch blocks the pair's outputs and fences it. -/
  | lockstepMismatch (u : Nat)
  /-- REGISTER_FOLD (R416). Every 65 536 cycles both copies fold their registers and compare CRCs. -/
  | registerFold (u : Nat) (main : List Byte) (check : List Byte)
  /-- HANDOVER (R421). Write of CC_PAIRp_CTRL.HANDOVER requesting a planned handover. -/
  | handover (a : Init) (p : Nat) (v : Word)
  /-- HANDOVER_EXECUTE (R421). After released requests complete, the hart ID moves to SPX or its home pair. -/
  | handoverExecute (p : Nat)
  /-- PAIR_RESTART (R422). Write of CC_PAIRp_CTRL.RESTART releasing a FENCED pair. -/
  | pairRestart (a : Init) (p : Nat) (v : Word)
  /-- CACHE_PARITY_ERROR (R410). A cache error is corrected by invalidation and refill or poisoned write-back. -/
  | cacheParityError (u : Nat) (kind : Nat) (addr : Nat)
  /-- SPARE_MIGRATE (R428). Write of MS_SPARE_CTRL.GO starting migration of a bank to the spare. -/
  | spareMigrate (a : Init) (v : Word)
  /-- SPARE_RETURN (R429). Write of MS_SPARE_CTRL.RETURN copying the spare back to its bank. -/
  | spareReturn (a : Init) (v : Word)
  /-- SCRUB_STEP (R435). A scrubber reads a word, correcting or reporting errors. -/
  | scrubStep (m : Nat) (addr : Nat) (kind : Option Nat)
  /-- MEMORY_ERROR (R436). A memory read finds a corrected, uncorrectable or ADDRESS error and reports it. -/
  | memoryError (addr : Nat) (init : Nat) (kind : Nat)
  /-- ERR_INFO_READ (R437). Read of MS_ERR_INFO removing the oldest memory error log entry. -/
  | errInfoRead (a : Init)
  /-- GATEKEEPER_REGION_WRITE (R445). Write to a gatekeeper region applied or ignored by world and LOCK. -/
  | gatekeeperRegionWrite (a : Init) (g : Nat) (r : Nat) (w : Nat) (v : Word)
  /-- GK_INFO_READ (R447). Read of SEC_GK_INFO removing the oldest gatekeeper log entry. -/
  | gkInfoRead (a : Init)
  /-- ISLAND_VOTE_WRITE (R448). Write of PCS_ISLi_VOTE changing the writer's world votes and possibly gating the island. -/
  | islandVoteWrite (a : Init) (i : Nat) (v : Word)
  /-- ISLAND_RETURN (R499). A power-gated island returns and its settings are restored before requests are admitted. -/
  | islandReturn (i : Nat)
  /-- LC_CTRL_WRITE (R456). Secure write of SEC_LC_CTRL advancing the lifecycle fuses. -/
  | lcCtrlWrite (a : Init) (v : Word) (ok : Bool)
  /-- OTP_READ (R454). Write of SEC_OTP_CTRL.READ loading an OTP word into OTP_DATA. -/
  | otpRead (a : Init) (v : Word)
  /-- OTP_PROGRAM (R454). Write of SEC_OTP_CTRL.PROG programming an OTP word or being refused. -/
  | otpProgram (a : Init) (v : Word)
  /-- KEY_LOAD (R462). SEC_KEY_CTRL LOAD writes a key slot from SEC_KEY_DATA. -/
  | keyLoad (a : Init) (v : Word)
  /-- KEY_DERIVE (R462). SEC_KEY_CTRL DERIVE writes a device-bound key into a slot. -/
  | keyDerive (a : Init) (v : Word)
  /-- KEY_CLEAR (R462). SEC_KEY_CTRL CLEAR empties a key slot. -/
  | keyClear (a : Init) (v : Word)
  /-- JOB_GO (R464). Write of SEC_JOB_CTRL.GO starting an engine job. -/
  | jobGo (a : Init) (v : Word)
  /-- CALL_ANSWER (R459). Write of SEC_CALL_ANS3 posting a secure call answer. -/
  | callAnswer (a : Init) (v : Word)
  /-- RNG_DATA_READ (R465). Read of SEC_RNG_DATA taking one word from the FIFO. -/
  | rngDataRead (a : Init)
  /-- DEBUG_TOKEN (R467). A debug token handed in through the TAP is verified and its rights granted. -/
  | debugToken (tok : List Byte) (ok : Bool)
  /-- REVOKE (R468). Secure write of SEC_DBG_CTRL.REVOKE ending token grants. -/
  | revoke (a : Init) (v : Word)
  /-- FCU_ERROR_EVENT (R472). An error source reports and the FCU applies its class and reactions. -/
  | fcuErrorEvent (i : Nat)
  /-- BROKEN_PAIR (R471). A non-complementary source pair is handled at its broken-pair class. -/
  | brokenPair (i : Nat)
  /-- SRC_CFG_WRITE (R474). Write of FCU_SRCi_CFG strengthening but never weakening reactions. -/
  | srcCfgWrite (a : Init) (i : Nat) (v : Word)
  /-- SRC_STATE_CLEAR (R481). Write clearing LATCHED or BROKEN of a source if its cause is gone. -/
  | srcStateClear (a : Init) (i : Nat) (v : Word)
  /-- PEN_RELEASE (R477). Write of FCU_PENn_CTRL.RELEASE releasing a fenced pen. -/
  | penRelease (a : Init) (n : Nat) (v : Word)
  /-- FATAL_SRC_CLEAR (R485). W1C of FCU_FATAL_SRC.VALID releasing ERR_N after a safe state. -/
  | fatalSrcClear (a : Init) (v : Word)
  /-- FATAL_REBOOT (R485). After REBOOT_DELAY the fatal reset is released. -/
  | fatalReboot (pins : Nat) (testen : Bool) (rails : Nat)
  /-- LOG_INFO_READ (R490). Read of FCU_LOG_INFO removing the oldest FCU log entry. -/
  | logInfoRead (a : Init)
  /-- SOFTWARE_RESET (R501). Write of PCS_RESET_CTRL.CORE resets the core die. -/
  | softwareReset (a : Init) (v : Word)
  /-- CORE_RESET_RELEASE (R495). PORST_N high and supplies good release the core-die reset and boot begins. -/
  | coreResetRelease (pins : Nat) (testen : Bool) (rails : Nat)
  /-- SHEEPDOG_CYCLE (R509). Each Sheepdog cycle evaluates its rules and runs their actions. -/
  | sheepdogCycle (x : SdIn)
  /-- WK_STATIC_EDGE (R511). A kind 2 WK static edge persisting N periods fires its rule. -/
  | wkStaticEdge (r : Nat) (up : Bool)
  /-- HALT_REQUEST (R521). Debug module halt request to a hart, effective if its world has the invasive enable. -/
  | haltRequest (h : Nat)
  /-- HALT_EFFECT (R524). A halt takes effect at the next instruction boundary after released requests complete. -/
  | haltEffect (h : Nat)
  /-- RESUME_REQUEST (R520). Debug module resume request to a halted hart. -/
  | resumeRequest (h : Nat)
  /-- ABSTRACT_COMMAND (R520). Debug module abstract register or memory access. -/
  | abstractCommand (h : Nat) (mem : Bool) (at_ : Nat) (write : Bool) (size : Nat) (v : Nat) (post : Bool := false)
  /-- SYSTEM_BUS_ACCESS (R521). Debug module system bus access in the world of DBG_SBA. -/
  | systemBusAccess (write : Bool) (addr : Nat) (size : Nat) (v : Nat)
  /-- HARTRESET (R522). hartreset resets the selected hart alone. -/
  | hartreset (h : Nat)
  /-- DEBUG_TRIGGER (R521). A trigger fires, entering debug mode or raising a breakpoint exception. -/
  | debugTrigger (h : Nat) (dmode : Bool)
  /-- LOADER_SHIFT (R526). A LOADER shift delivers the image length or an image word. -/
  | loaderShift (w : Word)
  /-- SAMPLER_SAMPLE (R531). A counter advances by PERIOD and its sampler writes a record. -/
  | samplerSample (k : Nat) (pc : Nat) (mode : Nat)
  /-- SMP_INFO_READ (R531). Read of DBG_SMP_INFO removing the oldest sample record. -/
  | smpInfoRead (a : Init)
  /-- REGISTER_WRITE (R15). Write to a register without behaviour of its own, by access type and world. -/
  | registerWrite (a : Init) (addr : Nat) (v : Word)
  /-- SCHEDULE_COLUMN_START (R343). A schedule matrix column begins and its window admits pending scheduled frames to start an attempt. -/
  | scheduleColumnStart (c : Nat)
  /-- CAN_BUS_JOIN (R365). After 11 consecutive recessive bits a rejoining CAN controller joins the bus and may arbitrate. -/
  | canBusJoin (c : Nat)
  /-- MACHINE_TIMER_COMPARE (R405). mtime reaches a hart ID's machine timer compare and the timer interrupt becomes pending. -/
  | machineTimerCompare (h : Nat)
  /-- ERROR_SOURCE_IDLE (R481). An error source's pair returns to the no-error state, clearing ACTIVE so LATCHED or BROKEN may be cleared. -/
  | errorSourceIdle (i : Nat)
  /-- DESCRIPTOR_FETCH (R225). Service round fetching one descriptor per enabled function while in-flight limits allow. -/
  | descriptorFetch
  /-- OWNERSHIP_CHANGE (R247). Ownership change takes effect at its grid point, failing old owner's pending commands. -/
  | ownershipChange
  /-- REBALANCE_DONE (R168). A full placement completes and its second completion is written. -/
  | rebalanceDone
  /-- MODE_APPLY (R267). Prepared mode tables take effect at the first fast-tick boundary. -/
  | modeApply
  /-- UV_DEFER (R35). Charge pump falls below 8 V above the highest group, deferring turn-ons. -/
  | uvDefer (x : PumpIn := {})
  /-- CP_RECOVER (R35). Charge pump rises above the 8 V level again, releasing deferred turn-ons. -/
  | cpRecover (x : PumpIn := { cp := 8000 })
  /-- CP_UV (R35). Charge pump below 6 V for 50 µs turns off every on channel with the fast sink. -/
  | cpUv (x : PumpIn := {})
  /-- DUTY_RECOMPUTE (R42). Every 100 µs the compensated DUTY_APPLIED is recomputed from the group supply. -/
  | dutyRecompute
  /-- KETTLE_UPDATE (R100). Each TD0 millisecond the Foster junction estimate is updated and checked. -/
  | kettleUpdate
  /-- TRIM_REAPPLY (R122). Every 10 ms the factory trims are reapplied from the field-die temperature. -/
  | trimReapply
  /-- FAST_TICK (R148). PE fast tick: input banks switch and placed instances run in order. -/
  | fastTick
  /-- INGEST_NATIVE_FRAME (R155). A native Sampled Measurement Stream frame is accepted by an ingest handle. -/
  | ingestNativeFrame
  /-- INGEST_FOREIGN_FRAME (R157). A foreign frame matched by a template is decoded into remote samples. -/
  | ingestForeignFrame
  /-- REFLOW_DONE (R172). A reflow completes and held placement commands run. -/
  | reflowDone
  /-- BULLETIN_FRAME_RX (R182). A received Trip Bulletin updates a subscription row. -/
  | bulletinFrameRx
  /-- DEV_ETYPE_EFFECT (R298). A new device EtherType takes effect at the next TD0 grid point. -/
  | devEtypeEffect
  /-- BELLWETHER_RX (R359). A received Bellwether restarts the idle timer and is recorded. -/
  | bellwetherRx
  /-- TRANSCEIVER_REFRESH (R364). The field die refreshes each transceiver every 100 ms. -/
  | transceiverRefresh
  /-- CONTAINER_RX (R380). A received Signal Container feeds its entries to receive PDUs. -/
  | containerRx
  /-- ROUTE_CHANGE_EFFECT (R378). Route create or delete takes effect at its TD0 grid point. -/
  | routeChangeEffect
  /-- PERST_N_LINK_RESET (R387). PERST_N as endpoint resets only the PLB link logic. -/
  | perstNLinkReset
  /-- HEARTBEAT_SEND (R399). Every HB_PERIOD a heartbeat posted write is sent. -/
  | heartbeatSend
  /-- PEER_LOST (R399). No heartbeat for HB_TIMEOUT sets PEER_LOST with an FCU event. -/
  | peerLost
  /-- MIGRATION_DONE (R428). A bank copy ends and addresses resolve to the new bank. -/
  | migrationDone
  /-- JOB_DONE (R464). An engine job finishes and its status is set. -/
  | jobDone
  /-- CALL_TIMEOUT (R460). A secure call unanswered for CALL_TO makes the secure world DOWN. -/
  | callTimeout
  /-- RNG_HEALTH_FAIL (R465). An entropy health test fails and the generator stops. -/
  | rngHealthFail
  /-- ERRN_PULSE_END (R483). ERR_N releases once MIN_PULSE has passed and no condition holds. -/
  | errnPulseEnd
  /-- SVP_RESUME (R480). After pen 8 is fenced the SVP restarts and in-flight commands complete. -/
  | svpResume
  /-- POWER_ON (R493). VBAT above 4.5 V for 1 ms enters WAKING with INH high. -/
  | powerOn
  /-- VBAT_LOSS (R493). VBAT below 4.0 V for 10 µs takes the device OFF. -/
  | vbatLoss
  /-- PIN_RESET (R496). PORST_N low for 1 µs resets the core die. -/
  | pinReset
  /-- PROTECTION_ACTIVE (R504). PDA checks, PE ticks and trip paths run; Sheepdog stops and park channels enter HELD. -/
  | protectionActive
  /-- END_OF_BOOT (R505). FBC settings in force and networks in NETWORK; the device enters RUN. -/
  | endOfBoot
  /-- PREPARE_SLEEP (R506). The sleep condition holds and the device enters PREPARE-SLEEP with T_PREP. -/
  | prepareSleep
  /-- SLEEP_ABORT (R506). The sleep condition ends before commit and the device returns to RUN. -/
  | sleepAbort
  /-- SLEEP_COMMIT (R507). T_PREP ends; handover to the field die, channels dealt with, Sheepdog starts. -/
  | sleepCommit
  /-- INH_FALL (R507). INH falls 100 µs after the commit point. -/
  | inhFall
  /-- INH_RISE (R508). INH rises at the later of the wake decision and T_INH_MIN. -/
  | inhRise
  /-- NDMRESET (R522). ndmreset resets user harts whose world has the invasive enable. -/
  | ndmreset
  /-- TAP_RESET (R518). TRST_N or test-logic-reset resets the TAP controller. -/
  | tapReset
  /-- LOADER_IMAGE_DONE (R526). The received image is verified, staged, committed and a software reset follows. -/
  | loaderImageDone
  /-- HARTS_RELEASED (R503). Once LPDDR5 training and component loads end, the harts are released, RSTOUT_N rises and commands are accepted. -/
  | hartsReleased
  /-- OTP_OPERATION_DONE (R454). An OTP read or programming operation finishes and SEC_OTP_CTRL.BUSY clears. -/
  | otpOperationDone
  deriving DecidableEq, Repr

end Sys2Proof
end

