-- ==== Sys2Proof/Machine/StateCore.lean ====
section
/-! DEFINITION. State of the time bases, the command service, the configuration and the bus (chapters 00, 06, 07, 09).
What a register holds is in the register file; these structures hold the state the manual gives beside it. -/

namespace Sys2Proof.Machine

/-- A time domain's state (R311). -/
inductive TdState where
  | unset | free | locked | holdover
  deriving DecidableEq, Repr

/-- One time domain (R308): `val` counts 2⁻³² ns; `inc` is INC; a SET or step that is requested and not yet applied. -/
structure Td where
  val     : Nat := 0
  inc     : Nat := 0x200000000
  st      : TdState := .unset
  /-- Real time of the last refresh (R313). -/
  refresh : Nat := 0
  /-- Real time at which HOLDOVER was entered. -/
  holdAt  : Nat := 0
  /-- Written seconds, nanoseconds and fraction of a SET not yet applied (R315). -/
  pendSet : Option (Nat × Nat × Nat) := none
  pendStep : Option Int := none
  /-- Real time of the latest SET or step request. -/
  reqAt   : Nat := 0
  deriving DecidableEq, Repr

/-- One entry of the stamp queue (R323): the words of INFO and SEQ, and the stamp of each domain in quarter
nanoseconds since its zero (R321). -/
structure TsqEntry where
  info   : Nat
  seq    : Nat
  stamps : List Nat
  deriving DecidableEq, Repr

/-- The time base unit (chapter 09). -/
structure Tbu where
  td   : List Td := List.replicate 4 {}
  /-- TD0 grid index of the next grid point (R318). -/
  gridNext : Nat := 1
  /-- TD0 grid index of the latest grid point taken. -/
  grid : Nat := 0
  /-- Real time of the latest grid point taken. -/
  gridAt : Option Nat := none
  /-- The latest TD0 whole millisecond whose Kettle update was made (R319). -/
  kettleMs : Nat := 0
  tsq  : List TsqEntry := []
  deriving DecidableEq, Repr

/-- Where an in-flight command stands (R233–R240). -/
inductive Stage where
  /-- Fetched, not started: waiting for room or order (R228, R234). -/
  | waiting
  /-- Started; its effect comes at a grid point or at another event of its own. -/
  | started
  /-- A CH_DIAG_READ withheld on its wait mask (R78). -/
  | withheld
  /-- Held behind a placement or a mode change (R175, R269). -/
  | held
  /-- Forwarded to the secure world as a secure call (R459). -/
  | secure
  /-- A member of an atomic group that has passed its checks (R235). -/
  | member
  /-- A long operation whose ACCEPTED completion is written (R240). -/
  | long
  /-- Its effect has begun and only its completion remains to come. -/
  | effected
  deriving DecidableEq, Repr

/-- A command in flight: its issuer (function and queue, 8 for the mailbox), fetch order and descriptor. The service knows a
command by its fetch number `seq` alone; it never inspects the tag, which it only returns in the completion (R241). -/
structure Cmd where
  seq   : Nat
  fn    : Nat
  src   : Nat
  desc  : Desc
  stage : Stage := .waiting
  /-- Real time of the fetch. -/
  at_   : Nat := 0
  /-- A number the executing unit keeps for the command (a handle, a count at its fetch). -/
  aux   : Nat := 0
  /-- Completed internally, with nothing written (R253). -/
  mute  : Bool := false
  /-- The outcome of a command that finished while the service pair restarted (R480): status and result. -/
  fin   : Option (Nat × Nat) := none
  deriving DecidableEq, Repr

/-- The final state of a mailbox (R230, R231). -/
inductive MbxState where
  | never | busy | fresh | seen
  deriving DecidableEq, Repr

/-- A function's mailbox beyond its registers. -/
structure Mbx where
  st     : MbxState := .never
  words  : List Word := List.replicate 16 0
  /-- Submitted and not yet fetched. -/
  sent   : Bool := false
  /-- The completion, 16 bytes. -/
  result : List Byte := List.replicate 16 0
  deriving DecidableEq, Repr

/-- A queue pair beyond its registers (R222–R228). -/
structure Qp where
  head    : Nat := 0
  tail    : Nat := 0
  cqTail  : Nat := 0
  cqHead  : Nat := 0
  phase   : Bool := true
  deriving DecidableEq, Repr

/-- The open atomic group of a queue (R235, R236). -/
structure Group where
  fn     : Nat
  src    : Nat
  id     : Nat
  /-- Real time of the first member's fetch. -/
  first  : Nat
  /-- Fetch number of the first member, which the members carry. -/
  key    : Nat := 0
  count  : Nat := 0
  failed : Bool := false
  /-- The closing member has been checked, at this real time. -/
  closed : Option Nat := none
  deriving DecidableEq, Repr

/-- One window of a VF's window table (R220). -/
structure Window where
  base : Nat
  size : Nat
  phys : Nat
  r    : Bool
  w    : Bool
  deriving DecidableEq, Repr

/-- One function of the command service (R217–R220). -/
structure Fn where
  secure   : Bool := false
  limit    : Nat := 256
  imsic    : Nat := 0
  windows  : List Window := []
  qps      : List Qp := List.replicate 8 {}
  mbx      : Mbx := {}
  /-- The last pair served among the high-priority and the other pairs (R225). -/
  rrHi     : Nat := 0
  rrLo     : Nat := 0
  /-- Commands completed since VF_ENABLE (R250 counts from it). -/
  done     : Nat := 0
  /-- Dirty disables in progress: the VF_DISABLE command, the number of commands discarded, and the commands that were
  executing (R253). -/
  dirty    : List (Nat × Nat × List Nat) := []
  /-- The completed count when the quiesce began (R250). -/
  quiesceAt : Nat := 0
  deriving DecidableEq, Repr

/-- A change of owner that takes effect at the next grid point (R246). -/
structure OwnChange where
  cmd   : Nat
  kind  : Nat
  owner : Nat
  first : Nat
  count : Nat
  deriving DecidableEq, Repr

/-- The command service (chapter 06). -/
structure Sf where
  running : Bool := false
  fns     : NMap Fn := []
  cmds    : List Cmd := []
  nextSeq : Nat := 0
  /-- The last function served in the current round (R225). -/
  rrFn    : Nat := 63
  groups  : List Group := []
  /-- Owner of each resource by `SF_OWN` offset; an offset not listed is owned by the PF (R244, R245). -/
  own     : NMap Nat := []
  ownPend : List OwnChange := []
  deriving DecidableEq, Repr

/-- One record of a configuration table: section TYPE, record type within the section (0 where the section has
none), key, bytes (DESIGN CHOICE, log entry 19). -/
structure CfgRec where
  type  : Nat
  rtype : Nat := 0
  key   : Nat
  data  : List Byte
  deriving DecidableEq, Repr

/-- One patch of an overlay (R265). -/
structure Patch where
  table : Nat
  op    : Nat
  ofs   : Nat
  rtype : Nat := 0
  key   : Nat
  data  : List Byte
  deriving DecidableEq, Repr

/-- One mode overlay (R264). -/
structure Overlay where
  mode    : Nat
  expert  : Nat
  patches : List Patch
  /-- SHA3-512 of the image (R458). -/
  digest  : List Byte := []
  deriving DecidableEq, Repr

/-- A stage or commit in progress, one of each image kind at most (R273–R275). -/
structure ImageJob where
  cmd   : Nat
  kind  : Nat
  /-- 0 stage, 1 commit. -/
  op    : Nat
  src   : Nat := 0
  len   : Nat := 0
  action : Nat := 0
  advance : Bool := false
  deriving DecidableEq, Repr

/-- The configuration in force (chapter 07). -/
structure Cfg where
  /-- The tables in force: the base tables with the present mode's patches. -/
  tables   : List CfgRec := []
  base     : List CfgRec := []
  overlays : List Overlay := []
  build    : Nat := 0
  svn      : Nat := 0
  /-- SHA3-512 of the base image (R458). -/
  digest   : List Byte := []
  /-- Mode being prepared and its command (R267). -/
  preparing : Option (Nat × Nat) := none
  /-- Real time of the latest grid point at which a command took effect while a mode was being prepared (R269). -/
  tookAt : Option Nat := none
  /-- TD0 time, ns, at which the present mode was entered. -/
  entered  : Nat := 0
  /-- Channels whose new profile index waits for OFF or LATCHED (R268): channel, index. -/
  pendProf : NMap Nat := []
  jobs     : List ImageJob := []
  /-- Half (0 A, 1 B) from which each image kind runs (kind 0 configuration, 1 boot), if any. -/
  cfgHalf  : Option Nat := none
  bootHalf : Option Nat := none
  /-- The running area was a trial (R271). -/
  cfgTrial : Bool := false
  bootTrial : Bool := false
  /-- USER_KEY section: public key and minimum versions (R261). -/
  userKey  : List Byte := []
  /-- CFG_PK of the running boot image (R449). -/
  key      : List Byte := []
  deriving DecidableEq, Repr

/-- The answer a bus access leaves with its initiator: data words read, or a bus error (DESIGN CHOICE, log entry 14). -/
structure BusAnswer where
  error : Bool := false
  data  : List Word := []
  deriving DecidableEq, Repr

/-- A latch or a set of held writes of one initiator for one value wider than 32 bits (R13). -/
structure MwHold where
  init : Nat
  low  : Nat
  words : NMap Word
  deriving DecidableEq, Repr

/-- The bus: R13 latches and held writes, and the answer to the latest access. -/
structure Bus where
  latches : List MwHold := []
  holds   : List MwHold := []
  answer  : BusAnswer := {}
  deriving DecidableEq, Repr

end Sys2Proof.Machine
end

