-- ==== Sys2Proof/Machine/StateSys.lean ====
section
/-! DEFINITION. State of the cores and memories, security, fault collection, power and debug
(chapters 12–16) beside their registers. -/

namespace Sys2Proof.Machine

/-- A physical pair beyond its registers (R412–R423). -/
structure Pair where
  /-- The last fence came from a mismatch, and the pair has not returned to service since (R417). -/
  mis  : Bool := false
  /-- Real time of the last return to service after a mismatch (R417). -/
  returned : Option Nat := none
  /-- A HANDOVER accepted and not yet carried out (R421). -/
  handover : Bool := false
  /-- Real time of the latest fold mismatch (R417). -/
  foldAt : Option Nat := none
  deriving DecidableEq, Repr

/-- A user hart beyond the pair that carries it. -/
structure Hart where
  /-- The block of an LR reservation held (R404, R414). -/
  reservation : Option Nat := none
  halted    : Bool := false
  haltReq   : Bool := false
  haveReset : Bool := false
  /-- Machine timer interrupt pending (R405). -/
  mtip      : Bool := false
  /-- A breakpoint exception was raised by a trigger (R521). -/
  breakpoint : Bool := false
  /-- Present and released from reset. -/
  running   : Bool := false
  /-- Where the hart last started, and in which mode: 3 M (R419). -/
  startPc   : Nat := 0
  mode      : Nat := 3
  a0        : Nat := 0
  deriving DecidableEq, Repr

/-- A domain of the APLIC (R408), its registers as AIA 1.0 has them; every bit is clear at reset (PRESUMED, log entry 118). -/
structure Aplic where
  /-- `domaincfg.IE`. -/
  ie   : Bool := false
  /-- `sourcecfg` and `target` by source; unlisted reads 0. -/
  cfg  : NMap Nat := []
  tgt  : NMap Nat := []
  /-- Pending and enable bits, and the rectified inputs as last seen, by source. -/
  ip   : Nat := 0
  en   : Nat := 0
  seen : Nat := 0
  /-- `mmsiaddrcfg`, `mmsiaddrcfgh`, `smsiaddrcfg`, `smsiaddrcfgh`. -/
  base : NMap Nat := []
  /-- `genmsi`. -/
  gen  : Nat := 0
  deriving DecidableEq, Repr

/-- The core complex (chapter 12). -/
structure Cc where
  pairs : List Pair := List.replicate 7 {}
  harts : NMap Hart := []
  /-- Real time at which mtime was zero (R405). -/
  mtime0 : Nat := 0
  /-- Registers of halted harts that the debugger has read or written (R520): key hart × 65536 + register number. -/
  gpr : NMap Nat := []
  /-- Real time of the latest fault takeover by SPX (R423). -/
  takenAt : Option Nat := none
  /-- The machine-level and the supervisor-level domain of the APLIC (R408). -/
  aplicM : Aplic := {}
  aplicS : Aplic := {}
  deriving DecidableEq, Repr

/-- An entry of the memory error log (R437). -/
structure MsErr where
  info : Word
  addr : Nat
  time : Nat
  deriving DecidableEq, Repr

/-- The memory system (chapter 12). -/
structure Ms where
  log : List MsErr := []
  /-- A copy in progress: bank, and whether it is the return from the spare (R428, R429). -/
  copy : Option (Nat × Bool) := none
  /-- The logical bank that the spare serves (R428). -/
  spare : Option Nat := none
  /-- Words that read as uncorrectable, by the address of the 16-byte word: they carry the poison marker, or an error that a
  read has found (R427, R429, R436). -/
  poison : NMap Unit := []
  /-- Bytes of the LPDDR5 device in service: none before training (R432, R433). -/
  ddrSize : Nat := 0
  deriving DecidableEq, Repr

/-- An entry of the gatekeeper log (R447). -/
structure GkEvent where
  gk    : Nat
  kind  : Nat
  init  : Nat
  secure : Bool
  write : Bool
  addr  : Nat
  deriving DecidableEq, Repr

/-- A key slot (R462). -/
structure KeySlot where
  loaded : Bool := false
  key    : List Byte := []
  deriving DecidableEq, Repr

/-- A secure call waiting for its answer (R459, R460). -/
structure SecCall where
  seq  : Nat
  cmd  : Nat
  at_  : Nat
  deriving DecidableEq, Repr

/-- OTP contents (R454) (DESIGN CHOICE, log entry 3). -/
structure Otp where
  words : NMap Word := []
  bootSvn : Nat := 0
  cfgSvn  : Nat := 0
  lifecycle : Nat := 0
  devid   : Nat := 0
  dusDestroyed : Bool := false
  deriving DecidableEq, Repr

/-- Security (chapter 13). -/
structure Sec where
  gkLog  : List GkEvent := []
  otp    : Otp := {}
  /-- The OTP operation running: item, word, and the data where it programs (R454). -/
  otpOp  : Option (Nat × Nat × Option Word) := none
  calls  : List SecCall := []
  callSeq : Nat := 0
  /-- CALL_TO of the running boot image, ms (R449). -/
  callTo : Nat := 10
  down   : Bool := false
  keys   : NMap KeySlot := []
  keyData : List Word := List.replicate 8 0
  ans    : List Word := List.replicate 4 0
  /-- Words of the job running (R464). -/
  job    : Option (List Word) := none
  rngFail : Bool := false
  /-- Words left in the FIFO when the generator stopped (R465). -/
  rngLeft : Nat := 0
  chal   : List Word := List.replicate 8 0
  /-- Debug rights granted by a token in force (R467). -/
  grants : Option Nat := none
  /-- Boot image components: entry points of the secure and normal worlds (R451), its SVN, D_boot and the alias certificate
  (R457), and SEQ of its commit record. -/
  entryS : Nat := 0
  entryN : Nat := 0
  bootSvn : Nat := 0
  dBoot  : List Byte := []
  cert   : List Byte := []
  bootSeq : Nat := 0
  deriving DecidableEq, Repr

/-- An entry of the fault log (R490). -/
structure FcuEntry where
  info : Word
  time : Nat
  deriving DecidableEq, Repr

/-- The result of a unit test (R488). -/
structure TestRes where
  pass : Bool
  code : Nat
  us   : Nat
  deriving DecidableEq, Repr

/-- An error reported within a step and not yet handled: source, and whether its pair was broken (R471, R472). -/
structure FcuReport where
  src    : Nat
  broken : Bool := false
  /-- The pen becomes LOCKED_OUT (R415, R417). -/
  lock   : Bool := false
  deriving DecidableEq, Repr

/-- The fault collector (chapter 14) (DEDUCED, log entry 6). -/
structure Fcu where
  todo  : List FcuReport := []
  log   : List FcuEntry := []
  /-- Real times of the corrected events of a source in the escalation window (R473). -/
  recent : NMap (List Nat) := []
  /-- Sources with a latched event that was handled as escalated (R473). -/
  escd : NMap Unit := []
  /-- Sources whose pair reads broken at this moment (R481). -/
  brokenNow : NMap Unit := []
  /-- ERR_N asserted, and since when (field die, R482, R483). -/
  errn  : Bool := true
  errnAt : Nat := 0
  /-- Real time at which the fatal reset is due to be released (R485). -/
  fatalDue : Option Nat := none
  fatalReleased : Option Nat := none
  /-- The core die stays in reset until PORST_N (R485). -/
  lockedReset : Bool := false
  /-- Tests running: test ID, command. -/
  tests : NMap Nat := []
  testAt : NMap Nat := []
  results : NMap TestRes := []
  /-- Real time at which each pen was last fenced (R477, R479). -/
  penAt : NMap Nat := []
  /-- Real time of the service pair's fence, while it restarts (R480). -/
  svpFence : Option Nat := none
  svpResumed : Option Nat := none
  deriving DecidableEq, Repr

/-- Power states (R491). -/
inductive Power where
  | off | stowed | sentinel | waking | run | prepareSleep
  deriving DecidableEq, Repr

/-- How far the core die has come in its boot (R503). -/
inductive Boot where
  | unpowered | held | configured | protection | harts | done | bootFail | lockedReset
  deriving DecidableEq, Repr

/-- One Sheepdog rule in the field die and its run state (R509–R512). -/
structure Rule where
  raw   : List Byte
  /-- The rule has been evaluated since t_s; its filtered state, and a run of contrary conditions. -/
  begun : Bool := false
  value : Bool := false
  run   : Nat := 0
  /-- Periods of a timer rule that have been seen. -/
  fired : Nat := 0
  deriving DecidableEq, Repr

/-- A park slot in the field die (R513, R514): its record, and whether it conducts. -/
structure Park where
  raw  : List Byte
  on   : Bool := false
  deriving DecidableEq, Repr

/-- Power states, islands, reset, boot and Sheepdog (chapter 15), and the pins of chapter 17 (DEDUCED, log entry 6). -/
structure Pcs where
  power  : Power := .waking
  boot   : Boot := .held
  /-- VBAT is above its threshold, INH is high, PORST_N is high, RSTOUT_N is high. -/
  vbat   : Bool := true
  inh    : Bool := true
  porst  : Bool := false
  rstout : Bool := false
  /-- The supply monitors of the core die as the latest release found them (R495, R540): bits 0–7 VDD_CORE, VDD_SRAM, VDD_IO,
  VDD_PHY, VDD_PHYH, VDD_PCIE, VDDQ_DDR, VDD2H_DDR good; bits 8 and 9 VDDQ_DDR, VDD2H_DDR below 0.1 V. None while the die is
  unpowered. -/
  rails : Nat := 0
  /-- Real time of the INH fall to come, and of the last one (R507, R508). -/
  inhFall : Option Nat := none
  inhFellAt : Nat := 0
  /-- Real time of the reset release, t0 of R503; real time before which the reset is not released (R61). -/
  bootAt : Nat := 0
  noEarlier : Nat := 0
  /-- End of T_PREP in PREPARE-SLEEP (R506). -/
  prepAt : Option Nat := none
  /-- Reason and index that `PCS_WAKE` will record, and the real time of a wake decision (R508). -/
  wake   : Option (Nat × Nat) := none
  wakeAt : Nat := 0
  /-- t_s, and the mode named in the handover (R507). -/
  sleptAt : Nat := 0
  sdMode : Nat := 0
  /-- Sheepdog in the field die: settings of R516 in ms and µA, rules, park slots, flags; whether it executes; the number
  of the next cycle and the real time of the last. -/
  tPrepMs  : Nat := 50
  sdCycleMs : Nat := 50
  inhMinMs : Nat := 20
  rules  : NMap Rule := []
  parks  : NMap Park := []
  sdFlags : Nat := 0
  sdRunning : Bool := false
  cycle  : Nat := 0
  cycleAt : Nat := 0
  /-- BOOT1 and BOOT0 as latched at t0 (R538), factory scan mode, and its hold of ERR_N until the next PORST_N (R539), LPDDR5 supplies present (R540); LIMP and LH0–LH7
  after their filters; VCAN below its threshold. -/
  bootPins : Nat := 0
  scan : Bool := false
  scanHold : Bool := false
  ddrFitted : Bool := true
  limpPin : Bool := false
  lhPins : Nat := 0
  vcanUv : Bool := false
  /-- Islands that gate once idle or drained (R448, R500). -/
  draining : List Nat := []
  /-- Islands of element-processor pairs that are gated (R500). -/
  gated    : List Nat := []
  deriving DecidableEq, Repr

/-- A record of the sampler FIFO (R531). -/
structure Sample where
  info : Word
  pc   : Nat
  time : Nat
  deriving DecidableEq, Repr

/-- Debug (chapter 16). -/
structure Dbg where
  dmactive : Bool := false
  hartsel  : Nat := 0
  sberror  : Nat := 0
  sbdata   : Nat := 0
  abstractData : Nat := 0
  cmderr   : Nat := 0
  tapIr    : Nat := 1
  loaderLen : Nat := 0
  loader   : List Byte := []
  token    : List Byte := []
  counters : NMap Nat := []
  sampleBase : List Nat := List.replicate 8 0
  samples  : List Sample := []
  /-- Triggers, by hart × 16 + index: tdata1, tdata2, tdata3 (R520). -/
  trig     : NMap (Nat × Nat × Nat) := []
  /-- dmstatus as the latest request found it, and what the latest scan of a data register captured (R518, R520). -/
  dmstatus : Nat := 0
  tapDr    : Nat := 0
  /-- op of the latest DMI access: 0 done, 2 failed (R519). -/
  dmiOp    : Nat := 0
  deriving DecidableEq, Repr

end Sys2Proof.Machine
end

