-- ==== Sys2Proof/Machine/State.lean ====
section
/-! DEFINITION. The state of the LD-4824, its faults and refusals, and the state right after reset. -/

namespace Sys2Proof.Machine

/-- Why a step may end in a fault. -/
inductive Fault where
  /-- Raised by no command of this model: every command that the manual gives an effect ends in a next state. -/
  | unreachable
  deriving DecidableEq, Repr

/-- Why a command may be refused. -/
inductive Refusal where
  /-- The command has no meaning in this model yet. Raised by the dispatch only; safe. -/
  | notModelled (mnemonic : String)
  deriving DecidableEq, Repr

/-- The whole state of the device. -/
structure State where
  /-- Real time in ns since VBAT was applied (the model's own clock, R308's 2 ns ticks). -/
  now  : Nat := 0
  /-- Number of free values taken so far (the model's own field). -/
  free : Nat := 0
  /-- Commands waiting, first in, first out (the model's own field). -/
  pending : List Instr := []
  /-- The register file: every register that differs from its reset value, by address. -/
  regs : NMap Word := []
  /-- Memory bytes by physical address; an unlisted byte reads as zero. -/
  mem  : NMap Byte := []
  /-- Pending identities of each interrupt file, by file address (R406): bit i for identity i. -/
  imsic : NMap Nat := []
  /-- Enabled identities of each interrupt file (R407), in the same form; the harts alone change them. -/
  imsicEn : NMap Nat := []
  bus  : Bus := {}
  tbu  : Tbu := {}
  sf   : Sf := {}
  cfg  : Cfg := {}
  pda  : Pda := {}
  pe   : Pe := {}
  esw  : Esw := {}
  fbc  : Fbc := {}
  sgw  : Sgw := {}
  plb  : Plb := {}
  cc   : Cc := {}
  ms   : Ms := {}
  sec  : Sec := {}
  fcu  : Fcu := {}
  pcs  : Pcs := {}
  dbg  : Dbg := {}
  deriving DecidableEq, Repr

/-- The machine right after VBAT is applied: WAKING, INH high, the core die held in reset (R493, R495). -/
def State.reset : State := {}

end Sys2Proof.Machine
end

