-- ==== Sys2Proof/Machine/Ops.lean ====
section
/-! DEFINITION. The named operations over registers, time, memory, events and interrupt files that every chapter uses. -/

namespace Sys2Proof.Machine

/-- The outcome type of a command. -/
abbrev Out := Host.Outcome State Fault Refusal

/-! ### Registers (R12–R16) -/

/-- The bits a register holds: its stored value, or its reset value where the file lists none (DESIGN CHOICE, log entry 11). -/
def State.rd (s : State) (r : Reg) (i : Nat := 0) (j : Nat := 0) : Word :=
  ngetD s.regs (r.addr i j) (r.resetAt i)

/-- The state with a register's bits set (DESIGN CHOICE, log entry 11). -/
def State.wr (s : State) (r : Reg) (v : Word) (i : Nat := 0) (j : Nat := 0) : State :=
  { s with regs := nput (r.resetAt i) s.regs (r.addr i j) v }

/-- A field of a register, as a number. -/
def State.get (s : State) (f : Fld) (i : Nat := 0) (j : Nat := 0) : Nat :=
  bitsOf (s.rd f.reg i j).toNat f.hi f.lo

/-- A one-bit field of a register. -/
def State.flag (s : State) (f : Fld) (i : Nat := 0) (j : Nat := 0) : Bool := s.get f i j == 1

/-- The state with a field of a register set by hardware. -/
def State.set (s : State) (f : Fld) (v : Nat) (i : Nat := 0) (j : Nat := 0) : State :=
  s.wr f.reg (w32 (setBits (s.rd f.reg i j).toNat f.hi f.lo v)) i j

/-- The state with a one-bit field of a register set by hardware. -/
def State.setFlag (s : State) (f : Fld) (b : Bool) (i : Nat := 0) (j : Nat := 0) : State := s.set f (b2n b) i j

/-- The state with bit `k` of a field set. -/
def State.setBitOf (s : State) (f : Fld) (k : Nat) (i : Nat := 0) (j : Nat := 0) : State :=
  s.set f (setBit (s.get f i j) k true) i j

/-- The largest value a field can hold. -/
def Fld.top (f : Fld) : Nat := 2 ^ (f.hi + 1 - f.lo) - 1

/-- A count field increased by `n`, saturating at its top. -/
def State.inc (s : State) (f : Fld) (n : Nat := 1) (i : Nat := 0) (j : Nat := 0) : State :=
  s.set f (satAdd f.top (s.get f i j) n) i j

/-! ### Free values -/

/-- A number the manual leaves open, and the state after taking it (DESIGN CHOICE, log entry 8). -/
def State.freeNat (s : State) : Nat × State := (Config.freeNat s.free, { s with free := s.free + 1 })

/-- An integer the manual leaves open, held to [lo, hi] (DESIGN CHOICE, log entry 8). -/
def State.freeIn (s : State) (lo hi : Int) : Int × State :=
  (clampI lo hi (Config.freeInt s.free), { s with free := s.free + 1 })

/-- `n` bytes the manual leaves open (DESIGN CHOICE, log entry 8). -/
def State.freeBytes (s : State) (n : Nat) : List Byte × State :=
  ((List.range n).map (fun k => Config.freeByte (s.free + k)), { s with free := s.free + n })

/-- A value that a write leaves in a register, its field that R81, R121 or R187 clamps brought into its range (DEDUCED,
log entry 102). -/
def Reg.clamped (r : Reg) (v : Word) : Word :=
  if r.base = PDA_CHn_PWM_PERIOD.base then w32 (clampN 4000 100000000 v.toNat)
  else if r.base = PDA_GRPk_DROOP.base then w32 (setBits v.toNat 6 0 (clampN 50 95 (bitsOf v.toNat 6 0)))
  else if r.base = PE_PLACE_CFG.base then w32 (setBits v.toNat 6 0 (clampN 50 100 (bitsOf v.toNat 6 0)))
  else v

/-! ### Time (R308, R318, R22) -/

/-- The units of a domain value in one nanosecond. -/
def fracOne : Nat := 4294967296

/-- A domain's value wraps with its 48-bit seconds (R308). -/
def tdWrap : Nat := 281474976710656 * 1000000000 * fracOne

/-- Domain `d`. -/
def State.td (s : State) (d : Nat) : Td := s.tbu.td.getD d {}

/-- The state with domain `d` replaced. -/
def State.setTd (s : State) (d : Nat) (t : Td) : State :=
  { s with tbu := { s.tbu with td := s.tbu.td.set d t } }

/-- A domain's time in the form of R22: seconds × 10⁹ + nanoseconds. -/
def Td.ns (t : Td) : Nat := t.val / fracOne

/-- TD0 time in the form of R22. -/
def State.td0 (s : State) : Nat := (s.td 0).ns

/-- The core die is powered and out of reset: its time base runs (R310). -/
def State.coreRuns (s : State) : Bool :=
  match s.pcs.boot with
  | .unpowered | .held | .lockedReset => false
  | _ => true

/-- The state after `k` ticks of the 500 MHz time base (R308) (DESIGN CHOICE, log entry 4). -/
def State.ticks (s : State) (k : Nat) : State :=
  let s := { s with now := s.now + 2 * k }
  if s.coreRuns then
    { s with tbu := { s.tbu with td := s.tbu.td.map fun t => { t with val := (t.val + k * t.inc) % tdWrap } } }
  else s

/-- The state at real time `t`, in whole ticks; unchanged if `t` has passed (DESIGN CHOICE, log entry 4). -/
def State.until (s : State) (t : Nat) : State :=
  if t ≤ s.now then s else s.ticks (ceilDiv (t - s.now) 2)

/-- Ticks until domain `d` first reads at least `ns` nanoseconds. -/
def State.ticksTo (s : State) (d ns : Nat) : Nat := ceilDiv (ns * fracOne - (s.td d).val) (s.td d).inc

/-- The state when domain `d` first reads at least `ns` nanoseconds; unchanged if it does (DESIGN CHOICE, log entry 4). -/
def State.untilTd (s : State) (d ns : Nat) : State :=
  let t := s.td d
  if ns * fracOne ≤ t.val ∨ t.inc = 0 ∨ s.coreRuns = false then s
  else s.ticks (s.ticksTo d ns)

/-- TD0 time of grid index `g` (R318): g × 10 µs. -/
def gridNs (g : Nat) : Nat := g * 10000

/-- TD0 time of the latest grid point: before a SET or step of TD0 that is applied at it (R318). -/
def State.gridTd (s : State) : Nat := gridNs s.tbu.grid

/-- The index of the first grid point that has not passed. -/
def State.gridDue (s : State) : Nat := max s.tbu.gridNext (ceilDiv s.td0 10000)

/-- The latest grid point taken lies at the present instant (DESIGN CHOICE, log entry 4). -/
def State.atGrid (s : State) : Bool := s.tbu.gridAt == some s.now

/-- TD0 time of an effect at the present instant: at a grid point, that of the grid point (R318). -/
def State.effectNs (s : State) : Nat := if s.atGrid then s.gridTd else s.td0

/-! ### Performance counters (R527–R529) -/

/-- A counter goes on by `n`, modulo 2⁴⁸ (DEDUCED, log entry 96). -/
def State.bump (s : State) (e n : Nat) : State :=
  { s with dbg := { s.dbg with counters := nset s.dbg.counters e ((ngetD s.dbg.counters e 0 + n) % 281474976710656) } }

/-- Device event `e` without an initiator occurs `n` times: of the filter criteria only the world, S, applies (R527, R529). -/
def State.count (s : State) (e : Nat) (n : Nat := 1) : State :=
  let f := s.get DBG_EVTe_CFG_FSET e
  if s.flag DBG_EVTe_CFG_FILT e && !(bitOf (s.get DBG_FSETf_MATCH_WORLD f) 1) then s else s.bump e n

/-- Access event `e` occurs: an access by an initiator at an address; class 0 read, 1 write, 2 fetch, 3 atomic (R529). -/
def State.countAccess (s : State) (e init : Nat) (secure : Bool) (addr cls : Nat) : State :=
  let f := s.get DBG_EVTe_CFG_FSET e
  let base := (s.rd DBG_FSETf_BASE_LO f).toNat + s.get DBG_FSETf_BASE_HI_ADDR f * 4294967296
  let limit := (s.rd DBG_FSETf_LIMIT_LO f).toNat + s.get DBG_FSETf_LIMIT_HI_ADDR f * 4294967296
  let hit :=
    bitOf (s.get DBG_FSETf_MATCH_WORLD f) (b2n secure) && bitOf (s.get DBG_FSETf_MATCH_CLASS f) cls &&
      (Nat.xor init (s.get DBG_FSETf_INIT_INIT_ID f) &&& s.get DBG_FSETf_INIT_INIT_MASK f) == 0 &&
      (!(s.flag DBG_FSETf_MATCH_ADDR_EN f) || decide (base ≤ addr ∧ addr ≤ limit))
  if s.flag DBG_EVTe_CFG_FILT e && !hit then s else s.bump e 1

/-! ### Error reports and event bits -/

/-- An error source reports to the FCU (R470); the reaction follows within the same step (DEDUCED, log entry 18). -/
def State.report (s : State) (src : Nat) : State :=
  { s with fcu := { s.fcu with todo := s.fcu.todo ++ [{ src := src }] } }

/-- A gatekeeper event (R447): logged, the oldest entry overwritten when 16 are held, and `SEC_EVT.GK` set
(DEDUCED, log entry 36). -/
def State.gkEvent (s : State) (e : GkEvent) : State :=
  let s := if e.kind = 0 then s.countAccess 459 e.init e.secure e.addr (b2n e.write) else s
  let full := s.sec.gkLog.length ≥ 16
  let log := if full then s.sec.gkLog.drop (s.sec.gkLog.length - 15) ++ [e] else s.sec.gkLog ++ [e]
  let s := { s with sec := { s.sec with gkLog := log } }
  let s := if full then s.setFlag SEC_GK_STATUS_OVF true else s
  s.setFlag SEC_EVT_GK true

/-! ### Interrupt files (R406, R407) -/

/-- The address is the base of an interrupt file that R406 places. -/
def isImsicFile (a : Nat) : Bool :=
  let hartOk := fun h => h ≤ 11 && h != 7
  if a < 0x50000000 then false
  else if a < 0x50100000 then
    let o := a - 0x50000000
    o % 0x1000 == 0 && hartOk (o / 0x1000)
  else
    let o := a - 0x50100000
    o % 0x1000 == 0 && hartOk (o / 0x8000)

/-- A message of identity `id` (1–255) to the file at address `a`; any other is dropped (R229, R406) (DEDUCED, log entry 96). -/
def State.msi (s : State) (a id : Nat) : State :=
  if isImsicFile a && 1 ≤ id && id ≤ 255 then
    { s with imsic := nput 0 s.imsic a (setBit (ngetD s.imsic a 0) id true) }
  else s

/-! ### The address map (R8) and the islands and pens a request crosses (R477, R499) -/

/-- What an address belongs to. -/
inductive Region where
  | rom | tcmAlias | sram | mram | tcm | slot (i : Nat) | imsic | outbound | lpddr | none
  deriving DecidableEq, Repr

/-- The region of an address (R8, R411). -/
def regionOf (a : Nat) : Region :=
  if a < 0x40000 then .rom
  else if 0x08000000 ≤ a ∧ a < 0x08040000 then .tcmAlias
  else if 0x10000000 ≤ a ∧ a < 0x11000000 then .sram
  else if 0x20000000 ≤ a ∧ a < 0x24000000 then .mram
  else if 0x40800000 ≤ a ∧ a < 0x409C0000 then .tcm
  else if 0x40000000 ≤ a ∧ a < 0x4E000000 then .slot ((a - 0x40000000) / 0x1000000)
  else if 0x50000000 ≤ a ∧ a < 0x50200000 then .imsic
  else if 0x80000000 ≤ a ∧ a < 0x100000000 then .outbound
  else if 0x100000000 ≤ a ∧ a < 0x200000000 then .lpddr
  else .none

/-- The gatekeeper of a region (R442), if one stands before it. -/
def gkOf : Region → Option Nat
  | .rom => some 0
  | .tcmAlias | .tcm => some 1
  | .sram => some 2
  | .mram => some 3
  | .lpddr => some 4
  | .imsic => some 5
  | .outbound => some 6
  | .slot i => some (8 + i)
  | .none => Option.none

/-- The regions a gatekeeper has (R442). -/
def gkRegions (g : Nat) : Nat := if g = 0 ∨ 8 ≤ g then 8 else 32

/-- A region of gatekeeper `g` admits the access (R443, R444). -/
def State.gkRegionAdmits (s : State) (g r id : Nat) (secure : Bool) (a n : Nat) (write : Bool) : Bool :=
  let c := (s.rd SEC_GKg_REGr_CTRL g r).toNat
  let base := (s.rd SEC_GKg_REGr_BASE g r).toNat * 4096
  let size := (s.rd SEC_GKg_REGr_SIZE g r).toNat * 4096
  let perm := match secure, write with
    | true, false => 1
    | true, true => 2
    | false, false => 3
    | false, true => 4
  let masked :=
    if id < 32 then bitOf (s.rd SEC_GKg_REGr_INIT_LO g r).toNat id
    else if id < 64 then bitOf (s.rd SEC_GKg_REGr_INIT_HI g r).toNat (id - 32)
    else if id < 96 then bitOf (s.rd SEC_GKg_REGr_FN_LO g r).toNat (id - 64)
    else if id < 128 then bitOf (s.rd SEC_GKg_REGr_FN_HI g r).toNat (id - 96)
    else false
  bitOf c 0 && bitOf c perm && masked && decide (base ≤ a) && decide (a + n ≤ base + size)

/-- The gatekeeper of the target admits the access; the SVP and the scrubbers pass unchecked (R444). -/
def State.gkAdmits (s : State) (id : Nat) (secure : Bool) (a n : Nat) (write : Bool) : Bool :=
  if id = 0x10 ∨ id = 0xFF then true
  else match gkOf (regionOf a) with
    | none => false
    | some g => (List.range (gkRegions g)).any fun r => s.gkRegionAdmits g r id secure a n write

/-- The island a request to an address reaches (R498) (DEDUCED, log entry 81). -/
def State.islandOf (s : State) (a : Nat) : Nat :=
  match regionOf a with
  | .sram =>
    let b := (a - 0x10000000) / 0x100000
    if s.ms.spare = some b then 24 else 20 + b / 4
  | .mram => 25
  | .lpddr => 26
  | .outbound => 40
  | .slot 2 => 8
  | .slot 3 => 19
  | .slot 4 => 18
  | .slot 5 => 44
  | .slot 6 => 27
  | .slot 7 => 38
  | .slot 8 => 39
  | .slot 9 => 40
  | .slot 10 => 41
  | .slot 11 => 42
  | .slot 12 => 45
  | .slot 13 => 43
  | _ => 0

/-- The island is powered (R448, R499). -/
def State.powered (s : State) (i : Nat) : Bool := s.flag PCS_ISLi_STATUS_PWR i

/-- The pen whose bridges a request to an address crosses (R476); 0 is never fenced. Of the SEC slot, the two registers of
the random number generator lie in pen 32 (DEDUCED, log entry 81). -/
def penOf (a : Nat) : Nat :=
  match regionOf a with
  | .lpddr => 33
  | .outbound => 31
  | .slot 6 => 18
  | .slot 7 => 29
  | .slot 8 => 30
  | .slot 9 => 31
  | .slot 10 => if a / 8 = 0x4A000130 / 8 then 32 else 0
  | .slot 13 => 34
  | _ => 0

/-- The pen is running. -/
def State.penRuns (s : State) (p : Nat) : Bool := s.get FCU_PENn_STATUS_STATE p == 0

/-! ### Configuration records (R306) -/

/-- The data of a record in force, by section TYPE, record type and key (DESIGN CHOICE, log entry 19). -/
def State.cfgData (s : State) (type rtype key : Nat) : Option (List Byte) :=
  (s.cfg.tables.find? fun r => r.type == type && r.rtype == rtype && r.key == key).map CfgRec.data

/-- The data of every record of one type in force, with its key (DESIGN CHOICE, log entry 19). -/
def State.cfgAll (s : State) (type rtype : Nat) : List (Nat × List Byte) :=
  (s.cfg.tables.filter fun r => r.type == type && r.rtype == rtype).map fun r => (r.key, r.data)

/-! ### Memory bytes -/

/-- What an unlisted memory byte reads as (DESIGN CHOICE, log entry 2). -/
def memDefault : Byte := 0

/-- One byte of memory (DESIGN CHOICE, log entry 2). -/
def State.byte (s : State) (a : Nat) : Byte := ngetD s.mem a memDefault

/-- The state with one byte of memory written (DESIGN CHOICE, log entry 2). -/
def State.setByte (s : State) (a : Nat) (b : Byte) : State := { s with mem := nput memDefault s.mem a b }

/-- The canonical form of memory: addresses strictly rising, no entry equal to the default (DESIGN CHOICE, log entry 2). -/
def Memory.wf (m : NMap Byte) : Bool := nsorted 0 m && nclean memDefault m

/-- `n` bytes of memory from address `a`. -/
def State.bytes (s : State) (a n : Nat) : List Byte := (List.range n).map fun k => s.byte (a + k)

/-- Bytes written to memory from address `a` upwards. -/
def State.setBytes (s : State) (a : Nat) : List Byte → State
  | [] => s
  | b :: l => (s.setByte a b).setBytes (a + 1) l

/-- Bytes stored but for those of the 16-byte words in `skip`. -/
def State.setBytesBut (s : State) (skip : List Nat) (a : Nat) : List Byte → State
  | [] => s
  | b :: l => (if skip.contains (a / 16 * 16) then s else s.setByte a b).setBytesBut skip (a + 1) l

/-- Bytes of a protected unit: a sector of LPDDR5, a word of the other memories (R425). -/
def unitBytes (a : Nat) : Nat := if regionOf a = .lpddr then 32 else 16

/-- A full-word write replaces the marker of the words, in LPDDR5 the sectors, it covers (R433, R436). -/
def State.unpoison (s : State) (a n : Nat) : State :=
  { s with ms := { s.ms with poison := s.ms.poison.filter fun e =>
      let u := unitBytes e.1
      !(decide (a ≤ e.1 / u * u ∧ e.1 / u * u + u ≤ a + n)) } }

/-- The protected unit at `a` reads as uncorrectable from now on. -/
def State.badWord (s : State) (a : Nat) : State :=
  let b := a / unitBytes a * unitBytes a
  { s with ms := { s.ms with poison := nset (nset s.ms.poison b ()) (b + unitBytes a - 16) () } }

/-- The address lies in the data area of its MRAM half (R431). -/
def inMramData (a : Nat) : Bool := decide (0x1C00000 ≤ (a - 0x20000000) % 0x2000000)

/-- The device address that usable offset `o` of LPDDR5 reaches: with inline ECC each 2 KiB page holds 1920 data bytes (R433). -/
def ddrDevice (ecc : Bool) (o : Nat) : Nat := if ecc then o / 1920 * 2048 + o % 1920 else o

/-- The LPDDR5 port serves the byte range: its last byte lies in the device (R432, R433) (DESIGN CHOICE, log entry 100). -/
def State.ddrServes (s : State) (a n : Nat) : Bool :=
  s.penRuns 33 && decide (0x100000000 ≤ a ∧ 0 < n) &&
    decide (ddrDevice (s.flag MS_DDR_STATUS_ECC) (a + (n - 1) - 0x100000000) < s.ms.ddrSize)

/-- A clock vote of the island is set (R448) (DEDUCED, log entry 82). -/
def State.clkVoted (s : State) (i : Nat) : Bool := s.flag PCS_ISLi_VOTE_S_CLK i || s.flag PCS_ISLi_VOTE_N_CLK i

/-- The island's clock is not gated (R448, R498). -/
def State.clocked (s : State) (i : Nat) : Bool := hwIslands.contains i || s.clkVoted i

end Sys2Proof.Machine
end

