-- ==== Sys2Proof/Machine/Tags.lean ====
section
/-! DEFINITION. Fabric request tags (R440, R441): the world of each initiator, and what it rests on: the lifecycle state,
the debug enables, the world map and the functions' worlds. -/

namespace Sys2Proof.Machine

/-! ### Lifecycle and debug enables (R456, R466) -/

def lcManufacture : Nat := 0
def lcDevelopment : Nat := 1
def lcProduction : Nat := 2
def lcReturn : Nat := 3
def lcEnd : Nat := 4

/-- The lifecycle state in force: the fuses as the last core-die reset release found them (R456). -/
def State.lc (s : State) : Nat := s.get SEC_STATUS_LC

/-- The core die is in a power state that lets the debugger in. -/
def State.powerUp (s : State) : Bool :=
  s.coreRuns && (match s.pcs.power with | .waking | .run | .prepareSleep => true | _ => false)

/-- Rights with the non-invasive enable that each invasive one carries. -/
def withNonInvasive (r : Nat) : Nat := r ||| (b2n (bitOf r 0) * 2) ||| (b2n (bitOf r 2) * 8)

/-- The debug enables in force: bit 0 S invasive, 1 S non-invasive, 2 N invasive, 3 N non-invasive (R466). -/
def State.dbgEn (s : State) : Nat :=
  if !s.powerUp ∨ s.lc ≥ lcEnd then 0
  else if s.lc = lcManufacture then 15
  else if s.pcs.power = .waking then 0
  else withNonInvasive ((if s.lc = lcProduction then 0 else 12) ||| (s.sec.grants.getD 0 % 16))

/-- The invasive enable of a world. -/
def State.invasive (s : State) (secure : Bool) : Bool := bitOf s.dbgEn (if secure then 0 else 2)

/-! ### Functions of the service (R217–R219) -/

/-- Function `n` of the service. -/
def State.fn (s : State) (n : Nat) : Fn := ngetD s.sf.fns n {}

/-- The state with function `n` replaced. -/
def State.setFn (s : State) (n : Nat) (f : Fn) : State :=
  { s with sf := { s.sf with fns := nput {} s.sf.fns n f } }

/-- The world of a function (R219). -/
def State.fnSecure (s : State) (n : Nat) : Bool := (s.fn n).secure

/-! ### Tags -/

/-- Hart ID `h` is in the secure world (R441). -/
def State.hartSecure (s : State) (h : Nat) : Bool := bitOf (s.get SEC_WORLD_MAP_MAP) h

/-- Hardware gives a request of initiator ID `i` this world (R440); an ID that is not listed makes no request. The debug
module's world is that of the hart or access addressed, within the enables (DEDUCED, log entry 14). -/
def State.tagOk (s : State) (i : Nat) (secure : Bool) : Bool :=
  if i < 12 ∧ i ≠ 7 then secure == s.hartSecure i
  else if i = 0x10 ∨ i = 0xFF then secure
  else if i = 0x18 then true
  else if i = 0x20 then s.invasive secure
  else decide (0x40 ≤ i ∧ i < 0x80) && secure == s.fnSecure (i - 0x40)

end Sys2Proof.Machine
end

