-- ==== Sys2Proof/Machine/Mem.lean ====
section
/-! DEFINITION. Memory as the memory system serves it (R427–R437): errors, poison, and reads and writes of a physical
byte range by an initiator that has been admitted. -/

namespace Sys2Proof.Machine

/-- The memory an address belongs to: 0 SRAM, 1 TCM, 2 MRAM, 3 LPDDR5 (R435). -/
def memIdx (a : Nat) : Nat :=
  match regionOf a with
  | .tcm | .tcmAlias => 1
  | .mram => 2
  | .lpddr => 3
  | _ => 0

/-- The physical SRAM bank that serves an address: 16 is the spare (R428). -/
def State.sramBank (s : State) (a : Nat) : Nat :=
  let b := (a - 0x10000000) / 0x100000
  if s.ms.spare = some b then 16 else b

/-- Physical bank `b` is out of use: its test runs, or has failed, which leaves it out of the map (R487) (DEDUCED, log entry
48). -/
def State.bankOut (s : State) (b : Nat) : Bool :=
  (nfind s.fcu.tests (0x200 + b)).isSome || (match nfind s.fcu.results (0x200 + b) with | some r => !r.pass | none => false)

/-- A migration request for bank `b` (R428, R429): ignored, with REFUSED set, while the spare is in use or a copy runs. -/
def State.startMigration (s : State) (b : Nat) : State :=
  if s.ms.spare ≠ none ∨ s.ms.copy ≠ none ∨ s.bankOut 16 then s.setFlag MS_SPARE_STATUS_REFUSED true
  else
    let s := { s with ms := { s.ms with copy := some (b, false) } }
    (s.setFlag MS_SPARE_STATUS_BUSY true).set MS_SPARE_STATUS_BANK b

/-- A request to copy the spare back to bank `b` (R429). -/
def State.startReturn (s : State) (b : Nat) : State :=
  if s.ms.spare ≠ some b ∨ s.ms.copy ≠ none ∨ s.bankOut b then s.setFlag MS_SPARE_STATUS_REFUSED true
  else
    let s := { s with ms := { s.ms with copy := some (b, true) } }
    (s.setFlag MS_SPARE_STATUS_BUSY true).set MS_SPARE_STATUS_BANK b

/-- The corrected count of a bank from which AUTO migrates it (R428, R439). -/
def State.autoThresh (s : State) : Nat := max 1 (s.get MS_SPARE_CFG_THRESH)

/-- AUTO has been set while a bank's count has reached THRESH: the lowest such bank migrates, if the spare is free (R428)
(DEDUCED, log entry 48). -/
def State.autoMigrate (s : State) : State :=
  if !(s.flag MS_SPARE_CFG_AUTO) ∨ s.ms.spare ≠ none ∨ s.ms.copy ≠ none ∨ s.bankOut 16 then s
  else match (List.range 16).find? fun b => decide (s.autoThresh ≤ s.get MS_BANKb_CE_COUNT b) with
    | some b => s.startMigration b
    | none => s

/-- A memory error event (R436, R437): kind 0 corrected, 1 uncorrectable, 2 ADDRESS. Counts, `MS_EVT`, the log of
uncorrectable and ADDRESS errors, and the memory's error source. -/
def State.memError (s : State) (a init kind : Nat) : State :=
  let m := memIdx a
  let s := if kind = 0 then s.setBitOf MS_EVT_CE m else s.setBitOf MS_EVT_UE m
  let src :=
    if m = 0 then 0x60 + 4 * s.sramBank a + kind
    else 0xA4 + 2 * (m - 1) + (if kind = 0 then 0 else 1)
  let s := s.report src
  if kind = 0 then
    if m = 0 then
      let b := s.sramBank a
      let s := s.inc MS_BANKb_CE_COUNT 1 b
      let c := s.get MS_BANKb_CE_COUNT b
      let thr := s.autoThresh
      if s.flag MS_SPARE_CFG_AUTO && decide (b < 16 ∧ (c = thr ∨ (thr ≤ c ∧ s.ms.spare = none ∧ s.ms.copy = none))) then
        s.startMigration b
      else s
    else if m = 3 then (s.inc MS_DDR_STATUS_CE).count 421 else s
  else
    let e : MsErr := { info := w32 (m + (kind - 1) * 4 + init * 256 + 2147483648), addr := a, time := s.td0 }
    let full := s.ms.log.length ≥ 16
    let log := if full then s.ms.log.drop (s.ms.log.length - 15) ++ [e] else s.ms.log ++ [e]
    let s := { s with ms := { s.ms with log := log } }
    if full then s.setFlag MS_ERR_STATUS_OVF true else s

/-- The first poisoned 16-byte word that the range touches. -/
def State.poisonAt (s : State) (a n : Nat) : Option Nat :=
  (s.ms.poison.find? fun e => decide (e.1 + 16 > a ∧ e.1 < a + n)).map Prod.fst

/-- The poisoned 16-byte words of the protected units that the range touches. -/
def State.poisonIn (s : State) (a n : Nat) : List Nat :=
  (s.ms.poison.filter fun e =>
    let u := unitBytes e.1
    decide (e.1 / u * u + u > a ∧ e.1 / u * u < a + n)).map Prod.fst

/-- A gated island was reached (R499). -/
def State.gatedAccess (s : State) : State := s.setFlag PCS_EVT_GATED_ACCESS true

/-- An address that R8 does not list, or a range a memory does not serve: bus error and an FCU corrected-class event
(DEDUCED, log entry 13). -/
def State.unmapped (s : State) : State := s.report 0x0C0

/-- The storage address of a byte: the TCM alias resolves to the TCM bound to the issuing hart ID (R8, R411). -/
def resolveTcm (init a : Nat) : Nat :=
  if regionOf a = .tcmAlias then 0x40800000 + 0x40000 * init + (a - 0x08000000) else a

/-- The alias serves the initiator: only a hart with a TCM issues an access through it (R411). -/
def tcmHart (init : Nat) : Bool := init ≤ 6

/-- The SRAM bank that the gateway keeps for itself (R381). -/
def State.gwBank (s : State) (a : Nat) : Bool :=
  match s.cfgData 0x0104 1 0 with
  | some r => regionOf a == .sram && (a - 0x10000000) / 0x100000 == byteAt r 6 % 16
  | none => false

/-- An admitted read of `n` bytes of memory: the bytes, or nothing for a bus error (R8, R432, R436, R477, R499). What the boot
ROM holds is a free value (DESIGN CHOICE, log entry 5). -/
def State.physRead (s : State) (init a n : Nat) : Option (List Byte) × State :=
  if ¬ s.powered (s.islandOf a) then (none, s.gatedAccess)
  else if ¬ s.penRuns (penOf a) ∧ regionOf a ≠ .lpddr then (none, s)
  else
    let a' := resolveTcm init a
    let bad :=
      match regionOf a with
      | .lpddr => !(s.ddrServes a n) || !(s.penRuns 33)
      | .tcmAlias => !(tcmHart init)
      | .none => true
      | _ => regionOf (a + n - 1) != regionOf a || s.gwBank a || s.gwBank (a + n - 1)
    if bad then (none, s.unmapped)
    else if regionOf a = .rom then
      let (b, s) := s.freeBytes n
      (some b, s)
    else match s.poisonAt a' n with
      | some w => (none, s.memError w init 1)
      | none => (some (s.bytes a' n), s)

/-- An admitted write of bytes to memory; `false` is a bus error (R427, R431, R436). A write of less than a whole word whose
read finds an uncorrectable word is discarded, and only the event tells of it. -/
def State.physWrite (s : State) (init a : Nat) (d : List Byte) : Bool × State :=
  let n := d.length
  if ¬ s.powered (s.islandOf a) then (false, s.gatedAccess)
  else if ¬ s.penRuns (penOf a) ∧ regionOf a ≠ .lpddr then (false, s)
  else
    let a' := resolveTcm init a
    let bad :=
      match regionOf a with
      | .lpddr => !(s.ddrServes a n) || !(s.penRuns 33)
      | .tcmAlias => !(tcmHart init)
      | .none => true
      | _ => regionOf (a + n - 1) != regionOf a || s.gwBank a || s.gwBank (a + n - 1)
    if bad then (false, s.unmapped)
    else if regionOf a = .rom then (false, s)
    else if regionOf a = .mram ∧ init ≠ 0x10 ∧ ¬ (inMramData a ∧ inMramData (a + n - 1)) then (false, s.report 0xAC)
    else
      let s := s.unpoison a' n
      match s.poisonIn a' n with
      | [] => (true, s.setBytes a' d)
      | l => (true, ((l.map fun w => w / unitBytes w * unitBytes w).eraseDups).foldl (fun s w => s.memError w init 1)
          (s.setBytesBut ((l.flatMap fun w => [w / unitBytes w * unitBytes w, w / unitBytes w * unitBytes w + unitBytes w - 16])) a' d))

end Sys2Proof.Machine
end

