-- ==== Sys2Proof/Machine/PlbWin.lean ====
section
/-! DEFINITION. Outbound windows of the partner link (R389–R392, R396–R398): address and byte-lane rules, posted writes,
prefetch lines and their losses. -/

namespace Sys2Proof.Machine

/-- BOOT1 and BOOT0 give the partner link a role; else its logic stays in reset (R538). -/
def State.plbRole (s : State) : Bool := s.pcs.bootPins == 1 || s.pcs.bootPins == 2
/-- The bridge works and its link logic is out of reset (R477, R498, R538). -/
def State.plbUp (s : State) : Bool := s.coreRuns && s.powered 40 && s.penRuns 31 && s.plbRole
/-- The link is up. -/
def State.plbLink (s : State) : Bool := s.flag PLB_STATUS_UP
/-- The device is the root port (R387). -/
def State.plbRoot (s : State) : Bool := s.flag PLB_STATUS_ROLE

/-- Fields of a window record (R400). -/
def owBase (r : List Byte) : Nat := leAt r 0 8
def owSize (r : List Byte) : Nat := leAt r 8 8
def owTo (r : List Byte) : Nat := leAt r 16 8
def owFlag (r : List Byte) (i : Nat) : Bool := bitOf (byteAt r 24) i
/-- Element size of a data-invariant outbound window. -/
def owElem (r : List Byte) : Nat := 2 ^ (byteAt r 24 / 32 % 4 + 1)
/-- A control window (R389, R391). -/
def owControl (r : List Byte) : Bool := owFlag r 1 || owFlag r 3

/-- The enabled outbound window that holds the whole range (DEDUCED, log entry 78). -/
def State.outWin (s : State) (a n : Nat) : Option (Nat × List Byte) :=
  (s.cfgAll 0x0105 2).find? fun e => owFlag e.2 0 && decide (owBase e.2 ≤ a ∧ a + n ≤ owBase e.2 + owSize e.2) && (!(owFlag e.2 3) || s.plbRoot)

/-- The access fits the lane rule (R390). -/
def laneOk (lane : Bool) (e o n : Nat) : Bool := !lane || decide (o % e + n ≤ e) || (o % e == 0 && n % e == 0)

/-- Bytes reversed within each element of `e`. -/
def swapElems (e : Nat) : Nat → List Byte → List Byte
  | 0, l => l
  | k + 1, l => (l.take e).reverse ++ swapElems e k (l.drop e)

/-- The lane rule (R390): window offset and bytes on one side to offset and bytes on the other; its own inverse. -/
def laneMap (lane : Bool) (e o : Nat) (d : List Byte) : Nat × List Byte :=
  if !lane then (o, d)
  else if o % e + d.length ≤ e then (o / e * e + (e - o % e - d.length), d.reverse)
  else (o, swapElems e (d.length / e) d)

/-- An FCU corrected-class event of the partner link (R475): 0 held-read time-out, 1 split-read time-out, 2 peer lost,
3 link down. -/
def State.plbReport (s : State) (k : Nat) : State := s.report (0x1E0 + k)

/-- A prefetch line is discarded (R396); with undelivered bytes it enters the ring (R397). -/
def State.discard (s : State) (l : PfLine) : State :=
  let left := l.got.filter (!·)
  let s := { s with plb := { s.plb with lines := s.plb.lines.erase l } }
  match l.got.findIdx? (!·) with
  | none => s
  | some i =>
    let full := s.plb.disc.length ≥ 8
    let ring := (if full then s.plb.disc.drop (s.plb.disc.length - 7) else s.plb.disc) ++ [{ len := left.length, win := l.win, addr := l.addr + i }]
    let s := { s with plb := { s.plb with disc := ring } }
    let s := if full then s.setFlag PLB_DISC_STATUS_OVF true else s
    s.setFlag PLB_EVT_DISCARD true

/-- Requests of at most 256 bytes within 4 KiB pages that carry bytes to a partner address (DEDUCED, log entry 78). -/
def pieces256 : Nat → Nat → List Byte → List (Nat × List Byte)
  | 0, _, _ => []
  | _, _, [] => []
  | k + 1, a, d =>
    let n := min 256 (4096 - a % 4096)
    (a, d.take n) :: pieces256 k (a + n) (d.drop n)

/-- Read requests of at most 512 bytes within 4 KiB pages that together ask for `n` bytes from a partner address (R387). -/
def pieces512 : Nat → Nat → Nat → List (Nat × Nat)
  | 0, _, _ => []
  | k + 1, a, n =>
    if n = 0 then []
    else
      let m := min n (min 512 (4096 - a % 4096))
      (a, m) :: pieces512 k (a + m) (n - m)

/-- No access of initiator `i` reaches the fabric: a held read stalls its port (R393), or hardware gives no request this tag
(R440). -/
def State.stalled (s : State) (i : Init) : Bool :=
  !(s.tagOk i.id.toNat i.secure) || s.plb.reads.any fun r => r.tag == 64 && r.init == i.id.toNat && !r.void

/-- Initiator `i` has reads outstanding in the bridge (R421, R524). -/
def State.readsOut (s : State) (i : Nat) : Bool := (s.plb.reads ++ s.plb.queue).any fun r => r.init == i && !r.void

/-- The responses to the outstanding reads of initiator `i` will be discarded (R414). -/
def State.readsVoid (s : State) (i : Nat) : State :=
  let v := fun (r : PlbRead) => if r.init = i then { r with void := true } else r
  { s with plb := { s.plb with reads := s.plb.reads.map v, queue := s.plb.queue.map v } }

/-- A request goes to the partner; while the link is down it is discarded (R398). -/
def State.toPartner (s : State) (x : PlbSent) : State :=
  if s.plbLink then { s with plb := { s.plb with posted := s.plb.posted ++ [x] } } else s

/-- A posted write through an outbound window (R389–R391, R396); false for a bus error (DEDUCED, log entry 78). -/
def State.outWrite (s : State) (a : Nat) (d : List Byte) : Bool × State :=
  if ¬ s.powered 40 then (false, s.gatedAccess)
  else if ¬ s.penRuns 31 then (false, s)
  else match s.outWin a d.length with
    | none => (false, s.unmapped)
    | some (_, r) =>
      let o := a - owBase r
      if !(laneOk (owFlag r 4) (owElem r) o d.length) then (false, s)
      else
        let above := s.plb.lines.filter fun l => decide (l.addr < a + d.length ∧ a < l.addr + l.data.length)
        let s := above.foldl State.discard s
        let (o', d') := laneMap (owFlag r 4) (owElem r) o d
        if owFlag r 3 then (true, s.toPartner { kind := 2, addr := (owTo r + o') % 4096, data := d' })
        else if owControl r then (true, s.toPartner { kind := 0, addr := owTo r + o', data := d' })
        else (true, (pieces256 d'.length (owTo r + o') d').foldl (fun s e => s.toPartner { kind := 0, addr := e.1, data := e.2 }) s)

/-- The link settings (R400). -/
def State.plbLinkRec (s : State) : List Byte := (s.cfgData 0x0105 1 0).getD []
def State.pfLen (s : State) : Nat := clampN 1 8 (byteAt s.plbLinkRec 1) * 64
def State.pfAge (s : State) : Nat := clampN 1 1000 (leAt s.plbLinkRec 2 2) * 1000
def State.cplTo (s : State) : Nat := clampN 50 50000 (dflt (leAt s.plbLinkRec 4 4) 1000) * 1000

/-- A new prefetch line; of eight the least recently used is evicted (R396) (DEDUCED, log entry 78). -/
def State.newLine (s : State) (l : PfLine) : State :=
  let s := if s.plb.lines.length < 8 then s
    else match s.plb.lines.foldl (fun (m : Option PfLine) x => match m with | none => some x | some y => if x.used < y.used then some x else some y) none with
      | some y => s.discard y
      | none => s
  { s with plb := { s.plb with lines := s.plb.lines ++ [l] } }

/-- The line of window `w` that a read lies wholly within (R396). -/
def State.lineOf (s : State) (w a n : Nat) : Option PfLine :=
  s.plb.lines.find? fun (l : PfLine) => l.win == w && decide (l.addr ≤ a ∧ a + n ≤ l.addr + l.data.length)

/-- A line serves a read: its bytes are delivered (R396, R397). -/
def State.lineUsed (s : State) (l : PfLine) (a n : Nat) : State :=
  let o := a - l.addr
  let l' : PfLine := { l with got := (l.got.zipIdx).map fun (e : Bool × Nat) => e.1 || decide (o ≤ e.2 ∧ e.2 < o + n), used := s.now }
  { s with plb := { s.plb with lines := s.plb.lines.set (s.plb.lines.idxOf l) l' } }

/-- Bytes that a read of `n` in a data window fetches, from its own up to PF_LEN (R396): beyond its bytes whole elements of
the window (R390) (DEDUCED, log entry 78). -/
def State.fetchLen (s : State) (r : List Byte) (a n : Nat) : Nat × State :=
  let top := min s.pfLen (min (4096 - a % 4096) (owBase r + owSize r - a))
  let e := if owFlag r 4 then owElem r else 1
  let (k, s) := s.freeNat
  (if owFlag r 2 ∧ n < top ∧ a % e = 0 ∧ n % e = 0 then n + k % ((top - n) / e + 1) * e else n, s)

/-- What a read of `n` bytes fetched beyond them stays as a line (R396). -/
def State.keepLine (s : State) (w a n : Nat) (d : List Byte) : State :=
  if n < d.length then
    s.newLine { win := w, addr := a, data := d, got := (List.range d.length).map fun i => decide (i < n), used := s.now }
  else s

/-- The requests of a read of `n` bytes leave for the partner: in a control window one of exactly its size, else as R387 limits
them (DEDUCED, log entry 78). -/
def State.askPartner (s : State) (w : List Byte) (a n : Nat) : State :=
  let o := (laneMap (owFlag w 4) (owElem w) (a - owBase w) (List.replicate n 0)).1
  if owFlag w 3 then s.toPartner { kind := 3, addr := (owTo w + o) % 4096, len := n }
  else if owControl w then s.toPartner { kind := 1, addr := owTo w + o, len := n }
  else (pieces512 n (owTo w + o) n).foldl (fun s e => s.toPartner { kind := 1, addr := e.1, len := e.2 }) s

/-- What becomes of a read within one command: free, the bytes, an error completion, or a time-out, which sets its event and
reports (R392, R393) (DESIGN CHOICE, log entry 78). -/
def State.partnerAnswers (s : State) (held : Bool) (n : Nat) : Option (List Byte) × State :=
  let (k, s) := s.freeNat
  if k % 3 = 0 then let (b, s) := s.freeBytes n; (some b, s)
  else if k % 3 = 1 then (none, s)
  else if held then (none, (s.setFlag PLB_EVT_HELD_TO true).plbReport 0)
  else (none, (s.setFlag PLB_EVT_CPL_TO true).plbReport 1)

/-- A read of the partner's memory that ends within the command that makes it: one of the command service, of the SVP, of the
debug module or of a halted hart (R392, R393, R396); what the memory holds is a free value (log entry 5). -/
def State.outRead (s : State) (a n : Nat) : Option (List Byte) × State :=
  if ¬ s.powered 40 then (none, s.gatedAccess)
  else if ¬ s.penRuns 31 then (none, s)
  else match s.outWin a n with
    | none => (none, s.unmapped)
    | some (w, r) =>
      if !(laneOk (owFlag r 4) (owElem r) (a - owBase r) n) then (none, s)
      else if ¬ s.plbLink then (none, s.plbReport 3)
      else if owControl r then (s.askPartner r a n).partnerAnswers true n
      else match s.lineOf w a n with
        | some l => (some ((l.data.drop (a - l.addr)).take n), s.lineUsed l a n)
        | none =>
          let (fetch, s) := s.fetchLen r a n
          match (s.askPartner r a fetch).partnerAnswers false fetch with
          | (some d, s) => (some (d.take n), s.keepLine w a n d)
          | (none, s) => (none, s)

end Sys2Proof.Machine
end

