-- ==== Sys2Proof/Machine/Svc.lean ====
section
/-! DEFINITION. The command service's own machinery (chapter 06): functions, function addresses, queues, completions,
the order of commands, and the shape of an opcode's definition. -/

namespace Sys2Proof.Machine

/-! ### Functions (R217–R221) -/

/-- A function's state (R217): 0 DISABLED, 1 ENABLED, 2 QUIESCING, 3 QUIESCED. -/
def State.fnState (s : State) (n : Nat) : Nat := s.get SF_FNn_STATE_STATE n

/-- Commands of a function in flight (R233). -/
def State.fnInflight (s : State) (n : Nat) : Nat := (s.sf.cmds.filter fun c => c.fn == n).length

/-- A PF function address range that R220 permits. -/
def State.pfRange (s : State) (a n : Nat) (write : Bool) : Bool :=
  match regionOf a with
  | .sram => decide (a + n ≤ 0x11000000)
  | .lpddr => s.ddrServes a n
  | .outbound => decide (a + n ≤ 0x100000000)
  | .tcm => decide (a + n ≤ 0x409C0000)
  | .mram =>
    if write then inMramData a && decide ((a - 0x20000000) % 0x2000000 + n ≤ 0x2000000)
    else decide (a + n ≤ 0x24000000)
  | _ => false

/-- The physical pieces of a VF function address range (R220), window by window. -/
def vfPieces (ws : List Window) (write : Bool) : Nat → Nat → Nat → Option (List (Nat × Nat))
  | 0, _, n => if n = 0 then some [] else none
  | fuel + 1, a, n =>
    if n = 0 then some []
    else match ws.find? fun w => decide (w.base ≤ a ∧ a < w.base + w.size) with
      | none => none
      | some w =>
        if (if write then w.w else w.r) then
          let m := min n (w.base + w.size - a)
          match vfPieces ws write fuel (a + m) (n - m) with
          | none => none
          | some l => some ((w.phys + (a - w.base), m) :: l)
        else none

/-- The physical pieces of a function address range, or none where translation fails (R220). -/
def State.fnPieces (s : State) (fn a n : Nat) (write : Bool) : Option (List (Nat × Nat)) :=
  if n = 0 then some []
  else if fn = 0 then (if s.pfRange a n write then some [(a, n)] else none)
  else if s.fnState fn = 0 then none
  else vfPieces (s.fn fn).windows write 17 a n

/-- The gatekeepers' word on every piece (R221, R444); a refusal is recorded. -/
def State.fnGate (s : State) (fn : Nat) (write : Bool) : List (Nat × Nat) → Bool × State
  | [] => (true, s)
  | (a, n) :: l =>
    if s.gkAdmits (0x40 + fn) (s.fnSecure fn) a n write then s.fnGate fn write l
    else (false, s.gkEvent { gk := (gkOf (regionOf a)).getD 0, kind := 0, init := 0x40 + fn,
                             secure := s.fnSecure fn, write := write, addr := a })

/-- Translation of a whole range before any effect (R221): the pieces, or none. -/
def State.fnTranslate (s : State) (fn a n : Nat) (write : Bool) : Option (List (Nat × Nat)) × State :=
  match s.fnPieces fn a n write with
  | none => (none, s)
  | some l =>
    match s.fnGate fn write l with
    | (true, s) => (some l, s)
    | (false, s) => (none, s)

/-- The translation succeeds (R221). -/
def State.fnOk (s : State) (fn a n : Nat) (write : Bool) : Bool × State :=
  match s.fnTranslate fn a n write with
  | (some _, s) => (true, s)
  | (none, s) => (false, s)

/-- Read of translated pieces: the bytes, or nothing for a bus error. What the partner's memory holds is a free
value (log entry 5). -/
def State.readPieces (s : State) (init : Nat) : List (Nat × Nat) → Option (List Byte) × State
  | [] => (some [], s)
  | (a, n) :: l =>
    let r := if regionOf a = .outbound then s.outRead a n else s.physRead init a n
    match r with
    | (none, s) => (none, s)
    | (some b, s) =>
      match s.readPieces init l with
      | (none, s) => (none, s)
      | (some c, s) => (some (b ++ c), s)

/-- Why a function access did not complete. -/
inductive FnErr where
  | xlate | bus
  deriving DecidableEq, Repr

/-- A read of `n` bytes at a function address (R220, R221). -/
def State.fnRead (s : State) (fn a n : Nat) : Except FnErr (List Byte) × State :=
  match s.fnTranslate fn a n false with
  | (none, s) => (.error .xlate, s)
  | (some l, s) =>
    match s.readPieces (0x40 + fn) l with
    | (none, s) => (.error .bus, s)
    | (some b, s) => (.ok b, s)

/-- Write of bytes to translated pieces. A piece in the partner-link outbound range is posted to the partner. -/
def State.writePieces (s : State) (init : Nat) : List (Nat × Nat) → List Byte → Bool × State
  | [], _ => (true, s)
  | (a, n) :: l, d =>
    let r := if regionOf a = .outbound then s.outWrite a (d.take n)
      else s.physWrite init a (d.take n)
    match r with
    | (false, s) => let (_, s) := s.writePieces init l (d.drop n); (false, s)
    | (true, s) => s.writePieces init l (d.drop n)

/-- A write at a function address (R220, R221). -/
def State.fnWrite (s : State) (fn a : Nat) (d : List Byte) : Except FnErr Unit × State :=
  match s.fnTranslate fn a d.length true with
  | (none, s) => (.error .xlate, s)
  | (some l, s) =>
    match s.writePieces (0x40 + fn) l d with
    | (false, s) => (.error .bus, s)
    | (true, s) => (.ok (), s)

/-! ### Status codes (R242) -/

def stOk : Nat := 0x0000
def stAccepted : Nat := 0x0001
def stBusy : Nat := 0x0002
def stBadOpcode : Nat := 0x0101
def stBadParam : Nat := 0x0102
def stNotOwner : Nat := 0x0103
def stNotInMode : Nat := 0x0104
def stInfeasible : Nat := 0x0105
def stNotPermitted : Nat := 0x0106
def stAborted : Nat := 0x0201
def stDeadlineMissed : Nat := 0x0202
def stFenced : Nat := 0x0203
def stUnavailable : Nat := 0x0204
def stExpired : Nat := 0x0205
def stHwFault : Nat := 0x0301

/-! ### Event interrupts of the service (R257) -/

/-- The PF's interrupt file address, or a VF's (R229, R249, R257). -/
def State.fnFile (s : State) (fn : Nat) : Nat :=
  if fn = 0 then (s.rd SF_PF_IMSIC_LO).toNat + s.get SF_PF_IMSIC_HI_ADDR * 4294967296 else (s.fn fn).imsic

/-- A service event bit is set; while its enable is set, the PF's event identity is sent (R257). -/
def State.sfEvt (s : State) (bit : Nat) : State :=
  let s := s.wr SF_EVT (w32 (setBit (s.rd SF_EVT).toNat bit true))
  if bitOf (s.rd SF_EVT_EN).toNat bit then s.msi (s.fnFile 0) (s.get SF_PF_EVT_ID_IDENTITY) else s

/-- An access of a running command failed translation: discarded, `SF_EVT.XLATE` set (R221). -/
def State.xlateEvt (s : State) : State := s.sfEvt 1

/-! ### Queue pairs (R222–R228) -/

/-- Queue pair `q` of function `fn`. -/
def State.qp (s : State) (fn q : Nat) : Qp := (s.fn fn).qps.getD q {}

/-- The state with a queue pair replaced. -/
def State.setQp (s : State) (fn q : Nat) (x : Qp) : State :=
  s.setFn fn { s.fn fn with qps := (s.fn fn).qps.set q x }

/-- Depth of a submission queue; an order above 8 is treated as 8 (R222, R256). -/
def State.sqDepth (s : State) (fn q : Nat) : Nat := 16 * 2 ^ min 8 (s.get SF_QPq_CFG_SQ_ORDER fn q)

/-- Depth of a completion queue. -/
def State.cqDepth (s : State) (fn q : Nat) : Nat := 16 * 2 ^ min 8 (s.get SF_QPq_CFG_CQ_ORDER fn q)

/-- A queue pair error: its code and `SF_EVT.QERR` (R221, R224). -/
def State.qpErr (s : State) (fn q code : Nat) : State := (s.set SF_QPq_STATUS_ERR code fn q).sfEvt 2

/-- Commands of a queue in flight; 8 is the mailbox. -/
def State.qCmds (s : State) (fn q : Nat) : List Cmd := s.sf.cmds.filter fun c => c.fn == fn && c.src == q

/-- Opcodes of long operations (R255). -/
def longOpcodes : List Nat := [0x0409, 0x0702, 0x0703, 0x0801, 0x0A01]

/-- Completions that a command needs in all (R228). -/
def Cmd.need (c : Cmd) : Nat := if longOpcodes.contains c.desc.opcode.toNat then 2 else 1

/-- Completion entries reserved for a command that has started (R228). -/
def Cmd.reserves (c : Cmd) : Nat := if c.mute then 0 else match c.stage with | .waiting => 0 | .long => 1 | _ => c.need

/-- Room remains in the completion queue for `need` more completions (R228) (DEDUCED, log entry 40). -/
def State.cqRoom (s : State) (fn q need : Nat) : Bool :=
  let x := s.qp fn q
  let d := s.cqDepth fn q
  let held := (s.qCmds fn q).foldl (fun n c => n + c.reserves) 0
  decide ((x.cqTail + d - x.cqHead) % d + held + need ≤ d - 1)

/-! ### Completions (R23, R226–R231) -/

/-- The 16 bytes of a completion (R23): the one place where a command's tag goes (R241). -/
def completionBytes (tag status : Nat) (phase repeat_ : Bool) (fn result : Nat) : List Byte :=
  leBytes 2 tag ++ leBytes 2 status ++ leBytes 2 (b2n phase + 2 * b2n repeat_) ++ leBytes 2 fn ++ leBytes 8 result

/-- The command with fetch number `seq`, if in flight. -/
def State.cmd? (s : State) (seq : Nat) : Option Cmd := s.sf.cmds.find? fun c => c.seq == seq

/-- The state with the in-flight commands changed by `f`. -/
def State.mapCmds (s : State) (f : Cmd → Cmd) : State := { s with sf := { s.sf with cmds := s.sf.cmds.map f } }

/-- The state with a command's stage set. -/
def State.setStage (s : State) (seq : Nat) (st : Stage) : State :=
  s.mapCmds fun c => if c.seq == seq then { c with stage := st } else c

/-- The state with a command's private number set. -/
def State.setAux (s : State) (seq n : Nat) : State :=
  s.mapCmds fun c => if c.seq == seq then { c with aux := n } else c

/-- One completion of a queue command is written at the completion tail, and announced (R226–R229). -/
def State.writeCompletion (s : State) (c : Cmd) (status result : Nat) : State :=
  let x := s.qp c.fn c.src
  let d := s.cqDepth c.fn c.src
  let base := (s.rd SF_QPq_CQ_BASE_LO c.fn c.src).toNat + (s.rd SF_QPq_CQ_BASE_HI c.fn c.src).toNat * 4294967296
  let b := completionBytes c.desc.tag.toNat status x.phase false c.fn result
  let s := s.count 423
  let wrap := x.cqTail + 1 ≥ d
  let x' := { x with cqTail := if wrap then 0 else x.cqTail + 1, phase := if wrap then !x.phase else x.phase }
  match s.fnWrite c.fn (base + 16 * x.cqTail) b with
  | (.error _, s) => (s.setQp c.fn c.src x').qpErr c.fn c.src 2
  | (.ok _, s) =>
    let s := s.setQp c.fn c.src x'
    let id := s.get SF_QPq_CFG_IDENTITY c.fn c.src
    if s.flag SF_QPq_CFG_IRQ_ALL c.fn c.src || c.desc.notify || decide (0x100 ≤ status) then s.msi (s.fnFile c.fn) id
    else s

/-- The final completion of a mailbox command (R230, R231). -/
def State.writeMailbox (s : State) (c : Cmd) (status result : Nat) : State :=
  let f := s.fn c.fn
  let b := completionBytes c.desc.tag.toNat status false false c.fn result
  let s := s.count 423
  let s := s.setFn c.fn { f with mbx := { f.mbx with st := .fresh, result := b } }
  let s := s.setFlag SF_MBX_STATUS_BUSY false c.fn
  s.msi (s.fnFile c.fn) (s.get SF_MBX_CFG_IDENTITY c.fn)

/-- The command leaves flight, counted as completed (R233, R250) (DEDUCED, log entry 41). -/
def State.retire (s : State) (c : Cmd) : State :=
  let s := { s with sf := { s.sf with cmds := s.sf.cmds.filter fun k => k.seq != c.seq } }
  s.setFn c.fn { s.fn c.fn with done := (s.fn c.fn).done + 1 }

/-- The final completion of the command with fetch number `seq`: written to its queue or mailbox unless it completes
internally only (R253), after which it is no longer in flight. While the service pair restarts, the outcome is kept (R480)
(DEDUCED, log entry 40). -/
def State.complete (s : State) (seq status result : Nat) : State :=
  match s.cmd? seq with
  | none => s
  | some c =>
    if s.fcu.svpFence.isSome && !c.mute then s.mapCmds fun k => if k.seq == seq then { k with stage := .effected, fin := some (status, result) } else k
    else
      let s := if c.mute then s else if c.src = 8 then s.writeMailbox c status result else s.writeCompletion c status result
      s.retire c

/-- A status and its result value; a result that the manual does not state is a free value (DESIGN CHOICE, log entry 9). -/
abbrev Res := Nat × Option Nat

/-- The final completion with a status and a stated or a free result value (DESIGN CHOICE, log entry 9). -/
def State.finish (s : State) (seq : Nat) (r : Res) : State :=
  match r.2 with
  | some v => s.complete seq r.1 v
  | none => let (v, s) := s.freeNat; s.complete seq r.1 (v % 18446744073709551616)

/-- Completion with a TD0 time-stamp as the result (R226). -/
def State.completeTime (s : State) (seq : Nat) : State := s.complete seq stOk s.effectNs

/-- The ACCEPTED completion of a long operation (R240); the mailbox does not show it (R230). -/
def State.accept (s : State) (seq : Nat) : State :=
  match s.cmd? seq with
  | none => s
  | some c =>
    let s := if c.mute || c.src = 8 then s else s.writeCompletion c stAccepted 0
    s.setStage seq .long

/-- The deadline of a command has passed at TD0 time `t` (R239). -/
def Cmd.late (c : Cmd) (t : Nat) : Bool := c.desc.deadline.toNat != 0 && decide (c.desc.deadline.toNat < t)

/-! ### Ownership (R244–R247) -/

/-- The `SF_OWN` offset of resource `i` of a kind (R244). -/
def ownOffset (kind i : Nat) : Nat :=
  [0x0000, 0x0040, 0x0080, 0x0100, 0x0900, 0x0980, 0x1000, 0x2000, 0x2400, 0x2600, 0x2608, 0x2610, 0x2680].getD kind 0 + i

/-- The number of resources of a kind (R244). -/
def ownSize (kind : Nat) : Nat := [64, 4, 64, 2048, 128, 32, 4096, 1024, 512, 8, 4, 16, 128].getD kind 0

/-- The owner of a resource. -/
def State.owner (s : State) (kind i : Nat) : Nat := ngetD s.sf.own (ownOffset kind i) 0

/-- The state with the owner of a resource set. -/
def State.setOwner (s : State) (kind i fn : Nat) : State :=
  { s with sf := { s.sf with own := nput 0 s.sf.own (ownOffset kind i) fn } }

/-! ### The shape of an opcode's definition (R243) -/

/-- What a chapter says of an opcode: the flags of the opcode index (R255), its checks of steps 3 to 7 of R243 in order,
the refusal by the target's state at the moment of effect (class 0x02), the owned resource it acts on (kind and index,
R244), and its effect. A command that `waits` has its effect at an instant of its own, where its deadline is compared;
of any other the service compares it when it starts (R239). -/
structure OpSpec where
  code    : Nat
  atomic  : Bool := false
  long    : Bool := false
  expert  : Bool := false
  waits   : Bool := false
  own     : Cmd → Option (Nat × Nat) := fun _ => none
  check   : State → Cmd → State × Option Res
  outcome : State → Cmd → Option Res := fun _ _ => none
  run     : State → Cmd → State

/-- The first failing check of a list, in order. -/
def firstErr : List (Bool × Res) → Option Res
  | [] => none
  | (bad, r) :: l => if bad then some r else firstErr l

/-- The lowest parameter byte that is not named and not zero (R24). -/
def strayByte (named : List (Nat × Nat)) (params : List Byte) : Option Nat :=
  (List.range 48).find? fun o =>
    byteAt params o != 0 && !(named.any fun e => decide (e.1 ≤ o ∧ o < e.1 + e.2))

/-- The R24 check of step 6. -/
def strayErr (named : List (Nat × Nat)) (c : Cmd) : Option Res :=
  (strayByte named c.desc.params).map fun o => (stBadParam, some o)

/-- Two optional errors, the first prevailing. -/
def orErr (a b : Option Res) : Option Res := match a with | some e => some e | none => b

/-- A translation check of step 6 (R221): BAD_PARAM with the byte offset of the address parameter. -/
def State.xlateCheck (s : State) (c : Cmd) (a n : Nat) (write : Bool) (ofs : Nat) : State × Option Res :=
  match s.fnOk c.fn a n write with
  | (true, s) => (s, none)
  | (false, s) => (s, some (stBadParam, some ofs))

/-- A translation check that follows other checks. -/
def State.thenXlate (s : State) (c : Cmd) (pre : Option Res) (skip : Bool) (a n : Nat) (write : Bool) (ofs : Nat) :
    State × Option Res :=
  match pre with
  | some e => (s, some e)
  | none => if skip then (s, none) else s.xlateCheck c a n write ofs

/-- A record written by a running command (R221): a failed translation discards it and sets `SF_EVT.XLATE`; a memory
error ends the command with HW_FAULT (R242). -/
def State.writeRecord (s : State) (c : Cmd) (a : Nat) (d : List Byte) : Option Res × State :=
  match s.fnWrite c.fn a d with
  | (.ok _, s) => (none, s)
  | (.error .xlate, s) => (none, s.xlateEvt)
  | (.error .bus, s) => (some (stHwFault, none), s)

/-- A parameter field of a command: `n` little-endian bytes at offset `o` of the 48. -/
def Cmd.p (c : Cmd) (o n : Nat) : Nat := leAt c.desc.params o n

/-- The target of a command. -/
def Cmd.tgt (c : Cmd) : Nat := c.desc.target.toNat

end Sys2Proof.Machine
end

