-- ==== Sys2Proof/Machine/Pda.lean ====
section
/-! DEFINITION. Protected switch channels (chapters 01 and 02): profiles, faults, trips, turn-on and turn-off,
requests, hold and orphan states, limp-home. -/

namespace Sys2Proof.Machine

/-! ### Channel states, fault bits (R56, R57) -/

def chOff : Nat := 0
def chTurningOn : Nat := 1
def chOn : Nat := 2
def chPwm : Nat := 3
def chTurningOff : Nat := 4
def chTripped : Nat := 5
def chLatched : Nat := 6
def chHeld : Nat := 7
def chLimp : Nat := 8

def fShort : Nat := 0
def fOvercurrent : Nat := 1
def fThermal : Nat := 2
def fWire : Nat := 3
def fPeTrip : Nat := 4
def fOpenOff : Nat := 5
def fShortSupply : Nat := 6
def fOpenOn : Nat := 7
def fDesat : Nat := 8
def fStuck : Nat := 9
def fReverse : Nat := 10
def fCpUv : Nat := 11
def fLimpI2t : Nat := 12
def fOrphanHeld : Nat := 13
def fInrushPaused : Nat := 14
def fCompHold : Nat := 15
def fLimpActive : Nat := 16
def fDiagUnavail : Nat := 17
def fGroupUv : Nat := 18

/-- The fault bits that the field die keeps (R57). -/
def keptMask : Nat := maskOf [0, 12, 13, 16]

/-- Channel `n`. -/
def State.chan (s : State) (n : Nat) : Ch := ngetD s.pda.ch n {}

/-- The state with a channel replaced. -/
def State.setChan (s : State) (n : Nat) (c : Ch) : State :=
  { s with pda := { s.pda with ch := nput {} s.pda.ch n c } }

/-- The state with a channel changed by `f`. -/
def State.modChan (s : State) (n : Nat) (f : Ch → Ch) : State := s.setChan n (f (s.chan n))

/-- Group `k` (R29: CHnn belongs to GRP(nn div 8)). -/
def State.grp (s : State) (k : Nat) : Grp := ngetD s.pda.grp k {}

/-- The state with a group replaced. -/
def State.setGrp (s : State) (k : Nat) (g : Grp) : State :=
  { s with pda := { s.pda with grp := nput {} s.pda.grp k g } }

/-- All channel numbers. -/
def allCh : List Nat := List.range 64

/-- `f` applied for every element of a list in order. -/
def State.each {α : Type} (s : State) (l : List α) (f : State → α → State) : State := l.foldl f s

/-- Protection is active (R504). -/
def State.prot (s : State) : Bool := s.coreRuns && s.flag PCS_STATE_PROT

/-- The channel's gate is driven on (R45). -/
def Ch.driven (c : Ch) : Bool := c.gate == .charging || c.gate == .on

/-- A channel's fault bits as its register shows them. -/
def State.faults (s : State) (n : Nat) : Nat := s.get PDA_CHn_FAULT_FAULT n

/-- A fault bit is recorded (R57): shown once protection is active, kept by the field die where it is one of its four;
a bit going from 0 to 1 sets the channel's event bit (R58). -/
def State.setFault (s : State) (n bit : Nat) : State :=
  let s := if bitOf keptMask bit then s.modChan n fun c => { c with kept := setBit c.kept bit true } else s
  if s.prot && !(bitOf (s.faults n) bit) then
    let s := s.set PDA_CHn_FAULT_FAULT (setBit (s.faults n) bit true) n
    if n < 32 then s.setBitOf PDA_CH_EVT_LO_EVT n else s.setBitOf PDA_CH_EVT_HI_EVT (n - 32)
  else s

/-- Fault bits are cleared, the field die's copies with them (R57). -/
def State.clearFaults (s : State) (n mask : Nat) : State :=
  let s := s.set PDA_CHn_FAULT_FAULT (s.faults n &&& (0x7FFFF ^^^ (mask &&& 0x7FFFF))) n
  s.modChan n fun c => { c with kept := c.kept &&& (0x7FFFF ^^^ (mask &&& 0x7FFFF)) }

/-- The channel summary of R75. -/
def State.summary (s : State) (n : Nat) : Nat := (s.chan n).state + s.faults n * 256

/-- The channel's PE trip latch (R177). -/
def State.peLatched (s : State) (n : Nat) : Bool :=
  if n < 32 then bitOf (s.rd PE_TRIPLATCH_LO).toNat n else bitOf (s.rd PE_TRIPLATCH_HI).toNat (n - 32)

/-! ### Profiles (R82–R88) -/

/-- Profile `p`, if defined: profile 0 is built in and reads as zeros (R83). -/
def State.profile (s : State) (p : Nat) : Option (List Byte) :=
  if p = 0 then some (List.replicate 128 0) else nfind s.pda.profiles p

/-- The profile index of a channel. -/
def State.profIdx (s : State) (n : Nat) : Nat := s.get PDA_CHn_PROFILE_PROFILE n

/-- The profile record a channel works with: its fixed-in-use fields may be those of before a mode change (R88). -/
def State.prof (s : State) (n : Nat) : List Byte :=
  let p := (s.profile (s.profIdx n)).getD (List.replicate 128 0)
  match (s.chan n).fixed with
  | none => p
  | some old =>
    let flags := byteAt p 1 / 2 * 2 + byteAt old 1 % 2
    p.take 1 ++ [BitVec.ofNat 8 flags] ++ (old.drop 2).take 6 ++ p.drop 8

/-- Byte field, 16-bit and 32-bit fields of a profile. -/
def pU8 (p : List Byte) (o : Nat) : Nat := byteAt p o
def pU16 (p : List Byte) (o : Nat) : Nat := leAt p o 2
def pU32 (p : List Byte) (o : Nat) : Nat := leAt p o 4
def pI8 (p : List Byte) (o : Nat) : Int := signed 8 (byteAt p o)

/-- Range voltage in nV (R84 FLAGS.RANGE). -/
def pVfs (p : List Byte) : Nat := if bitOf (pU8 p 1) 0 then 10000000 else 80000000

def pPwmRearm (p : List Byte) : Bool := bitOf (pU8 p 1) 1
def pBackoff (p : List Byte) : Bool := bitOf (pU8 p 1) 2
def pWireEn (p : List Byte) : Bool := bitOf (pU8 p 1) 3
def pShunt (p : List Byte) : Nat := pU32 p 4
def pEnvN (p : List Byte) : Nat := pU8 p 8
def pRetries (p : List Byte) : Nat := pU8 p 9 % 16

/-- Effective values of the fields that have a default (R86). -/
def pRiseLim (p : List Byte) : Nat := if pU8 p 84 = 0 then 80 else pU8 p 84
def pTjCap (p : List Byte) : Nat := if pU8 p 85 = 0 then 175 else pU8 p 85
def pRearm (p : List Byte) : Nat := if pU8 p 86 = 0 then 40 else pU8 p 86
def pTbSrc (p : List Byte) (k : Nat) : Nat := if pU8 p 87 % 16 = 15 then k else pU8 p 87 % 16
def pTbFallback (p : List Byte) : Int := if pU8 p 88 = 128 then 105 else pI8 p 88
def pWireRearm (p : List Byte) : Nat := if pU8 p 107 = 0 then 20 else pU8 p 107

/-- Time of envelope point `k` in 10 µs units, and its current in 0.1 A. -/
def pEnvT (p : List Byte) (k : Nat) : Nat := pU16 p (16 + 4 * k) * 10
def pEnvI (p : List Byte) (k : Nat) : Nat := pU16 p (18 + 4 * k)

/-- The end of the inrush window in 10 µs units (R89). -/
def pWindow (p : List Byte) : Nat := if pEnvN p = 0 then 0 else pEnvT p (pEnvN p - 1)

/-- A current of `i` (Q16.16 A) is above E(c) (R90): with E = (I_k·dt + dI·(c − t_k)) / dt in 0.1 A. -/
def aboveEnvelope (p : List Byte) (c : Nat) (i : Int) : Bool :=
  let above := fun (num : Int) (den : Nat) => decide (i * 10 * (den : Int) > 65536 * num)
  if c ≤ pEnvT p 0 then above (pEnvI p 0) 1
  else
    match (List.range (pEnvN p - 1)).find? fun k => decide (pEnvT p k < c ∧ c ≤ pEnvT p (k + 1)) with
    | some k =>
      let dt := pEnvT p (k + 1) - pEnvT p k
      above ((pEnvI p k : Int) * dt + ((pEnvI p (k + 1) : Int) - pEnvI p k) * ((c : Int) - pEnvT p k)) dt
    | none => false

/-- The full-scale current of a profile's range in Q16.16 A, rounded down: V_FS / SHUNT. -/
def pFullScale (p : List Byte) : Nat := if pShunt p = 0 then 0 else pVfs p * 65536 / pShunt p

/-- R85: the byte offset of the first offending field of a record, in record order. An envelope point is reported at its own
first byte, 16 + 4k, and a reserved byte at its own offset (DESIGN CHOICE, log entry 117). -/
def profileBad (p : List Byte) : Option Nat :=
  let bad := fun (b : Bool) (o : Nat) => if b then [o] else []
  let out := fun (v lo hi : Nat) => decide (v < lo ∨ hi < v)
  let outI := fun (v lo hi : Int) => decide (v < lo ∨ hi < v)
  let n := pEnvN p
  let nOk := decide (1 ≤ n ∧ n ≤ 8)
  let shuntOk := decide (100000 ≤ pShunt p ∧ pShunt p ≤ 2000000)
  -- 95 % of V_FS / SHUNT in 0.1 A: I/10 > 0.95 V_FS / SHUNT
  let big := fun (i : Nat) => shuntOk && decide (i * pShunt p * 100 > 95 * pVfs p * 10)
  let env := (List.range 8).flatMap fun k =>
    let t := pU16 p (16 + 4 * k)
    let i := pU16 p (18 + 4 * k)
    if nOk && decide (k < n) then
      bad (decide (i = 0) || big i || (decide (0 < k) && decide (t ≤ pU16 p (16 + 4 * (k - 1))))) (16 + 4 * k)
    else bad (nOk && decide (t + i ≠ 0)) (16 + 4 * k)
  let wire := pWireEn p
  let isl := signed 32 (pU32 p 48)
  let wr := fun (v lo hi : Nat) => if v = 0 then wire else out v lo hi
  let l :=
    bad (out (pU8 p 0) 0 6) 0 ++
    bad (decide (16 ≤ pU8 p 1)) 1 ++
    bad (out (pU8 p 2) 0 63) 2 ++
    bad (!shuntOk) 4 ++
    bad (!nOk) 8 ++
    bad (decide (16 ≤ pU8 p 9)) 9 ++
    bad (decide (pU16 p 10 = 0)) 10 ++
    bad (decide (pU16 p 12 = 0)) 12 ++
    bad (decide (pU16 p 14 = 0)) 14 ++
    env ++
    bad (decide (isl ≤ 0) || (shuntOk && decide (isl * pShunt p * 100 > 95 * (pVfs p : Int) * 65536))) 48 ++
    bad (decide (signed 32 (pU32 p 52) < 0)) 52 ++
    bad (out (pU32 p 56) 1 100000) 56 ++
    bad (out (pU16 p 60) 0 20000) 60 ++
    bad (decide (pU16 p 64 = 0)) 64 ++ bad (decide (pU16 p 66 = 0)) 66 ++ bad (decide (pU16 p 68 = 0)) 68 ++
    bad (decide (pU16 p 70 ≠ 0)) 70 ++
    bad (out (pU32 p 72) 100 100000000) 72 ++ bad (out (pU32 p 76) 100 100000000) 76 ++
    bad (out (pU32 p 80) 100 100000000) 80 ++
    bad (out (pRiseLim p) 10 150) 84 ++
    bad (out (pTjCap p) 100 200) 85 ++
    bad (out (pRearm p) 5 (pRiseLim p - 1)) 86 ++
    bad (decide (16 ≤ pU8 p 87) || !(decide (pU8 p 87 ≤ 11 ∨ pU8 p 87 = 15))) 87 ++
    bad (outI (pTbFallback p) (-40) 125) 88 ++
    ((List.range 7).flatMap fun j => bad (decide (pU8 p (89 + j) ≠ 0)) (89 + j)) ++
    bad (wr (pU32 p 96) 1 4294967295) 96 ++
    bad (wr (pU16 p 100) 1 65535) 100 ++
    bad (wr (pU16 p 102) 1 65535) 102 ++
    bad (out (pU16 p 104) 0 10000) 104 ++
    bad (wr (pU8 p 106) 60 250) 106 ++
    bad (out (pWireRearm p) 5 100) 107 ++
    bad (decide (pU8 p 108 % 16 > 11) || decide (pU8 p 108 / 16 % 8 ≠ 0)) 108 ++
    bad (outI (pI8 p 110) (-40) 125) 110 ++
    ((List.range 17).flatMap fun j => bad (decide (pU8 p (111 + j) ≠ 0)) (111 + j))
  l.head?

/-- After a change of range from that of the record `before` the next two current samples are not VALID (R127). -/
def State.rangeChange (s : State) (n : Nat) (before : List Byte) : State :=
  if pVfs before = pVfs (s.prof n) then s else { s with pda := { s.pda with skip := nset s.pda.skip n 2 } }

/-! ### Gate drive: states and turn-off (R33, R39) -/

/-- The driver current of a gate code, nA, rounded down: 0.2 mA × 100^(code / 15) (R32). It is the largest i with
i¹⁵ ≤ 200000¹⁵ × 100^code, found bit by bit. -/
def gateNa (code : Nat) : Nat :=
  (List.range 25).foldl (fun i k =>
    let j := i + 2 ^ (24 - k)
    if j ^ 15 ≤ 200000 ^ 15 * 100 ^ code then j else i) 0

/-- The current that the driver sources into a channel's gate, nA, by what the gate does: the currents of SRC_CODE and
SINK_CODE in the field die's copy, or the 2 A fast sink (R32, R33). A gate that is off or fully on draws none. -/
def Ch.gateCurrent (c : Ch) : Int :=
  match c.gate with
  | .off | .on => 0
  | .charging => gateNa (bitsOf c.copy.ctrl.toNat 13 10)
  | .sink => -(gateNa (bitsOf c.copy.ctrl.toNat 17 14) : Int)
  | .fast => -2000000000

/-- While VNOM is zero, DUTY_APPLIED equals DUTY_SET (R42). -/
def State.dutyFollow (s : State) (n : Nat) : State :=
  if s.get PDA_CHn_PWM_CFG_VNOM n = 0 then
    let s := s.setFlag PDA_CHn_PWM_APPLIED_COMP_HOLD false n
    s.set PDA_CHn_PWM_APPLIED_DUTY_APPLIED (s.get PDA_CHn_PWM_DUTY_DUTY_SET n) n
  else s

/-- The values of a CH_PWM_CONFIG in the channel's registers (R76). -/
def State.pwmConfig (s : State) (n : Nat) (c : Cmd) : State :=
  let s := s.wr PDA_CHn_PWM_PERIOD (w32 (c.p 0 4)) n
  let s := s.wr PDA_CHn_PWM_DUTY (w32 (c.p 4 2 + c.p 6 2 * 65536)) n
  let s := s.wr PDA_CHn_PWM_CFG (w32 (c.p 8 2 + c.p 10 2 * 65536)) n
  s.dutyFollow n

/-- The channel's state changes; a change at the instant of a grid point holds for that grid point's sample
(DEDUCED, log entry 28). A change between ON and PWM leaves neither, and keeps the runs of R38 and R52 (DESIGN CHOICE, log
entry 117). -/
def State.setChState (s : State) (n st : Nat) : State :=
  let old := s.chan n
  let s := s.modChan n fun c => { c with state := st, smpState := if s.atGrid then st else c.smpState }
  -- CH_PWM_CONFIG commands still waiting for a period start take effect: the channel is not in PWM (R76)
  let s := if old.state = chPwm ∧ st ≠ chPwm then
      (s.modChan n fun c => { c with pwmCmds := [] }).each (old.pwmCmds.filterMap s.cmd?) fun s k =>
        (s.pwmConfig n k).complete k.seq stOk 0
    else s
  -- leaving both ON and PWM restarts the runs of R38 and R52; leaving OFF that of R53
  let s := if st = chOn ∨ st = chPwm then s else s.modChan n fun c => { c with desat := 0, olon := none, olonDue := false }
  -- an idle channel takes the profile fields of a mode change that waited (R88)
  let s := if st = chOff ∨ st = chLatched then
      (s.modChan n fun c => { c with fixed := none }).rangeChange n (s.prof n)
    else s
  if st = chOff then s else s.modChan n fun c => { c with stuck := 0 }

/-- The gate starts to discharge, with the fast sink or with the current of SINK_CODE; a discharge in progress only
changes to the fast sink. A charge that it cuts short counts apart (R100) (DESIGN CHOICE, log entry 104). -/
def Ch.discharge (c : Ch) (fast : Bool) : Ch :=
  match c.gate with
  | .off => c
  | .fast => c
  | .charging => { c with gate := if fast then .fast else .sink, unseen := c.unseen + 1, smpOn := false }
  | _ => { c with gate := if fast then .fast else .sink, smpOn := false }

/-- A turn-off of a channel that ends in OFF (R39, R77). -/
def State.turnOff (s : State) (n : Nat) (fast : Bool) : State :=
  let s := s.modChan n fun c => { (c.discharge fast) with pwm := none, edge := none }
  s.setChState n (if (s.chan n).gate == .off then chOff else chTurningOff)

/-- The commands that wait for ON end with the summary (R76) (DESIGN CHOICE, log entry 106). -/
def State.failWaitOn (s : State) (n : Nat) : State :=
  match (s.chan n).waitOn with
  | [] => s
  | l => (s.modChan n fun c => { c with waitOn := [] }).each l fun u k => u.complete k stAborted (s.summary n)

/-! ### Trips (R112–R118, R64, R70) -/

/-- The causes charged to the retry budget (R113). -/
def chargedCause (c : Nat) : Bool := c == 0 || c == 1 || c == 2 || c == 3 || c == 8 || c == 10

/-- The restart delay in grid points for a channel that has used `used` retries (R115). -/
def restartDelay (p : List Byte) (used : Nat) : Nat :=
  pU16 p 10 * 100 * (if pBackoff p then 2 ^ min used 4 else 1)

/-- The outcome of a trip at a grid point: LATCHED, OFF after a REQ 0 (R118), or TRIPPED with a restart pending. -/
def State.settleTrip (s : State) (n : Nat) : State :=
  let c := s.chan n
  match c.settle with
  | none => s
  | some offWanted =>
    let s := s.modChan n fun c => { c with settle := none }
    if chargedCause c.cause && c.left == 0 then s.setChState n chLatched
    else if offWanted then s.setChState n (if c.gate == .off then chOff else chTurningOff)
    else
      let s := s.setChState n chTripped
      s.modChan n fun c => { c with restart := c.cause != fPeTrip, delay := restartDelay (s.prof n) c.used }

/-- The lowest-numbered bit of a list of causes. -/
def lowest (l : List Nat) : Nat := l.foldl min 31

/-- The time, cause and count of a trip (R79, R112); the trip breaks the run of R117. -/
def State.recordTrip (s : State) (n cause : Nat) : State :=
  let t := s.td0
  s.modChan n fun c =>
    { c with tripTd := if s.coreRuns then t else c.tripTd, cause := cause, trips := satAdd 65535 c.trips 1,
             tripAt := some s.now, refill := 0 }

/-- The desaturation trip of R38: three samples in a row. -/
def Ch.desatDue (c : Ch) : Bool := decide (3 ≤ c.desat)

/-- The desaturation trip of R37: blanking has run out before turn-on is complete (DEDUCED, log entry 21). -/
def State.blankingOut (s : State) (n : Nat) : Bool :=
  let c := s.chan n
  c.state == chTurningOn && c.blank == 0 && !(s.grp (n / 8)).uv && !c.paused

/-- The reverse-current trip of R54. -/
def State.reverseDue (s : State) (n : Nat) : Bool :=
  let c := s.chan n
  decide (10 ≤ c.rev) && s.flag PDA_CHn_CTRL_B2B n && c.driven &&
    decide (c.state = chTurningOn ∨ c.state = chOn ∨ c.state = chPwm ∨ c.state = chHeld ∨ c.state = chLimp)

/-- The trip conditions of channel `n` that hold at this grid point besides the one that trips it (R112). -/
def State.meets (s : State) (n : Nat) : List Nat :=
  if s.atGrid && s.prot then
    (if (s.chan n).desatDue || s.blankingOut n then [fDesat] else []) ++ (if s.reverseDue n then [fReverse] else [])
  else []

/-- A trip of channel `n` with the given causes and those that meet them at one grid point (R112, R113, R64, R70). Of a
channel that turns off while the core die is lost, or sleeps, it leaves LATCHED (R514; DESIGN CHOICE, log entry 117). -/
def State.trip (s : State) (n : Nat) (causes : List Nat) : State :=
  let causes := causes ++ s.meets n
  let s := s.each causes fun s b => s.setFault n b
  let s := if causes.contains fThermal || causes.contains fWire then s.modChan n fun c => { c with thermal := true } else s
  let c := s.chan n
  if c.settle.isSome || (c.tripAt == some s.now && (c.state = chTripped || c.state = chLatched || c.limpTrip)) then
    -- several conditions of one grid point: the lowest-numbered is the cause
    s.modChan n fun c => { c with cause := min c.cause (lowest causes) }
  else if c.state = chOff ∨ c.state = chTripped ∨ c.state = chLatched ∨ (c.state = chLimp ∧ c.limpTrip) then s
  else
    let s := s.recordTrip n (lowest causes)
    let s :=
      if c.state = chLimp then
        s.modChan n fun c => { (c.discharge true) with limpTrip := true, edge := none, pwm := none }
      else if c.state = chHeld ∨ s.pda.lost ∨ s.coreRuns = false then
        let s := s.modChan n fun c =>
          { (c.discharge true) with pwm := none, edge := none, holdEnd := none, orphanHold := false, restart := false }
        s.setChState n chLatched
      else
        let offWanted := decide (c.state = chTurningOff ∧ c.req = 0)
        let s := s.modChan n fun c =>
          { (c.discharge true) with pwm := none, settle := some offWanted, restart := false }
        let s := s.setChState n chTurningOff
        if s.atGrid then s.settleTrip n else s
    s.failWaitOn n

/-! ### Turn-on (R36, R37, R49, R89, R135) -/

/-- The charge pump defers a new turn-on (R35). -/
def State.pumpDefers (s : State) (c : Ch) : Bool := s.pda.cpLow && !c.driven

/-- A turn-on that takes effect ends an offset calibration of the channel's current ABORTED, with the next two samples not
VALID (R135). -/
def State.endOffset (s : State) (n : Nat) : State :=
  match nfind s.pda.cal n with
  | none => s
  | some (_, seq) =>
    let s := { s with pda := { s.pda with cal := nerase s.pda.cal n, skip := nset s.pda.skip n 2 } }
    s.finish seq (stAborted, none)

/-- A turn-on that takes effect discards an off-state test (R49) and ends an offset calibration (R135). -/
def State.turnOnEffects (s : State) (n : Nat) : State := (s.modChan n fun c => { c with offBusy := none }).endOffset n

/-- The inrush clock and B restart (R89, R92): at once at a grid point, else at the first grid point that follows. -/
def State.clockRestart (s : State) (n : Nat) : State :=
  if s.atGrid then s.modChan n fun c => { c with clock := 0, b := 0, clockNew := false, clockRuns := true }
  else s.modChan n fun c => { c with clockNew := true }

/-- The gate starts to charge. -/
def Ch.charge (c : Ch) : Ch := if c.driven then c else { c with gate := .charging }

/-- Turn-on of a channel at a grid point. -/
def State.turnOn (s : State) (n : Nat) : State :=
  let s := s.setChState n chTurningOn
  let s := s.modChan n fun c =>
    { c.charge with blank := max 1 (s.get PDA_CHn_DIAG_ON_BLANK n), desat := 0, pwm := none, smpOn := if s.atGrid then true else c.smpOn }
  (s.clockRestart n).turnOnEffects n

/-! ### PWM (R40–R43) -/

/-- A PWM period in ns: 10 ns units, clamped (R81). -/
def State.pwmPeriod (s : State) (n : Nat) : Nat := clampN 4000 100000000 (s.rd PDA_CHn_PWM_PERIOD n).toNat * 10

/-- The phase offset in ns, rounded down to 10 ns (R40). -/
def State.pwmPhase (s : State) (n : Nat) : Nat := s.pwmPeriod n * s.get PDA_CHn_PWM_DUTY_PHASE n / 65536 / 10 * 10

/-- The first start instant of the sequence at or after TD0 time `t`, ns (R40). -/
def State.pwmStart (s : State) (n t : Nat) : Nat :=
  let per := s.pwmPeriod n
  let ph := s.pwmPhase n
  if t ≤ ph then ph - (ph - t) / per * per else ph + ceilDiv (t - ph) per * per

/-- A changed period or phase of a channel in PWM, before its first period: the first period starts at the first start
instant of the new sequence that is not before the change (R40). -/
def State.pwmResync (s : State) (n : Nat) : State :=
  s.modChan n fun c => { c with pwm := c.pwm.map fun w => { w with from_ := if w.begun then w.from_ else s.td0 } }

/-- DUTY_APPLIED. -/
def State.dutyApplied (s : State) (n : Nat) : Nat := s.get PDA_CHn_PWM_APPLIED_DUTY_APPLIED n

/-- The on-time of a period, ns, after the MINON rule (R41); the fraction of R40 rounded down to whole nanoseconds
(DEDUCED, log entry 34). -/
def onTime (per duty minon : Nat) : Nat :=
  let on := if duty ≥ 65535 then per else per * duty / 65535
  let m := minon * 1000
  if m = 0 then on
  else if on < m then 0
  else if per - on < m then per
  else on

/-- A PWM on-edge (R40, R89, R94). -/
def State.pwmOnEdge (s : State) (n : Nat) : State :=
  let c := s.chan n
  match c.pwm with
  | none => s
  | some w =>
    if c.driven then s.setChan n { c with pwm := some { w with on := true, deferred := false, entry := false } }
    else if s.pda.cpLow then s.setChan n { c with pwm := some { w with on := false, deferred := true } }
    else
      let p := s.prof n
      let off := match (w.offAt : Option Nat) with | none => 0 | some t => s.now - t
      let rerun := w.entry || (pPwmRearm p && w.offAt.isSome && decide (off ≥ pU16 p 14 * 1000000))
      let s := s.setChan n { c.charge with
        pwm := some { w with on := true, onAt := s.now, blankFrom := s.now, deferred := false, entry := false } }
      let s := if rerun && (s.prot || c.state == chPwm) then s.clockRestart n else s
      s.turnOnEffects n

/-- A PWM off-edge, always with the SINK_CODE current (R33, R40). -/
def State.pwmOffEdge (s : State) (n : Nat) : State :=
  s.modChan n fun c =>
    match c.pwm with
    | none => c
    | some w =>
      if c.driven then { (c.discharge false) with pwm := some { w with on := false, deferred := false, offAt := some s.now } }
      else { c with pwm := some { w with on := false, deferred := false } }

/-- The channel enters PWM at a grid point: edges follow from the next start of the sequence, and until then the gate stays
as it is (DESIGN CHOICE, log entry 117). A PWM sequence that the channel kept in HELD goes on. -/
def State.enterPwm (s : State) (n : Nat) : State :=
  let c := s.chan n
  let w := match c.pwm with
    | some w => { w with from_ := s.td0 }
    | none => { from_ := s.td0, entry := !c.driven, on := c.driven }
  (s.setChState n chPwm).modChan n fun c => { c with pwm := some w }

/-! ### Requests in force (R36, R65, R73, R114) -/

/-- The owner's request `req` takes effect now on a channel that takes it (R36, R77, R94). -/
def State.applyReq (s : State) (n req : Nat) (fast : Bool) (duty : Option Nat) : State :=
  if req = 0 ∧ (s.chan n).state = chLatched then s
  else
    let s := match duty with
      | none => s
      | some d => (s.set PDA_CHn_PWM_DUTY_DUTY_SET d n)
    let s := s.dutyFollow n
    let s := s.modChan n fun c =>
      { c with req := req, reqAt := some s.now, orphanHold := false, holdEnd := none }
    let s := s.set PDA_CHn_CTRL_REQ req n
    let c := s.chan n
    if req = 0 then
      let s := s.modChan n fun c => { c with restart := false, delay := 0 }
      if c.state = chTripped then s.turnOff n true else s.turnOff n fast
    else if req = 1 then
      if c.state = chTurningOn ∨ c.state = chOn then s
      else
        let wasPwm := decide (c.state = chPwm ∨ c.state = chHeld) && (match c.pwm with | some w => !w.entry | none => false)
        if c.gate == .on then (s.modChan n fun c => { c with pwm := none }).setChState n chOn
        else if wasPwm then
          -- a PWM turn-on of R94, also of a sequence that HELD kept
          let clock := c.clock
          let b := c.b
          let off := match c.pwm with | some w => (match w.offAt with | some t => s.now - t | none => 0) | none => 0
          let rerun := pPwmRearm (s.prof n) && decide (off ≥ pU16 (s.prof n) 14 * 1000000) && !c.driven
          let s := s.turnOn n
          if rerun then s else s.modChan n fun c => { c with clock := clock, b := b, clockNew := false }
        else if c.gate == .charging then
          -- already turning on: the clock and B carry on
          let s' := s.turnOn n
          s'.modChan n fun c' => { c' with clock := c.clock, b := c.b, clockNew := c.clockNew }
        else s.turnOn n
    else if c.state = chPwm then s
    else s.enterPwm n

/-! ### Limp (R69–R73) -/

/-- The channel's limp entry in the field die is not empty. -/
def Ch.limpEntry (c : Ch) : Bool := bitsOf c.copy.limp.toNat 8 0 != 0

/-- Limp takes the channel over, or keeps it (R69). -/
def State.limpWants (s : State) (n : Nat) : Bool :=
  (s.chan n).limpEntry && (s.pcs.limpPin || (s.chan n).follow)

/-- The limp map switches the channel on (R69); in factory scan mode no channel is switched on (R539). -/
def State.limpOn (s : State) (c : Ch) : Bool :=
  (bitOf c.copy.limp.toNat 8 || (c.copy.limp.toNat % 256 &&& s.pcs.lhPins) != 0) && !c.limpTrip && !s.pcs.scan

/-- A gate driven on by the field die: a turn-on that the charge pump may defer (R35), that ends an offset calibration
(R135), and at which the inrush clock and B restart where the core die watches (R70, R89). -/
def State.fieldOn (s : State) (n : Nat) : State :=
  if (s.chan n).driven then s
  else if s.pda.cpLow then s.modChan n fun c => { c with pumpWait := true }
  else
    let s := (s.modChan n fun c => { c.charge with pumpWait := false }).endOffset n
    if s.prot then s.clockRestart n else s

/-- A turn-on that the charge pump deferred in HELD or LIMP, or the on-edge of a PWM period that has not reached its
off-edge, takes effect once the pump has recovered (R35). -/
def State.pumpResume (s : State) (n : Nat) : State :=
  let c := s.chan n
  let offPhase := match c.edge with | some (_, on) => on | none => false
  let s := if c.pumpWait && !s.pda.cpLow && !offPhase then
      (if c.state = chHeld ∨ (c.state = chLimp ∧ s.limpOn c) then s.fieldOn n else s).modChan n fun c => { c with pumpWait := false }
    else s
  match c.pwm with
  | some w => if w.deferred && !s.pda.cpLow && decide (s.now < w.startAt + w.onFor) then s.pwmOnEdge n else s
  | none => s

/-- The limp map drives the channel: off, fully on, or the 200 Hz PWM of LIMP_DUTY (R69). -/
def State.limpDrive (s : State) (n : Nat) : State :=
  let c := s.chan n
  let duty := bitsOf c.copy.limp.toNat 23 16
  if s.limpOn c then
    if duty = 0 then (s.modChan n fun c => { c with edge := none }).fieldOn n
    else if c.edge.isSome then s
    else
      let s := s.fieldOn n
      s.modChan n fun c => { c with edge := some (s.now + 5000000 * duty / 256, false), edgeDuty := duty }
  else s.modChan n fun c => { (c.discharge false) with edge := none, pumpWait := false }

/-- Limp takes the channel (R69–R71). -/
def State.limpTake (s : State) (n : Nat) : State :=
  let c := s.chan n
  let latched := decide (c.state = chLatched)
  let s := s.failWaitOn n
  let s := s.modChan n fun c =>
    { c with restart := false, delay := 0, settle := none, limpLatched := latched, limpA := 0, relAt := none, pwm := none, edge := none,
             limpTrip := latched || c.thermal || s.peLatched n }
  let s := s.setChState n chLimp
  (s.setFault n fLimpActive).limpDrive n

/-- Limp is judged anew for a channel: taken, driven, or a release requested (R69, R73); an entry that becomes empty while
limp holds the channel releases it (DESIGN CHOICE, log entry 106). -/
def State.limpEval (s : State) (n : Nat) : State :=
  let c := s.chan n
  if s.limpWants n then
    if c.state = chLimp then (s.modChan n fun c => { c with relAt := none }).limpDrive n else s.limpTake n
  else if c.state = chLimp ∧ c.relAt = none then s.modChan n fun c => { c with relAt := some s.now }
  else s

/-- The request waiting for its grid point, unless its command has ended or its deadline has passed (R36, R239). -/
def State.livePend (s : State) (n : Nat) : Option PendReq :=
  (s.chan n).pend.filter fun r =>
    match r.cmd with
    | none => true
    | some k => match s.cmd? k with | some c => !(c.late s.gridTd) | none => false

/-- A PWM sequence is kept as it stands (R62): what its last period start latched, or what the registers hold where no
period has begun; MINON with them (DESIGN CHOICE, log entry 105). -/
def State.keepPwm (s : State) (n : Nat) : State :=
  s.modChan n fun c =>
    { c with pwm := c.pwm.map fun w =>
        if w.begun then { w with minon := s.get PDA_CHn_PWM_CFG_MINON n }
        else
          let t := s.pwmStart n w.from_
          { w with period := s.pwmPeriod n, duty := s.dutyApplied n, minon := s.get PDA_CHn_PWM_CFG_MINON n, start := t
                   startAt := (s.now + t) - s.td0, phase := t % s.pwmPeriod n } }

/-- Limp releases a channel (R73). A return to ON that the charge pump defers waits as a request (R35). -/
def State.limpRelease (s : State) (n : Nat) : State :=
  let c := { s.chan n with pend := s.livePend n }
  let s := s.modChan n fun c =>
    { c with relAt := none, limpTrip := false, limpLatched := false, edge := none, orphanHold := false, holdEnd := none,
             pumpWait := false }
  let req := match c.pend with
    | some r => r.req
    | none => c.req
  if c.limpLatched then (s.modChan n (Ch.discharge · false)).setChState n chLatched
  else if ¬ s.prot then s.turnOff n false
  else if req = 0 ∨ s.profIdx n = 0 ∨ c.thermal ∨ s.peLatched n then s.turnOff n false
  else if c.orphanHold ∧ c.pend = none then
    -- the state its owner last requested, as HELD
    let s := if req = 1 then s.fieldOn n else (s.enterPwm n).keepPwm n
    let s := s.modChan n fun c => { c with orphanHold := true, limpA := 0 }
    (s.setChState n chHeld).setFault n fOrphanHeld
  else if req = 1 then
    if s.pumpDefers c then
      (s.turnOff n false).modChan n fun k => { k with pend := some (c.pend.getD { req := 1, fast := false, at_ := s.now - 1 }) }
    else s.turnOn n
  else (s.enterPwm n).clockRestart n

/-- LIMP_RELEASE: at the next grid point, or the next tick of the field die's 10 µs timing. -/
def State.limpReleases (s : State) (n : Nat) : State :=
  match (s.chan n).relAt with
  | none => s
  | some t =>
    if s.limpWants n then s
    else if s.prot then (if s.atGrid && decide (t < s.now) then s.limpRelease n else s)
    else (s.until ((t / 10000 + 1) * 10000)).limpRelease n

/-! ### Loss of the core die (R61–R66) -/

/-- The orphan setting in the field die: 0 OFF, 1 HOLD, 2 FOLLOW-LIMP with a map to follow (R63). -/
def Ch.orphan (c : Ch) : Nat :=
  let o := c.copy.orphan.toNat % 4
  if o = 3 then 0 else if o = 2 ∧ ¬ c.limpEntry then 0 else o

/-- T_hold in ms (R62, R81). -/
def Ch.thold (c : Ch) : Nat := min 500 (bitsOf c.copy.orphan.toNat 10 2)

/-- The channel enters HELD and records ORPHAN_HELD (R62); its gate goes on as it was. -/
def State.hold (s : State) (n : Nat) : State :=
  let s := (s.modChan n fun c => { c with limpA := 0 }).keepPwm n
  (s.setChState n chHeld).setFault n fOrphanHeld

/-- The owner's request is withdrawn (R63): the last request is off, and `PDA_CHn_CTRL.REQ` shows it. -/
def State.withdraw (s : State) (n : Nat) : State := (s.modChan n fun c => { c with req := 0 }).set PDA_CHn_CTRL_REQ 0 n

/-- The channel takes its orphan state (R63). -/
def State.takeOrphan (s : State) (n : Nat) : State :=
  let c := s.chan n
  let o := c.orphan
  let s := s.modChan n fun c => { c with holdEnd := none }
  if c.state = chLimp ∧ o ≠ 2 then
    -- limp prevails; the orphan state is in force for what follows limp
    let s := if o = 0 then s.withdraw n else s
    s.modChan n fun c => { c with orphanHold := o == 1 }
  else if o = 1 then
    let s := if c.state = chHeld then s else s.hold n
    s.modChan n fun c => { c with orphanHold := true }
  else if o = 2 then
    (s.modChan n fun c => { c with follow := true, orphanHold := false }).limpEval n
  else
    let s := (s.withdraw n).modChan n fun c => { c with orphanHold := false }
    s.turnOff n false

/-- A restart or request that has not come into force is dropped (R61, R62). -/
def Ch.quiet (c : Ch) : Ch := { c with pend := none, restart := false, delay := 0, waitOn := [], pwmCmds := [] }

/-- What a channel does when the core die is declared lost (R62): one already HELD stays as it is, and one under limp takes
its orphan state at no moment of its own (DESIGN CHOICE, log entry 105). -/
def State.loseChannel (s : State) (n : Nat) : State :=
  let c := s.chan n
  let s := s.modChan n Ch.quiet
  if c.state = chTripped ∨ c.settle.isSome then
    (s.modChan n fun c => { c with settle := none }).setChState n chLatched
  else if c.state = chTurningOn ∨ c.state = chOn ∨ c.state = chPwm ∨ c.state = chTurningOff then
    if c.thold = 0 then s.takeOrphan n
    else
      let s := s.modChan n fun c => { c with holdEnd := some (s.now + c.thold * 1000000) }
      s.hold n
  else s

/-- The core die is declared lost (R61–R63). -/
def State.coreLost (s : State) : State :=
  if s.pda.lost then s
  else
    let s := { s with pda := { s.pda with lost := true, limpTick := s.now } }
    s.each allCh State.loseChannel

/-- SAFE_OFF (R484): every channel not held by limp turns off with the fast sink. -/
def State.safeOff (s : State) : State :=
  let s := { s with pda := { s.pda with lost := true, limpTick := s.now } }
  s.each allCh fun s n =>
    if (s.chan n).state = chLimp then s
    else if (s.chan n).state = chLatched then s
    else
      let s := s.modChan n fun c => { c.quiet with holdEnd := none, settle := none, orphanHold := false }
      s.turnOff n true

/-- A dirty disable takes a channel to its orphan state at once (R66); a request that waits for its grid point still takes
effect then (DESIGN CHOICE, log entry 106). -/
def State.orphanNow (s : State) (n : Nat) : State :=
  let c := s.chan n
  let s := s.modChan n fun c => { c with restart := false, delay := 0 }
  if c.state = chOff ∨ c.state = chLatched then s
  else if c.state = chTripped ∨ c.settle.isSome then
    (s.modChan n fun c => { c with settle := none }).setChState n chLatched
  else s.takeOrphan n

/-! ### Register side effects (R81) -/

/-- A write of `PDA_CHn_CTRL`: B2B only while OFF; REQ makes a request unless it is 3, refused or under limp
(R36, R72, R83, R177) (DEDUCED, log entry 27). -/
def State.writeCtrl (s : State) (n : Nat) (v : Word) : State :=
  let old := s.rd PDA_CHn_CTRL n
  let c := s.chan n
  let req := v.toNat % 4
  let keepReq := bitsOf old.toNat 1 0
  let b2b := if c.state = chOff then bitOf v.toNat 3 else bitOf old.toNat 3
  let v' := setBits (setBit (v.toNat % 262144) 3 b2b) 1 0 keepReq
  let refused := decide (req = 3) || decide (c.state = chLimp) ||
    (decide (req ≠ 0) && (s.profIdx n == 0 || s.peLatched n))
  let s := s.wr PDA_CHn_CTRL (w32 v') n
  if refused then s
  else
    let replaced := match c.pend with | some r => r.cmd | none => none
    let s := s.set PDA_CHn_CTRL_REQ req n
    let s := s.modChan n fun c => { c with pend := some { req := req, fast := bitOf v.toNat 2, at_ := s.now } }
    match replaced with
    | none => s
    | some seq => s.complete seq stAborted (s.summary n)

end Sys2Proof.Machine
end

