-- ==== Sys2Proof/Machine/PdaGrid.lean ====
section
/-! DEFINITION. Measurement words (chapter 03) and what the TD0 10 µs grid point does in the power distribution array:
samples, droop and pause, the checks of chapters 01 and 02, sense outputs; Kettle and the wire model. -/

namespace Sys2Proof.Machine

/-! ### Measurement words (R18–R21, R131, R132) -/

/-- The source ID of a kind and an index (R18). -/
def sidOf (kind idx : Nat) : Nat := kind * 4096 + idx

/-- A measurement word (R18): time domain 0. -/
def mword (td sid q : Nat) (v : Int) : Nat :=
  unsignedOf 32 v + (q % 65536) * 4294967296 + (sid % 65536) * 281474976710656 +
    (td % 1000000000) * 73786976294838206464 + (td / 1000000000 % 4294967296) * 79228162514264337593543950336

/-- The word with another time, that of the word `w` as it stands (R18, R20). -/
def mwTimed (w x : Nat) : Nat := x % 18446744073709551616 + w / 18446744073709551616 * 18446744073709551616

/-- Value, quality, source and time (ns) of a measurement word. -/
def mwValue (w : Nat) : Int := signed 32 w
def mwQual (w : Nat) : Nat := bitsOf w 47 32
def mwNs (w : Nat) : Nat := bitsOf w 127 96 * 1000000000 + bitsOf w 95 66

/-- The word is VALID to the device's own consumers (R19, R20). -/
def mwValid (w : Nat) : Bool :=
  bitOf (mwQual w) 0 && decide (mwQual w < 4096) && decide (bitsOf w 95 66 ≤ 999999999)

/-- The latest word of a source, if any (DESIGN CHOICE, log entry 26). -/
def State.word (s : State) (sid : Nat) : Option Nat := nfind s.pda.words sid

/-- The latest word's value where it is VALID. -/
def State.wordVal (s : State) (sid : Nat) : Option Int :=
  match s.word sid with
  | some w => if mwValid w then some (mwValue w) else none
  | none => none

/-- A domain is synchronised (R312). -/
def State.synced (s : State) (d : Nat) : Bool := (s.td d).st == .locked || (s.td d).st == .holdover

/-- One sample of a source: its value, whether the conversion is correct, OVERRANGE, and whether it was lost (R127,
R131, R133). -/
def State.sample (s : State) (sid td : Nat) (v : Int) (ok above lost : Bool) : State :=
  let p := s.pda
  let skip := ngetD p.skip sid 0
  let step := ngetD p.step sid 0
  let cal := match nfind p.cal sid with | some (t, _) => decide (s.now ≤ t) | none => false
  let valid := ok && !lost && !cal && skip == 0 && step == 0
  let unsync := !(s.synced 0) || decide (0 < step)
  let last := ngetD p.valid sid 0
  let q := b2n valid + 2 * b2n (above && !lost) + 4 * b2n cal + 16 * b2n unsync + 128 * b2n lost + 1024 * b2n cal
  let v := if lost then last else v
  let s := { s with pda := { p with
    words := nset p.words sid (mword td sid q v)
    valid := if valid then nset p.valid sid v else p.valid
    skip := if skip ≤ 1 then nerase p.skip sid else nset p.skip sid (skip - 1)
    step := if step ≤ 1 then nerase p.step sid else nset p.step sid (step - 1) } }
  let s := s.count 458
  if lost then s.inc PDA_MEAS_LINK_HOLDS else s

/-- The code listed for an index, or the code of zero. -/
def codeOf {α : Type} (l : List (Nat × α)) (i : Nat) (d : α) : α :=
  match l.find? fun e => e.1 == i with | some e => e.2 | none => d

/-- User terms of a source (R566): channel currents in their registers, others in the array. -/
def State.userTerms (s : State) (sid : Nat) : UserTerms :=
  if sid < 64 then { gain := (s.rd PDA_CHn_UGAIN sid).toNat, ofs := signed 32 (s.rd PDA_CHn_UCAL sid).toNat }
  else ngetD s.pda.user sid {}

/-- A converted value num/den in Q16.16 with the user terms, rounded to the nearest, ties away from zero (R125, R566). -/
def withTerms (u : UserTerms) (num : Int) (den : Nat) : Int :=
  sat32 (roundDivI (u.gain * num + u.ofs * 65536 * den) (65536 * den))

/-- The current sample of channel `n` from decimator code `code` (R125, R127). -/
def State.sampleCur (s : State) (n td : Nat) (code : Int) : State :=
  let p := s.prof n
  let c := clampI (-131072) 131071 code
  let above := decide (c = -131072 ∨ c = 131071)
  let lost := s.pda.lostBits.contains n
  if s.profIdx n = 0 ∨ pShunt p = 0 then s.sample n td 0 false above lost
  else
    let v := withTerms (s.userTerms n) (c * pVfs p * 65536) (131072 * pShunt p)
    s.sample n td v true above lost

/-- A voltage sample from a 14-bit code (R126, R127). -/
def State.sampleVolt (s : State) (sid td code : Nat) : State :=
  let c := min 16383 code
  let v := withTerms (s.userTerms sid) ((c : Int) * 320 - 524288) 1
  s.sample sid td v true (decide (c = 0 ∨ c = 16383)) false

/-- The thermistor's temperature in Q16.16 °C for ratio x = code / 4096 between its clamps (R128), within the accuracy
of the 32-bit evaluation. -/
def thermistorTemp (code : Nat) : Int :=
  let x := (code : Int) * fxOne / 4096
  let l := fxLn (fxDiv x (fxOne - x))
  -- 1/T = 1/298.15 + ln/3435, T in kelvin
  let inv := fxDiv (fxOne * 100) (29815 * fxOne) + fxDiv l (3435 * fxOne)
  fxToQ (fxDiv fxOne inv - 27315 * fxOne / 100)

/-- An analog input sample from a 12-bit code (R128): the ratio x sets the quality in thermistor mode (DEDUCED, log entry 23). -/
def State.sampleAin (s : State) (j td code : Nat) : State :=
  let sid := sidOf 3 j
  let c := min 4095 code
  let mode := s.get PDA_AINj_CFG_MODE j
  let u := s.userTerms sid
  if mode = 1 then
    let scale := signed 32 (s.rd PDA_AINj_SCALE j).toNat
    let ofs := signed 32 (s.rd PDA_AINj_OFFSET j).toNat
    s.sample sid td (withTerms u (scale * c * 330 + ofs * 409600) 409600) true false false
  else if mode = 2 then
    -- the bounds on x in units of 1/4096 × 10⁻⁴
    let x := c * 10000
    if x < 50 * 4096 ∨ 9900 * 4096 < x then s.sample sid td 0 false false false
    else
      let (e, s) := s.freeIn (-64) 64
      let low := decide (x < 322 * 4096)
      let high := decide (9611 * 4096 < x)
      let t := if low then 150 * 65536 else if high then -40 * 65536
               else clampI (-40 * 65536) (150 * 65536) (thermistorTemp c + e)
      s.sample sid td (withTerms u t 1) true (low || high) false
  else s

/-- All samples of grid point `g` at TD0 time `td` (R123). -/
def State.sampleAll (s : State) (x : GridIn) (g td : Nat) : State :=
  let s := s.each allCh fun s n => s.sampleCur n td (codeOf x.cur n 0)
  let s := { s with pda := { s.pda with lostBits := [] } }
  let s := s.each ((List.range 8).filter fun k => g % 4 == k % 4) fun s k =>
    let s := s.each (List.range 8) fun s i => s.sampleVolt (sidOf 1 (8 * k + i)) td (codeOf x.out (8 * k + i) 1638)
    s.sampleVolt (sidOf 2 k) td (codeOf x.grp k 1638)
  let s := if g % 10 = 0 then s.each (List.range 12) fun s j => s.sampleAin j td (codeOf x.ain j 2048) else s
  if g % 100 = 0 then s.each (List.range 7) fun s i => s.sample (sidOf 4 i) td (sat32 (codeOf x.int i 0)) true false false
  else s

/-! ### Group supply: undervoltage and droop (R55, R95–R98) -/

/-- The channels of group `k`. -/
def grpChans (k : Nat) : List Nat := (List.range 8).map fun i => 8 * k + i

/-- The droop threshold is not reached by `v`: v < PCT % × (sum / cnt) (R95, R121). -/
def belowDroop (pct : Nat) (sum : Int) (cnt : Nat) (v : Int) : Bool := decide (v * cnt * 100 < (pct : Int) * sum)

/-- PCT and PAUSE_MAX (in grid points) of a group, clamped as R121 gives them. -/
def State.droopPct (s : State) (k : Nat) : Nat := clampN 50 95 (s.get PDA_GRPk_DROOP_PCT k)
def State.pauseMax (s : State) (k : Nat) : Nat := clampN 1 20 (s.get PDA_GRPk_DROOP_PAUSE_MAX k) * 10

/-- A droop event ends: every channel that was paused records INRUSH_PAUSED (R98). -/
def State.endDroop (s : State) (k : Nat) (byMax : Bool) : State :=
  let s := s.setGrp k { s.grp k with event := none, blocked := byMax }
  let s := s.setFlag PDA_GRPk_STATUS_EVENT false k
  s.each (grpChans k) fun s n =>
    let c := s.chan n
    if c.paused || decide (0 < c.pausePts) then
      let s := s.setChan n { c with paused := false, pausePts := 0 }
      let s := s.set PDA_CHn_PAUSE_LAST (min 16777215 (c.pausePts * 10)) n
      (s.inc PDA_CHn_PAUSE_COUNT 1 n).setFault n fInrushPaused
    else s

/-- The mean window of V_ref (R95): sum and count. -/
def histSum (l : List (Nat × Int)) : Int × Nat := l.foldl (fun a e => (a.1 + e.2, a.2 + 1)) (0, 0)

/-- The runs of R55 on a VALID supply sample. -/
def uvRun (g : Grp) (idx : Nat) (v : Int) : Option (Nat × Nat) :=
  let counts := if g.uv then decide (v * 10 > 58 * 65536) else decide (v * 10 < 55 * 65536)
  if counts then (match g.run with | some (a, _) => some (a, idx) | none => some (idx, idx)) else none

/-- A run of R55 is complete: its latest sample lies at least 100 µs after its first. -/
def Grp.runDone (g : Grp) : Bool := match g.run with | some (a, b) => decide (a + 10 ≤ b) | none => false

/-- The channel runs: the core-die checks of R91 and R92 act on it (R65, R70). -/
def Ch.runs (c : Ch) : Bool :=
  c.state == chTurningOn || c.state == chOn || c.state == chPwm ||
    ((c.state == chHeld || c.state == chLimp) && (c.driven || c.pwm.isSome || c.edge.isSome))

/-- The channel's clock lies in its inrush window: it has been set by a turn-on, and the window has not ended (R89). -/
def State.inWindow (s : State) (n : Nat) : Bool :=
  (s.chan n).clockRuns && decide ((s.chan n).clock < pWindow (s.prof n))

/-- Group `k` at grid point `i`: supply runs, droop event, pause (R55, R95–R97). -/
def State.gridGroup (s : State) (k i : Nat) : State :=
  let due := decide (i % 4 = k % 4)
  let v := if due then s.wordVal (sidOf 2 k) else none
  let g := s.grp k
  let hist := g.hist.filter fun e => decide (i < e.1 + 100)
  let s := match g.event with
    | some (sum, cnt, start) =>
      let above := match v with | some v => !(belowDroop (s.droopPct k) sum cnt v) | none => false
      if above then s.endDroop k false
      else if start + s.pauseMax k < i then s.endDroop k true
      else s
    | none =>
      match v with
      | none => s
      | some v =>
        let (sum, cnt) := histSum hist
        if cnt = 0 then s
        else if !(belowDroop (s.droopPct k) sum cnt v) then s.setGrp k { g with blocked := false }
        else if s.flag PDA_GRPk_DROOP_EN k && !g.blocked then
          let s := s.setGrp k { g with event := some (sum, cnt, i) }
          (s.setFlag PDA_GRPk_STATUS_EVENT true k).inc PDA_GRPk_DROOP_CNT_COUNT 1 k
        else s
  let g := s.grp k
  let g := match v with
    | none => { g with hist := hist }
    | some v => { g with hist := (i, v) :: hist, run := uvRun g i v, sumV := g.sumV + v, nV := g.nV + 1 }
  let s := s.setGrp k g
  -- a bit cleared while the group is under undervoltage is set again at the next sample (R57)
  let s := if g.uv && v.isSome then s.each (grpChans k) fun s n => s.setFault n fGroupUv else s
  match g.event with
  | none => s
  | some (_, _, start) =>
    let live := decide (i < start + s.pauseMax k)
    s.each (grpChans k) fun s n =>
      let c := s.chan n
      if live && (c.paused || s.inWindow n) then
        s.setChan n { c with paused := true, pausePts := c.pausePts + 1
                             pwm := c.pwm.map fun w => { w with blankFrom := w.blankFrom + 10000 } }
      -- the grid point at which the event has lasted PAUSE_MAX pauses nothing (R97)
      else if c.paused then s.setChan n { c with paused := false }
      else s

/-! ### Ceiling comparator (R44–R47) -/

/-- The ceiling threshold in nV for a code: 5 mV + code × 75 mV / 63 (R44). -/
def ceilNv (code : Nat) : Nat := 5000000 + code * 75000000 / 63

/-- The comparator's threshold in nV within its accuracy ±(0.5 mV + 3 %) (R44) (DEDUCED, log entry 32). -/
def State.ceilThreshold (s : State) (n : Nat) : Int × State :=
  let t := ceilNv (bitsOf (s.chan n).copy.ctrl.toNat 9 4)
  let tol : Int := 500000 + (t * 3 / 100 : Nat)
  let (e, s) := s.freeIn (-tol) tol
  ((t : Int) + e, s)

/-! ### The channel at a grid point -/

/-- The headroom VGRPk − OUTnn, where both samples of this grid point are VALID (R37, R38, R123). -/
def State.headroom (s : State) (n : Nat) : Option Int :=
  match s.wordVal (sidOf 2 (n / 8)), s.wordVal (sidOf 1 n) with
  | some a, some b => some (a - b)
  | _, _ => none

/-- The desaturation threshold, Q16.16 V (DEDUCED, log entry 32). -/
def State.desatThr (s : State) (n : Nat) : Int := (s.get PDA_CHn_DIAG_ON_DESAT n + 1) * 16384

/-- Turn-on complete (R37): the channel is ON, and a CH_SET that waits for it completes (R76). -/
def State.turnedOn (s : State) (n : Nat) : State :=
  let s := s.setChState n chOn
  let c := s.chan n
  let s := s.setChan n { c with gate := .on, ntr := c.ntr + (if c.gate == .charging then 1 else 0), waitOn := [], desat := 0 }
  s.each (c.waitOn.filterMap s.cmd?) fun s k => s.complete k.seq stOk k.aux

/-- The off-state tests may run on the channel (R48, R50). -/
def State.offTestOk (s : State) (n : Nat) : Bool :=
  let c := s.chan n
  c.state == chOff && s.get PDA_CHn_DIAG_OFF_PU_SEL n != 0 && !(s.grp (n / 8)).uv && s.prot &&
    (match c.offAt with | some t => decide (t + 10000000 ≤ s.now) | none => true)

/-- The I²t limit in the accumulator's unit: ALLOW × 2¹⁶ × 10⁵ (R92). -/
def allowUnits (p : List Byte) : Nat := pU32 p 52 * 6553600000

/-- The checks and counts of one channel at grid point `i`, acting on the current sample of the grid point before
(R124); the causes of a trip. `act` is that sample where it is VALID (DEDUCED, log entries 21 and 33). -/
def State.gridChannel (s : State) (n i : Nat) (act : Option Int) : List Nat × State :=
  let p := s.prof n
  let c := s.chan n
  let due := decide (i % 4 = n / 8 % 4)
  let uv := (s.grp (n / 8)).uv
  let room := if due then s.headroom n else none
  let runs := c.runs
  let conf := s.profIdx n != 0
  -- the inrush clock (R89, R96)
  let c :=
    if c.clockNew then { c with clock := 0, b := 0, clockNew := false, clockRuns := true }
    else if c.clockRuns && !c.paused then { c with clock := satAdd 1048575 c.clock 1 } else c
  let inWin := decide (c.clock < pWindow p)
  let sampled := c.smpState == chTurningOn || c.smpState == chOn || c.smpState == chPwm ||
    c.smpState == chHeld || c.smpState == chLimp
  -- envelope and accumulator (R91–R93)
  let (oc, c) :=
    if !conf then (false, c)
    else match act with
      | none => (false, c)
      | some a =>
        if inWin then (runs && aboveEnvelope p c.clock a, { c with b := 0 })
        else if sampled then
          -- a sample taken while the channel ran counts though the channel has been switched off since
          let isl := signed 32 (pU32 p 48)
          let b := ((c.b : Int) + a * a - isl * isl).toNat
          ((runs || c.settle.isSome) && decide (b > allowUnits p), { c with b := b })
        else (false, c)
  -- on-state open load (R52): a time that runs out between counted samples is found at the next (DESIGN CHOICE, log entry 104)
  let olim := s.get PDA_CHn_THRESH_I_OLON n
  let c :=
    if olim = 0 ∨ ¬ (c.state = chOn ∨ c.state = chPwm) then { c with olon := none, olonDue := false }
    else match act with
      | none => c
      | some a =>
        let counted := c.smpState = chOn ∨ (c.smpState = chPwm ∧ c.smpOn)
        if ¬ counted then c
        else if a * 1000 ≥ (olim : Int) * 65536 then { c with olon := none, olonDue := false }
        else
          let t0 := c.olon.getD s.now
          let lim := clampN 1 1000 (s.get PDA_CHn_DIAG_ON_OLON_T n) * 1000000
          { c with olon := some t0, olonDue := decide (t0 + lim ≤ s.now) }
  -- stuck on and reverse (R53, R54)
  let c := match act with
    | none => c
    | some a =>
      let stuck := decide (a * 10 > (s.get PDA_CHn_THRESH_I_STUCK n : Int) * 65536)
      let rev := decide (a * 10 < -((s.get PDA_CHn_THRESH_I_REV n : Int) * 65536))
      let c := if c.state = chOff ∧ c.smpState = chOff then
          { c with stuck := if stuck then max c.stuck (min 3 (c.stuck + 1)) else 0 } else c
      { c with rev := if rev then min 10 (c.rev + 1) else 0 }
  -- blanking and desaturation (R37, R38, R96)
  let c := if c.state = chTurningOn ∧ ¬ c.paused then { c with blank := c.blank - 1 } else c
  let thr := s.desatThr n
  let inOn := match c.pwm with
    | some w => w.on && decide (w.blankFrom + max 1 (s.get PDA_CHn_DIAG_ON_BLANK n) * 10000 ≤ s.now)
    | none => false
  let c := match room with
    | none => c
    | some d =>
      let counted := (c.state = chOn ∨ (c.state = chPwm ∧ inOn)) ∧ ¬ uv ∧ ¬ c.paused
      let c := if counted then { c with desat := if d > thr then min 3 (c.desat + 1) else 0 } else c
      if c.gate = Gate.charging ∧ d < thr ∧ c.state ≠ chTurningOn then { c with gate := .on, ntr := c.ntr + 1 } else c
  -- restart delay and budget refill (R114, R117)
  let c := if c.state = chTripped then { c with delay := c.delay - 1 } else c
  let c := { c with refill := if c.state = chOn ∨ c.state = chPwm then c.refill + 1 else 0, act := act }
  let s := s.setChan n c
  -- a test in progress is discarded where R50 forbids it
  let s := if c.offBusy.isSome && !(s.offTestOk n) then s.modChan n fun c => { c with offBusy := none } else s
  -- what the charge pump deferred (R35)
  let s := s.pumpResume n
  let s := match room with
    | some d => if c.state = chTurningOn ∧ d < thr then s.turnedOn n else s
    | none => s
  (if oc then [fOvercurrent] else [], s)

/-- The field die's copy becomes `new`; a ceiling code that the shunt voltage of this instant already exceeds trips the
channel (R47). `code` is the decimator code of this instant. -/
def State.copyTo (s : State) (n : Nat) (new : FdCopy) (code : Int) : List Nat × State :=
  let c := s.chan n
  let s := s.setChan n { c with copy := new }
  if bitsOf c.copy.ctrl.toNat 9 4 ≠ bitsOf new.ctrl.toNat 9 4 ∧ c.driven then
    let (t, s) := s.ceilThreshold n
    (if code * pVfs (s.prof n) > t * 131072 then [fShort] else [], s)
  else ([], s)

/-- Settings reach the field die's copies at a grid point (R47, R67, R81). -/
def State.copySettings (s : State) (n : Nat) (code : Int) : List Nat × State :=
  let c := s.chan n
  let new : FdCopy := { ctrl := s.rd PDA_CHn_CTRL n, orphan := s.rd PDA_CHn_ORPHAN n, limp := s.rd PDA_CHn_LIMP n,
                        i2t := s.rd PDA_CHn_LIMP_I2T n }
  if c.copy = new then ([], s)
  else
    let (a, s) := s.copyTo n new code
    (a, if s.limpWants n || c.state == chLimp then s.limpEval n else s)

/-! ### Sense outputs (R59, R60) -/

/-- A sense output's state. -/
def State.sense (s : State) (k : Nat) : Sense := ngetD s.pda.sense k {}

/-- The level of sense output `k`, µV, and the state after it: the transfer error and the fault level lie within their
tolerances (R59, R60, R556) (DEDUCED, log entry 32). -/
def State.senseUpdate (s : State) (k : Nat) : State :=
  let src := s.get PDA_SENSEOUTk_CFG_SOURCE k
  let fs := signed 32 (s.rd PDA_SENSEOUTk_FS k).toNat
  let ch := s.get PDA_SENSEOUTk_CFG_CHANNEL k
  let sel := decide ((src = 1 ∨ src = 2) ∧ fs ≠ 0)
  let st := (s.chan ch).state
  let (level, s) :=
    if !sel then ((0 : Int), s)
    else
      match (if st = chTripped ∨ st = chLatched ∨ st = chHeld then none else s.wordVal (sidOf (src - 1) ch)) with
      | some v =>
        let l := clampI 0 3000000 (Int.fdiv (3000000 * v) fs)
        let (e, s) := s.freeIn (-(l / 100 + 10000)) (l / 100 + 10000)
        (l + e, s)
      | none => let (e, s) := s.freeIn (-200000) 200000; (4600000 + e, s)
  { s with pda := { s.pda with sense := nput {} s.pda.sense k { sel := sel, level := level.toNat } } }

/-- Every selected output shows the fault level while the core die is not running (R60). -/
def State.senseFault (s : State) : State :=
  s.each (List.range 4) fun s k =>
    if (s.sense k).sel then
      let (e, s) := s.freeIn (-200000) 200000
      { s with pda := { s.pda with sense := nput {} s.pda.sense k { sel := true, level := (4600000 + e).toNat } } }
    else s

/-! ### The grid point -/

/-- Kettle's sums take the new sample (R100). -/
def State.kettleSums (s : State) (n : Nat) (code : Int) : State :=
  let c := s.chan n
  let c := match s.wordVal n with
    | none => c
    | some v =>
      let c := { c with sum2 := c.sum2 + v * v, n2 := c.n2 + 1 }
      if c.driven then { c with sumOn := c.sumOn + v, nOn := c.nOn + 1 } else c
  s.setChan n { c with smpState := c.state, smpOn := c.driven, smpCode := code }

/-- At a mode's boundary grid point the channel's new gate and ceiling codes act in the field die at once, on the sample of
this instant (R268). -/
def State.boundaryCopy (s : State) (n : Nat) : State :=
  let c := s.chan n
  let new : FdCopy := { c.copy with ctrl := s.rd PDA_CHn_CTRL n }
  if c.copy = new then s
  else
    let (a, s) := s.copyTo n new c.smpCode
    (if a.isEmpty then s else s.trip n a).settleTrip n

/-- What a TD0 10 µs grid point does in the PDA once the base configuration is in force (R123, R36–R55, R89–R99). -/
def State.pdaGrid (s : State) (x : GridIn) (i td : Nat) : State :=
  let acts := allCh.map fun n => s.wordVal n
  let s := s.sampleAll x i td
  if ¬ s.prot then
    s.each allCh fun s n => (s.pumpResume n).modChan n fun c => { c with smpState := c.state, smpOn := c.driven }
  else
    let s := s.each (List.range 8) fun s k => s.gridGroup k i
    let s := s.each allCh fun s n =>
      let (a, s) := s.copySettings n (codeOf x.cur n 0)
      let (b, s) := s.gridChannel n i (acts.getD n none)
      let s := if (a ++ b).isEmpty then s else s.trip n (a ++ b)
      (s.settleTrip n).kettleSums n (codeOf x.cur n 0)
    s.each (List.range 4) State.senseUpdate

/-! ### Kettle and the wire model (R100–R111) -/

/-- Board or ambient temperature from an analog input (R103, R106), Q16.16: its latest VALID value, else the larger of
its last VALID value and the fallback, else the fallback. -/
def State.inputTemp (s : State) (j : Nat) (ofs fall : Int) : Int :=
  match s.wordVal (sidOf 3 j) with
  | some v => v + ofs * 65536
  | none =>
    match nfind s.pda.valid (sidOf 3 j) with
    | some v => max (v + ofs * 65536) (fall * 65536)
    | none => fall * 65536

/-- The ambient temperature of the wire (R106). -/
def State.ambient (s : State) (p : List Byte) : Int :=
  if pU8 p 108 / 128 = 1 then pI8 p 110 * 65536
  else s.inputTemp (pU8 p 108 % 16) (pI8 p 109) (pI8 p 110)

/-- e^(−t / tau) in fixed point; 0 for a time constant of 0. -/
def decay (t tau : Nat) : Int := if tau = 0 then 0 else fxExp (-(fxOne * t / tau))

/-- The temperature factor 1 + α × 10⁻⁶ × dT. -/
def tempFactor (ppm : Nat) (dT : Int) : Int := fxOne + Int.fdiv (dT * ppm) 1000000

/-- The channel conducts, so that an estimator limit is a trip (R104). -/
def Ch.conducts (c : Ch) : Bool :=
  c.state == chTurningOn || c.state == chOn || c.state == chPwm || c.state == chTurningOff ||
    ((c.state == chHeld || c.state == chLimp) && c.driven)

/-- Kettle's and the wire's update of channel `n` at a whole millisecond (R100–R110). Each estimate the device works with
lies within 0.05 K of the exact result (R109) (DEDUCED, log entry 23). -/
def State.kettleChannel (s : State) (n : Nat) : State :=
  let p := s.prof n
  let c := s.chan n
  let g := s.grp (n / 8)
  let ms2 := if c.n2 = 0 then c.ms2 else Int.fdiv c.sum2 c.n2
  let vg := if g.nV = 0 then c.vg else Int.fdiv g.sumV g.nV
  let (cut, s) := s.freeIn 0 c.unseen
  let ntr := (c.ntr : Int) + cut
  let ion := if c.nOn = 0 then c.ion else Int.fdiv c.sumOn c.nOn
  let tb := fxOfQ (s.inputTemp (pTbSrc p (n / 8)) 0 (pTbFallback p))
  let ta := fxOfQ (s.ambient p)
  let i2 := ms2 * 65536
  let rise0 := if c.first then 0 else c.th1 + c.th2 + c.th3
  let pow := fxMul (Int.fdiv (i2 * pU32 p 56) 1000000) (tempFactor (pU16 p 60) (tb + rise0 - 25 * fxOne)) +
    Int.fdiv (Int.fdiv (vg * ion * 65536 * pU16 p 62 * ntr) 2) 1000000
  let stage := fun (th : Int) (rth tau : Nat) =>
    let lim := Int.fdiv (pow * rth) 100
    if c.first then lim else let e := decay 1000 tau; fxMul th e + fxMul lim (fxOne - e)
  let th1 := stage c.th1 (pU16 p 64) (pU32 p 72)
  let th2 := stage c.th2 (pU16 p 66) (pU32 p 76)
  let th3 := stage c.th3 (pU16 p 68) (pU32 p 80)
  let wire := pWireEn p
  let pw := fxMul (Int.fdiv (i2 * pU32 p 96) 1000000)
    (tempFactor (pU16 p 104) (ta + (if c.first then 0 else c.thw) - 20 * fxOne))
  let wlim := Int.fdiv (pw * pU16 p 100) 1000
  let thw := if !wire then c.thw else if c.first then wlim
    else let e := decay 1 (pU16 p 102 * 100); fxMul c.thw e + fxMul wlim (fxOne - e)
  let tol := fxOne / 20
  let (e1, s) := s.freeIn (-tol) tol
  let (e2, s) := s.freeIn (-tol) tol
  let (e3, s) := s.freeIn (-tol) tol
  let rise := th1 + th2 + th3 + e1
  let tj := tb + th1 + th2 + th3 + e2
  let tw := ta + thw + e3
  let s := s.setChan n
    { c with th1 := th1, th2 := th2, th3 := th3, thw := thw, ms2 := ms2, vg := vg, ion := ion, sum2 := 0, n2 := 0,
             sumOn := 0, nOn := 0, ntr := 0, unseen := 0, first := false }
  let s := s.wr PDA_CHn_RISE (w32 (unsignedOf 32 (sat32 (fxToQ rise)))) n
  let s := s.wr PDA_CHn_TJ (w32 (unsignedOf 32 (sat32 (fxToQ tj)))) n
  let s := s.wr PDA_CHn_TW (if wire then w32 (unsignedOf 32 (sat32 (fxToQ tw))) else 0) n
  let hot := decide (rise > pRiseLim p * fxOne ∨ tj > pTjCap p * fxOne)
  let wireHot := wire && decide (tw > pU8 p 106 * fxOne)
  let causes := (if hot then [fThermal] else []) ++ (if wireHot then [fWire] else [])
  if !causes.isEmpty then
    if c.conducts ∨ (c.tripAt = some s.now ∧ (c.state = chTripped ∨ c.state = chLatched)) then s.trip n causes
    else
      let s := s.each causes fun s b => s.setFault n b
      let s := s.modChan n fun c => { c with thermal := true }
      -- limp never switches on a channel whose thermal latch becomes set (R70)
      if c.state = chLimp then s.modChan n fun c => { c with limpTrip := true, edge := none, pumpWait := false } else s
  else if rise < pRearm p * fxOne ∧ tj ≤ (pTjCap p - 25) * fxOne ∧
      (¬ wire ∨ tw ≤ ((pU8 p 106 : Int) - pWireRearm p) * fxOne) then
    s.modChan n fun c => { c with thermal := false }
  else s

/-- The update of every channel, after which the groups' sums start anew. -/
def State.kettleUpdate (s : State) : State :=
  let s := s.each allCh State.kettleChannel
  s.each (List.range 8) fun s k => s.setGrp k { s.grp k with sumV := 0, nV := 0 }

end Sys2Proof.Machine
end

