-- ==== Sys2Proof/Machine/CmdPda.lean ====
section
/-! DEFINITION. The channel, profile and calibration commands (chapters 01–03): checks, refusals and effects. -/

namespace Sys2Proof.Machine

/-! ### Shared checks -/

/-- Step 4 of R243 for a resource: EXPERT from a VF, or an owner other than the issuer outside the expert form (R80, R238).
An index outside the kind's range has no owner. -/
def State.notOwner (s : State) (c : Cmd) (kind i : Nat) : Bool :=
  if c.desc.expert then c.fn != 0 else decide (i < ownSize kind) && s.owner kind i != c.fn

/-- Step 5 for the expert form of a PDA command (R238, R248). -/
def State.expertShut (s : State) (c : Cmd) : Bool := c.desc.expert && !(bitOf (s.get SF_EXPERT_ALLOW_ALLOW) 3)

/-- A refusal whose result value is not stated (DESIGN CHOICE, log entry 9). -/
def bad (st : Nat) : Res := (st, none)

/-- ABORTED with the summary of a channel (R75). -/
def State.abortedSum (s : State) (n : Nat) : Res := (stAborted, some (s.summary n))

/-- The checks of a list and then the zero bytes of R24 (DEDUCED, log entry 29). -/
def checks (s : State) (c : Cmd) (l : List (Bool × Res)) (named : List (Nat × Nat)) (l6 : List (Bool × Res)) :
    State × Option Res :=
  (s, orErr (firstErr l) (orErr (strayErr named c) (firstErr l6)))

/-- The target lies outside its range: no owner exists to be checked, and the command is BAD_PARAM (DEDUCED, log entry 29). -/
def outOfRange (c : Cmd) (n : Nat) : Bool × Res := (decide (n ≤ c.tgt), bad stBadParam)

/-! ### CH_SET (R36, R72, R76, R77, R80) -/

/-- The CH_SET ends FOLLOW-LIMP (R72): the owner's, LIMP deasserted, protection active again. -/
def State.endsFollow (s : State) (c : Cmd) : Bool :=
  let k := s.chan c.tgt
  k.follow && !s.pcs.limpPin && s.prot && !s.pda.lost && !c.desc.expert

/-- A request other than off is refused by the channel's state (R76, R83, R111, R177) (DEDUCED, log entry 30). -/
def State.reqRefused (s : State) (n req : Nat) : Bool :=
  let c := s.chan n
  decide (req ≠ 0) && (decide (c.state = chTripped ∨ c.state = chLatched) || s.profIdx n == 0 || s.peLatched n ||
    (c.thermal && c.state == chOff))

/-- A REQ 0 turns off fast by its own FAST_OFF flag alone, and a refused first CH_SET leaves FOLLOW-LIMP in force (DESIGN CHOICE,
log entry 117). -/
def specChSet : OpSpec where
  code := 0x0101
  atomic := true
  expert := true
  waits := true
  own c := some (0, c.tgt)
  check s c :=
    let limp := decide ((s.chan c.tgt).state = chLimp) && !s.endsFollow c
    let dutyValid := bitOf (c.p 1 1) 2
    checks s c
      [(s.notOwner c 0 c.tgt, bad stNotOwner), (s.expertShut c || limp, bad stNotInMode), outOfRange c 64]
      ([(0, 2)] ++ if dutyValid then [(2, 2)] else [])
      [(decide (2 < c.p 0 1) || decide (8 ≤ c.p 1 1), bad stBadParam)]
  outcome s c := if s.reqRefused c.tgt (c.p 0 1) then some (s.abortedSum c.tgt) else none
  run s c :=
    let n := c.tgt
    if s.reqRefused n (c.p 0 1) then s.finish c.seq (s.abortedSum n)
    else
      let s := if s.endsFollow c then (s.modChan n fun k => { k with follow := false }).limpEval n else s
      let old := (s.chan n).pend
      let s := s.modChan n fun k =>
        { k with pend := some { req := c.p 0 1, fast := bitOf (c.p 1 1) 0, wait := bitOf (c.p 1 1) 1, cmd := some c.seq,
                                duty := if bitOf (c.p 1 1) 2 then some (c.p 2 2) else none, at_ := s.now } }
      let s := s.setStage c.seq .started
      match old with
      | some { cmd := some k, .. } => s.complete k stAborted (s.summary n)
      | _ => s

/-- The channel's pending request takes effect (R36, R76, R118, R239): a request of the register or of the expert form ends
HELD as the owner's does (DESIGN CHOICE, log entry 117). -/
def State.takeRequest (s : State) (n : Nat) (r : PendReq) : State :=
  let s := s.modChan n fun c => { c with pend := none }
  let cmd := r.cmd.bind s.cmd?
  if r.cmd.isSome ∧ cmd.isNone then s
  else
    let fin := fun (s : State) (x : Res) => match cmd with | some k => s.finish k.seq x | none => s
    let late := match cmd with | some k => k.late s.gridTd | none => false
    if late then fin s (bad stDeadlineMissed)
    else if (s.chan n).state = chLimp then fin s (bad stNotInMode)
    else if s.reqRefused n r.req then fin s (s.abortedSum n)
    else
      let old := (s.chan n).waitOn
      let s := s.applyReq n r.req r.fast r.duty
      -- a request that replaces one still waiting for ON ends that wait (DESIGN CHOICE, log entry 106)
      let s :=
        if old.isEmpty ∨ (s.chan n).state = chTurningOn then s
        else (s.modChan n fun c => { c with waitOn := [] }).each (old.filterMap s.cmd?) fun u k =>
          if (u.chan n).state = chOn then u.complete k.seq stOk k.aux else u.complete k.seq stAborted (u.summary n)
      let c := s.chan n
      let s := match cmd with
        | none => s
        | some k =>
          if r.wait && decide (r.req = 1 ∧ c.state ≠ chOn) then
            ((s.modChan n fun c => { c with waitOn := c.waitOn ++ [k.seq] }).setAux k.seq s.gridTd).setStage k.seq .effected
          else s.complete k.seq stOk s.gridTd
      -- the envelope check of this grid point on a channel that has just turned on (R91)
      match c.act with
      | some a =>
        if c.state = chTurningOn ∧ c.clock = 0 ∧ 0 < pWindow (s.prof n) ∧ aboveEnvelope (s.prof n) 0 a then
          s.trip n [fOvercurrent]
        else s
      | none => s

/-- A pending request at a grid point: limp that has been released lets the channel go first (R72, R73), and a low charge
pump defers a turn-on (R35) (DEDUCED, log entry 30). -/
def State.requestEffect (s : State) (n : Nat) : State :=
  match (s.chan n).pend with
  | none => s
  | some r =>
    if ¬ (s.atGrid ∧ r.at_ < s.now) then s
    else
      let s := if (s.chan n).state = chLimp then s.limpReleases n else s
      if r.req = 1 ∧ s.pumpDefers (s.chan n) then s else s.takeRequest n r

/-! ### CH_PWM_CONFIG (R40, R76) -/

/-- The CH_PWM_CONFIG commands of channel `n` that wait for a period start. -/
def State.pwmWaiting (s : State) (n : Nat) : List Cmd := (s.chan n).pwmCmds.filterMap s.cmd?

/-- The state with the waiting values in force (R40). -/
def State.pwmDue (s : State) (n : Nat) : State := s.each (s.pwmWaiting n) fun s c => s.pwmConfig n c

/-- A HELD channel keeps its last period, phase, duty and MINON (R62). -/
def Ch.keepsPwm (c : Ch) : Bool := c.state == chHeld

/-- When the period in progress ends, or the first start to come, and the start instant that follows: TD0 times, ns (R40).
In HELD the sequence keeps its period and phase, to which it returns after a step of TD0 (R62, R319). -/
def State.pwmNext (s : State) (n : Nat) (w : PwmRun) : Nat × Nat :=
  let due := (if w.begun then w.start + w.period else w.start).toNat
  if (s.chan n).keepsPwm then
    if w.begun then (due, due + (w.phase + w.period - due % w.period) % w.period) else (due, due)
  else if w.begun then (due, (s.pwmDue n).pwmStart n due)
  else let t := (s.pwmDue n).pwmStart n w.from_; (t, t)

/-- The values of a CH_PWM_CONFIG wait for the channel's next period start. -/
def State.pwmWait (s : State) (c : Cmd) : State :=
  ((s.modChan c.tgt fun k => { k with pwmCmds := k.pwmCmds ++ [c.seq] }).pwmResync c.tgt).setStage c.seq .started

/-- The channel is in PWM, and the period start at which the command's values would take effect lies after its deadline
(R76, R239). -/
def State.pwmLate (s : State) (c : Cmd) : Bool :=
  match (s.chan c.tgt).state == chPwm, (s.chan c.tgt).pwm with
  | true, some w => c.late ((s.pwmWait c).pwmNext c.tgt w).2
  | _, _ => false

def specChPwmConfig : OpSpec where
  code := 0x0102
  atomic := true
  waits := true
  own c := some (0, c.tgt)
  check s c :=
    checks s c
      [(s.notOwner c 0 c.tgt, bad stNotOwner), (decide ((s.chan c.tgt).state = chLimp), bad stNotInMode), outOfRange c 64]
      [(0, 12)]
      [(decide (c.p 0 4 < 4000 ∨ 100000000 < c.p 0 4), bad stBadParam)]
  run s c :=
    match (s.chan c.tgt).state == chPwm, (s.chan c.tgt).pwm with
    | true, some _ => if s.pwmLate c then s.finish c.seq (bad stDeadlineMissed) else s.pwmWait c
    | _, _ =>
      if c.late s.td0 then s.finish c.seq (bad stDeadlineMissed)
      else (s.pwmConfig c.tgt c).complete c.seq stOk 0

/-- The next PWM period starts once its instant is reached (R40–R42): the values in force are latched, waiting CH_PWM_CONFIG
commands take effect and complete. -/
def State.pwmPeriodGo (s : State) (n : Nat) (w : PwmRun) : State :=
  let held := (s.chan n).keepsPwm
  let (due, t) := s.pwmNext n w
  let dueAt := w.startAt + (if w.begun then w.period else 0) + (t - due)
  let s := if s.coreRuns then s.untilTd 0 t else s.until dueAt
  let reached := if s.coreRuns then decide (t ≤ s.td0) else decide (dueAt ≤ s.now)
  if !reached then s
  else
    let s := s.pwmDue n
    let per := if held then w.period else s.pwmPeriod n
    let duty := if held then w.duty else s.dutyApplied n
    let minon := if held then w.minon else s.get PDA_CHn_PWM_CFG_MINON n
    let on := onTime per duty minon
    let s := s.modChan n fun c =>
      { c with pwm := some { w with
          begun := true, period := per, duty := duty, onFor := on, minon := minon
          phase := if held then w.phase else t % per
          start := t
          startAt := if held && !s.coreRuns then dueAt else s.now } }
    let cmds := (s.chan n).pwmCmds
    let s := if cmds.isEmpty then s else s.modChan n fun c => { c with pwmCmds := [] }
    let s := if on = 0 then s.pwmOffEdge n else s.pwmOnEdge n
    s.each cmds fun s k => s.complete k stOk t

/-- PWM_PERIOD_START: a waiting CH_PWM_CONFIG that would take effect after its deadline does nothing (R239), unless it is the
member of a group that has taken effect. -/
def State.pwmPeriodStart (s : State) (n : Nat) : State :=
  match (s.chan n).pwm with
  | none => s
  | some w =>
    if (s.chan n).state != chPwm && (s.chan n).state != chHeld then s
    else
      let t := (s.pwmNext n w).2
      (s.each ((s.pwmWaiting n).filter fun c => c.stage == .started && c.late t) fun s c =>
        s.finish c.seq (bad stDeadlineMissed)).pwmPeriodGo n w

/-- The off-edge of the period in progress (R40, R41); also the end of a period after which a changed sequence leaves the
channel off. -/
def State.pwmOff (s : State) (n : Nat) : State :=
  match (s.chan n).pwm with
  | none => s
  | some w =>
    if !(w.begun && w.on) then s
    else if w.onFor < w.period ∨ (s.pwmNext n w).1 ≠ (s.pwmNext n w).2 then
      let d := min w.onFor w.period
      let s := if s.coreRuns then s.untilTd 0 (w.start + d).toNat else s.until (w.startAt + d)
      let reached := if s.coreRuns then decide (w.start + d ≤ s.td0) else decide (w.startAt + d ≤ s.now)
      if reached then s.pwmOffEdge n else s
    else s

/-- The 100 µs recomputation of DUTY_APPLIED (R42, R43) for a channel that compensates. -/
def State.dutyRecompute (s : State) (n : Nat) : State :=
  let vnom := s.get PDA_CHn_PWM_CFG_VNOM n
  if vnom = 0 ∨ (s.chan n).state = chHeld then s
  else
    let g := s.tbu.grid
    let (sum, cnt) := histSum ((s.grp (n / 8)).hist.filter fun e => decide (g < e.1 + 10))
    if cnt ≠ 0 ∧ 0 < sum then
      -- V_nom / V_group = VNOM × 0.01 V / (sum / cnt / 65536)
      let num := vnom * 65536 * cnt
      let den := sum.toNat * 100
      let d := min 65535 (s.get PDA_CHn_PWM_DUTY_DUTY_SET n * num * num / (den * den))
      let s := s.modChan n fun c => { c with holdSince := none }
      (s.set PDA_CHn_PWM_APPLIED_DUTY_APPLIED d n).setFlag PDA_CHn_PWM_APPLIED_COMP_HOLD false n
    else
      let s := s.modChan n fun c => { c with holdSince := some (c.holdSince.getD (s.now - 100000)) }
      (s.setFlag PDA_CHn_PWM_APPLIED_COMP_HOLD true n).setFault n fCompHold

/-! ### CH_CLEAR_LATCH (R76, R116, R117) -/

/-- A LATCHED channel becomes OFF and its budget is refilled. -/
def State.clearLatch (s : State) (n : Nat) : State :=
  if (s.chan n).state ≠ chLatched then s
  else
    let s := s.modChan n fun c => { c with left := pRetries (s.prof n), used := 0, refill := 0 }
    s.setChState n chOff

def specChClearLatch : OpSpec where
  code := 0x0103
  atomic := true
  expert := true
  own c := some (0, c.tgt)
  check s c :=
    checks s c [(s.notOwner c 0 c.tgt, bad stNotOwner), (s.expertShut c, bad stNotInMode), outOfRange c 64] [] []
  run s c :=
    let s := s.clearLatch c.tgt
    s.complete c.seq stOk (s.summary c.tgt)

/-! ### CH_DIAG_READ (R76, R78, R79) -/

/-- The 32-bit pattern of the latest value of a source, 0 where it has none. -/
def State.latestValue (s : State) (sid : Nat) : Nat := match s.word sid with | some w => w % 4294967296 | none => 0

/-- The 64-byte record of R79. -/
def State.diagRecord (s : State) (n : Nat) : List Byte :=
  let c := s.chan n
  leBytes 1 c.state ++ leBytes 1 c.left ++
  leBytes 2 (b2n (c.state == chLimp) + 2 * b2n (c.state == chHeld) + 4 * b2n c.thermal) ++
  leBytes 4 (s.faults n) ++ leBytes 4 (s.latestValue n) ++ leBytes 4 (s.latestValue (sidOf 1 n)) ++
  leBytes 4 (s.latestValue (sidOf 2 (n / 8))) ++ leBytes 4 (s.rd PDA_CHn_RISE n).toNat ++
  leBytes 4 (if pWireEn (s.prof n) then (s.rd PDA_CHn_TW n).toNat else 0) ++ leBytes 4 (s.get PDA_CHn_PAUSE_LAST n) ++ leBytes 8 c.tripTd ++
  leBytes 2 c.cause ++ leBytes 2 c.trips ++ leBytes 2 c.openTests ++ leBytes 2 0 ++
  leBytes 16 ((s.word n).getD 0)

/-- The read takes its result: record, summary, then the clear (R76, R78, R79). -/
def State.diagTake (s : State) (c : Cmd) : State :=
  let n := c.tgt
  let sum := s.summary n
  let a := c.p 0 8
  let (e, s) := if a = 0 then (none, s) else s.writeRecord c a (s.diagRecord n)
  match e with
  | some r => s.finish c.seq r
  | none => (s.clearFaults n (c.p 8 4)).complete c.seq stOk sum

/-- The wait mask asks to wait: it is not zero and none of its bits is set (R78). -/
def State.diagWaits (s : State) (c : Cmd) : Bool := c.p 12 4 != 0 && (s.faults c.tgt &&& c.p 12 4) == 0

def specChDiagRead : OpSpec where
  code := 0x0104
  expert := true
  waits := true
  own c := some (0, c.tgt)
  check s c :=
    let pre := orErr (firstErr [(s.notOwner c 0 c.tgt, bad stNotOwner), (s.expertShut c, bad stNotInMode), outOfRange c 64])
      (strayErr [(0, 16)] c)
    let (s, e) := s.thenXlate c pre (c.p 0 8 == 0) (c.p 0 8) 64 true 0
    let second := s.diagWaits c &&
      s.sf.cmds.any fun k => k.fn == c.fn && k.stage == .withheld && k.desc.opcode == 0x0104 && k.tgt == c.tgt
    (s, orErr e (firstErr [(second, bad stInfeasible)]))
  run s c :=
    if s.diagWaits c then s.setStage c.seq .withheld
    else if c.late s.td0 then s.finish c.seq (bad stDeadlineMissed)
    else s.diagTake c

/-! ### CH_ASSIGN_PROFILE, CH_SENSEOUT_SELECT (R76, R87) -/

/-- The gate and ceiling codes of a profile are copied into the channel (R87). -/
def State.copyCodes (s : State) (n : Nat) (p : List Byte) : State :=
  let s := s.set PDA_CHn_CTRL_CEIL_CODE (pU8 p 2) n
  let s := s.set PDA_CHn_CTRL_SRC_CODE (pU8 p 3 % 16) n
  s.set PDA_CHn_CTRL_SINK_CODE (pU8 p 3 / 16) n

/-- Profile `p` is assigned to channel `n` (R87). -/
def State.assignProfile (s : State) (n p : Nat) : State :=
  let before := s.prof n
  let s := s.modChan n fun c => { c with fixed := none }
  let s := s.set PDA_CHn_PROFILE_PROFILE p n
  let s := s.copyCodes n (s.prof n)
  let s := s.modChan n fun c => { c with left := pRetries (s.prof n), used := 0, refill := 0 }
  s.rangeChange n before

def specChAssignProfile : OpSpec where
  code := 0x0105
  own c := some (0, c.tgt)
  check s c :=
    checks s c
      [(s.notOwner c 0 c.tgt, bad stNotOwner), (decide ((s.chan c.tgt).state = chLimp), bad stNotInMode), outOfRange c 64]
      [(0, 2)]
      [((s.profile (c.p 0 2)).isNone, bad stBadParam)]
  outcome s c :=
    let st := (s.chan c.tgt).state
    if st = chOff ∨ st = chLatched then none else some (s.abortedSum c.tgt)
  run s c := (s.assignProfile c.tgt (c.p 0 2)).finish c.seq (stOk, none)

def specChSenseoutSelect : OpSpec where
  code := 0x0106
  own c := some (1, c.tgt)
  check s c :=
    let ch := c.p 0 1
    checks s c
      [(s.notOwner c 1 c.tgt || (decide (ch < 64) && s.owner 0 ch != c.fn), bad stNotOwner), outOfRange c 4]
      [(0, 2), (4, 4)]
      [(decide (64 ≤ ch) || decide (3 ≤ c.p 1 1) || decide (signed 32 (c.p 4 4) ≤ 0), bad stBadParam)]
  run s c :=
    let s := s.wr PDA_SENSEOUTk_CFG (w32 (c.p 0 1 + c.p 1 1 * 64)) c.tgt
    let s := s.wr PDA_SENSEOUTk_FS (w32 (c.p 4 4)) c.tgt
    s.finish c.seq (stOk, none)

/-! ### PROFILE_WRITE, PROFILE_READ (R119, R120) -/

/-- Channels assigned a profile. -/
def State.profileUsers (s : State) (p : Nat) : List Nat := allCh.filter fun n => s.profIdx n == p

/-- The lowest channel that uses a profile and is not OFF or LATCHED (R88). -/
def State.profileBusy (s : State) (p : Nat) : Option Nat :=
  (s.profileUsers p).find? fun n => (s.chan n).state != chOff && (s.chan n).state != chLatched

def specProfileWrite : OpSpec where
  code := 0x0201
  check s c :=
    let pre := orErr (firstErr [(c.fn != 0, bad stNotOwner), (decide (128 ≤ c.tgt ∨ c.tgt = 0), bad stBadParam)])
      (strayErr [(0, 8)] c)
    s.thenXlate c pre false (c.p 0 8) 128 false 0
  run s c :=
    match s.fnRead c.fn (c.p 0 8) 128 with
    | (.error _, s) => s.finish c.seq (bad stHwFault)
    | (.ok rec, s) =>
      match profileBad rec with
      | some o => s.finish c.seq (stBadParam, some o)
      | none =>
        match s.profileBusy c.tgt with
        | some n => s.finish c.seq (stAborted, some n)
        | none =>
          let users := s.profileUsers c.tgt
          let before := s
          let s := { s with pda := { s.pda with profiles := nset s.pda.profiles c.tgt rec } }
          let s := s.each users fun s n => s.rangeChange n (before.prof n)
          s.complete c.seq stOk users.length

def specProfileRead : OpSpec where
  code := 0x0202
  check s c :=
    let pre := orErr (firstErr [(decide (128 ≤ c.tgt), bad stBadParam)])
      (orErr (strayErr [(0, 8)] c) (firstErr [((s.profile c.tgt).isNone, bad stBadParam)]))
    s.thenXlate c pre false (c.p 0 8) 128 true 0
  run s c :=
    match s.writeRecord c (c.p 0 8) ((s.profile c.tgt).getD []) with
    | (some r, s) => s.finish c.seq r
    | (none, s) => s.finish c.seq (stOk, none)

/-! ### MEAS_CALIBRATE (R134–R136, R566) -/

/-- Kind and index of a source ID. -/
def srcKind (sid : Nat) : Nat := sid / 4096
def srcIdx (sid : Nat) : Nat := sid % 4096

/-- A local source that exists (R122, R130). -/
def localSource (sid : Nat) : Bool :=
  let i := srcIdx sid
  match srcKind sid with
  | 0 => decide (i < 64)
  | 1 => decide (i < 64)
  | 2 => decide (i < 8)
  | 3 => decide (i < 12)
  | 4 => decide (i < 7)
  | _ => false

/-- The channel of a channel source. -/
def srcChannel (sid : Nat) : Option Nat := if srcKind sid ≤ 1 ∧ srcIdx sid < 64 then some (srcIdx sid) else none

/-- The full scale of a source in Q16.16 (R566). -/
def State.fullScale (s : State) (sid : Nat) : Nat :=
  match srcKind sid with
  | 0 => pFullScale (s.prof (srcIdx sid))
  | 1 => 80 * 65536
  | 2 => 80 * 65536
  | _ =>
    if s.get PDA_AINj_CFG_MODE (srcIdx sid) = 1 then
      (signed 32 (s.rd PDA_AINj_SCALE (srcIdx sid)).toNat).natAbs * 330 / 100
    else 190 * 65536

/-- The state with the user terms of a source set. -/
def State.setTerms (s : State) (sid : Nat) (u : UserTerms) : State :=
  if sid < 64 then (s.wr PDA_CHn_UGAIN (w32 u.gain) sid).wr PDA_CHn_UCAL (w32 (unsignedOf 32 u.ofs)) sid
  else { s with pda := { s.pda with user := nput {} s.pda.user sid u } }

def specMeasCalibrate : OpSpec where
  code := 0x0303
  waits := true
  own c := match srcChannel c.tgt with | some n => some (0, n) | none => none
  check s c :=
    let kind := srcKind c.tgt
    let known := localSource c.tgt && decide (kind ≤ 3)
    let act := c.p 0 1
    -- kinds 2 and 3 are the PF's, whatever the index (R136)
    let owner := match srcChannel c.tgt with | some n => s.owner 0 n != c.fn | none => (kind == 2 || kind == 3) && c.fn != 0
    let lim := s.fullScale c.tgt
    let ofs := signed 32 (c.p 4 4)
    checks s c [(owner, bad stNotOwner), (!known, bad stBadParam)]
      ([(0, 1)] ++ if act = 1 ∨ act = 2 then [(4, 4)] else [])
      [(decide (4 ≤ act) || decide (act = 1 ∧ (c.p 4 4 * 10 < 9 * 65536 ∨ 11 * 65536 < c.p 4 4 * 10)) ||
        decide (act = 2 ∧ (lim : Int) * 2 < ofs.natAbs * 100), bad stBadParam)]
  run s c :=
    let sid := c.tgt
    let u := s.userTerms sid
    if c.late s.td0 then s.finish c.seq (bad stDeadlineMissed)
    else match c.p 0 1 with
      | 0 =>
        if (nfind s.pda.cal sid).isSome then s.finish c.seq (bad stAborted)
        else if sid < 64 ∧ (s.chan sid).state ≠ chOff then s.finish c.seq (s.abortedSum sid)
        else
          let s := { s with pda := { s.pda with cal := nset s.pda.cal sid (s.now + 200000, c.seq) } }
          s.setStage c.seq .effected
      | 1 => (s.setTerms sid { u with gain := c.p 4 4 }).complete c.seq stOk u.gain
      | 2 => (s.setTerms sid { u with ofs := signed 32 (c.p 4 4) }).complete c.seq stOk (unsignedOf 32 u.ofs)
      | _ =>
        let s := s.setTerms sid {}
        let s := { s with pda := { s.pda with trim := nerase s.pda.trim sid } }
        s.complete c.seq stOk 0

/-- An offset calibration ends: the measured offset joins the trim (R134). -/
def State.calDone (s : State) (sid : Nat) (ofs : Int) : State :=
  match nfind s.pda.cal sid with
  | none => s
  | some (t, seq) =>
    let s := s.until t
    let o := sat32 ofs
    let s := { s with pda := { s.pda with
      cal := nerase s.pda.cal sid, trim := nput 0 s.pda.trim sid (ngetD s.pda.trim sid 0 + o) } }
    s.complete seq stOk (unsignedOf 32 o)

/-! ### MEAS_STREAM_OPEN (R139, R140) -/

/-- The sum of NSRC / PERIOD of the open streams and one more, as a fraction. -/
def streamLoad (l : List (Nat × Nat)) : Nat × Nat := l.foldl (fun a e => (a.1 * e.2 + e.1 * a.2, a.2 * e.2)) (0, 1)

/-- The source IDs of a MEAS_STREAM_OPEN. -/
def streamSources (c : Cmd) : List Nat := (List.range (c.p 1 1 % 16 + 1)).map fun i => c.p (16 + 2 * i) 2

def specMeasStreamOpen : OpSpec where
  code := 0x0301
  own c := some (2, c.tgt)
  check s c :=
    let srcs := streamSources c
    let n := srcs.length
    let ring := decide (c.p 0 1 % 4 = 1)
    let order := c.p 0 1 / 16
    let per := c.p 2 2
    let foreign := srcs.any fun x => match srcChannel x with | some k => s.owner 0 k != c.fn | none => false
    let badField := decide (2 ≤ c.p 0 1 % 4) || decide (c.p 0 1 / 4 % 4 ≠ 0) || (if ring then decide (8 < order) else decide (order ≠ 0)) ||
      decide (128 ≤ c.p 1 1) || decide (per = 0 ∨ 10000 < per) ||
      (if ring then decide (c.p 8 8 % 64 ≠ 0) else bitOf (c.p 14 2) 12) ||
      (srcs.any fun x => !localSource x) || decide (92 < n * (c.p 1 1 / 16 % 8 + 1))
    let pre := orErr (firstErr [(s.notOwner c 2 c.tgt || foreign, bad stNotOwner), outOfRange c 64])
      (orErr (strayErr [(0, 16), (16, 2 * n)] c) (firstErr [(badField, bad stBadParam)]))
    let (s, e) := s.thenXlate c pre (!ring) (c.p 8 8) (16 * 2 ^ (order + 4)) true 8
    let (a, b) := streamLoad ((n, per) :: (nvals s.pda.streams).map fun x => (x.srcs.length, x.period))
    (s, orErr e (firstErr [(decide (64 * b < a), bad stInfeasible)]))
  outcome s c := if (nfind s.pda.streams c.tgt).isSome then some (bad stAborted) else none
  run s c :=
    let ring := decide (c.p 0 1 % 4 = 1)
    let per := c.p 2 2
    let st : Stream :=
      { fn := c.fn, ring := ring, order := c.p 0 1 / 16, batch := c.p 1 1 / 16 % 8 + 1, period := per, id := c.p 4 4,
        mac := beAt c.desc.params 8 6, tag := c.p 14 2, base := c.p 8 8, srcs := streamSources c,
        last := if s.atGrid then some s.tbu.grid else none }
    let s := { s with pda := { s.pda with streams := nset s.pda.streams c.tgt st } }
    let s := s.wr PDA_STREAMs_WIDX 0 c.tgt
    let s := s.wr PDA_STREAMs_STATUS (w32 (1 + 2 * b2n ring)) c.tgt
    s.complete c.seq stOk (gridNs (ceilDiv s.gridDue per * per))

/-! ### Diagnostics events (R48–R55, R97, R114, R117) -/

/-- The result of an off-state test: none normal, 0 open load, 1 short to supply (R48) (DEDUCED, log entry 32). -/
def State.offResult (s : State) (n : Nat) (r : Option Nat) : State :=
  match r with
  | none => s.modChan n fun c => { c with offRun := 0, offLast := none }
  | some k =>
    let s := s.modChan n fun c =>
      { c with offRun := if c.offLast = some k then min 8 (c.offRun + 1) else 1, offLast := some k,
               openTests := if k = 0 then satAdd 65535 c.openTests 1 else c.openTests }
    if s.get PDA_CHn_DIAG_OFF_COUNT n + 1 ≤ (s.chan n).offRun then
      s.setFault n (if k = 0 then fOpenOff else fShortSupply)
    else s

/-- An off-state test starts (R48–R51): `vout` and `vgrp` in µV, sampled with the pull-up disabled; the threshold lies 0.8 to
1.2 V below the group (R555). -/
def State.offTestStart (s : State) (n : Nat) (vout vgrp : Int) : State :=
  let c := s.chan n
  let due := c.offNext.getD 0
  let s := if s.prot then s.untilTd 0 due else s
  -- a test held back, and the first of a channel, start at a grid point (R50)
  let onTime := decide (s.td0 = due) && c.offNext.isSome
  if c.offBusy.isSome || !(s.offTestOk n) || decide (s.td0 < due) || !(onTime || s.atGrid) then s
  else
    let t := s.td0
    let iv := clampN 1 1000 (s.get PDA_CHn_DIAG_OFF_INTERVAL n) * 1000000
    let b2b := s.flag PDA_CHn_CTRL_B2B n
    let s := s.modChan n fun c => { c with offNext := some (t + iv) }
    let s := if b2b && !c.unavail then (s.modChan n fun c => { c with unavail := true }).setFault n fDiagUnavail else s
    let (e, s) := s.freeIn (-200000) 200000
    if !b2b && decide (vout > vgrp - (1000000 + e)) then s.offResult n (some 1)
    else s.modChan n fun c => { c with offBusy := some (t + (s.get PDA_CHn_DIAG_OFF_SETTLE n + 1) * 100000) }

/-- The pulled-up output is sampled after SETTLE (R48); the threshold lies between 1.9 and 2.1 V (R555). -/
def State.offTestSample (s : State) (n : Nat) (vout : Int) : State :=
  match (s.chan n).offBusy with
  | none => s
  | some t =>
    let s := s.untilTd 0 t
    if !(s.offTestOk n) then s.modChan n fun c => { c with offBusy := none }
    else if s.td0 < t then s
    else
      let s := s.modChan n fun c => { c with offBusy := none }
      let (e, s) := s.freeIn (-100000) 100000
      s.offResult n (if vout > 2000000 + e then some 0 else none)

/-- A TRIPPED channel whose delay has run out restarts (R113–R115), or waits for its latch or the charge pump. -/
def State.channelRestart (s : State) (n : Nat) : State :=
  let c := s.chan n
  if ¬ (s.atGrid ∧ c.state = chTripped ∧ c.restart ∧ c.delay = 0) then s
  else if c.thermal ∨ s.peLatched n ∨ (c.cause = fCpUv ∧ ¬ s.flag PDA_CP_STATUS_CP_OK) ∨ (c.req = 1 ∧ s.pumpDefers c) then s
  else
    let s := s.modChan n fun c =>
      { c with restart := false,
               left := if chargedCause c.cause then c.left - 1 else c.left,
               used := if chargedCause c.cause then min 15 (c.used + 1) else c.used }
    if c.req = 0 then s.turnOff n false
    else if c.req = 1 then s.turnOn n
    else
      let s := s.enterPwm n
      s.modChan n fun c => { c with clock := 0, b := 0 }

/-- REFILL of trip-free on-time has passed (R117). -/
def State.budgetRefill (s : State) (n : Nat) : State :=
  let c := s.chan n
  let p := s.prof n
  if s.profIdx n ≠ 0 ∧ (c.state = chOn ∨ c.state = chPwm) ∧ pU16 p 12 * 10000 ≤ c.refill then
    s.modChan n fun c => { c with left := pRetries p, used := 0, refill := 0 }
  else s

/-- The charge pump stays below 6 V for 50 µs (R35): every channel that is on turns off and records CP_UV. -/
def State.cpUv (s : State) : State :=
  let s := { s with pda := { s.pda with cpLow := true } }
  let s := ((s.setFlag PDA_CP_STATUS_UV_DEFER true).setFlag PDA_CP_STATUS_UV_OFF true).setFlag PDA_CP_STATUS_CP_OK false
  s.each allCh fun s n => if (s.chan n).driven then s.trip n [fCpUv] else s

/-- The next edge of a limp or park PWM (R69): an on-edge after the first is a PWM turn-on of R94, which the charge pump may
defer (R35); a period of limp takes the duty that the field die's copy then holds (DESIGN CHOICE, log entry 105). -/
def State.limpEdge (s : State) (n : Nat) : State :=
  let c := s.chan n
  match c.edge with
  | none => s
  | some (t, on) =>
    let s := s.until t
    let limpDuty := bitsOf c.copy.limp.toNat 23 16
    let duty := if on ∧ c.state = chLimp ∧ limpDuty ≠ 0 then limpDuty else c.edgeDuty
    let onFor := 5000000 * duty / 256
    if on ∧ s.pda.cpLow ∧ c.driven = false then
      s.modChan n fun c => { c with edge := some (t + onFor, false), edgeDuty := duty, pumpWait := true }
    else if on then
      let p := s.prof n
      let off := match c.edgeOff with | some u => s.now - u | none => 0
      let s := s.modChan n Ch.charge
      let s := if s.prot && pPwmRearm p && decide (pU16 p 14 * 1000000 ≤ off) then s.clockRestart n else s
      s.modChan n fun c => { c with edge := some (t + onFor, false), edgeDuty := duty, pumpWait := false }
    else
      s.modChan n fun c => { (c.discharge false) with edge := some (t + (5000000 - onFor), true), edgeOff := some s.now }

/-- One limp I²t update of a channel with the coarse estimate `i`, Q16.16 A (R71); true where it trips. -/
def limpI2t (c : Ch) (i : Int) : Ch × Bool :=
  let inom : Int := (c.copy.i2t.toNat % 65536 : Nat) * 65536
  let lim := c.copy.i2t.toNat / 65536
  -- in units of (0.1 A × 2⁻¹⁶)² × 100 µs
  let a := ((c.limpA : Int) + (10 * i) * (10 * i) - inom * inom).toNat
  ({ c with limpA := a }, decide (lim ≠ 0 ∧ lim * 100 * 4294967296 * 10000 ≤ a))

end Sys2Proof.Machine
end

