-- ==== Sys2Proof/Machine/Tbu.lean ====
section
/-! DEFINITION. Time domains (chapter 09): states, SET and step, increments, stamps and their queue, TIME_READ. -/

namespace Sys2Proof.Machine

/-- A bit of a TBU event field is set. -/
def State.tbuEvt (s : State) (f : Fld) (d : Nat) : State := s.setBitOf f d

/-- A domain's seconds, nanoseconds and fraction (R308). -/
def Td.sec (t : Td) : Nat := t.val / fracOne / 1000000000
def Td.nsec (t : Td) : Nat := t.val / fracOne % 1000000000
def Td.frac (t : Td) : Nat := t.val % fracOne

/-- The number of a domain state (R311). -/
def tdCode : TdState → Nat
  | .unset => 0
  | .free => 1
  | .locked => 2
  | .holdover => 3

/-- REFRESH_T and HOLD_T of a domain in ns (R313, R330). -/
def State.refreshT (s : State) (d : Nat) : Nat := max 1 (s.get TBU_TDd_CFG_REFRESH_T d) * 10000000
def State.holdT (s : State) (d : Nat) : Nat := min 60000 (s.get TBU_TDd_HOLD_HOLD_T d) * 1000000

/-- A refresh of a domain (R313): HOLDOVER returns to LOCKED. -/
def State.refresh (s : State) (d : Nat) : State :=
  let t := s.td d
  s.setTd d { t with refresh := s.now, st := if t.st = .holdover then .locked else t.st }

/-- A write of the time registers (R315): a SET of `sec`, `ns`, `frac` is requested, or refused. -/
def State.tdSet (s : State) (d sec ns frac : Nat) : State :=
  let t := s.td d
  if s.synced d ∨ 999999999 < ns then (s.tbuEvt TBU_EVT_SET_REFUSED d).report (0x1D0 + d)
  else s.setTd d { t with pendSet := some (sec, ns, frac), pendStep := none, reqAt := s.now }

/-- A step is refused by its size while synchronised, or because it makes the time negative (R316) (DEDUCED, log entry 64). -/
def State.stepBad (s : State) (d : Nat) (delta : Int) : Bool :=
  let t := s.td d
  (s.synced d && decide ((min 1000000 (s.get TBU_TDd_CFG_STEP_MAX d) : Nat) < delta.natAbs)) ||
    decide ((t.ns : Int) + delta < 0)

/-- A step request (R316). After a pending SET the checks are left to the point at which both are applied
(DEDUCED, log entry 64). -/
def State.tdStep (s : State) (d : Nat) (delta : Int) : State :=
  let t := s.td d
  if t.pendSet.isNone && s.stepBad d delta then (s.tbuEvt TBU_EVT_STEP_REFUSED d).report (0x1D0 + d)
  else s.setTd d { t with pendStep := some delta, reqAt := if t.pendSet.isSome then t.reqAt else s.now }

/-- A PWM sequence across a step of TD0 from `old` to `new` ns at real time `now` (R319): a period in progress keeps its
length, and the next one follows the sequence in the stepped time. -/
def Ch.stepped (c : Ch) (old new now : Nat) : Ch :=
  { c with pwm := c.pwm.map fun w =>
      if w.begun then { w with start := w.start + ((new : Int) - old) }
      else if c.state = chHeld ∧ w.period ≠ 0 then
        let t := new + (w.phase + w.period - new % w.period) % w.period
        { w with start := t, startAt := now + (t - new) }
      else { w with from_ := new } }

/-- The PDA at a step of TD0 from `old` to `new` ns (R131, R319): the next two samples of every source, and the PWM
sequences. -/
def State.pdaStepped (s : State) (old new : Nat) : State :=
  let sids := (List.range 64).map (sidOf 0) ++ (List.range 64).map (sidOf 1) ++ (List.range 8).map (sidOf 2) ++
    (List.range 12).map (sidOf 3) ++ (List.range 7).map (sidOf 4)
  { s with pda := { s.pda with step := sids.map fun x => (x, 2), ch := nmap (fun _ (c : Ch) => c.stepped old new s.now) s.pda.ch } }

/-- A write of INC_NS applies INC (R309), which is a refresh (R313), or is ignored (DEDUCED, log entry 64). -/
def State.tdInc (s : State) (d inc : Nat) : State :=
  if 1998 * fracOne ≤ inc * 1000 ∧ inc * 1000 ≤ 2002 * fracOne then
    (s.setTd d { s.td d with inc := inc }).refresh d
  else s.tbuEvt TBU_EVT_INC_REFUSED d

/-- A write of `TBU_TDd_CTRL` (R313, R314). -/
def State.tdCtrl (s : State) (d v : Nat) : State :=
  let lock := bitOf v 0
  let unlock := bitOf v 1
  if lock && unlock then s
  else
    let t := s.td d
    let s := if lock && t.st = .free then s.setTd d { t with st := .locked, refresh := s.now } else s
    let s := if unlock && (t.st = .locked || t.st = .holdover) then s.setTd d { s.td d with st := .free } else s
    if bitOf v 2 then s.refresh d else s

/-- HOLDOVER lapses: FREE, with its event and FCU report (R313). -/
def State.goFree (s : State) (d : Nat) : State :=
  let s := s.setTd d { s.td d with st := .free }
  (s.tbuEvt TBU_EVT_FREE d).report (0x1D4 + d)

/-- No refresh for REFRESH_T (R313). The lapse acts one tick after its instant, so that a refresh on that tick prevails
(R314) (DESIGN CHOICE, log entry 114). -/
def State.holdoverEntry (s : State) (d : Nat) : State :=
  let t := s.td d
  if t.st ≠ .locked ∨ ¬ s.coreRuns then s
  else
    let at_ := max s.now (t.refresh + s.refreshT d)
    let s := s.until (at_ + 2)
    let s := s.setTd d { s.td d with st := .holdover, holdAt := at_ }
    let s := s.tbuEvt TBU_EVT_HOLDOVER d
    if s.holdT d = 0 then s.goFree d else s

/-- HOLDOVER has lasted HOLD_T (R313); a refresh on that tick prevails (R314) (DESIGN CHOICE, log entry
114). -/
def State.holdoverExpiry (s : State) (d : Nat) : State :=
  let t := s.td d
  if t.st ≠ .holdover ∨ ¬ s.coreRuns then s else (s.until (t.holdAt + s.holdT d + 2)).goFree d

/-- CAPTURE copies all four domains at one tick (R330). -/
def State.snapCapture (s : State) : State :=
  s.each (List.range 4) fun s d =>
    let t := s.td d
    let s := s.wr TBU_SNAPd_FRAC (w32 t.frac) d
    let s := s.wr TBU_SNAPd_NS (w32 t.nsec) d
    let s := s.wr TBU_SNAPd_SEC_LO (w32 (t.sec % 4294967296)) d
    s.wr TBU_SNAPd_SEC_HI (w32 (t.sec / 4294967296 % 65536)) d

/-! ### Stamps (R321–R324) -/

/-- A 16-bit signed latency of port `p` in quarter nanoseconds (R321) (DEDUCED, log entry 65). -/
def State.portLat (s : State) (p : Nat) (tx : Bool) : Int :=
  signed 16 (if tx then s.get TBU_PORTp_LAT_TX_LAT p else s.get TBU_PORTp_LAT_RX_LAT p)

/-- The stamps of all four domains, quarter ns, for an instant `q` quarter nanoseconds into the present tick, compensated
for the board; within the accuracy of R322 that the manual gives the port, from the exact instant. -/
def State.stamps (s : State) (p q : Nat) (tx : Bool) : List Nat × State :=
  let tol : Int := if p < 2 then 4 else if p < 6 then 8 else 60
  let (e, s) := s.freeIn (-tol) tol
  let lat := s.portLat p tx
  ((List.range 4).map fun d =>
    let t := s.td d
    -- eighths of 2⁻³² ns
    let x := 8 * t.val + min q 7 * t.inc
    let raw : Int := (x / 8589934592 : Nat)
    let low := if x % 8589934592 = 0 then -tol else 1 - tol
    (raw + max e low + (if tx then lat else -lat)).toNat, s)

/-- TD0 time in ns of a set of stamps (DEDUCED, log entry 65). -/
def stampTd0 (l : List Nat) : Nat := l.headD 0 / 4

/-- A frame whose EtherType enters the stamp queue places its entry (R323). `body` starts at the EtherType
(DEDUCED, log entry 65). -/
def State.stampFrame (s : State) (p : Nat) (tx : Bool) (body : List Byte) (st : List Nat) : State :=
  if p < 10 ∧ bitOf (s.get TBU_TS_EN_EN) p ∧ beAt body 0 2 = s.get TBU_TS_ETYPE_ETYPE then
    if s.tbu.tsq.length ≥ 256 then (s.inc TBU_TSQ_STATUS_OVF).setFlag TBU_EVT_TSQ_OVF true
    else
      let h := body.drop 2
      let info := byteAt h 4 * 256 + byteAt h 0 % 16 * 65536 + p * 1048576 + b2n tx * 16777216 + 2147483648
      { s with tbu := { s.tbu with tsq := s.tbu.tsq ++ [{ info := info, seq := beAt h 30 2, stamps := st }] } }
  else s

/-- The 20 words of the stamp queue window for an entry: INFO, SEQ, and the stamps (R324, R330). -/
def tsqWords (e : TsqEntry) : List Word :=
  [w32 e.info, w32 e.seq, 0, 0] ++ e.stamps.flatMap fun q =>
    let ns := q / 4
    [w32 (q % 4 + ns % 1000000000 * 4), w32 (ns / 1000000000 % 4294967296),
     w32 (ns / 1000000000 / 4294967296 % 65536), 0]

/-! ### TIME_READ (R328) -/

/-- The 64-byte record of all four domains. -/
def State.timeRecord (s : State) : List Byte :=
  (List.range 4).flatMap fun d =>
    let t := s.td d
    leBytes 4 t.frac ++ leBytes 4 t.nsec ++ leBytes 6 t.sec ++ leBytes 1 (tdCode t.st) ++ leBytes 1 0

def specTimeRead : OpSpec where
  code := 0x0901
  check s c :=
    let pre := orErr (firstErr [(decide (4 ≤ c.tgt), bad stBadParam)]) (strayErr [(0, 8)] c)
    s.thenXlate c pre (c.p 0 8 == 0) (c.p 0 8) 64 true 0
  run s c :=
    let t := (s.td c.tgt).ns
    let a := c.p 0 8
    let (e, s) := if a = 0 then (none, s) else s.writeRecord c a s.timeRecord
    match e with
    | some r => s.finish c.seq r
    | none => s.complete c.seq stOk t

end Sys2Proof.Machine
end

