-- ==== Sys2Proof/Machine/EswGate.lean ====
section
/-! DEFINITION. Schedules of the Ethernet switch (R288–R291, R294, R320): gate control lists, stream gates, and what a
step of their domain does to them. -/

namespace Sys2Proof.Machine

/-! ### Configuration records and counters (R305, R306) -/

/-- The data of a record of the ESW section; zeros where there is none (DEDUCED, log entry 66). -/
def State.eswRec (s : State) (rtype idx : Nat) : List Byte := (s.cfgData 0x0101 rtype idx).getD []

/-- A 64-bit port counter counts `n` more (R305). -/
def State.cnt (s : State) (p c : Nat) (n : Nat := 1) : State :=
  let v := (s.rd ESW_PORTp_CNTc_LO p c).toNat + (s.rd ESW_PORTp_CNTc_HI p c).toNat * 4294967296 + n
  let s := if c = 2 then s.count (428 + p) n else s
  (s.wr ESW_PORTp_CNTc_LO (w32 v) p c).wr ESW_PORTp_CNTc_HI (w32 (v / 4294967296)) p c

/-- Port `p` of the switch beyond its registers. -/
def State.port (s : State) (p : Nat) : Port := ngetD s.esw.ports p {}

/-- The state with a port changed. -/
def State.modPort (s : State) (p : Nat) (f : Port → Port) : State :=
  { s with esw := { s.esw with ports := nput {} s.esw.ports p (f (s.port p)) } }

/-- The rate of a port in kb/s (R278). -/
def State.portRate (s : State) (p : Nat) : Nat :=
  if p < 2 then (match byteAt (s.eswRec 1 p) 0 with | 0 => 10000000 | 1 => 5000000 | _ => 2500000)
  else if p < 6 then 1000000
  else if p < 10 then 10000
  else 20000000

/-- The time of `n` octets on the medium of port `p`, ns, rounded up. -/
def State.octetTime (s : State) (p n : Nat) : Nat := ceilDiv (n * 8000000) (s.portRate p)

/-! ### Gate control lists (R288–R291) -/

/-- Entries of a list with its cycle: the list is cut at the cycle, or its last entry lasts to the cycle's end (R288)
(DEDUCED, log entry 70). -/
def cycleEntries : Nat → List (Nat × Nat) → List (Nat × Nat)
  | _, [] => []
  | left, [(g, _)] => if left = 0 then [] else [(g, left)]
  | left, (g, d) :: l => if left = 0 then [] else (g, min d left) :: cycleEntries (left - d) l

/-- The `n` entries of a GCL or SGATE record's data. -/
def rawEntries (raw : List Byte) (n : Nat) : List (Nat × Nat) :=
  (List.range n).map fun i => (byteAt raw (16 + 8 * i), leAt raw (20 + 8 * i) 4)

/-- The start of a cycle at or after time `t` (R288, R320): cycles start at `base + n * len` for every integer `n`, before
`base` as well. -/
def cycleFrom (base len t : Nat) : Nat := base % len + ceilDiv (t - base % len) len * len

/-- The number of the cycle that `t` lies in, modulo `m`, and the time since its start. -/
def cycleNo (base len t m : Nat) : Nat := (((t : Int) - base) / len % m).toNat
def cycleOfs (base len t : Nat) : Nat := (((t : Int) - base) % len).toNat

/-- A list that has not started, from a GCL record's data, to start at or after domain time `t`; none for an empty one
(DEDUCED, log entry 70). -/
def gateRun (raw : List Byte) (t : Nat) : Option GateRun :=
  let len := leAt raw 8 4
  let l := cycleEntries len (rawEntries raw (leAt raw 12 2))
  if l.isEmpty then none
  else
    let base := leAt raw 0 8
    some { base := base, len := len, ext := leAt raw 14 2 * 1000, list := l, cycle := cycleFrom base len t,
           till := cycleFrom base len t }

/-- The domain of a port's list. -/
def State.tasTd (s : State) (p : Nat) : Nat := byteAt (s.eswRec 1 p) 6 % 4

/-- A GCL record of port `p` comes into force, or goes (R290). -/
def State.loadGcl (s : State) (p : Nat) : State :=
  match s.cfgData 0x0101 5 p with
  | none => s.modPort p fun x => { x with run := none, next := none, gates := 255 }
  | some raw => s.modPort p fun x => { x with next := gateRun raw (s.td (s.tasTd p)).ns }

/-- The entry of a list that holds `o` ns into its cycle, and the time from the cycle's start to the entry's end. -/
def entryIn : List (Nat × Nat) → Nat → Nat × Nat
  | [], _ => (0, 0)
  | [(_, d)], _ => (0, d)
  | (_, d) :: l, o => if o < d then (0, d) else let (i, e) := entryIn l (o - d); (i + 1, e + d)

/-- A class's credit up to now (R292): `open_` says whether its gate has been open. -/
def creditNow (idle : Nat) (waiting open_ : Bool) (now : Nat) (c : Int × Nat) : Int × Nat :=
  if now ≤ c.2 then c
  else if !open_ then (c.1, now)
  else
    let v := c.1 + (idle * (now - c.2) : Nat)
    ((if waiting then v else if c.1 < 0 then min 0 v else 0), now)

/-- IDLE_SLOPE of a class, kb/s (R292). -/
def State.idleSlope (s : State) (p k : Nat) : Nat := leAt (s.eswRec 6 (8 * p + k)) 0 4

/-- All credits of a port counted up to now with the gates as they are. -/
def State.creditTo (s : State) (p : Nat) : State :=
  let x := s.port p
  let l := ((List.range 8).filter fun k => s.idleSlope p k != 0).map fun k =>
    (k, creditNow (s.idleSlope p k) (!(ngetD x.queues k []).isEmpty) (bitOf x.gates k) s.now (ngetD x.credit k (0, s.now)))
  s.modPort p fun x => { x with credit := l }

/-- Entry `i` of the list is in force from domain time `t`. -/
def State.gateEntry (s : State) (p : Nat) (r : GateRun) (i t : Nat) : State :=
  let s := s.creditTo p
  let e := r.list.getD i (255, r.len)
  s.modPort p fun x => { x with gates := e.1, run := some { r with idx := i, till := t + e.2, hold := false } }

/-- The domain of port `p` has changed (R306): its list runs in the new domain from now on, where that domain's cycle stands, and
a list that has not started yet starts at a cycle of that domain (DEDUCED, log entry 70). -/
def State.gateMoved (s : State) (p : Nat) : State :=
  let s := s.creditTo p
  let t := (s.td (s.tasTd p)).ns
  s.modPort p fun x =>
    let next := x.next.map fun n => { n with till := cycleFrom n.base n.len t }
    match x.run with
    | none => { x with next := next }
    | some r =>
      let o := cycleOfs r.base r.len t
      let (i, e) := entryIn r.list o
      { x with next := next, gates := (r.list.getD i (255, r.len)).1
               run := some { r with cycle := t - o, idx := i, till := t + (e - o), hold := false } }

/-- A gate control list interval ends (R288, R290, R291). -/
def State.gateExpiry (s : State) (p : Nat) : State :=
  let x := s.port p
  match x.run with
  | none => s
  | some r =>
    let d := s.tasTd p
    let sw := match x.next with | some n => decide (n.till ≤ r.till) | none => false
    if sw || !s.coreRuns then s
    else
      let s := s.untilTd d r.till
      if (s.td d).ns < r.till then s
      else if r.hold then
        (s.gateEntry p { r with cycle := r.till } 0 r.till).cnt p 19
      else if r.idx + 1 < r.list.length then s.gateEntry p r (r.idx + 1) r.till
      else match x.next with
        | some n =>
          if n.till < r.till + r.ext then s.modPort p fun x => { x with run := some { r with till := n.till } }
          else s.gateEntry p { r with cycle := r.till } 0 r.till
        | none => s.gateEntry p { r with cycle := r.till } 0 r.till

/-- A new list takes effect at its first cycle start (R290) (DEDUCED, log entry 70). -/
def State.gateSwitch (s : State) (p : Nat) : State :=
  match (s.port p).next with
  | none => s
  | some n =>
    let d := s.tasTd p
    if ¬ s.coreRuns then s
    else
      let s := s.untilTd d n.till
      if (s.td d).ns < n.till then s
      else (s.modPort p fun x => { x with next := none }).gateEntry p { n with cycle := n.till } 0 n.till

/-- The domain time at which the gate of class `k` closes next, from an entry on; none if it stays open. -/
def closesAt (k : Nat) : List (Nat × Nat) → Nat → Option Nat
  | [], _ => none
  | (g, d) :: l, t => if bitOf g k then closesAt k l (t + d) else some t

/-- When the gate of class `k` of port `p` closes, in its domain's time (R289). -/
def State.gateCloses (s : State) (p k : Nat) : Option Nat :=
  let x := s.port p
  match x.run with
  | none => (match x.next with | some n => (closesAt k (n.list ++ n.list) n.till) | none => none)
  | some r =>
    -- after a step of the domain the list goes on with entry 0 (R291)
    let c := closesAt k ((if r.hold then r.list else r.list.drop (r.idx + 1)) ++ r.list) r.till
    match x.next with
    | none => c
    | some n =>
      match c with
      | some t => if t < n.till then some t else closesAt k (n.list ++ n.list) n.till
      | none => closesAt k (n.list ++ n.list) n.till

/-- The longest time that a class's gate stays open in a list of entries, `run` so far and `best`. -/
def longestOpen (k : Nat) : List (Nat × Nat) → Nat → Nat → Nat
  | [], run, best => max run best
  | (g, d) :: l, run, best => if bitOf g k then longestOpen k l (run + d) best else longestOpen k l 0 (max run best)

/-- The longest open interval of class `k` in the list of port `p`; none where its gate never closes. -/
def State.openMax (s : State) (p k : Nat) : Option Nat :=
  match (s.port p).run with
  | none => none
  | some r => if r.list.all fun e => bitOf e.1 k then none else some (longestOpen k (r.list ++ r.list) 0 0)

/-- A port whose list runs in a domain that was stepped keeps its gates until the first cycle start that follows the
stepped time (R291); a new list's first start is formed anew (DEDUCED, log entry 70). -/
def State.gateStepped (s : State) (d p : Nat) : State :=
  if s.tasTd p ≠ d then s
  else
    let t := (s.td d).ns
    s.modPort p fun x =>
      { x with run := x.run.map fun r => { r with hold := true, till := cycleFrom r.base r.len (t + 1) },
               next := x.next.map fun n => { n with till := cycleFrom n.base n.len t } }

/-! ### Stream gates (R294, R320) -/

/-- Whether a stream gate's schedule is open at domain time `t`. -/
def sgateSched (raw : List Byte) (t : Nat) : Bool :=
  let base := leAt raw 0 8
  let len := leAt raw 8 4
  let l := cycleEntries len (rawEntries raw (byteAt raw 12))
  if l.isEmpty then true
  else
    let rec go : List (Nat × Nat) → Nat → Bool
      | [], _ => true
      | (g, d) :: l, o => if o < d then bitOf g 0 else go l (o - d)
    go l (cycleOfs base len t)

/-- Stream gate `g` is open now: a gate held over a step keeps its state until the first cycle start that follows. -/
def State.sgateOpen (s : State) (g : Nat) : Bool :=
  match s.cfgData 0x0101 8 g with
  | none => true
  | some raw =>
    let t := (s.td (byteAt raw 14 % 4)).ns
    match nfind s.esw.held g with
    | some (open_, till) => if t < till then open_ else sgateSched raw t
    | none => sgateSched raw t

/-- The stream gates of a domain that is stepped from `old` ns keep their state (R320). -/
def State.sgatesStepped (s : State) (d old : Nat) : State :=
  s.each (s.cfgAll 0x0101 8) fun s (g, raw) =>
    if byteAt raw 14 % 4 ≠ d then s
    else
      let held := match nfind s.esw.held g with
        | some (open_, till) => if old < till then open_ else sgateSched raw old
        | none => sgateSched raw old
      let till := cycleFrom (leAt raw 0 8) (leAt raw 8 4) ((s.td d).ns + 1)
      { s with esw := { s.esw with held := nset s.esw.held g (held, till) } }

/-- The switch's schedules at a step of domain `d` from `old` ns. -/
def State.eswStepped (s : State) (d old : Nat) : State :=
  (s.each (List.range 10) fun s p => s.gateStepped d p).sgatesStepped d old

end Sys2Proof.Machine
end

