-- ==== Sys2Proof/Machine/Esw.lean ====
section
/-! DEFINITION. The Ethernet switch (chapter 08): ingress, filtering, forwarding, guest queues, port M, transmission. -/

namespace Sys2Proof.Machine

/-! ### Ports and links (R278–R281) -/

/-- Ports of the switch that serve units inside the device. -/
def portH : Nat := 10
def portM : Nat := 11

/-- The link of a port is up; H and M always are. -/
def State.linkUp (s : State) (p : Nat) : Bool := decide (10 ≤ p) || s.flag ESW_PORTp_LINK_UP p

/-- The switch works: powered and its pen running (R478, R499). -/
def State.eswUp (s : State) : Bool := s.coreRuns && s.powered 27 && s.penRuns 18

/-- The port's PHY works. -/
def State.phyUp (s : State) (p : Nat) : Bool := s.powered (28 + p) && s.penRuns (19 + p)

/-- MAX_FRAME of a port (R306). -/
def State.maxFrame (s : State) (p : Nat) : Nat :=
  let m := leAt (s.eswRec 1 p) 4 2
  if m = 0 then 1522 else m

/-- The port is disabled by its record. -/
def State.portOff (s : State) (p : Nat) : Bool := bitOf (byteAt (s.eswRec 1 p) 1) 1

/-- PLCA is enabled on the port (R280). -/
def State.plcaOn (s : State) (p : Nat) : Bool := decide (6 ≤ p ∧ p < 10) && bitOf (byteAt (s.eswRec 2 p) 0) 0

/-- The port's PLCA node ID. -/
def State.plcaNode (s : State) (p : Nat) : Nat := byteAt (s.eswRec 2 p) 1

/-! ### Guest queues: registers and descriptors (R299–R304) -/

/-- An Ethernet queue beyond its registers. -/
def State.ethq (s : State) (q : Nat) : EthQ := ngetD s.esw.queues q {}

/-- The state with a queue changed. -/
def State.modEthq (s : State) (q : Nat) (f : EthQ → EthQ) : State :=
  { s with esw := { s.esw with queues := nput {} s.esw.queues q (f (s.ethq q)) } }

/-- The owner of an Ethernet queue: resources of kind 12 (R244). -/
def State.qOwner (s : State) (q : Nat) : Nat := s.owner 12 q

/-- Depths of the rings. -/
def State.txDepth (s : State) (q : Nat) : Nat := 16 * 2 ^ min 8 (s.get ESW_Qq_CFG_TX_ORDER 0 q)
def State.rxDepth (s : State) (q : Nat) : Nat := 16 * 2 ^ min 8 (s.get ESW_Qq_CFG_RX_ORDER 0 q)

/-- The function address of a transmit or receive descriptor (R299). -/
def State.txDesc (s : State) (q i : Nat) : Nat := (s.rd ESW_Qq_BASE 0 q).toNat * 4096 + 16 * i
def State.rxDesc (s : State) (q i : Nat) : Nat := (s.rd ESW_Qq_BASE 0 q).toNat * 4096 + 16 * s.txDepth q + 16 * i

/-- The queue works: enabled, without error, its owner not DISABLED. -/
def State.qRuns (s : State) (q : Nat) : Bool :=
  s.flag ESW_Qq_CFG_EN 0 q && s.get ESW_Qq_CFG_ERR 0 q == 0 && s.fnState (s.qOwner q) != 0

/-- MAC, VID and PCP of the queue's record. -/
def State.qMac (s : State) (q : Nat) : Nat := beAt (s.eswRec 11 q) 0 6
def State.qVid (s : State) (q : Nat) : Nat := leAt (s.eswRec 11 q) 6 2 % 4096
def State.qPcp (s : State) (q : Nat) : Nat := leAt (s.eswRec 11 q) 6 2 / 8192

/-- A translation failure on a ring or buffer stops the queue (R304) (DEDUCED, log entry 68). -/
def State.qStop (s : State) (q : Nat) : State :=
  ((s.set ESW_Qq_CFG_ERR 2 0 q).setFlag ESW_Qq_CFG_EN false 0 q).setFlag ESW_EVT_QERR true

/-- A write-back has been made: the queue's interrupt is due at the next grid point (R303). -/
def State.qWroteBack (s : State) (q : Nat) : State :=
  if s.get ESW_Qq_CFG_IDENTITY 0 q = 0 then s else s.modEthq q fun x => { x with irq := some (x.irq.getD s.now) }

/-- A transmit descriptor is written back with a status and a stamp (R300) (DEDUCED, log entry 68). -/
def State.txWriteBack (s : State) (q addr : Nat) (d : List Byte) (status stamp : Nat) : State :=
  let b := d.take 10 ++ [BitVec.ofNat 8 (byteAt d 10 / 2 * 2), BitVec.ofNat 8 status] ++ leBytes 4 stamp
  let s := if status = 0 then s else s.cnt portH 15
  match s.fnWrite (s.qOwner q) addr b with
  | (.ok _, s) => s.qWroteBack q
  | (.error _, s) => s.qStop q

/-- Some port stores the frame of a transmit descriptor. -/
def State.txStored (s : State) (wb : Option (Nat × Nat)) : Bool :=
  wb.isSome && (nvals s.esw.ports).any fun x => (nvals x.queues).any fun l => l.any fun f => f.wb == wb

/-- A copy of the frame of a transmit descriptor has left the ports, sent or dropped: once none of them stores another, the
descriptor is written back, with the first instant of sending if it asks for a stamp (R300, R323)
(DEDUCED, log entry 68). -/
def State.txRelease (s : State) (wb : Option (Nat × Nat)) (status : Nat) (stamp : Option Nat) : State :=
  match wb with
  | none => s
  | some (q, k) =>
    match (s.ethq q).wait.find? fun e => e.id == k with
    | none => s
    | some e =>
      let sent := if e.sent.isSome then e.sent else stamp
      if s.txStored wb then
        s.modEthq q fun x => { x with wait := x.wait.map fun y => if y.id == k then { y with sent := sent } else y }
      else
        (s.modEthq q fun x => { x with wait := x.wait.filter fun y => y.id != k }).txWriteBack q e.addr e.desc
          (if sent.isSome then 0 else status) (if bitOf (byteAt e.desc 10) 1 then sent.getD 0 else 0)

/-! ### Ingress: VLAN and MACsec (R282–R284, R287) -/

/-- A received frame read into its parts: addresses, tag control information if tagged, and the rest from the
EtherType on. -/
structure Parsed where
  dst  : Nat
  src  : Nat
  tci  : Option Nat
  body : List Byte
  deriving DecidableEq, Repr

/-- Reading a frame's bytes, without FCS. -/
def parseFrame (b : List Byte) : Parsed :=
  let tagged := decide (beAt b 12 2 = 0x8100)
  { dst := beAt b 0 6, src := beAt b 6 6, tci := if tagged then some (beAt b 14 2) else none,
    body := b.drop (if tagged then 16 else 12) }

/-- The frame's VLAN, PCP and DEI on a port (R284); a priority tag gives no VLAN. -/
def State.classify (s : State) (p : Nat) (f : Parsed) : Nat × Nat × Bool :=
  let port := leAt (s.eswRec 1 p) 2 2
  match f.tci with
  | none => (port % 4096, port / 8192, false)
  | some t => (if t % 4096 = 0 then port % 4096 else t % 4096, t / 8192, bitOf t 12)

/-- Member and untagged ports of a VLAN. -/
def State.vlanMembers (s : State) (vid : Nat) : Nat := leAt (s.eswRec 3 vid) 0 2
def State.vlanUntagged (s : State) (vid : Nat) : Nat := leAt (s.eswRec 3 vid) 2 2

/-- The frame violates R284 at ingress: its VLAN does not include the port, or its tagging is not admitted
(DEDUCED, log entry 66). -/
def State.vlanBad (s : State) (p vid : Nat) (f : Parsed) : Bool :=
  let ft := byteAt (s.eswRec 1 p) 1 / 4 % 4
  let tagged := match f.tci with | some t => t % 4096 != 0 | none => false
  !(bitOf (s.vlanMembers vid) p) || (ft == 1 && !tagged) || (ft == 2 && tagged)

/-- The SecY of an uplink is enabled; its exempt EtherTypes (R282, R306). -/
def State.secyOn (s : State) (p : Nat) : Bool := decide (p < 2) && bitOf (byteAt (s.eswRec 13 p) 0) 0
def State.exempt (s : State) (p etype : Nat) : Bool :=
  etype != 0 && ((List.range 4).any fun i => leAt (s.eswRec 13 p) (16 + 2 * i) 2 == etype)

/-- The packet number of a received frame from its 32 low bits and the lowest acceptable number (IEEE 802.1AE-2018 XPN)
(PRESUMED, log entry 69). -/
def xpnOf (low next : Nat) : Nat :=
  let hi := next / 4294967296
  let hi := if 2147483648 ≤ next % 4294967296 ∧ low < 2147483648 then hi + 1 else hi
  hi * 4294967296 + low

/-- Validation of a protected frame on an uplink (R282): the frame's bytes in clear, or nothing where it fails
(PRESUMED, log entry 69). -/
def State.macsecIn (s : State) (p : Nat) (b : List Byte) : Option (List Byte) × State :=
  let tci := byteAt b 14
  let hasSci := bitOf tci 5
  let sci := if hasSci then beAt b 20 8 else beAt b 6 6 * 65536 + 1
  let h := if hasSci then 28 else 20
  let an := tci % 4
  match s.esw.sas.find? fun a => a.port == p && !a.tx && a.sci == sci && a.an == an with
  | none => (none, s)
  | some a =>
    let pn := xpnOf (beAt b 16 4) a.pn
    let rec13 := s.eswRec 13 p
    let low := a.pn - leAt rec13 4 4
    if bitOf (byteAt rec13 0) 1 && decide (pn < low) then (none, s)
    else match Config.macsecOpen a.key sci pn (b.take h) (b.drop h) with
      | none => (none, s)
      | some user =>
        let s := { s with esw := { s.esw with sas := s.esw.sas.map fun x => if x = a then { x with pn := max x.pn (pn + 1) } else x } }
        (some (b.take 12 ++ user), s)

/-! ### Streams, filters, meters, recovery (R293–R295) -/

/-- The stream handle of a frame: the lowest that matches (R293). -/
def State.streamOf (s : State) (dst src vid : Nat) : Option (Nat × List Byte) :=
  let l := s.cfgAll 0x0101 10
  let hit := fun (e : Nat × List Byte) =>
    leAt e.2 8 2 % 4096 == vid && ((byteAt e.2 0 == 1 && beAt e.2 2 6 == dst) || (byteAt e.2 0 == 2 && beAt e.2 2 6 == src))
  match (l.filter hit).map Prod.fst with
  | [] => none
  | k :: ks => let h := ks.foldl min k; (l.find? fun e => e.1 == h)

/-- The first filter that matches, in ascending index (R294). -/
def State.filterOf (s : State) (handle : Option Nat) (dst vid pcp : Nat) : Option (Nat × List Byte) :=
  (List.range 256).findSome? fun i =>
    match s.cfgData 0x0101 7 i with
    | none => none
    | some r =>
      let m := byteAt r 0
      let hit := (m == 0 || (m == 1 && handle == some (leAt r 2 2)) ||
        (m == 2 && beAt r 4 6 == dst && leAt r 2 2 % 4096 == vid)) && (bitOf (byteAt r 1) 3 || byteAt r 1 % 8 == pcp)
      if hit then some (i, r) else none

/-- A frame of `n` octets at flow meter `k` (R294, IEEE 802.1Q-2022): whether it is dropped, whether it leaves yellow. -/
def State.meterFrame (s : State) (k n : Nat) (dei : Bool) : Bool × Bool × State :=
  match s.cfgData 0x0101 9 k with
  | none => (false, dei, s)
  | some r =>
    let cbs : Int := (leAt r 4 4 * 8000000 : Nat)
    let ebs : Int := (leAt r 12 4 * 8000000 : Nat)
    let m := ngetD s.esw.meters k { c := cbs, e := ebs, at_ := s.now }
    let fl := byteAt r 16
    let dt := s.now - m.at_
    let c := m.c + (leAt r 0 4 * dt : Nat)
    let e := m.e + (leAt r 8 4 * dt : Nat) + (if bitOf fl 0 then max 0 (c - cbs) else 0)
    let c := min cbs c
    let e := min ebs e
    let need : Int := (n * 8000000 : Nat)
    let put := fun (s : State) (m : Meter) => { s with esw := { s.esw with meters := nset s.esw.meters k m } }
    let red := fun (s : State) => put s { c := c, e := e, at_ := s.now, red := m.red || bitOf fl 3 }
    if m.red then (true, dei, red s)
    else if !(bitOf fl 1 && dei) && decide (need ≤ c) then (false, dei, put s { c := c - need, e := e, at_ := s.now })
    else if need ≤ e then
      if bitOf fl 2 then (true, true, put s { c := c, e := e - need, at_ := s.now })
      else (false, true, put s { c := c, e := e - need, at_ := s.now })
    else (true, dei, red s)

/-- Filtering and policing of a frame at ingress (R294): whether it is dropped, its DEI, the state. `sdu` is the size that
MAX_SDU limits. -/
def State.policeFrame (s : State) (f : Option (Nat × List Byte)) (sdu n : Nat) (dei : Bool) : Bool × Bool × State :=
  match f with
  | none => (false, dei, s)
  | some (i, r) =>
    if bitOf (s.get ESW_SF_BLOCKEDw_BLOCKED (i / 32)) (i % 32) then (true, dei, s)
    else if leAt r 10 2 ≠ 0 ∧ leAt r 10 2 < sdu then
      (true, dei, (s.setBitOf ESW_SF_BLOCKEDw_BLOCKED (i % 32) (i / 32)).setFlag ESW_EVT_SF_BLOCKED true)
    else if byteAt r 12 ≠ 255 ∧ ¬ s.sgateOpen (byteAt r 12) then (true, dei, s)
    else if leAt r 14 2 = 65535 then (false, dei, s)
    else s.meterFrame (leAt r 14 2) n dei

/-- What the vector recovery function of a stream answers for a sequence number (R295). -/
inductive FrerAns where
  | pass | dup | rogue
  deriving DecidableEq, Repr

/-- The vector recovery algorithm of IEEE 802.1CB with a history of `n`. -/
def recoverSeq (r : Recovery) (n seq now : Nat) : FrerAns × Recovery :=
  if r.any then (.pass, { seq := seq, hist := true :: List.replicate (n - 1) false, any := false, at_ := now })
  else
    let d := signed 16 (seq + 65536 - r.seq)
    if (n : Int) ≤ d ∨ d ≤ -(n : Int) then (.rogue, r)
    else if d ≤ 0 then
      let k := (-d).toNat
      if r.hist.getD k false then (.dup, r) else (.pass, { r with hist := r.hist.set k true, at_ := now })
    else
      let k := d.toNat
      (.pass, { r with seq := seq, hist := (true :: List.replicate (k - 1) false ++ r.hist).take n, at_ := now })

/-- RESET_MS passes without an accepted frame: the history resets (R295). -/
def State.frerTimeout (s : State) (h : Nat) : State :=
  match nfind s.esw.recov h, s.cfgData 0x0101 10 h with
  | some r, some raw =>
    if r.any then s
    else
      let s := s.until (r.at_ + leAt raw 12 2 * 1000000)
      { s with esw := { s.esw with recov := nset s.esw.recov h { r with any := true, hist := [] } } }
  | _, _ => s

/-! ### Storing for an egress port (R285–R287) -/

/-- Octets of a stored frame with its tags and FCS. -/
def EthFrame.size (f : EthFrame) : Nat := max 64 (12 + 4 + f.body.length + 4)

/-- The frames that a port stores: for a medium port by traffic class, for port M those that no unit has taken yet; port H
stores none, since its frames go into their rings at once (DEDUCED, log entry 66). -/
def State.stored (s : State) (p : Nat) : List EthFrame :=
  if p = portM then s.esw.mq else (nvals (s.port p).queues).flatten

/-- Octets that a port stores. -/
def State.portUsed (s : State) (p : Nat) : Nat := ((s.stored p).map EthFrame.size).foldl (· + ·) 0

/-- The packet buffer has room for `n` more octets for port `p` (R286): 64 KiB reserved for each medium port and 256 KiB
for H and M, 1.875 MiB shared. -/
def State.bufferRoom (s : State) (p n : Nat) : Bool :=
  let above := fun k => s.portUsed k + (if k = p then n else 0) - (if k < 10 then 65536 else 262144)
  decide (((List.range 12).map above).foldl (· + ·) 0 ≤ 1966080)

/-- The traffic class of a PCP on a port (R284, R306). -/
def State.classOf (s : State) (p pcp : Nat) : Nat := leAt (s.eswRec 1 p) 8 4 / 8 ^ pcp % 8

/-- A frame is stored for a medium port, or dropped for it (R279, R286, R287): whether it was stored, and the state. -/
def State.storeFor (s : State) (p : Nat) (f : EthFrame) : Bool × State :=
  if ¬ s.linkUp p then (false, s.cnt p 13)
  else if ¬ s.bufferRoom p f.size then (false, s.cnt p 12)
  else
    let s := s.creditTo p
    let k := s.classOf p f.pcp
    (true, s.modPort p fun x => { x with queues := nset x.queues k (ngetD x.queues k [] ++ [f]) })

/-- The frame from its EtherType on as port `p` sends it, the VLAN tag removed: an R-tag stands first (R295, R323). -/
def EthFrame.onPort (f : EthFrame) (p : Nat) : List Byte :=
  match f.rtag with
  | some q => if p < 2 then beBytes 2 0xF1C1 ++ beBytes 2 0 ++ beBytes 2 q ++ f.body else f.body
  | none => f.body

/-- The frame's bytes as port `p` sends them, before MACsec protection, without FCS (R284, R295). -/
def State.wireBytes (s : State) (p : Nat) (f : EthFrame) : List Byte :=
  let tag := if bitOf (s.vlanUntagged f.vid) p then []
    else beBytes 2 0x8100 ++ beBytes 2 (f.pcp * 8192 + b2n f.dei * 4096 + f.vid)
  let b := beBytes 6 f.dst ++ beBytes 6 f.src ++ tag ++ f.onPort p
  b ++ List.replicate (60 - b.length) 0

/-! ### Port H: delivery to guest queues (R302–R304, R326) -/

/-- The frame's bytes as a queue receives them: untagged, without FCS. -/
def EthFrame.untagged (f : EthFrame) : List Byte := beBytes 6 f.dst ++ beBytes 6 f.src ++ f.body

/-- A group address. -/
def isGroup (mac : Nat) : Bool := bitOf mac 40

/-- One frame into one queue; the state and whether it was delivered. -/
def State.deliverTo (s : State) (q : Nat) (f : EthFrame) : Bool × State :=
  let x := s.ethq q
  let o := s.qOwner q
  let data := f.untagged
  let lost := fun (s : State) => (false, s.cnt portH 16)
  if ¬ s.qRuns q ∨ x.rxHead = s.get ESW_Qq_RX_TAIL_INDEX 0 q then lost s
  else
    let a := s.rxDesc q x.rxHead
    match s.fnRead o a 16 with
    | (.error _, s) => lost (s.qStop q)
    | (.ok d, s) =>
      if !(bitOf (byteAt d 10) 0) || decide (byteAt (s.eswRec 11 q) 8 * 256 < data.length) then lost s
      else match s.fnWrite o (leAt d 0 8) data with
        | (.error _, s) => lost (s.qStop q)
        | (.ok _, s) =>
          let b := d.take 8 ++ leBytes 2 data.length ++ [0, BitVec.ofNat 8 f.pcp] ++ leBytes 4 f.rxTd
          match s.fnWrite o a b with
          | (.error _, s) => lost (s.qStop q)
          | (.ok _, s) =>
            let n := x.rxHead + 1
            let s := s.modEthq q fun x => { x with rxHead := if n ≥ s.rxDepth q then 0 else n }
            (true, s.qWroteBack q)

/-- The queues that a frame is for (R302). -/
def State.queuesFor (s : State) (f : EthFrame) : List Nat :=
  (s.cfgAll 0x0101 11).filterMap fun (q, r) =>
    if s.qVid q == f.vid && (s.qMac q == f.dst || (isGroup f.dst && bitOf (byteAt r 9) 0)) then some q else none

/-- The queue bound to port `p` (R326). -/
def State.boundQueue (s : State) (p : Nat) : Option Nat :=
  if p < 10 ∧ s.flag TBU_PORTp_PTPQ_EN p then some (s.get TBU_PORTp_PTPQ_QUEUE p) else none

/-- The link-local address of R326, 01-80-C2-00-00-0E. -/
def ptpMac : Nat := 0x0180C200000E

/-- Port H delivers a frame to its queues: whether one took it, and the state (DEDUCED, log entry 66). -/
def State.deliverH (s : State) (f : EthFrame) (qs : List Nat) : Bool × State :=
  let (any, s) := qs.foldl (fun (a : Bool × State) q =>
    let (ok, s) := a.2.deliverTo q f
    (a.1 || ok, s)) (false, s)
  (any, if any then (s.cnt portH 2).cnt portH 3 (f.untagged.length + 4) else s)

/-! ### Port M (R296, R297) -/

/-- An EtherType of the eight M_FWD records. -/
def State.mFwd (s : State) (etype : Nat) : Bool :=
  (s.cfgAll 0x0101 12).any fun e => decide (e.1 < 8 ∧ etype ≠ 0 ∧ leAt e.2 0 2 = etype)

/-- The frame's EtherType. -/
def EthFrame.etype (f : EthFrame) : Nat := beAt f.body 0 2

/-- Header fields of a device frame (R297). -/
def EthFrame.kind (f : EthFrame) : Nat := byteAt f.body 3
def EthFrame.words (f : EthFrame) : Nat := beAt f.body 4 2
def EthFrame.streamId (f : EthFrame) : Nat := beAt f.body 6 4
def EthFrame.seqNo (f : EthFrame) : Nat := beAt f.body 10 4
def EthFrame.node (f : EthFrame) : Nat := beAt f.body 14 2
/-- Payload word `i` as a number, little-endian (R21). -/
def EthFrame.word (f : EthFrame) (i : Nat) : Nat := leAt f.body (18 + 16 * i) 16

/-- Port M takes the frame (R296). -/
def State.mTakes (s : State) (f : EthFrame) : Bool :=
  if f.etype = s.esw.etype then
    byteAt f.body 2 == 1 && decide (1 ≤ f.kind ∧ f.kind ≤ 4) && decide (18 + 16 * f.words ≤ f.body.length)
  else s.mFwd f.etype

/-- A frame is delivered to port M: taken, and left for its unit, or dropped, for want of buffer as well (R286, R296)
(DEDUCED, log entry 66). -/
def State.deliverM (s : State) (f : EthFrame) : Bool × State :=
  if ¬ s.mTakes f then (false, s.cnt portM 15)
  else if ¬ s.bufferRoom portM f.size then (false, s.cnt portM 12)
  else
    let s := { s with esw := { s.esw with mq := s.esw.mq ++ [f] } }
    (true, (s.cnt portM 2).cnt portM 3 ((s.wireBytes portM f).length + 4))

/-! ### Forwarding (R284, R293, R295, R326) -/

/-- The egress mask of the static entries for an address and VLAN. -/
def State.staticPorts (s : State) (mac vid : Nat) : Option Nat :=
  match (s.cfgAll 0x0101 4).find? fun e => beAt e.2 0 6 == mac && leAt e.2 6 2 % 4096 == vid with
  | some e => some (leAt e.2 8 2)
  | none => if (s.cfgAll 0x0101 11).any fun e => s.qMac e.1 == mac && s.qVid e.1 == vid then some 1024 else none

/-- The egress ports of a frame (R284). -/
def State.egress (s : State) (f : EthFrame) : Nat :=
  let members := s.vlanMembers f.vid
  let m := match s.staticPorts f.dst f.vid with
    | some m => m
    | none =>
      if isGroup f.dst then 4095
      else match nfind s.esw.learned (f.vid * 281474976710656 + f.dst) with
        | some (p, _) => 2 ^ p
        | none => 4095
  setBit (m &&& members &&& 4095) f.ing false

/-- The source address is learned (R284): 4096 addresses at most. -/
def State.learn (s : State) (f : EthFrame) : State :=
  let k := f.vid * 281474976710656 + f.src
  if isGroup f.src || (s.staticPorts f.src f.vid).isSome ||
      (decide (4096 ≤ s.esw.learned.length) && (nfind s.esw.learned k).isNone) then s
  else { s with esw := { s.esw with learned := nset s.esw.learned k (f.ing, s.now) } }

/-- A frame that has passed ingress goes to the egress ports of a mask: whether one stored it, and the state. -/
def State.sendTo (s : State) (f : EthFrame) (m : Nat) : Bool × State :=
  let (a, s) := ((List.range 10).filter (bitOf m)).foldl (fun (x : Bool × State) p =>
    let (ok, s) := x.2.storeFor p f
    (x.1 || ok, s)) (false, s)
  let (b, s) := if bitOf m 10 then s.deliverH f (s.queuesFor f) else (false, s)
  let (c, s) := if bitOf m 11 then s.deliverM f else (false, s)
  (a || b || c, s)

/-- A frame of `n` octets that has passed ingress is forwarded (R284, R305): it counts as received once a port has stored
it. The descriptor of a guest frame that no medium port stores is written back at once, with LINKDOWN where every port it
was for has its link down (DEDUCED, log entry 68). -/
def State.forward (s : State) (f : EthFrame) (n : Nat) (gen : Bool) : State :=
  let s := s.learn f
  let m := match f.bound with
    | some p => 2 ^ p
    | none => if gen then 3 else s.egress f
  let down := m != 0 && (List.range 12).all fun p => !(bitOf m p && s.linkUp p)
  let (stored, s) := match if f.dst = ptpMac then s.boundQueue f.ing else none with
    | some q => s.deliverH f [q]
    | none => s.sendTo f m
  let s := if stored then (s.cnt f.ing 0).cnt f.ing 1 n else s
  s.txRelease f.wb (if down then 3 else 0) none

/-- A frame enters the bridge at port `p` with `n` octets on its medium: VLAN, filters, recovery, forwarding (R284,
R287, R293–R295). `st` are its stamps, if it crossed a medium; the VLAN tables do not bind a frame that may leave on one
port only (R326). -/
def State.ingress (s : State) (p n : Nat) (b : List Byte) (bound : Option Nat) (wb : Option (Nat × Nat))
    (exemptOk : Nat → Bool) (st : List Nat) : State :=
  let f := parseFrame b
  let (vid, pcp, dei) := s.classify p f
  let drop := fun (s : State) (c : Nat) => (s.cnt p c).txRelease wb 0 none
  if bound.isNone ∧ s.vlanBad p vid f then drop s 7
  else if ¬ exemptOk (beAt f.body 0 2) then drop s 8
  else
    let stream := s.streamOf f.dst f.src vid
    let (bad, dei, s) := s.policeFrame (s.filterOf (stream.map Prod.fst) f.dst vid pcp) f.body.length n dei
    if bad then drop s 9
    else
      let e : EthFrame := { dst := f.dst, src := f.src, vid := vid, pcp := pcp, dei := dei, body := f.body, ing := p,
                            bound := bound, wb := wb, rxTd := if st.isEmpty then s.td0 else stampTd0 st,
                            rxAt := s.now }
      let done := fun (s : State) (e : EthFrame) (gen : Bool) =>
        let s := if st.isEmpty then s else s.stampFrame p false f.body st
        s.forward e n gen
      match stream with
      | none => done s e false
      | some (h, raw) =>
        let fl := byteAt raw 10
        let tagged := decide (beAt f.body 0 2 = 0xF1C1)
        let passed := fun (s : State) (e : EthFrame) =>
          if bitOf fl 0 then
            let seq := ngetD s.esw.gen h 0
            let s := { s with esw := { s.esw with gen := nset s.esw.gen h ((seq + 1) % 65536) } }
            done s { e with rtag := some seq } true
          else done s e false
        if !(bitOf fl 1) then passed s e
        else if tagged then
          let seq := beAt f.body 4 2
          let (a, r) := recoverSeq (ngetD s.esw.recov h {}) (clampN 2 32 (byteAt raw 11)) seq s.now
          let s := { s with esw := { s.esw with recov := nset s.esw.recov h r } }
          match a with
          | .dup => drop s 10
          | .rogue => drop s 11
          | .pass => passed s { e with rtag := some seq, body := f.body.drop 6 }
        else if bitOf fl 2 then passed s e
        else drop s 11

/-- An Ethernet frame arrives at a medium port, `q` quarter ns into the tick (R282, R284, R287, R321). -/
def State.frameRx (s : State) (p : Nat) (b : List Byte) (fcsOk : Bool) (q : Nat) : State :=
  if ¬ (p < 10 ∧ s.eswUp ∧ s.linkUp p) then s
  else
    let n := b.length + 4
    let (st, s) := s.stamps p q false
    if ¬ fcsOk then s.cnt p 4
    else if n < 64 then s.cnt p 5
    else if s.maxFrame p < n then s.cnt p 6
    else if s.secyOn p then
      if beAt b 12 2 = 0x88E5 then
        match s.macsecIn p b with
        | (none, s) => s.cnt p 8
        | (some b, s) => s.ingress p n b none none (fun _ => true) st
      else s.ingress p n b none none (s.exempt p) st
    else s.ingress p n b none none (fun _ => true) st

/-! ### Frames that the device builds (R296, R297) -/

/-- The bytes of a device frame (R297) (DEDUCED, log entry 67). -/
def deviceFrame (dst : Nat) (tag : Option Nat) (etype kind sid seq node flags : Nat) (words : List Nat) : List Byte :=
  let t := match tag with | some t => beBytes 2 0x8100 ++ beBytes 2 t | none => []
  let h := beBytes 1 1 ++ beBytes 1 kind ++ beBytes 2 words.length ++ beBytes 4 sid ++ beBytes 4 seq ++ beBytes 2 node ++ beBytes 2 flags
  let p := h ++ words.flatMap (leBytes 16)
  beBytes 6 dst ++ beBytes 6 (Config.deviceMac % 281474976710656) ++ t ++ beBytes 2 etype ++ p ++
    List.replicate (46 - p.length) 0

/-- A frame that the device builds enters the bridge at port M, within its MAX_FRAME (R287, R296). -/
def State.mIngress (s : State) (b : List Byte) : State :=
  let n := b.length + 4
  if ¬ s.eswUp then s
  else if s.maxFrame portM < n then s.cnt portM 6
  else s.ingress portM n b none none (fun _ => true) []

/-- A device frame enters the bridge at port M (DEDUCED, log entry 67). -/
def State.mSend (s : State) (dst : Nat) (tag : Option Nat) (kind sid seq flags : Nat) (words : List Nat) : State :=
  s.mIngress (deviceFrame dst tag s.esw.etype kind sid seq (s.get ESW_NODE_ID_NODE) flags words)

/-- The first waiting frame at port M that satisfies `f`, and the state without it. -/
def State.mTake (s : State) (f : EthFrame → Bool) : Option EthFrame × State :=
  match s.esw.mq.find? f with
  | none => (none, s)
  | some x => (some x, { s with esw := { s.esw with mq := s.esw.mq.erase x } })

/-! ### Guest queues: transmission (R300, R301) -/

/-- One transmit descriptor of queue `q` is taken and checked, and its frame sent into the bridge; it is written back once the
frame has been sent or is stored nowhere (R300, R301, R304, R323) (DEDUCED, log entry 68). -/
def State.queueTx (s : State) (q : Nat) : State :=
  let x := s.ethq q
  let o := s.qOwner q
  if ¬ (s.eswUp ∧ s.qRuns q) ∨ x.txHead = s.get ESW_Qq_TX_TAIL_INDEX 0 q then s
  else
    let a := s.txDesc q x.txHead
    match s.fnRead o a 16 with
    | (.error _, s) => s.qStop q
    | (.ok d, s) =>
      if ¬ bitOf (byteAt d 10) 0 then s
      else
        let n := x.txHead + 1
        let s := s.modEthq q fun x => { x with txHead := if n ≥ s.txDepth q then 0 else n }
        let len := leAt d 8 2
        if len < 14 ∨ s.maxFrame portH - 8 < len then s.txWriteBack q a d 2 0
        else match s.fnRead o (leAt d 0 8) len with
          | (.error _, s) => s.txWriteBack q a d 4 0
          | (.ok b, s) =>
            let et := beAt b 12 2
            if beAt b 6 6 ≠ s.qMac q ∨ et = 0x8100 ∨ et = 0x88A8 ∨ et = 0x88E5 ∨ et = 0xF1C1 then
              s.txWriteBack q a d 1 0
            else
              let frame := b.take 12 ++ beBytes 2 0x8100 ++ beBytes 2 (s.qPcp q * 8192 + s.qVid q) ++ b.drop 12
              let bound := (List.range 10).find? fun p => s.boundQueue p == some q
              let k := (s.ethq q).fetched
              let s := s.modEthq q fun x => { x with wait := x.wait ++ [{ id := k, addr := a, desc := d }], fetched := k + 1 }
              s.ingress portH (frame.length + 4) frame bound (some (q, k)) (fun _ => true) []

/-- The queue's message interrupt at the first grid point after a write-back (R303). -/
def State.queueIrq (s : State) (q : Nat) : State :=
  match (s.ethq q).irq with
  | none => s
  | some t =>
    if ¬ (s.atGrid ∧ t < s.now) then s
    else
      let s := s.modEthq q fun x => { x with irq := none }
      s.msi (s.fnFile (s.qOwner q)) (s.get ESW_Qq_CFG_IDENTITY 0 q)

/-! ### Transmission at a medium port (R279, R282, R283, R288–R292, R321) -/

/-- The octets of the frame on the medium from the preamble to the FCS; MACsec adds its tag and check value
(PRESUMED, log entry 69). -/
def State.wireOctets (s : State) (p : Nat) (f : EthFrame) : Nat :=
  8 + (s.wireBytes p f).length + 4 + (if s.secyOn p && !(s.exempt p f.etype) then 32 else 0)

/-- The transmit association that protects a frame on an uplink: the latest installed (R282) (PRESUMED, log entry 69). -/
def State.txSa (s : State) (p : Nat) : Option Sa := (s.esw.sas.filter fun a => a.port == p && a.tx).getLast?

/-- The head frames that no open interval of their class can hold are dropped (R289). -/
def State.dropUnsendable (s : State) (p k : Nat) : List EthFrame → State
  | [] => s.modPort p fun x => { x with queues := nerase x.queues k }
  | f :: l =>
    let d := s.octetTime p (s.wireOctets p f)
    match s.openMax p k with
    | some m =>
      if m < d then
        (((s.cnt p 14).modPort p fun x => { x with queues := nset x.queues k l }).txRelease f.wb 0 none).dropUnsendable p k l
      else s.modPort p fun x => { x with queues := nset x.queues k (f :: l) }
    | none => s.modPort p fun x => { x with queues := nset x.queues k (f :: l) }

/-- The head frame of class `k` may start now (R288, R289, R292). -/
def State.maySend (s : State) (p k : Nat) : Bool :=
  let x := s.port p
  match ngetD x.queues k [] with
  | [] => false
  | f :: _ =>
    let d := s.octetTime p (s.wireOctets p f)
    bitOf x.gates k &&
      (match s.gateCloses p k with | some t => decide ((s.td (s.tasTd p)).ns + d ≤ t) | none => true) &&
      (s.idleSlope p k == 0 || decide (0 ≤ (ngetD x.credit k (0, 0)).1))

/-- A frame's PN is used: the association stops at its end, and announces its threshold (R283) (PRESUMED, log entry 69). -/
def State.usePn (s : State) (a : Sa) : State :=
  let s := { s with esw := { s.esw with sas := s.esw.sas.map fun x => if x = a then { x with pn := x.pn + 1 } else x } }
  if a.pn + 1 = 0xC000000000000000 then s.setFlag ESW_EVT_PN_THRESH true else s

/-- PLCA is at work on the port: enabled, and not fallen back (R280, R281). -/
def State.plcaRuns (s : State) (p : Nat) : Bool := s.plcaOn p && s.flag ESW_PORTp_LINK_PLCA_ACTIVE p

/-- The next frame of a PLCA port continues its transmit opportunity: BURST_COUNT and BURST_TIMER allow it (R280)
(PRESUMED, log entry 113). -/
def State.plcaBursts (s : State) (p : Nat) : Bool :=
  match (s.port p).burst with
  | some (e, k) => decide (k < byteAt (s.eswRec 2 p) 4) && decide (s.now ≤ e + dflt (byteAt (s.eswRec 2 p) 5) 128 * 100)
  | none => false

/-- The earliest start of a PLCA port's next opportunity, real time: after the last one come a BEACON of 20 bit times and
TO_TIMER for each other node of the cycle (R280) (PRESUMED, log entry 113). -/
def State.plcaNext (s : State) (p : Nat) : Nat :=
  match (s.port p).burst with
  | some (e, _) => e + (20 + (byteAt (s.eswRec 2 p) 2 - 1) * dflt (byteAt (s.eswRec 2 p) 3) 32) * 100
  | none => 0

/-- A PLCA port takes part in the cycle with a frame that ends at `e`: the coordinator's own opportunity follows the BEACON it
sends (R280). -/
def State.plcaSends (s : State) (p e : Nat) (again : Bool) : State :=
  if ¬ s.plcaRuns p then s.modPort p fun x => { x with burst := none }
  else s.modPort p fun x =>
    { x with burst := some (e, match x.burst with | some (_, k) => if again then k + 1 else 0 | none => 0),
             beacon := if s.plcaNode p = 0 ∧ ¬ again then s.now - 2000 else x.beacon }

/-- A queued frame of port `p` starts transmission, `q` quarter ns into the tick (R289, R321) (DESIGN CHOICE, log entry 99). -/
def State.frameTxStart (s : State) (p q : Nat) : State :=
  if ¬ (p < 10 ∧ s.eswUp ∧ s.linkUp p) then s
  else if s.plcaRuns p && decide (byteAt (s.eswRec 2 p) 2 ≤ s.plcaNode p) then s
  else
    let s := s.until (s.port p).busy
    let again := s.plcaRuns p && s.plcaBursts p
    let s := if s.plcaRuns p && !again then s.until (s.plcaNext p) else s
    let s := s.creditTo p
    let s := s.each (s.port p).queues fun s (k, l) => s.dropUnsendable p k l
    match ([7, 6, 5, 4, 3, 2, 1, 0] : List Nat).find? fun k => s.maySend p k with
    | none => s
    | some k =>
      match ngetD (s.port p).queues k [] with
      | [] => s
      | f :: l =>
        let s := s.modPort p fun x => { x with queues := if l.isEmpty then nerase x.queues k else nset x.queues k l }
        let bytes := s.wireBytes p f
        let n := s.wireOctets p f
        let prot := s.secyOn p && !(s.exempt p f.etype)
        let sa := s.txSa p
        let stopped := match sa with | some a => decide (0xFFFFFFFFFFFFFFFF ≤ a.pn) | none => true
        if prot && stopped then (s.cnt p 12).txRelease f.wb 0 none
        else
          let d := s.octetTime p n
          let (st, s) := s.stamps p q true
          let s := s.stampFrame p true (f.onPort p) st
          let s := s.plcaSends p (s.now + d) again
          let s := s.modPort p fun x =>
            { x with busy := s.now + s.octetTime p (n + 12),
                     credit := if s.idleSlope p k = 0 then x.credit else
                       let c := (ngetD x.credit k (0, s.now)).1
                       nset x.credit k (c - ((s.portRate p - s.idleSlope p k) * d : Nat), s.now + d) }
          let (s, id) := match prot, sa with
            | true, some a => (s.usePn a, some (a.sci, a.an, a.pn))
            | _, _ => (s, none)
          let s := { s with esw := { s.esw with sent := nset s.esw.sent p { bytes := bytes, sa := id } } }
          let s := (s.cnt p 2).cnt p 3 (n - 8)
          s.txRelease f.wb 0 (some (stampTd0 st))

/-- A link goes up or down (R279). -/
def State.linkChange (s : State) (p : Nat) (up : Bool) : State :=
  if ¬ (p < 10 ∧ (s.eswUp ∨ ¬ up)) ∨ s.linkUp p = up ∨ (up ∧ (s.portOff p ∨ ¬ s.phyUp p)) then s
  else
    let s := s.setFlag ESW_PORTp_LINK_UP up p
    let s := (s.setFlag ESW_EVT_LINK true).cnt p 18
    if up then
      let s := if p < 2 then s.set ESW_PORTp_LINK_RATE (min 2 (byteAt (s.eswRec 1 p) 0)) p else s
      let s := s.modPort p fun x => { x with beacon := s.now }
      s.setFlag ESW_PORTp_LINK_PLCA_ACTIVE (s.plcaOn p) p
    else
      let s := (s.setFlag ESW_PORTp_LINK_PLCA_ACTIVE false p).setFlag ESW_PORTp_LINK_PLCA_FALLBACK false p
      let fs := (nvals (s.port p).queues).flatten
      let s := s.modPort p fun x => { x with queues := [] }
      s.each fs fun s f => (s.cnt p 13).txRelease f.wb 3 none

/-- A follower sees no BEACON for 2 ms (R281). -/
def State.plcaFallback (s : State) (p : Nat) : State :=
  if ¬ (s.plcaOn p ∧ s.plcaNode p ≠ 0 ∧ s.linkUp p) ∨ s.flag ESW_PORTp_LINK_PLCA_FALLBACK p then s
  else
    let s := s.until ((s.port p).beacon + 2000000)
    let s := (s.setFlag ESW_PORTp_LINK_PLCA_FALLBACK true p).setFlag ESW_PORTp_LINK_PLCA_ACTIVE false p
    (s.cnt p 17).setFlag ESW_EVT_PLCA true

/-- A BEACON is received (R281). -/
def State.beaconRx (s : State) (p : Nat) : State :=
  if ¬ (s.plcaOn p ∧ s.plcaNode p ≠ 0 ∧ s.linkUp p) then s
  else
    let s := s.modPort p fun x => { x with beacon := s.now }
    (s.setFlag ESW_PORTp_LINK_PLCA_FALLBACK false p).setFlag ESW_PORTp_LINK_PLCA_ACTIVE true p

/-- AGE in seconds (R284). -/
def State.ageSec (s : State) : Nat :=
  let a := leAt (s.eswRec 14 0) 4 2
  if a = 0 then 300 else a

/-- A learned address ages out (R284). -/
def State.ageOut (s : State) (vid mac : Nat) : State :=
  let k := vid * 281474976710656 + mac
  match nfind s.esw.learned k with
  | none => s
  | some (_, t) =>
    let s := s.until (t + s.ageSec * 1000000000)
    { s with esw := { s.esw with learned := nerase s.esw.learned k } }

/-- A new device EtherType takes effect at a grid point (R298). -/
def State.etypeEffect (s : State) : State :=
  match s.esw.etypeAt with
  | none => s
  | some t =>
    if ¬ (s.atGrid ∧ t < s.now) then s
    else { s with esw := { s.esw with etype := s.get ESW_DEV_ETYPE_ETYPE, etypeAt := none } }

/-- EN of a queue is set: both heads to 0, the error cleared; an interrupt not yet sent stays due (R299, R303) (DEDUCED, log entry 68). -/
def State.queueStart (s : State) (q : Nat) : State :=
  (s.set ESW_Qq_CFG_ERR 0 0 q).modEthq q fun x => { irq := x.irq, fetched := x.fetched }

/-- The owner of a queue changes (R304). -/
def State.queueNewOwner (s : State) (q : Nat) : State :=
  (s.setFlag ESW_Qq_CFG_EN false 0 q).modEthq q fun x => { x with irq := none, wait := [] }

end Sys2Proof.Machine
end

