-- ==== Sys2Proof/Machine/Stream.lean ====
section
/-! DEFINITION. Publication of measurement streams (R141–R145). -/

namespace Sys2Proof.Machine

/-- The state with an open stream replaced. -/
def State.setStream (s : State) (h : Nat) (x : Stream) : State :=
  { s with pda := { s.pda with streams := nset s.pda.streams h x } }

/-- The word that a stream publishes of a source: VALID clear once its channel has left the owner (R145). A source that has made
no word yet is published as a word of zeros (DESIGN CHOICE, log entry 26). -/
def State.streamWord (s : State) (x : Stream) (sid : Nat) : Nat :=
  let w := (s.word sid).getD 0
  if x.lost.contains sid then setBit w 32 false else w

/-- A stream's frame that waits goes out where port M accepts frames (R142) (DEDUCED, log entry 107). -/
def State.streamHand (s : State) (h : Nat) (x : Stream) : State :=
  match x.wait with
  | none => s.setStream h x
  | some (seq, flags, words) =>
    if s.eswUp then
      (s.mSend x.mac (if x.tag % 4096 = 0 then none else some x.tag) 1 x.id seq flags words).setStream h { x with wait := none }
    else s.setStream h x

/-- A Sampled Measurement Stream frame of the sets collected is built and handed to port M; a frame that port M has still
not accepted is dropped for it (R142). -/
def State.streamFrame (s : State) (h : Nat) (x : Stream) : State :=
  let drop := x.wait.isSome
  let s := if drop then s.inc PDA_STREAMs_STATUS_DROPS 1 h else s
  s.streamHand h
    { x with seq := (x.seq + 1) % 4294967296, sets := [], gap := false, sent := true,
             wait := some (x.seq, b2n (!x.sent) + 2 * b2n (x.gap || drop), x.sets.flatten) }

/-- Frames that wait for port M go out once it accepts them (R142). -/
def State.streamsHand (s : State) : State :=
  s.each (s.pda.streams.filter fun e => e.2.wait.isSome) fun s e => s.streamHand e.1 e.2

/-- The words of a set go into the ring at function addresses, each wrapped at the ring's end (R143). -/
def State.ringWords (s : State) (x : Stream) : List Nat → Nat → State
  | [], _ => s
  | w :: l, i =>
    match s.fnWrite x.fn (x.base + 16 * (i % 2 ^ (x.order + 4))) (leBytes 16 w) with
    | (.error .xlate, s) => s.xlateEvt.ringWords x l (i + 1)
    | (_, s) => s.ringWords x l (i + 1)

/-- The publication is due at this grid point. -/
def State.streamDue (s : State) (x : Stream) : Bool :=
  s.atGrid && s.tbu.grid % x.period == 0 && x.last != some s.tbu.grid

/-- A stream takes one set of latest words (R141–R143). -/
def State.streamTake (s : State) (h : Nat) (x : Stream) : State :=
  let set := x.srcs.map (s.streamWord x)
  let x := { x with last := some s.tbu.grid }
  if x.ring then
    let s := s.ringWords x set x.widx
    let n := (x.widx + x.srcs.length) % 4294967296
    (s.wr PDA_STREAMs_WIDX (w32 n) h).setStream h { x with widx := n }
  else
    let x := { x with sets := x.sets ++ [set] }
    if x.batch ≤ x.sets.length then s.streamFrame h x else s.setStream h x

/-- STREAM_PUBLISH: the publication instant of stream `h` (R141). -/
def State.streamPublish (s : State) (h : Nat) : State :=
  match nfind s.pda.streams h with
  | none => s
  | some x => if s.streamDue x then s.streamTake h x else s

/-- The stream of a handle is closed. -/
def State.streamGone (s : State) (h : Nat) : State :=
  let s := { s with pda := { s.pda with streams := nerase s.pda.streams h } }
  s.setFlag PDA_STREAMs_STATUS_OPEN false h

def specMeasStreamClose : OpSpec where
  code := 0x0304
  own c := some (2, c.tgt)
  check s c := checks s c [(s.notOwner c 2 c.tgt, bad stNotOwner), outOfRange c 64] [] []
  outcome s c := if (nfind s.pda.streams c.tgt).isNone then some (bad stAborted) else none
  run s c :=
    let s := s.streamPublish c.tgt
    match nfind s.pda.streams c.tgt with
    | none => s.finish c.seq (bad stAborted)
    | some x =>
      if x.ring then (s.streamGone c.tgt).complete c.seq stOk x.widx
      else
        let s := if x.sets.isEmpty then s else s.streamFrame c.tgt x
        let n := match nfind s.pda.streams c.tgt with | some y => if y.sent then some ((y.seq + 4294967295) % 4294967296) else none | none => none
        -- no frame has gone out: the manual states no sequence number
        (s.streamGone c.tgt).finish c.seq (stOk, n)

/-- The channel sources of a channel that changes owner lose VALID in the streams of others (R145). -/
def State.streamsLose (s : State) (n owner : Nat) : State :=
  { s with pda := { s.pda with streams := nmap (fun _ (x : Stream) =>
      if x.fn = owner then x
      else { x with lost := x.lost ++ x.srcs.filter fun i => i == sidOf 0 n || i == sidOf 1 n }) s.pda.streams } }

end Sys2Proof.Machine
end

