-- ==== Sys2Proof/Machine/PePlace.lean ====
section
/-! DEFINITION. Placement of element instances (R152, R165–R174): loads, admissible candidates, ranking, incremental and
full placement, dual copies, reflow, and the placement summary. -/

namespace Sys2Proof.Machine

/-- Instance of handle `h`. -/
def State.inst? (s : State) (h : Nat) : Option Inst := nfind s.pe.insts h

/-- The state with an instance set. -/
def State.setInst (s : State) (h : Nat) (x : Inst) : State := { s with pe := { s.pe with insts := nset s.pe.insts h x } }

/-- Slots and period, µs, of a class (R149). -/
def classSlots (cls : Nat) : Nat := if cls = 0 then 1 else if cls = 1 then 10 else 100
def classPeriod (cls : Nat) : Nat := if cls = 0 then 10 else if cls = 1 then 100 else 1000

/-- The phases at which an instance of a class in a slot runs (R165). -/
def classPhases (cls slot : Nat) : List Nat :=
  if cls = 0 then List.range 100 else if cls = 1 then (List.range 10).map fun i => 10 * i + slot else [slot]

/-- Cycle capacity K (R165, R187). -/
def State.peK (s : State) : Nat := 10000 * clampN 50 100 (s.get PE_PLACE_CFG_FILL_PCT) / 100

/-- Pen state of an element-processor pair: 0 running. -/
def State.epPen (s : State) (p : Nat) : Bool := s.get FCU_PENn_STATUS_STATE (9 + p) != 0

/-- A pair is in service (R165, R487). -/
def State.epInService (s : State) (p : Nat) : Bool :=
  !(s.epPen p) && !(bitOf s.pe.draining p) && !(bitOf s.pe.failed p) && s.powered (10 + p) &&
    !(s.pcs.gated.contains (10 + p))

/-- Copies of an instance on pair `p`. -/
def Inst.copyOn (x : Inst) (p : Nat) : Option Copy :=
  match x.a with
  | some c => if c.pair = p then some c else (match x.b with | some d => if d.pair = p then some d else none | none => none)
  | none => (match x.b with | some d => if d.pair = p then some d else none | none => none)

/-- What one pair carries: load at each phase, bytes used of banks 2–7, distinct (source, delay) pairs. -/
structure PairUse where
  load  : List Nat := List.replicate 100 0
  banks : List Nat := List.replicate 6 0
  words : List (Nat × Nat) := []
  deriving DecidableEq, Repr

/-- Addition of a copy to a pair's use. -/
def PairUse.add (u : PairUse) (x : Inst) (slot bank : Nat) : PairUse :=
  let ph := classPhases x.cls slot
  let keys := x.inputs.map fun i => (i, x.delay)
  { load := (List.range 100).map fun f => u.load.getD f 0 + if ph.contains f then x.cost else 0
    banks := u.banks.set (bank - 2) (u.banks.getD (bank - 2) 0 + x.size)
    words := keys.foldl (fun l k => if l.contains k then l else k :: l) u.words }

/-- Use of every pair by a set of instances. -/
def pairUses (m : NMap Inst) : List PairUse :=
  (List.range 8).map fun p =>
    m.foldl (fun u e => match e.2.copyOn p with | some c => u.add e.2 e.2.slot c.bank | none => u) {}

/-- The peak of a pair. -/
def PairUse.peak (u : PairUse) : Nat := u.load.foldl max 0

/-- A candidate: peak after, phase maximum after, pair, slot (R167), and which of conditions 2–5 of R166 it fails. -/
structure Cand where
  peak : Nat
  top  : Nat
  pair : Nat
  slot : Nat
  fails : List Bool
  deriving DecidableEq, Repr

/-- The candidate (pair, slot) for an instance. -/
def candOf (k : Nat) (u : PairUse) (x : Inst) (p slot : Nat) : Cand :=
  let top := ((classPhases x.cls slot).map fun f => u.load.getD f 0).foldl max 0 + x.cost
  let peak := max u.peak top
  let keys := (x.inputs.map fun i => (i, x.delay)).foldl (fun l k => if l.contains k then l else k :: l) u.words
  { peak := peak, top := top, pair := p, slot := slot,
    fails := [decide (k < peak), decide (1024 < keys.length), u.banks.all fun b => decide (16384 < b + x.size),
              decide (x.resp ≠ 0 ∧ x.resp < x.resp_w)] }

/-- One candidate ranks before another (R167). -/
def Cand.before (a b : Cand) : Bool :=
  decide (a.peak < b.peak) || (a.peak == b.peak && (decide (a.top < b.top) || (a.top == b.top &&
    (decide (a.pair < b.pair) || (a.pair == b.pair && decide (a.slot < b.slot))))))

/-- A candidate put in its place in a ranked list. -/
def rankIn (c : Cand) : List Cand → List Cand
  | [] => [c]
  | d :: l => if c.before d then c :: d :: l else d :: rankIn c l

/-- Admissible candidates over pairs and slots, in rank order, or the reason there is none (R166, R167, R169); a reason
that the manual does not determine is none (DEDUCED, log entry 55). -/
def rankCands (k : Nat) (us : List PairUse) (x : Inst) (pairs slots : List Nat) : Except (Option Nat) (List Cand) :=
  if pairs.isEmpty then .error (some 7)
  else if k < x.cost then .error (some 6)
  else
    let cs := pairs.flatMap fun p => slots.map fun t => candOf k (us.getD p {}) x p t
    let good := cs.filter fun c => !(c.fails.any id)
    if good.isEmpty then .error (((List.range 4).find? fun i => cs.all fun c => c.fails.getD i false).map (· + 1))
    else .ok (good.foldr rankIn [])

/-- The lowest bank of 2–7 with room (R167). -/
def bankFor (u : PairUse) (size : Nat) : Nat :=
  match (List.range 6).find? fun b => decide (u.banks.getD b 0 + size ≤ 16384) with | some b => b + 2 | none => 2

/-- A new copy in its initial state. -/
def freshCopy (us : List PairUse) (x : Inst) (p : Nat) : Copy := { pair := p, bank := bankFor (us.getD p {}) x.size }

/-- The first copy A in rank order for which a copy B is admissible (R170). -/
def dualPlace (k : Nat) (us : List PairUse) (x : Inst) (pairs : List Nat) : List Cand → Option Inst
  | [] => none
  | c :: l =>
    match rankCands k us x (pairs.filter (· != c.pair)) [c.slot] with
    | .ok (d :: _) => some { x with slot := c.slot, a := some (freshCopy us x c.pair), b := some (freshCopy us x d.pair) }
    | _ => dualPlace k us x pairs l

/-- Placement of an instance beside others (R166–R170): the instance with its copies, or the reason. -/
def placeOne (k : Nat) (m : NMap Inst) (x : Inst) (pairs : List Nat) : Except (Option Nat) Inst :=
  let us := pairUses m
  let x := { x with a := none, b := none }
  match rankCands k us x pairs (List.range (classSlots x.cls)) with
  | .error r => .error r
  | .ok cs =>
    let placed := fun (y : Inst) => { y with unplaced := false, degraded := false, fresh := false }
    if x.dual then (match dualPlace k us x pairs cs with | some y => .ok (placed y) | none => .error (some 5))
    else match cs with
      | c :: _ => .ok (placed { x with slot := c.slot, a := some (freshCopy us x c.pair) })
      | [] => .error (some 7)

/-- Key order of R168. -/
def keyBefore (a b : Nat × Inst) : Bool :=
  decide (a.2.cls < b.2.cls) || (a.2.cls == b.2.cls && (decide (b.2.cost < a.2.cost) || (a.2.cost == b.2.cost && decide (a.1 < b.1))))

/-- Instances in key order. -/
def keyOrder (m : NMap Inst) : List (Nat × Inst) :=
  let rec ins (e : Nat × Inst) : List (Nat × Inst) → List (Nat × Inst)
    | [] => [e]
    | d :: l => if keyBefore e d then e :: d :: l else d :: ins e l
  m.foldr ins []

/-- The state a re-placed instance keeps: its copies' states where it had them. A copy B that has not run yet, or is new,
still takes the survivor's state at its first tick (R172). -/
def keepStates (old new : Inst) : Inst :=
  match old.a with
  | none => { new with trip := old.trip, await := old.await || old.unplaced }
  | some c =>
    let newB := new.dual && (old.b.isNone || old.fresh)
    { new with a := new.a.map fun d => { d with st := c.st, trip := c.trip },
               b := new.b.map fun d => (match old.b with | some e => { d with st := e.st, trip := e.trip } | none => d),
               degraded := newB, fresh := newB }

/-- A full placement in key order (R168): every instance anew, or the reason of the first that failed. -/
def fullPlaceFrom (k : Nat) (pairs : List Nat) : List (Nat × Inst) → NMap Inst → Except (Option Nat) (NMap Inst)
  | [], done => .ok done
  | (h, x) :: l, done =>
    match placeOne k done x pairs with
    | .error r => .error r
    | .ok y => fullPlaceFrom k pairs l (nset done h (keepStates x y))

/-- The pairs in service. -/
def State.epPairs (s : State) : List Nat := (List.range 8).filter s.epInService

/-- The pairs that may take an instance: in service, and not back from a pen or a test since the last full placement
(R166, R174) (DEDUCED, log entry 108). -/
def State.epCands (s : State) : List Nat := s.epPairs.filter fun p => !(bitOf s.pe.empty p)

/-- A placement change is counted (R168). -/
def State.bumpGen (s : State) : State := s.set PE_PLACE_GEN_GEN ((s.get PE_PLACE_GEN_GEN + 1) % 4294967296)

/-- The full placement of R168 of the instances as they are. -/
def State.fullPlace (s : State) : Except (Option Nat) State :=
  match fullPlaceFrom s.peK s.epPairs (keyOrder s.pe.insts) [] with
  | .error r => .error r
  | .ok m => .ok ({ s with pe := { s.pe with insts := m, empty := 0 } }).bumpGen

/-- W and L_i of an instance (R152). -/
def State.instTiming (s : State) (x : Inst) : Inst :=
  let l := (x.inputs.map fun i =>
    if i / 4096 = 8 then (match nfind s.pe.ings (i % 4096 / 16) with | some g => g.lat | none => 0) else 0).foldl max 0
  { x with delay := l, resp_w := classPeriod x.cls + 10 * (1 + l) }

/-- The placement summary (R183). -/
def Inst.summary (x : Inst) : Nat :=
  let f := fun (c : Option Copy) (g : Copy → Nat) => match c with | some c => g c | none => 0
  if x.unplaced then b2n x.dual * 128 + x.cls * 16777216 + x.resp_w % 65536 * 4294967296 + x.delay % 256 * 281474976710656 + 2 ^ 63
  else
    f x.a Copy.pair + f x.b Copy.pair * 16 + b2n x.dual * 128 + x.slot * 256 + f x.a Copy.bank * 65536 +
      f x.b Copy.bank * 1048576 + x.cls * 16777216 + x.resp_w % 65536 * 4294967296 + x.delay % 256 * 281474976710656

/-! ### Reflow (R172, R173, R179) -/

/-- The trip output an instance shows while no run gives it (R179). -/
def Inst.failsafeTrip (x : Inst) : Bool := x.failsafe || x.trip

/-- A new copy B for a DEGRADED instance, in the survivor's slot (R172). -/
def State.secondCopy (s : State) (x : Inst) : Option Inst :=
  match x.a with
  | none => none
  | some c =>
    let us := pairUses s.pe.insts
    match rankCands s.peK us x (s.epCands.filter (· != c.pair)) [x.slot] with
    | .ok (d :: _) => some { x with b := some (freshCopy us x d.pair), fresh := true }
    | _ => none

/-- An UNPLACED instance (R173): its output at the FAILSAFE value, the FCU told. -/
def State.unplace (s : State) (h : Nat) (x : Inst) : State :=
  (s.setInst h { x with a := none, b := none, unplaced := true, await := false, start := false }).report 0x140

/-- Re-placement of one instance from its initial state (R172). -/
def State.replace (s : State) (h : Nat) (x : Inst) : Bool × State :=
  match placeOne s.peK (nerase s.pe.insts h) x s.epCands with
  | .ok y => (true, s.setInst h { y with await := true, start := false })
  | .error _ => (false, s)

/-- The instances retried when a pair returns, and at each rebalance that fails (R173). -/
def State.placeRetry (s : State) : State :=
  let (ch, s) := (keyOrder s.pe.insts).foldl (fun (a : Bool × State) e =>
    match a.2.inst? e.1 with
    | none => a
    | some x =>
      if x.unplaced then let (ok, s) := a.2.replace e.1 x; (a.1 || ok, s)
      else if x.dual && x.a.isSome && x.b.isNone then
        (match a.2.secondCopy x with | some y => (true, a.2.setInst e.1 y) | none => a)
      else a) (false, s)
  if ch then s.bumpGen else s

/-- Copies on a pair that leaves service stop, and the instances are re-placed in key order (R172, R173). The rows that
the FAILSAFE setting asserts follow when the rows are applied (DESIGN CHOICE, log entry 56). -/
def State.reflow (s : State) (p : Nat) : State :=
  let hit := (keyOrder s.pe.insts).filter fun e => (e.2.copyOn p).isSome
  if hit.isEmpty then s
  else
    let s := s.each hit fun s e =>
      let x := e.2
      let a := match x.a with | some c => if c.pair = p then none else some c | none => none
      let b := match x.b with | some c => if c.pair = p then none else some c | none => none
      s.setInst e.1 (if a.isNone then { x with a := b, b := none } else { x with a := a, b := b })
    let s := s.each hit fun s e =>
      match s.inst? e.1 with
      | none => s
      | some x =>
        if x.dual && x.a.isSome then
          let x := { x with degraded := true, fresh := false }
          (match s.secondCopy x with | some y => s.setInst e.1 y | none => s.setInst e.1 x)
        else
          let (ok, s) := s.replace e.1 { x with await := true }
          if ok then s else s.unplace e.1 x
    { s.bumpGen with pe := { s.bumpGen.pe with reflow := true } }

/-- A reflow or a full placement is in progress (R175) (DESIGN CHOICE, log entry 56). -/
def State.peBusy (s : State) : Bool := s.pe.reflow || s.pe.rebal.isSome

end Sys2Proof.Machine
end

