-- ==== Sys2Proof/Machine/Pe.lean ====
section
/-! DEFINITION. The protection engine (chapter 04): ingest, aligner, fast ticks, the trip matrix, Trip Bulletins. -/

namespace Sys2Proof.Machine

/-! ### Trip latches (R176–R178) -/

/-- The fast tick in progress. -/
def State.peTickNo (s : State) : Nat := (s.rd PE_TICK_LO).toNat + (s.rd PE_TICK_HI).toNat * 4294967296

/-- A channel's PE trip latch is set or cleared in its register. -/
def State.putLatch (s : State) (n : Nat) (b : Bool) : State :=
  if n < 32 then s.set PE_TRIPLATCH_LO_LATCH (setBit (s.get PE_TRIPLATCH_LO_LATCH) n b)
  else s.set PE_TRIPLATCH_HI_LATCH (setBit (s.get PE_TRIPLATCH_HI_LATCH) (n - 32) b)

/-- The channel trips with PE_TRIP at once (R177); `td` is the TD0 time recorded (DEDUCED, log entry 54). -/
def State.peTrip (s : State) (n td : Nat) : State :=
  let s := s.setFault n fPeTrip
  let c := s.chan n
  let s := s.modChan n fun c => { c with tripTd := td, cause := fPeTrip, trips := satAdd 65535 c.trips 1, tripAt := some s.now,
                                         refill := 0, restart := false, delay := 0 }
  let s :=
    if c.state = chLimp then s.modChan n fun c => { (c.discharge true) with limpTrip := true, edge := none, pwm := none }
    else if c.state = chHeld then
      (s.modChan n fun c => { (c.discharge true) with pwm := none, edge := none, holdEnd := none, orphanHold := false }).setChState n chLatched
    else if c.state = chTurningOff ∧ c.req = 0 then s.modChan n fun c => { (c.discharge true) with settle := none }
    else if c.state = chOff ∨ c.state = chTripped ∨ c.state = chLatched then s
    else (s.modChan n fun c => { (c.discharge true) with pwm := none, settle := none }).setChState n chTripped
  s.failWaitOn n

/-- A row asserts in the fast tick in which a TRIP_RESET cleared a latch: the latch has stayed set, and nothing trips anew
(R178). -/
def State.latchStays (s : State) (n : Nat) : State :=
  match nfind s.pe.cleared n with
  | none => s
  | some (k, st, by_) =>
    if k ≠ s.tbu.grid ∨ s.peLatched n = true then s
    else
      let s := s.putLatch n true
      let s := { s with pe := { s.pe with setBy := nset s.pe.setBy n by_, cleared := nerase s.pe.cleared n } }
      if st = chTripped ∧ ((s.chan n).state = chOff ∨ (s.chan n).state = chTurningOff) then s.setChState n chTripped else s

/-- An asserted row sets the latches of its mask (R176, R177). -/
def State.rowLatch (s : State) (row mask td : Nat) : State :=
  s.each (bitList 64 mask) fun s n =>
    let s := s.latchStays n
    let by_ := ngetD s.pe.setBy n []
    let s := { s with pe := { s.pe with setBy := nset s.pe.setBy n (if by_.contains row then by_ else row :: by_) } }
    if s.peLatched n then s
    else
      let s := s.putLatch n true
      let s := if n < 32 then s.setBitOf PE_TRIP_EVT_LO_EVT n else s.setBitOf PE_TRIP_EVT_HI_EVT (n - 32)
      s.peTrip n td

/-- The latch of a channel clears (R178): a TRIPPED channel becomes OFF and does not restart. -/
def State.latchClear (s : State) (n : Nat) : State :=
  let s := s.putLatch n false
  let s := { s with pe := { s.pe with setBy := nerase s.pe.setBy n } }
  if (s.chan n).state = chTripped then
    let s := s.modChan n fun c => { c with restart := false, delay := 0 }
    s.setChState n (if (s.chan n).gate == .off then chOff else chTurningOff)
  else s

/-- Row `r` is asserted: an instance's voted output, or a subscription. -/
def State.rowOn (s : State) (r : Nat) : Bool :=
  if r < 4096 then (match s.inst? r with | some x => x.trip | none => false)
  else if r < 8192 then s.flag PE_SUBj_STAT_ASSERTED (r - 4096)
  else false

/-- The channels that asserted rows target. -/
def State.rowsMask (s : State) : Nat :=
  let a := s.pe.insts.foldl (fun m e => if e.2.trip then m ||| e.2.mask else m) 0
  (List.range 32).foldl (fun m j => if s.flag PE_SUBj_STAT_ASSERTED j then
    m ||| ((s.rd PE_SUBj_MASK_LO j).toNat + (s.rd PE_SUBj_MASK_HI j).toNat * 4294967296) else m) a

/-- AUTO_RESET (R178): latches whose rows all belong to instances with AUTO_RESET, none of them asserted, clear. -/
def State.autoReset (s : State) : State :=
  s.each (s.pe.setBy.map Prod.fst) fun s n =>
    let rows := ngetD s.pe.setBy n []
    let auto := rows.all fun r => r < 4096 && (match s.inst? r with | some x => x.auto | none => false)
    if s.peLatched n && !rows.isEmpty && auto && !(rows.any s.rowOn) then s.latchClear n else s

/-- TRIP_RESET of the channels of a mask (R178): the latches that stay set. -/
def State.tripReset (s : State) (mask : Nat) : Nat × State :=
  let held := s.rowsMask
  let s := s.each (bitList 64 mask) fun s n =>
    if s.peLatched n && !(bitOf held n) then
      let was := (s.tbu.grid, (s.chan n).state, ngetD s.pe.setBy n [])
      let s := s.latchClear n
      { s with pe := { s.pe with cleared := nset s.pe.cleared n was } }
    else s
  (maskOf ((bitList 64 mask).filter s.peLatched), s)

/-! ### Trip Bulletins: local (R180, R181) -/

/-- The instances that assert bulletin `b`. -/
def State.bulRows (s : State) (b : Nat) : List (Nat × Inst) := s.pe.insts.filter fun e => e.2.bulletin == some b && e.2.trip

/-- Due times of a burst's frames after the change, ns. -/
def burstDue : List Nat := [0, 250000, 500000, 1000000, 2000000, 4000000, 8000000, 16000000, 32000000, 64000000]

/-- Changes of state of the local bulletins begin new bursts (R180, R181): with the first row that asserts, or the last that
deasserts. `chg` lists the rows that have just changed, with their TD0 times. -/
def State.bulRefresh (s : State) (chg : NMap Nat) : State :=
  s.each (List.range 32) fun s b =>
    let on := !(s.bulRows b).isEmpty
    if on = bitOf (s.get PE_BUL_STATE_ASSERTED) b then s
    else
      let ts := (chg.filter fun e => (match s.inst? e.1 with | some x => x.bulletin == some b && x.trip == on | none => false)).map Prod.snd
      let td := match ts with | [] => s.td0 | t :: l => l.foldl (fun a t => if on then min a t else max a t) t
      let at_ := s.now + (td - s.td0)
      let s := s.set PE_BUL_STATE_ASSERTED (setBit (s.get PE_BUL_STATE_ASSERTED) b on)
      let x := ngetD s.pe.buls b {}
      let en := s.flag PE_BUL_CFG_EN
      let x := { x with count := if on then (x.count + 1) % 65536 else x.count, td := td, at_ := at_,
                        idx := if en then some 0 else none, due := if en then some at_ else none }
      { s with pe := { s.pe with buls := nset s.pe.buls b x } }

/-- PE_BUL_CFG.EN changes: heartbeats of every bulletin start, or all frames stop (R180, R181) (DEDUCED, log entry 71). -/
def State.bulEnable (s : State) (on : Bool) : State :=
  s.each (List.range 32) fun s b =>
    let x := ngetD s.pe.buls b {}
    { s with pe := { s.pe with buls := nset s.pe.buls b { x with idx := none, due := if on then some (s.now + 100000000) else none } } }

/-- A burst or heartbeat frame of bulletin `b` falls due and is sent (R180, R181). -/
def State.bulletinDue (s : State) (b : Nat) : State :=
  match nfind s.pe.buls b with
  | none => s
  | some x =>
    match x.due with
    | none => s
    | some t =>
      if ¬ s.coreRuns then s
      else
        let s := s.until t
        let rows := s.bulRows b
        let on := bitOf (s.get PE_BUL_STATE_ASSERTED) b
        let h := match rows with | e :: _ => e.1 | [] => 65535
        let held := (rows.foldl (fun m e => m ||| e.2.mask) 0) &&&
          ((s.rd PE_TRIPLATCH_LO).toNat + (s.rd PE_TRIPLATCH_HI).toNat * 4294967296)
        let w0 := b2n on + x.count * 65536 + h * 4294967296 + b * 281474976710656 +
          x.td % 1000000000 * 73786976294838206464 + x.td / 1000000000 % 4294967296 * 79228162514264337593543950336
        let lo := (s.rd PE_BUL_DMAC_LO).toNat
        let hi := (s.rd PE_BUL_DMAC_HI).toNat
        let dst := beNat (leBytes 4 lo ++ leBytes 2 hi)
        let cfg := (s.rd PE_BUL_CFG).toNat
        let tag := if cfg % 4096 = 0 then none else some (cfg % 4096 + bitsOf cfg 15 13 * 8192)
        let s := s.mSend dst tag 2 b x.seq 0 [w0, held * 18446744073709551616]
        let next := match x.idx with
          | some i => if i < 9 then (some (i + 1), some (x.at_ + burstDue.getD (i + 1) 0)) else (none, some (t + 100000000))
          | none => (none, some (t + 100000000))
        let x := { x with seq := (x.seq + 1) % 4294967296, idx := next.1, due := next.2 }
        { s with pe := { s.pe with buls := nset s.pe.buls b x } }

/-! ### Subscriptions (R182) -/

/-- Channel mask of subscription `j`. -/
def State.subMask (s : State) (j : Nat) : Nat := (s.rd PE_SUBj_MASK_LO j).toNat + (s.rd PE_SUBj_MASK_HI j).toNat * 4294967296

/-- Subscription `j` asserts its row: by the latest frame's state, or while STALE by STALE_TRIP (R182). -/
def State.subWants (s : State) (j : Nat) : Bool :=
  s.flag PE_SUBj_SRC_EN j && ((s.flag PE_SUBj_STAT_STALE j && s.flag PE_SUBj_SRC_STALE_TRIP j) || (ngetD s.pe.subs j {}).asserted)

/-- A subscription's row follows its state while protection is active; an asserted row sets the latches of its mask (R176,
R182) (DEDUCED, log entry 57). -/
def State.subRow (s : State) (j : Nat) : State :=
  if ¬ s.prot then s
  else
    let on := s.subWants j
    let s := s.setFlag PE_SUBj_STAT_ASSERTED on j
    if on then s.rowLatch (4096 + j) (s.subMask j) s.td0 else s

/-- The rows of every subscription follow as protection becomes active (R176). -/
def State.subRows (s : State) : State := s.each (List.range 32) State.subRow

/-- A received Trip Bulletin updates the subscriptions to its node and bulletin ID (R182) (DEDUCED, log entry 57). -/
def State.bulletinRx (s : State) : State :=
  match s.mTake fun f => f.etype == s.esw.etype && f.kind == 2 with
  | (none, s) => s
  | (some f, s) =>
    let w := f.word 0
    let fl := w % 65536
    s.each (List.range 32) fun s j =>
      let c := (s.rd PE_SUBj_SRC j).toNat
      if ¬ (bitOf c 31 ∧ c % 65536 = f.node ∧ bitsOf c 20 16 = f.streamId ∧ 1 ≤ f.words) then s
      else
        let s := { s with pe := { s.pe with subs := nset s.pe.subs j { asserted := bitOf fl 0 && !(bitOf fl 1), rx := s.now } } }
        let s := (s.setFlag PE_SUBj_STAT_STALE false j).set PE_SUBj_STAT_COUNT (bitsOf w 31 16) j
        s.subRow j

/-- No bulletin frame for 300 ms (R182). -/
def State.subStale (s : State) (j : Nat) : State :=
  let c := (s.rd PE_SUBj_SRC j).toNat
  if ¬ (bitOf c 31 ∧ s.coreRuns) ∨ s.flag PE_SUBj_STAT_STALE j then s
  else
    let s := s.until ((ngetD s.pe.subs j {}).rx + 300000000)
    (s.setFlag PE_SUBj_STAT_STALE true j).subRow j

/-- A change of `PE_SUBj_SRC` (R182): a subscription newly enabled, or pointed at another bulletin, has received no frame
and starts its 300 ms; its row follows (DEDUCED, log entry 57). -/
def State.subSrcWrite (s : State) (j : Nat) (was : Word) : State :=
  let c := (s.rd PE_SUBj_SRC j).toNat
  let s :=
    if bitOf c 31 = bitOf was.toNat 31 ∧ c % 2097152 = was.toNat % 2097152 then s
    else { s.setFlag PE_SUBj_STAT_STALE false j with pe := { s.pe with subs := nset s.pe.subs j { asserted := false, rx := s.now } } }
  s.subRow j

/-! ### Ingest (R154–R158, R162, R164) -/

/-- The state with an ingest handle set. -/
def State.setIng (s : State) (h : Nat) (x : Ing) : State := { s with pe := { s.pe with ings := nset s.pe.ings h x } }

/-- A sample put in its place by time, after those of the same time (DEDUCED, log entry 50). -/
def rsmpIn (x : RSmp) : List RSmp → List RSmp
  | [] => [x]
  | y :: l => if x.t < y.t then x :: y :: l else y :: rsmpIn x l

/-- The grid point nearest a remote sample's instant has been consumed: delivered to a placed instance that reads the value
(R152, R162) (DEDUCED, log entry 50). -/
def State.consumed (s : State) (h i t : Nat) : Bool :=
  s.pe.insts.any fun e => !e.2.unplaced && e.2.inputs.contains (0x8000 + 16 * h + i) &&
    decide ((t + 5000) / 10000 + e.2.delay + 1 ≤ s.peTickNo)

/-- One remote sample for value `i` of handle `h` (R154, R159, R162): `t` its TD0 time, `w` a word with its time as
received, `q` its quality as received (DEDUCED, log entry 50). -/
def State.ingSample (s : State) (h i t w : Nat) (v : Int) (q : Nat) (ok : Bool) : State :=
  match nfind s.pe.ings h with
  | none => s
  | some x =>
    let g := s.td0 / 10000
    if t + 640000 < g * 10000 then s.inc PE_INGh_DROP_STALE 1 h
    else if s.td0 + 1000 < t then s.inc PE_INGh_DROP_FUTURE 1 h
    else
      let late := s.consumed h i t
      let s := if late then (s.inc PE_INGh_LATE_LATE 1 h).count 457 else s
      let q := q % 256 + q / 4096 * 4096 + 512
      let r := x.vals.getD i {}
      let r := { r with smps := rsmpIn { t := t, v := v, q := q, ok := ok, late := late } r.smps,
                        last := some (mwTimed w (mword 0 (0x8000 + 16 * h + i) q v)) }
      let s := s.setIng h { x with vals := x.vals.set i r, idle := 0 }
      s.setFlag PE_INGh_STATUS_STALE false h

/-- A word's TD0 time in ns: the seconds nearest the present time whose low 32 bits the word gives (R18). -/
def State.wordTime (s : State) (w : Nat) : Nat :=
  let now := s.td0 / 1000000000
  let d := signed 32 (bitsOf w 127 96 + 4294967296 - now % 4294967296)
  ((now : Int) + d).toNat * 1000000000 + bitsOf w 95 66

/-- A native frame for one handle (R155). -/
def State.ingNative (s : State) (h : Nat) (x : Ing) (f : EthFrame) : State :=
  if f.words = 0 ∨ f.words % x.nval ≠ 0 then s.inc PE_INGh_DROP_MALFORMED 1 h
  else
    let gap := match x.seq with | some q => decide (f.seqNo ≠ (q + 1) % 4294967296) | none => false
    let s := if gap then s.inc PE_INGh_GAP_GAPS 1 h else s
    let s := s.setIng h { x with seq := some f.seqNo }
    s.each (List.range f.words) fun s k =>
      let w := f.word k
      if bitsOf w 65 64 ≠ 0 then s.inc PE_INGh_DROP_DOMAIN 1 h
      else s.ingSample h (k % x.nval) (s.wordTime w) w (mwValue w) (mwQual w) (mwValid w)

/-- INGEST_NATIVE_FRAME: the first waiting measurement stream frame at port M (R155, R296). -/
def State.ingestNative (s : State) : State :=
  match s.mTake fun f => f.etype == s.esw.etype && f.kind == 1 with
  | (none, s) => s
  | (some f, s) =>
    s.each s.pe.ings fun s (h, x) =>
      if !x.foreign && x.sid == f.streamId && x.node == f.node then s.ingNative h x f else s

/-- A frame matches a template's EtherType and rules (R157). -/
def tmplMatches (t : List Byte) (f : EthFrame) : Bool :=
  let b := f.body.drop 2
  f.etype == leAt t 0 2 && ((List.range (bU8 t 2)).all fun r =>
    let o := 16 + 12 * r
    let ofs := leAt t o 2
    let len := bU8 t (o + 2)
    let m := leAt t (o + 8) 4
    decide (ofs + len ≤ b.length) && (beAt b ofs len &&& m) == (leAt t (o + 4) 4 &&& m))

/-- Octets a value field occupies. -/
def fmtLen (fmt : Nat) : Nat := if fmt % 4 = 0 then 2 else 4

/-- x × 2^e as a rounded Q16.16 integer before saturation, halves away from zero (R158). -/
def scaleQ (x e : Int) : Int :=
  let k := e + 16
  if 0 ≤ k then x * (2 ^ k.toNat : Nat) else roundDivI x (2 ^ (-k).toNat)

/-- The value field at offset `o` (R156, R158) in Q16.16 before saturation, an infinite float32 above every limit; none for
a float32 that is no number. -/
def tmplValue (b : List Byte) (o fmt : Nat) (exp : Int) : Option Int :=
  let n := fmtLen fmt
  let raw := if bitOf fmt 3 then leAt b o n else beAt b o n
  if fmt % 4 = 2 then
    let e := bitsOf raw 30 23
    let m := raw % 8388608
    let v : Int := if e = 0 then m else m + 8388608
    let v := if bitOf raw 31 then -v else v
    if e = 255 then (if m = 0 then some (if bitOf raw 31 then -(2 ^ 40) else 2 ^ 40) else none) else some (scaleQ v ((max 1 e : Nat) - 150 + exp))
  else some (scaleQ (if bitOf fmt 2 then signed (8 * n) raw else raw) exp)

/-- A foreign frame for the handle that matched it (R157, R158). -/
def State.ingForeign (s : State) (h : Nat) (x : Ing) (f : EthFrame) : State :=
  let t := x.tmpl
  let b := f.body.drop 2
  let batch := bU8 t 4
  let stride := leAt t 8 2
  let mode := bU8 t 5
  let tsEnd := leAt t 6 2 + (if mode = 0 then 0 else if mode = 1 then 8 else 10)
  let need := (List.range x.nval).foldl (fun m v => max m (leAt t (64 + 4 * v) 2 + fmtLen (bU8 t (66 + 4 * v)) + (batch - 1) * stride)) tsEnd
  if b.length < need then s.inc PE_INGh_DROP_MALFORMED 1 h
  else
    let o := leAt t 6 2
    let ft : Nat := if mode = 0 then f.rxTd else if mode = 1 then beAt b o 8 else beAt b o 6 * 1000000000 + beAt b (o + 6) 4
    s.each (List.range batch) fun s j =>
      let time := ((ft : Int) - signed 32 (leAt t 12 4) + (j * leAt t 10 2 * 10000 : Nat)).toNat
      s.each (List.range x.nval) fun s v =>
        let (r, s) := match tmplValue b (leAt t (64 + 4 * v) 2 + j * stride) (bU8 t (66 + 4 * v)) (signed 8 (bU8 t (67 + 4 * v))) with
          | some r => (r, s)
          | none => s.freeIn (-(2 ^ 31)) (2 ^ 31 - 1)
        let above := decide (r ≠ sat32 r)
        s.ingSample h v time (mword time 0 0 0) (sat32 r) (1 + 2 * b2n above) true

/-- INGEST_FOREIGN_FRAME: the first waiting foreign frame goes to the lowest matching open handle (R157). -/
def State.ingestForeign (s : State) : State :=
  match s.mTake fun f => f.etype != s.esw.etype with
  | (none, s) => s
  | (some f, s) =>
    match s.pe.ings.find? fun e => e.2.foreign && tmplMatches e.2.tmpl f with
    | none => s
    | some (h, x) => s.ingForeign h x f

/-- No accepted sample for 64 fast ticks (R164). -/
def State.ingestStale (s : State) (h : Nat) : State :=
  match nfind s.pe.ings h with
  | none => s
  | some x => if 64 ≤ x.idle then s.setFlag PE_INGh_STATUS_STALE true h else s

/-! ### The aligner (R159–R163) -/

/-- The sources of an instance that the device samples itself. -/
def isLocal (sid : Nat) : Bool := decide (sid / 4096 ≤ 4)

/-- What a switch failure element sees of channel `n` at grid point `g` (R209): off or tripped, or ON, and for how long. -/
def State.switchSeen (s : State) (n g : Nat) : Nat × Nat × Nat := (g, (s.chan n).swCat, s.now - (s.chan n).swAt)

/-- A channel's part in R209: 1 OFF, TRIPPED, LATCHED or with its PE trip latch set, 2 ON, else 0. -/
def State.switchCat (s : State) (n : Nat) : Nat :=
  let st := (s.chan n).smpState
  if st = chOff ∨ st = chTripped ∨ st = chLatched ∨ s.peLatched n = true then 1 else if st = chOn then 2 else 0

/-- The aligner keeps samples of exactly the local sources, and states of the channels, that instances name. -/
def State.peTrack (s : State) : State :=
  let srcs := s.pe.insts.flatMap fun e => e.2.inputs.filter isLocal
  let chs := (s.pe.insts.filter fun e => e.2.type == 0x000C).map fun e => bU8 e.2.blk 8
  let hist := srcs.foldl (fun m i =>
    if (nfind m i).isSome then m
    else nset m i ((nfind s.pe.hist i).getD (match s.word i with | some w => [(s.wordTime w / 10000, w)] | none => []))) []
  let chst := chs.foldl (fun m n =>
    if (nfind m n).isSome then m else nset m n ((nfind s.pe.chst n).getD [s.switchSeen n s.tbu.grid])) []
  { s with pe := { s.pe with hist := hist, chst := chst } }

/-- Samples of grid point `g` enter the aligner (R137, R159). -/
def State.peSample (s : State) (g : Nat) : State :=
  let hist := nmap (fun i (l : List (Nat × Nat)) =>
    match s.word i with
    | some w => if l.head?.map Prod.snd = some w then l else ((g, w) :: l).take 66
    | none => l) s.pe.hist
  let s := s.each allCh fun s n =>
    let c := s.switchCat n
    if c = (s.chan n).swCat then s else s.modChan n fun x => { x with swCat := c, swAt := s.now }
  let chst := nmap (fun n (l : List (Nat × Nat × Nat)) => (s.switchSeen n g :: l).take 66) s.pe.chst
  { s with pe := { s.pe with hist := hist, chst := chst } }

/-- The newest entry at or before grid index `g`. -/
def entryAt {α : Type} (l : List (Nat × α)) (g : Nat) : Option α := (l.find? fun e => decide (e.1 ≤ g)).map Prod.snd

/-- The quality an aligned remote word takes from a sample: LATE beside its own bits (R161, R162) (DEDUCED, log entry 51). -/
def RSmp.qual (x : RSmp) : Nat := if x.late then setBit x.q 5 true else x.q

/-- The aligned word of a remote value for time `gt` (R161): value and quality (DEDUCED, log entries 50 and 51). -/
def alignRemote (x : Ing) (r : RVal) (gt : Nat) : Int × Nat :=
  let ok := r.smps.filter fun y => y.ok
  let near := ok.filter fun y => decide (y.t ≤ gt + 1000 ∧ gt ≤ y.t + 1000)
  let dist := fun (y : RSmp) => ((y.t : Int) - gt).natAbs
  let best := near.foldl (fun (a : Option RSmp) y => match a with | none => some y | some b => if dist y < dist b then some y else some b) none
  match best with
  | some y => (y.v, y.qual)
  | none =>
    let before := (ok.filter fun y => decide (y.t < gt)).getLast?
    let after := (ok.filter fun y => decide (gt < y.t)).head?
    let missing := if x.missing then (x.subst, 1 + 8 + 512)
      else
        let last := match before with | some y => (y.v, y.qual) | none => (r.hold, r.holdQ)
        (last.1, 128 + 512 + (last.2 &&& (2 + 16 + 32)))
    if x.method then
      match before with
      | some y => if gt ≤ y.t + x.imax * 10000 then (y.v, y.qual) else missing
      | none => missing
    else
      match before, after with
      | some a, some b =>
        if b.t ≤ a.t + x.imax * 10000 then
          let q := 1 + 64 + 512 + ((a.qual ||| b.qual) &&& (2 + 16 + 32))
          (a.v + roundDivI ((b.v - a.v) * (gt - a.t : Nat)) (b.t - a.t), q)
        else missing
      | _, _ => missing

/-- The aligned input of a source for grid index `g` (R150, R160–R163): value and quality. -/
def State.aligned (s : State) (sid g : Nat) : Int × Nat :=
  let kind := sid / 4096
  let idx := sid % 4096
  if kind = 9 then
    match s.inst? (idx % 2048) with
    | none => (0, 0)
    | some x => let w := if idx < 2048 then x.aWord else x.tWord; (mwValue w, mwQual w)
  else if kind = 8 then
    match nfind s.pe.ings (idx / 16) with
    | none => (0, 0)
    | some x =>
      let (v, q) := alignRemote x (x.vals.getD (idx % 16) {}) (g * 10000)
      if s.synced 0 then (v, q) else (v, setBit (setBit q 4 true) 0 false)
  else match entryAt (ngetD s.pe.hist sid []) g with
    | none => (0, 128)
    | some w => (mwValue w, if mwValid w then mwQual w else setBit (mwQual w) 0 false)

/-- A word is usable under an instance's QUAL (R191). -/
def usableQ (q qual : Nat) : Bool :=
  bitOf q 0 && decide (q < 4096) && !(bitOf qual 0 && bitOf q 3) && !(bitOf qual 1 && bitOf q 6) && !(bitOf qual 2 && bitOf q 5)

/-- Windows of the remote values at fast tick `k`: older samples leave, the last VALID value is kept (R159, R161). -/
def State.pruneWindows (s : State) (k : Nat) : State :=
  let lo := (k - 64) * 10000
  { s with pe := { s.pe with ings := nmap (fun _ (x : Ing) =>
      { x with idle := satAdd 64 x.idle 1, vals := x.vals.map fun r =>
          let gone := r.smps.filter fun y => decide (y.t < lo) && y.ok
          { r with smps := r.smps.filter fun y => decide (lo ≤ y.t),
                   hold := match gone.getLast? with | some y => y.v | none => r.hold,
                   holdQ := match gone.getLast? with | some y => y.qual | none => r.holdQ } }) s.pe.ings } }

/-! ### Fast ticks (R148–R153, R171, R191–R193) -/

/-- The instance runs at fast tick `k` (R149). -/
def Inst.scheduled (x : Inst) (k : Nat) : Bool :=
  x.cls == 0 || (x.cls == 1 && k % 10 == x.slot) || (x.cls == 2 && k % 100 == x.slot)

/-- The instance runs at all: placed, not disabled, not awaiting a reflow. -/
def State.instRuns (s : State) (x : Inst) : Bool :=
  !x.unplaced && !x.disabled && decide (x.stops < 3) && !(x.await && s.pe.reflow)

/-- What one copy's run gives: none for a blocked run; stopped runs are marked. -/
inductive CopyRun where
  | blocked
  | stopped
  | ran (trip start : Bool) (ana : Int) (st : ElSt)
  deriving DecidableEq, Repr

/-- The context record of a user element on pair `p` with its state in bank `b` (R215). -/
def userCtx (x : Inst) (p b : Nat) : List Byte :=
  ((List.range 4).flatMap fun i => leBytes 4 (Config.userArea p b i).toNat) ++ leBytes 1 x.nin ++ leBytes 1 x.cls ++ leBytes 2 x.blk.length ++ leBytes 4 (classPeriod x.cls) ++ leBytes 8 0

/-- The initial state of a user element (R213). -/
def State.userState (s : State) (x : Inst) (c : Copy) : List Byte :=
  let im := ngetD s.pe.users x.type []
  if leAt im 32 4 = 4294967295 then List.replicate x.size 0 else padTo x.size (Config.userInit im (userCtx x c.pair c.bank) x.blk)

/-- The free-value tolerance of R194: within 10⁻⁵ of the exact value. -/
def tolAt (free k : Nat) (v : Int) : Int :=
  let w := (v.natAbs : Int) / 100000
  v + clampI (-w) w (Config.freeInt (free + k))

/-- One run of one copy on inputs aligned to grid index `g` (R191, R215). -/
def State.runCopy (s : State) (x : Inst) (c : Copy) (ins : List (Int × Nat)) (g : Nat) : CopyRun × State :=
  if !(ins.all fun e => usableQ e.2 (bU8 x.blk 1)) then (.blocked, s)
  else
  let s := s.count (392 + c.pair)
  if x.type < 0x8000 then
    let chst := (entryAt (ngetD s.pe.chst (bU8 x.blk 8) []) g).getD (0, 0)
    let r := elemRun x.type x.blk (tolAt s.free) (Config.freeInt (s.free + 3)) (classPeriod x.cls) c.st (ins.map Prod.fst) chst
    (.ran r.trip r.start r.ana r.st, { s with free := s.free + 4 })
  else
    let im := ngetD s.pe.users x.type []
    let words := (List.range ins.length).flatMap fun i =>
      leBytes 16 (mword (g * 10000) (x.inputs.getD i 0) (ins.getD i (0, 0)).2 (ins.getD i (0, 0)).1)
    let st := if c.st.begun then c.st.user else s.userState x c
    match Config.userRun im (userCtx x c.pair c.bank) words x.blk st with
    | none => (.stopped, s)
    | some (out, st') =>
      (.ran (bitOf (byteAt out 4) 0) (bitOf (byteAt out 4) 1) (fxOfQ (signed 32 (leAt out 0 4)))
        { c.st with begun := true, user := padTo x.size st' }, s)

/-- The pending parameters, initial state or survivor's state that a run takes up first (R172, R184, R196). -/
def Inst.prepare (x : Inst) (busy : Bool) : Inst :=
  let x := match x.pend with | some b => { x with blk := b, pend := none } | none => x
  let x := if x.renew then
    { x with renew := false, a := x.a.map fun c => { c with st := {}, trip := false }, b := x.b.map fun c => { c with st := {}, trip := false } }
    else x
  match x.fresh && !busy, x.a, x.b with
  | true, some a, some b => { x with b := some { b with st := a.st, trip := a.trip }, fresh := false, degraded := false }
  | _, _, _ => x

/-- A copy after its run, and its trip output. -/
def Copy.after (c : Copy) (r : CopyRun) (invalidTrip : Bool) : Copy :=
  match r with
  | .blocked => if invalidTrip then { c with trip := true } else c
  | .stopped => c
  | .ran t _ _ st => { c with st := st, trip := t }

/-- The end of a run of instance `h` at tick `k`: outputs, vote, START, and every stopped copy counted on its own pair
(R151, R171, R191–R193). -/
def State.commitRun (s : State) (h k : Nat) (x : Inst) (ra rb : Option CopyRun) : State :=
  let inv := bU8 x.blk 0 == 1
  let x := { x with a := match x.a, ra with | some c, some r => some (c.after r inv) | c, _ => c
                    b := match x.b, rb with | some c, some r => some (c.after r inv) | c, _ => c }
  let ta := match x.a with | some c => c.trip | none => false
  let tb := match x.b with | some c => c.trip | none => false
  let voted := if ra.isSome && rb.isSome then (if x.vote then ta && tb else ta || tb) else if ra.isSome then ta else tb
  let stop := fun (c : Option Copy) (r : Option CopyRun) => match c, r with | some c, some .stopped => [c.pair] | _, _ => []
  let stops := stop x.a ra ++ stop x.b rb
  let main := match ra with | some r => some r | none => rb
  let td := (k - 1 - x.delay) * 10000
  let (start, aw) := match main with
    | some (.ran _ st an _) =>
      let v := fxToQ an
      (st, mword td (0x9000 + h) (1 + 768 + 2 * b2n (decide (v ≠ sat32 v))) (sat32 v))
    | some .stopped => (x.start, x.aWord)
    | _ => (false, mword td (0x9000 + h) (128 + 768) (mwValue x.aWord))
  let s := s.each stops fun s p => (s.inc PE_EPp_OVERRUN_COUNT 1 p).report (0x105 + 8 * p)
  s.setInst h { x with start := start, aWord := aw, tWord := mword td (0x9800 + h) (1 + 768) (if voted then 65536 else 0),
                       stops := if stops.isEmpty then 0 else x.stops + 1, await := false, trip := voted }

/-- The trip outputs of the two copies of a dual instance are compared at the end of the fast tick (R171)
(DEDUCED, log entry 110). -/
def State.compareCopies (s : State) : State :=
  s.each s.pe.insts fun s (h, x) =>
    match x.a, x.b with
    | some a, some b =>
      if s.instRuns x && !x.fresh && a.trip != b.trip then
        (s.report (0x106 + 8 * a.pair)).setInst h { x with disagree := true, disCount := min 65535 (x.disCount + 1) }
      else s.setInst h { x with disagree := false }
    | _, _ => s.setInst h { x with disagree := false }

/-- Cycles that the runs of a pair take at tick `k` up to and with instance `h` (R148, R149). -/
def State.cyclesTo (s : State) (k p h : Nat) (x : Inst) : Nat :=
  (s.pe.insts.filter fun e => e.2.scheduled k && s.instRuns e.2 && (e.2.copyOn p).isSome &&
    (decide (e.2.cls < x.cls) || (e.2.cls == x.cls && decide (e.1 ≤ h)))).foldl (fun n e => n + e.2.cost) 0

/-- A copy's trip output. -/
def copyTrip (c : Option Copy) : Bool := match c with | some c => c.trip | none => false

/-- The instances' rows by handle: the row, copy A's and copy B's trip output. -/
def State.rowsOn (s : State) : NMap (Bool × Bool × Bool) :=
  s.pe.insts.map fun e => (e.1, e.2.trip, copyTrip e.2.a, copyTrip e.2.b)

/-- The TD0 time at which the row of instance `h` changes at tick `k` (R148, R149, R153, R171, R179): the copy that decides it
writes its trip output in the execution window; a FAILSAFE output changes now. -/
def State.rowTime (s : State) (k h : Nat) (x : Inst) (was : Bool × Bool × Bool) : Nat :=
  let one := fun (c : Option Copy) (w : Bool) => match c with
    | some c => if c.trip = w then [] else [k * 10000 + 1000 + ceilDiv (s.cyclesTo k c.pair h x * 10) 12]
    | none => []
  let ts := if x.unplaced || x.disabled || x.await then [] else one x.a was.2.1 ++ one x.b was.2.2
  match ts with
  | [] => s.td0
  | t :: l => l.foldl (fun a t => if x.trip != x.vote then min a t else max a t) t

/-- The rows follow the instances' outputs, FAILSAFE where no run gives them (R179), and newly asserted rows set their
latches (R153, R176, R177) (DEDUCED, log entry 54). `was` is the rows before; the rows that have changed, with their times. -/
def State.rowsFollow (s : State) (k : Nat) (was : NMap (Bool × Bool × Bool)) : NMap Nat × State :=
  let s := s.each s.pe.insts fun s (h, x) =>
    if x.unplaced || x.disabled || x.await then
      let t := x.failsafeTrip
      s.setInst h { x with trip := t, tWord := mword (mwNs x.tWord) (0x9800 + h) (1 + 8 + 768) (if t then 65536 else 0) }
    else s
  let chg := s.pe.insts.filterMap fun (h, x) =>
    let w := ngetD was h (false, false, false)
    if x.trip = w.1 then none else some (h, s.rowTime k h x w)
  let s := s.each s.pe.insts fun s (h, x) =>
    if !x.trip then s
    else match nfind chg h with
      | some t => let (e, s) := s.freeIn 0 500; s.rowLatch h x.mask (t + e.toNat)
      | none => s.rowLatch h x.mask s.td0
  (chg, s)

/-- The end of fast tick `k`: rows, AUTO_RESET (R178), bulletins (R181). -/
def State.applyRows (s : State) (k : Nat) (was : NMap (Bool × Bool × Bool)) : State :=
  let (chg, s) := s.rowsFollow k was
  (s.autoReset).bulRefresh chg

/-- The runs of fast tick `k`, every input as at the end of the tick before, and the comparison of copies (R150, R171). -/
def State.peRuns (s : State) (k : Nat) : State :=
  let old := s
  let busy := s.peBusy
  let s := s.each old.pe.insts fun s (h, x0) =>
    if !(x0.scheduled k && old.instRuns x0) then s
    else
      let x := x0.prepare busy
      let g := k - 1 - x.delay
      let ins := x.inputs.map fun i => old.aligned i g
      let (ra, s) := match x.a with | some c => (let (r, s) := s.runCopy x c ins g; (some r, s)) | none => (none, s)
      let (rb, s) := match x.b with
        | some c => if x.fresh then (none, s) else (let (r, s) := s.runCopy x c ins g; (some r, s))
        | none => (none, s)
      if ra.isNone && rb.isNone then s else s.commitRun h k x ra rb
  s.compareCopies

/-- The rows that set a latch, once instance `h` has been removed: a new instance of that handle has not set it. -/
def rowsWithout (h : Nat) (l : List Nat) : List Nat := l.map fun r => if r = h then 8192 else r

/-- An instance is removed (R184): its row deasserts, latches it set stay set. -/
def State.removeInst (s : State) (h : Nat) : State :=
  ({ s with pe := { s.pe with
    insts := nerase s.pe.insts h
    setBy := nmap (fun _ l => rowsWithout h l) s.pe.setBy
    cleared := nmap (fun _ (e : Nat × Nat × List Nat) => (e.1, e.2.1, rowsWithout h e.2.2)) s.pe.cleared } }).bumpGen.peTrack

/-- ELEM_DELETE takes effect at this fast-tick boundary (R184, R239), unless a placement in progress or a mode being prepared
holds it (R175, R269). -/
def State.deletesDue (s : State) : State :=
  if s.peBusy || s.cfg.preparing.isSome then s
  else s.each (s.sf.cmds.filter fun c => c.stage == .started && c.desc.opcode.toNat == 0x0403) fun s c =>
    if c.late s.effectNs then s.finish c.seq (stDeadlineMissed, none)
    else if (s.inst? c.tgt).isNone then s.finish c.seq (stAborted, none)
    else (s.removeInst c.tgt).complete c.seq stOk 0

/-- FAST_TICK (R148): the tick of the grid point just taken. -/
def State.fastTick (s : State) : State :=
  let k := s.tbu.grid
  if ¬ s.atGrid ∨ s.peTickNo = k then s
  else
    let s := (s.wr PE_TICK_LO (w32 k)).wr PE_TICK_HI (w32 (k / 4294967296))
    let s := (s.pruneWindows k).deletesDue
    if ¬ s.prot then s
    else
      let was := s.rowsOn
      (s.peRuns k).applyRows k was

/-- Rows outside a fast tick: a reflow or disabling applies FAILSAFE at once (R179). -/
def State.rowsNow (s : State) (was : NMap (Bool × Bool × Bool)) : State :=
  if s.prot then (let (chg, s) := s.rowsFollow s.tbu.grid was; s.bulRefresh chg) else s

/-- Three consecutive stopped runs disable a user instance (R151). -/
def State.userDisabled (s : State) (h : Nat) : State :=
  match s.inst? h with
  | none => s
  | some x =>
    if x.disabled || decide (x.stops < 3) then s
    else let was := s.rowsOn; (s.setInst h { x with disabled := true }).rowsNow was

/-- A pair leaves service: its copies stop, its instances are re-placed, and it carries none until the next full placement
(R172–R174). -/
def State.pairLeaves (s : State) (p : Nat) : State :=
  let was := s.rowsOn
  let s := { s with pe := { s.pe with empty := setBit s.pe.empty p true } }
  (s.reflow p).rowsNow was

/-! ### Views of PE registers (R187) -/

/-- `PE_STATUS`. -/
def State.peStatus (s : State) : Word :=
  let m := fun (f : Nat → Bool) => maskOf ((List.range 8).filter f)
  w32 (m s.epInService + m (fun p => inR (s.get FCU_PENn_STATUS_STATE (9 + p)) 1 2) * 256 + (s.pe.draining % 256) * 65536 + b2n s.peBusy * 16777216 +
    b2n (s.pe.insts.any fun e => e.2.unplaced) * 33554432)

/-- `PE_EPp_LOAD`. -/
def State.peLoad (s : State) (p : Nat) : Word :=
  let u := (pairUses s.pe.insts).getD p {}
  w32 (u.peak % 65536 + min 1024 u.words.length * 65536)

end Sys2Proof.Machine
end

