-- ==== Sys2Proof/Machine/CmdPe.lean ====
section
/-! DEFINITION. The protection and measurement commands (chapters 03–05): MEAS_READ, elements, placement, trips, ingest and
user elements. -/

namespace Sys2Proof.Machine

/-! ### MEAS_READ (R138) -/

/-- The resource whose owner may read a source. -/
def srcOwn (sid : Nat) : Option (Nat × Nat) :=
  match sid / 4096 with
  | 0 | 1 => if sid % 4096 < 64 then some (0, sid % 4096) else none
  | 8 => if sid % 4096 < 2048 then some (4, sid % 4096 / 16) else none
  | 9 => some (3, sid % 2048)
  | _ => none

/-- A source of MEAS_READ that the device knows, and whether an owner decides its access. -/
def readKnown (sid : Nat) : Bool := localSource sid || (srcOwn sid).isSome

/-- The word MEAS_READ gives: nothing where the source is not in use; a word not yet made is a free value. -/
def State.readWord (s : State) (sid : Nat) : Option (Option Nat) :=
  match sid / 4096 with
  | 8 =>
    match nfind s.pe.ings (sid % 4096 / 16) with
    | none => none
    | some x => if sid % 16 < x.nval then some ((x.vals.getD (sid % 16) {}).last) else none
  | 9 => (s.inst? (sid % 2048)).map fun x => some (if sid % 4096 < 2048 then x.aWord else x.tWord)
  | 3 => if s.get PDA_AINj_CFG_MODE (sid % 4096) % 3 = 0 then none else some (s.word sid)
  | _ => some (s.word sid)

def specMeasRead : OpSpec where
  code := 0x0302
  own c := srcOwn c.tgt
  check s c :=
    let foreign := match srcOwn c.tgt with | some (k, i) => s.owner k i != c.fn | none => false
    let pre := orErr (firstErr [(!(readKnown c.tgt), bad stBadParam), (foreign, bad stNotOwner)])
      (orErr (strayErr [(0, 8)] c) (firstErr [((s.readWord c.tgt).isNone, bad stBadParam)]))
    s.thenXlate c pre (c.p 0 8 == 0) (c.p 0 8) 16 true 0
  run s c :=
    match s.readWord c.tgt with
    | none => s.finish c.seq (bad stBadParam)
    | some w =>
      let (w, s) := match w with | some w => (w, s) | none => (let (b, s) := s.freeBytes 16; (leNat b, s))
      let (e, s) := if c.p 0 8 = 0 then (none, s) else s.writeRecord c (c.p 0 8) (leBytes 16 w)
      s.finish c.seq (e.getD (stOk, some (w % 18446744073709551616)))

/-! ### Element instances (R183, R184, R188–R190, R213, R215) -/

/-- A handle that a source names belongs to function `fn`: ingest and element handles. -/
def State.srcOwned (s : State) (fn sid : Nat) : Bool :=
  match sid / 4096 with
  | 8 => decide (2048 ≤ sid % 4096) || s.owner 4 (sid % 4096 / 16) == fn
  | 9 => s.owner 3 (sid % 2048) == fn
  | _ => true

/-- A source that exists for instance `h` (R154, R183). -/
def State.srcKnown (s : State) (h sid : Nat) : Bool :=
  match sid / 4096 with
  | 8 => (match nfind s.pe.ings (sid % 4096 / 16) with | some x => decide (sid % 4096 < 2048 ∧ sid % 16 < x.nval) | none => false)
  | 9 => sid % 2048 != h && (s.inst? (sid % 2048)).isSome
  | _ => localSource sid

/-- A parameter block checked for an instance: the instance with cost, state size and inputs (R188–R190, R203, R209, R213,
R215). A refusal is BAD_PARAM, or NOT_OWNER for a terminal of another's handle. -/
def State.elemBlock (s : State) (fn h : Nat) (x : Inst) (ins : List Nat) (blk : List Byte) : Except Res Inst :=
  if x.type < 0x8000 then
    -- whose the terminals are is step 4 of R243, before the block's other fields
    if !((elemExt x.type blk).all (s.srcOwned fn)) then .error (bad stNotOwner)
    else match elemCheck x.type x.cls x.nin blk with
    | none => .error (bad stBadParam)
    | some u =>
      let ch := bU8 blk 8
      if !(u.ext.all (s.srcKnown h)) then .error (bad stBadParam)
      else if x.type = 0x000C ∧ (ins.head? ≠ some ch ∨ s.owner 0 ch ≠ fn) then .error (bad stBadParam)
      else .ok (s.instTiming { x with cost := u.cost, size := u.size, inputs := ins ++ u.ext })
  else
    match nfind s.pe.users x.type with
    | none => .error (bad stBadParam)
    | some im =>
      let ok := bitOf (bU8 im 8) x.cls && inR x.nin (bU8 im 9) (bU8 im 10) && inR blk.length 8 (bU16 im 22) && headerOk blk
      if ok && Config.userCheck im (userCtx { x with blk := blk } 8 0) blk then
        .ok (s.instTiming { x with cost := bU16 im 16 + bU16 im 18 * x.nin, size := bU16 im 20, inputs := ins })
      else .error (bad stBadParam)

/-- The instance that ELEM_CREATE parameters describe for handle `h` of function `fn`, before its block is read. -/
def instOf (p : List Byte) : Inst :=
  let f := bU8 p 2
  let bul := bU8 p 32
  { type := bU16 p 0, cls := f % 4, dual := bitOf f 2, vote := bitOf f 3, failsafe := bitOf f 4, auto := bitOf f 5,
    report := bitOf f 6, nin := bU8 p 3, resp := bU32 p 4, mask := leAt p 24 8,
    bulletin := if bul < 32 then some bul else none }

/-- The input sources of ELEM_CREATE parameters. -/
def instInputs (p : List Byte) : List Nat := (List.range (min 8 (bU8 p 3))).map fun i => bU16 p (8 + 2 * i)

/-- The parameter bytes that R183 names: of bytes 8–23, those of the inputs; bytes 33–35 are named as zero. -/
def elemNamed (p : List Byte) : List (Nat × Nat) := [(0, 8), (8, 2 * min 8 (bU8 p 3)), (24, 9), (36, 12)]

/-- The checks of ELEM_CREATE parameters before the block (R183): ownership, the zero bytes of R24, then fields. -/
def State.elemFields (s : State) (fn h : Nat) (p : List Byte) : Option Res :=
  let bul := bU8 p 32
  let nin := bU8 p 3
  firstErr
    [((bitList 64 (leAt p 24 8)).any fun n => s.owner 0 n != fn, bad stNotOwner),
     (decide (bul < 32) && s.owner 5 bul != fn, bad stNotOwner),
     (!((instInputs p).all (s.srcOwned fn)), bad stNotOwner),
     ((strayByte (elemNamed p) p).isSome, (stBadParam, strayByte (elemNamed p) p)),
     (decide (8 < nin), bad stBadParam),
     (bU8 p 2 % 4 == 3 || bitOf (bU8 p 2) 7, bad stBadParam),
     (decide (32 ≤ bul) && bul != 255, bad stBadParam),
     (!((instInputs p).all (s.srcKnown h)), bad stBadParam)]

/-- A checked instance is placed and installed under handle `h` (R168–R170). -/
def State.elemInstall (s : State) (h : Nat) (x : Inst) : Except (Option Nat) State :=
  match placeOne s.peK s.pe.insts x s.epCands with
  | .error r => .error r
  | .ok y =>
    let y := { y with aWord := mword 0 (0x9000 + h) (128 + 768) 0, tWord := mword 0 (0x9800 + h) (1 + 768) 0 }
    .ok ((s.setInst h y).bumpGen.peTrack)

/-- The block of a command: read at its address; none for a length no element has. -/
def State.readBlock (s : State) (c : Cmd) (a n : Nat) : Except Res (List Byte) × State :=
  if 4096 < n then (.error (bad stBadParam), s)
  else match s.fnRead c.fn a n with
    | (.ok b, s) => (.ok b, s)
    | (.error _, s) => (.error (bad stHwFault), s)

/-- ELEM_CREATE's instance, from its parameters and its block in memory. -/
def State.createInst (s : State) (c : Cmd) : Except Res Inst × State :=
  match s.readBlock c (c.p 40 8) (c.p 36 4) with
  | (.error e, s) => (.error e, s)
  | (.ok blk, s) => (s.elemBlock c.fn c.tgt { instOf c.desc.params with blk := blk } (instInputs c.desc.params) blk, s)

/-- The request error of a parse, if it is one of class 0x01 (DEDUCED, log entry 55). -/
def parseErr {α : Type} : Except Res α → Option Res
  | .ok _ => none
  | .error e => if e.1 = stHwFault then none else some e

def specElemCreate : OpSpec where
  code := 0x0401
  own c := some (3, c.tgt)
  check s c :=
    let pre := orErr (firstErr [(s.notOwner c 3 c.tgt, bad stNotOwner)])
      (orErr (s.elemFields c.fn c.tgt c.desc.params) (firstErr [outOfRange c 2048]))
    let (s, e) := s.thenXlate c pre (c.p 36 4 > 4096) (c.p 40 8) (c.p 36 4) false 40
    match e with
    | some e => (s, some e)
    | none => let (r, s) := s.createInst c; (s, parseErr r)
  run s c :=
    if s.peBusy then s.setStage c.seq .held
    else match s.createInst c with
      | (.error e, s) => s.finish c.seq e
      | (.ok x, s) =>
        match s.elemInstall c.tgt x with
        | .error r => s.finish c.seq (stInfeasible, r)
        | .ok t =>
          if (s.inst? c.tgt).isSome then s.finish c.seq (bad stAborted)
          else t.complete c.seq stOk (match t.inst? c.tgt with | some y => y.summary | none => 0)

/-- ELEM_PARAM's instance with its new block (R184, R196) (DEDUCED, log entry 59). -/
def State.paramInst (s : State) (c : Cmd) (x : Inst) : Except Res Inst × State :=
  match s.readBlock c (c.p 0 8) (c.p 8 4) with
  | (.error e, s) => (.error e, s)
  | (.ok blk, s) =>
    match s.elemBlock c.fn c.tgt x (x.inputs.take x.nin) blk with
    | .error e => (.error e, s)
    | .ok y => (.ok { y with pend := some blk, renew := x.renew || elemRenews x.type (x.pend.getD x.blk) blk }, s)

/-- The banks of an instance's copies where its new cost, inputs and state fit at its pairs and slot (R184)
(DEDUCED, log entry 59). -/
def State.refit (s : State) (h : Nat) (x : Inst) : Except (Option Nat) Inst :=
  let us := pairUses (nerase s.pe.insts h)
  let fit := fun (c : Copy) =>
    match rankCands s.peK us x [c.pair] [x.slot] with
    | .error r => Except.error r
    | .ok _ =>
      let u := us.getD c.pair {}
      .ok (if u.banks.getD (c.bank - 2) 0 + x.size ≤ 16384 then c else { c with bank := bankFor u x.size })
  let one := fun (c : Option Copy) => match c with | none => Except.ok none | some c => (fit c).map some
  match one x.a with
  | .error r => .error r
  | .ok a => match one x.b with
    | .error r => .error r
    | .ok b => .ok { x with a := a, b := b }

def specElemParam : OpSpec where
  code := 0x0402
  atomic := true
  own c := some (3, c.tgt)
  check s c :=
    let pre := orErr (firstErr [(s.notOwner c 3 c.tgt, bad stNotOwner), outOfRange c 2048]) (strayErr [(0, 12)] c)
    let (s, e) := s.thenXlate c pre (c.p 8 4 > 4096) (c.p 0 8) (c.p 8 4) false 0
    match e, s.inst? c.tgt with
    | some e, _ => (s, some e)
    | none, none => (s, if 4096 < c.p 8 4 then some (bad stBadParam) else none)
    | none, some x => let (r, s) := s.paramInst c x; (s, parseErr r)
  outcome s c :=
    match s.inst? c.tgt with
    | none => some (bad stAborted)
    | some x =>
      match (s.paramInst c x).1 with
      | .error e => some e
      | .ok y => (match s.refit c.tgt y with | .error r => some (stInfeasible, r) | .ok _ => none)
  run s c :=
    if s.peBusy && !c.desc.atomic then s.setStage c.seq .held
    else match s.inst? c.tgt with
      | none => s.finish c.seq (bad stAborted)
      | some x =>
        match s.paramInst c x with
        | (.error e, s) => s.finish c.seq e
        | (.ok y, s) =>
          match s.refit c.tgt y with
          | .error r => s.finish c.seq (stInfeasible, r)
          | .ok z =>
            let moved := decide (z.a.map Copy.bank ≠ x.a.map Copy.bank ∨ z.b.map Copy.bank ≠ x.b.map Copy.bank)
            let s := (s.setInst c.tgt z).peTrack
            (if moved then s.bumpGen else s).complete c.seq stOk z.summary

def specElemDelete : OpSpec where
  code := 0x0403
  waits := true
  own c := some (3, c.tgt)
  check s c := checks s c [(s.notOwner c 3 c.tgt, bad stNotOwner), outOfRange c 2048] [] []
  run s c :=
    if s.peBusy then s.setStage c.seq .held
    else if (s.inst? c.tgt).isNone then s.finish c.seq (bad stAborted)
    else s.setStage c.seq .started

def specElemStatus : OpSpec where
  code := 0x0404
  own c := some (3, c.tgt)
  check s c := checks s c [(s.notOwner c 3 c.tgt, bad stNotOwner), outOfRange c 2048] [] []
  run s c :=
    match s.inst? c.tgt with
    | none => s.finish c.seq (bad stAborted)
    | some x =>
      s.complete c.seq stOk (b2n x.trip + 2 * b2n x.start + 4 * b2n x.degraded + 8 * b2n x.unplaced + 16 * b2n x.disabled +
        32 * b2n x.disagree + x.disCount * 65536 + unsignedOf 32 (mwValue x.aWord) * 4294967296)

/-- The buffer of PLACEMENT_READ for every instance (R186). -/
def State.placementBuffer (s : State) : List Byte :=
  let us := pairUses s.pe.insts
  leBytes 4 (s.get PE_PLACE_GEN_GEN) ++ leBytes 2 s.pe.insts.length ++ leBytes 2 (maskOf s.epPairs) ++ leBytes 4 s.peK ++
    leBytes 4 0 ++
    (us.flatMap fun u =>
      leBytes 4 u.peak ++ leBytes 2 u.words.length ++ leBytes 2 0 ++ (u.banks.flatMap fun b => leBytes 2 (16384 - b)) ++
        List.replicate 12 0) ++
    (s.pe.insts.flatMap fun e => leBytes 2 e.1 ++ leBytes 2 e.2.type ++ leBytes 4 e.2.cost ++ leBytes 8 e.2.summary)

def specPlacementRead : OpSpec where
  code := 0x0405
  own c := if c.tgt = 0xFFFF then none else some (3, c.tgt)
  check s c :=
    if c.tgt = 0xFFFF then
      let need := 272 + 16 * s.pe.insts.length
      let pre := orErr (strayErr [(0, 12)] c) (firstErr [(decide (c.p 8 4 < need), (stBadParam, some need))])
      s.thenXlate c pre false (c.p 0 8) need true 0
    else checks s c [(s.notOwner c 3 c.tgt, bad stNotOwner), outOfRange c 2048] [] []
  run s c :=
    if c.tgt = 0xFFFF then
      let b := s.placementBuffer
      match s.writeRecord c (c.p 0 8) b with
      | (some r, s) => s.finish c.seq r
      | (none, s) => s.complete c.seq stOk b.length
    else match s.inst? c.tgt with
      | none => s.finish c.seq (bad stAborted)
      | some x => s.complete c.seq stOk x.summary

def specTripReset : OpSpec where
  code := 0x0406
  atomic := true
  own c := if c.tgt < 64 then some (0, c.tgt) else none
  check s c :=
    checks s c [(decide (64 ≤ c.tgt) && c.tgt != 0xFFFF, bad stBadParam),
      (c.tgt != 0xFFFF && s.notOwner c 0 c.tgt, bad stNotOwner)] [] []
  run s c :=
    let mask := if c.tgt = 0xFFFF then maskOf (allCh.filter fun n => s.owner 0 n == c.fn) else 2 ^ c.tgt
    let (left, s) := s.tripReset mask
    s.complete c.seq stOk left

/-! ### Ingest handles (R156, R184, R185) -/

/-- A template record is valid (R156); `etype` is the device EtherType. -/
def tmplOk (etype : Nat) (t : List Byte) : Bool :=
  let nm := bU8 t 2
  let nv := bU8 t 3
  let one := bU8 t 4 == 1
  bU16 t 0 != etype && inR nm 0 4 && inR nv 1 16 && inR (bU8 t 4) 1 8 && inR (bU8 t 5) 0 2 &&
    (bU8 t 5 != 0 || bU16 t 6 == 0) && (!one || (bU16 t 8 == 0 && bU16 t 10 == 0)) &&
    ((List.range 4).all fun r =>
      if r < nm then inR (bU8 t (18 + 12 * r)) 1 4 && bU8 t (19 + 12 * r) == 0 else zeroB t (16 + 12 * r) 12) &&
    ((List.range 16).all fun v =>
      if v < nv then bU8 t (66 + 4 * v) % 4 != 3 && decide (bU8 t (66 + 4 * v) < 16) else zeroB t (64 + 4 * v) 4)

/-- The parameter bytes that R185 names, and does not name as zero, in the form that bit 0 of byte 0 selects. -/
def ingNamed (p : List Byte) : List (Nat × Nat) :=
  if bitOf (bU8 p 0) 0 then [(0, 1), (2, 2), (12, 4), (16, 8)] else [(0, 10), (12, 4)]

/-- INGEST_OPEN's fields lie in their ranges (R185); the template aside. -/
def ingFieldsOk (p : List Byte) : Bool :=
  let foreign := bitOf (bU8 p 0) 0
  decide (bU8 p 0 < 4) && decide (bU8 p 1 < 16) && decide (bU8 p 2 ≤ 50) && decide (bU8 p 3 < 128) &&
    decide (bU8 p 2 + bU8 p 3 % 64 ≤ 63) && zeroB p 10 2 && zeroB p 24 24 &&
    (if foreign then bU8 p 1 == 0 && zeroB p 4 6 else zeroB p 16 8)

/-- The handle that INGEST_OPEN parameters open. -/
def ingOf (p tmpl : List Byte) : Ing :=
  let foreign := bitOf (bU8 p 0) 0
  let n := if foreign then bU8 tmpl 3 else bU8 p 1 + 1
  { foreign := foreign, missing := bitOf (bU8 p 0) 1, nval := n, lat := bU8 p 2, imax := bU8 p 3 % 64,
    method := bitOf (bU8 p 3) 6, sid := bU32 p 4, node := bU16 p 8, subst := bS32 p 12, tmpl := if foreign then tmpl else [],
    vals := List.replicate n {} }

/-- A handle is opened. -/
def State.ingOpen (s : State) (h : Nat) (x : Ing) : State :=
  (s.setIng h x).wr PE_INGh_STATUS (w32 (1 + 2 * b2n x.foreign)) h

/-- The lowest instance that uses a value of ingest handle `h`. -/
def State.ingUser (s : State) (h : Nat) : Option Nat :=
  (s.pe.insts.find? fun e => e.2.inputs.any fun i => i / 4096 == 8 && i % 4096 / 16 == h).map Prod.fst

def specIngestOpen : OpSpec where
  code := 0x0407
  own c := some (4, c.tgt)
  check s c :=
    let foreign := bitOf (c.p 0 1) 0
    let pre := orErr (firstErr [(s.notOwner c 4 c.tgt, bad stNotOwner), outOfRange c 128])
      (orErr (strayErr (ingNamed c.desc.params) c) (firstErr [(!(ingFieldsOk c.desc.params), bad stBadParam)]))
    let (s, e) := s.thenXlate c pre (!foreign) (c.p 16 8) 128 false 16
    match e with
    | some e => (s, some e)
    | none =>
      if foreign then
        match s.fnRead c.fn (c.p 16 8) 128 with
        | (.ok t, s) => (s, if tmplOk s.esw.etype t then none else some (bad stBadParam))
        | (.error _, s) => (s, none)
      else (s, none)
  outcome s c := if (nfind s.pe.ings c.tgt).isSome then some (bad stAborted) else none
  run s c :=
    let (t, s) := if bitOf (c.p 0 1) 0 then s.fnRead c.fn (c.p 16 8) 128 else (.ok [], s)
    match t with
    | .error _ => s.finish c.seq (bad stHwFault)
    | .ok t => (s.ingOpen c.tgt (ingOf c.desc.params t)).complete c.seq stOk (0x8000 + 16 * c.tgt)

def specIngestClose : OpSpec where
  code := 0x0408
  own c := some (4, c.tgt)
  check s c := checks s c [(s.notOwner c 4 c.tgt, bad stNotOwner), outOfRange c 128] [] []
  outcome s c :=
    if (nfind s.pe.ings c.tgt).isNone then some (bad stAborted)
    else (s.ingUser c.tgt).map fun h => (stAborted, some h)
  run s c :=
    let s := { s with pe := { s.pe with ings := nerase s.pe.ings c.tgt } }
    (s.wr PE_INGh_STATUS 0 c.tgt).finish c.seq (stOk, none)

/-! ### PLACEMENT_REBALANCE (R168, R184) -/

def specPlacementRebalance : OpSpec where
  code := 0x0409
  long := true
  check s c := checks s c [(c.fn != 0, bad stNotOwner), (c.tgt != 0, bad stBadParam)] [] []
  run s c :=
    if s.peBusy then s.setStage c.seq .held
    else
      let s := s.accept c.seq
      { s with pe := { s.pe with rebal := some c.seq } }

/-- The full placement of a PLACEMENT_REBALANCE comes into force, or fails with no instance moved (R173, R184). -/
def State.rebalanceDone (s : State) : State :=
  match s.pe.rebal with
  | none => s
  | some k =>
    let s := { s with pe := { s.pe with rebal := none } }
    match s.fullPlace with
    | .ok s => s.complete k stOk (s.get PE_PLACE_GEN_GEN)
    | .error r => s.placeRetry.finish k (stInfeasible, r)

/-! ### User elements (R212–R216) -/

/-- A user element image has its format (R213); `n` is its length (DEDUCED, log entry 61). -/
def userFormatOk (im : List Byte) (n : Nat) : Bool :=
  let code := bU32 im 12
  im.take 4 == [0x4C, 0x45, 0x55, 0x31] && inR (bU16 im 4) 0x8000 0x80FF && decide (bU8 im 8 < 8) &&
    inR (bU8 im 9) 0 8 && inR (bU8 im 10) (bU8 im 9) 8 && bU8 im 11 == 0 && decide (code % 16 = 0) && inR code 16 61440 &&
    inR (bU16 im 20) 0 8192 && inR (bU16 im 22) 8 4096 && zeroB im 36 28 && decide (n = 64 + code + 4627)

/-- Loading of a user element image, or the reason of R216; the digest is over bytes 0 to 63 + CODE_LEN − 1, as R214 counts
them (DEDUCED, log entry 109). -/
def State.userLoad (s : State) (im : List Byte) : Except Nat State :=
  let type := bU16 im 4
  let body := im.take (64 + bU32 im 12)
  let signed := im.take (63 + bU32 im 12)
  let key := s.cfg.userKey.take 2592
  let others := (s.pe.users.filter fun e => e.1 != type).foldl (fun n e => n + bU32 e.2 12) 0
  if !(userFormatOk im im.length) then .error 1
  else if s.cfg.userKey.isEmpty || !(Config.mlDsaVerify key (Config.sha3_512 signed) (im.drop body.length)) then .error 2
  else if bU16 im 6 < leAt s.cfg.userKey (2592 + 2 * (type - 0x8000)) 2 then .error 3
  else if 61440 < others + bU32 im 12 then .error 4
  else if (nfind s.pe.users type).isSome && s.pe.insts.any (fun e => e.2.type == type) then .error 5
  else .ok { s with pe := { s.pe with users := nset s.pe.users type body } }

def specElemLoad : OpSpec where
  code := 0x040A
  check s c :=
    let pre := orErr (firstErr [(c.fn != 0, bad stNotOwner), (c.tgt != 0, bad stBadParam)])
      (orErr (strayErr [(0, 12)] c) (firstErr [(decide (66131 < c.p 8 4), (stBadParam, some 1))]))
    s.thenXlate c pre false (c.p 0 8) (c.p 8 4) false 0
  run s c :=
    match s.fnRead c.fn (c.p 0 8) (c.p 8 4) with
    | (.error _, s) => s.finish c.seq (bad stHwFault)
    | (.ok im, s) =>
      match s.userLoad im with
      | .error r => s.complete c.seq stBadParam r
      | .ok s => s.complete c.seq stOk (bU16 im 4)

/-! ### Reflow and return (R172–R175) -/

/-- A pair returns to service: unplaced instances and missing copies are retried (R173). -/
def State.pairReturns (s : State) (p : Nat) : State :=
  let s := { s with pe := { s.pe with draining := setBit s.pe.draining p false } }
  if s.epInService p then s.placeRetry.peTrack else s

end Sys2Proof.Machine
end

