-- ==== Sys2Proof/Machine/Can.lean ====
section
/-! DEFINITION. CAN controllers (R331–R347): message areas, requests, status records, the schedule matrix, arbitration's
choice. -/

namespace Sys2Proof.Machine

/-! ### Areas and settings (R334–R336, R367) -/

/-- Controller `c`, LIN channel `l` and network `n` beyond their registers. -/
def State.can (s : State) (c : Nat) : Can := ngetD s.fbc.can c {}
def State.lin (s : State) (l : Nat) : Lin := ngetD s.fbc.lin l {}
def State.net (s : State) (n : Nat) : Net := ngetD s.fbc.net n {}

/-- The state with a controller, a channel or a network changed. -/
def State.modCan (s : State) (c : Nat) (f : Can → Can) : State :=
  { s with fbc := { s.fbc with can := nput {} s.fbc.can c (f (s.can c)) } }
def State.modLin (s : State) (l : Nat) (f : Lin → Lin) : State :=
  { s with fbc := { s.fbc with lin := nput {} s.fbc.lin l (f (s.lin l)) } }
def State.modNet (s : State) (n : Nat) (f : Net → Net) : State :=
  { s with fbc := { s.fbc with net := nput {} s.fbc.net n (f (s.net n)) } }

/-- Offsets of the message areas in the FBC slot (R334). -/
def canArea (c : Nat) : Nat := 0x100000 + 0x10000 * c
def linArea (l : Nat) : Nat := 0x180000 + 0x1000 * l

/-- An offset of the FBC slot holds buffer memory: transmit and catch buffers, the FIFO, the XL areas; LIN buffers. -/
def isArea (o : Nat) : Bool :=
  if 0x100000 ≤ o ∧ o < 0x180000 then
    let a := o % 0x10000
    decide (a < 0x1700) || (decide (0x2000 ≤ a) && decide (a < 0x3800)) || (decide (0x8000 ≤ a) && decide (a < 0xE000))
  else if 0x180000 ≤ o ∧ o < 0x184000 then decide (o % 0x1000 < 0x400)
  else false

/-- Bytes of an area, and the state with bytes of it written. -/
def State.areaAt (s : State) (o n : Nat) : List Byte := (List.range n).map fun k => ngetD s.fbc.area (o + k) 0
def State.setArea (s : State) (o : Nat) (d : List Byte) : State :=
  { s with fbc := { s.fbc with area := (d.zipIdx).foldl (fun m e => nput 0 m (o + e.2) e.1) s.fbc.area } }

/-- A record of the FBC settings; zeros where there is none. -/
def State.fbcRec (s : State) (rtype idx : Nat) : List Byte := (s.cfgData 0x0102 rtype idx).getD []

/-- The subsystem works: boot ended, island powered, pen running (R477, R498, R505). -/
def State.fbcUp (s : State) : Bool := s.coreRuns && s.flag PCS_STATE_DONE && s.powered 38 && s.penRuns 29

/-- Settings of controller `c`: formats enabled, listen-only, manual recovery, transceiver. -/
def State.canFlag (s : State) (c bit : Nat) : Bool := bitOf (byteAt (s.fbcRec 1 c) 8) bit

/-- A unit test holds controller `c` off its bus (R487). -/
def State.canTested (s : State) (c : Nat) : Bool := (nfind s.fcu.tests (0x300 + c)).isSome

/-- An event of controller `c`: going from 0 to 1 while enabled it interrupts the owner (R334, R368). -/
def State.canEvt (s : State) (c bit : Nat) : State :=
  let old := (s.rd FBC_CANc_EVT c).toNat
  let s := s.wr FBC_CANc_EVT (w32 (setBit old bit true)) c
  if !(bitOf old bit) && bitOf (s.rd FBC_CANc_EVT_EN c).toNat bit then
    s.msi (s.fnFile (s.owner 9 c)) (s.get FBC_CANc_IRQ_IDENTITY c)
  else s

/-- An event of LIN channel `l`. -/
def State.linEvt (s : State) (l bit : Nat) : State :=
  let old := (s.rd FBC_LINl_EVT l).toNat
  let s := s.wr FBC_LINl_EVT (w32 (setBit old bit true)) l
  if !(bitOf old bit) && bitOf (s.rd FBC_LINl_EVT_EN l).toNat bit then
    s.msi (s.fnFile (s.owner 10 l)) (s.get FBC_LINl_IRQ_IDENTITY l)
  else s

/-! ### Status records and pending frames (R337–R341) -/

/-- The pending bit of a buffer, in the mask and in its record. -/
def State.putPend (s : State) (c b : Nat) (on : Bool) : State :=
  if 64 ≤ b then s
  else
    let s := if b < 32 then s.set FBC_CANc_TXPEND_LO_PEND (setBit (s.get FBC_CANc_TXPEND_LO_PEND c) b on) c
      else s.set FBC_CANc_TXPEND_HI_PEND (setBit (s.get FBC_CANc_TXPEND_HI_PEND c) (b - 32) on) c
    s.setFlag FBC_CANc_TXSTATb_0_PENDING on c b

/-- The status record of buffer `b` is written in one write, and TXDONE set (R341). The internal buffer has none. -/
def State.txStatus (s : State) (c b status sof attempts : Nat) : State :=
  if 64 ≤ b then s
  else
    let pend := b2n (s.flag FBC_CANc_TXSTATb_0_PENDING c b)
    let s := s.wr FBC_CANc_TXSTATb_0 (w32 (status + 65536 + pend * 131072)) c b
    let s := (s.wr FBC_CANc_TXSTATb_TIME_LO (w32 sof) c b).wr FBC_CANc_TXSTATb_TIME_HI (w32 (sof / 4294967296)) c b
    (s.wr FBC_CANc_TXSTATb_3 (w32 (min 65535 attempts)) c b).canEvt c 0

/-- A buffer's frame leaves the pending state with a status. -/
def State.txEnd (s : State) (c b status : Nat) (attempts : Nat) : State :=
  let s := s.modCan c fun x => { x with pend := nerase x.pend b }
  (s.putPend c b false).txStatus c b status 0 attempts

/-- The format's fields of a header: FMT, LEN. -/
def hdrFmt (h : List Byte) : Nat := byteAt h 4 % 4
def hdrLen (h : List Byte) : Nat := leAt h 8 2

/-- Lengths of a CAN FD data field. -/
def fdLens : List Nat := [0, 1, 2, 3, 4, 5, 6, 7, 8, 12, 16, 20, 24, 32, 48, 64]

/-- A snapshot that controller `c` can send (R336, R337). -/
def State.hdrOk (s : State) (c : Nat) (h : List Byte) : Bool :=
  let fmt := hdrFmt h
  let n := hdrLen h
  let rtr := bitOf (byteAt h 3) 6
  match fmt with
  | 0 => decide (n ≤ 8)
  | 1 => !rtr && fdLens.contains n && s.canFlag c 0
  | 2 => !rtr && inR n 1 2048 && s.canFlag c 1 && (decide (n ≤ 64) || decide (byteAt h 7 + ceilDiv n 256 ≤ 64))
  | _ => false

/-- The buffer is reserved by a CAN transmit PDU of the gateway (R372). -/
def State.gwReserved (s : State) (c b : Nat) : Bool :=
  (s.cfgAll 0x0104 2).any fun e => byteAt e.2 0 == 1 && byteAt e.2 1 == c && byteAt e.2 5 == b

/-- The data bytes of a LIN buffer before a write at this instant are kept for a response that may have started (R353);
200 ms exceed any response. -/
def State.linNote (s : State) (l id : Nat) : State :=
  s.modLin l fun x =>
    { x with hist := (s.now, id, s.areaAt (linArea l + 16 * id) 8) :: x.hist.filter fun e => decide (s.now < e.1 + 200000000) }

/-- The data bytes of a LIN buffer as they stood at a past real time. -/
def State.linDataAt (s : State) (l id t : Nat) : List Byte :=
  match ((s.lin l).hist.filter fun e => e.2.1 == id && decide (t < e.1)).getLast? with
  | some e => e.2.2
  | none => s.areaAt (linArea l + 16 * id) 8

/-- A bus write into buffer memory (R334): bytes of a transmit buffer that the gateway has reserved are ignored (R372). -/
def State.writeArea (s : State) (o : Nat) (d : List Byte) : State :=
  let kept := fun (a : Nat) => decide (0x180000 ≤ a ∨ 0x1400 ≤ a % 0x10000) ||
    !(s.gwReserved ((a - 0x100000) / 0x10000) (a % 0x10000 / 80))
  let s := if o < 0x180000 then s
    else s.each (((List.range d.length).map fun k => (o - 0x180000 + k) / 16).eraseDups) fun s b => s.linNote (b / 256) (b % 256)
  (d.zipIdx).foldl (fun s e => if kept (o + e.2) then s.setArea (o + e.2) [e.1] else s) s

/-- A frame becomes pending in a buffer, or replaces the one that is (R337). -/
def State.makePend (s : State) (c b : Nat) (f : CanFrame) : State :=
  let x := s.can c
  let had := (nfind x.pend b).isSome
  let s := s.modCan c fun x =>
    { x with pend := nset x.pend b f,
             cur := x.cur.map fun t => if t.buf = b ∧ had then { t with replaced := true } else t }
  let s := if had ∧ b < 64 then s.inc FBC_CANc_TXSTATb_0_REPL 1 c b else s
  s.putPend c b true

/-- Transmission of buffer `b` is requested (R337): the snapshot becomes pending or is refused. -/
def State.canRequest (s : State) (c b : Nat) : State :=
  let base := canArea c + 80 * b
  let h := s.areaAt base 16
  let s := (s.setFlag FBC_CANc_TXSTATb_0_DONE false c b).set FBC_CANc_TXSTATb_0_STATUS 0 c b
  if s.hdrOk c h then s.makePend c b { hdr := h, data := s.areaAt (base + 16) 64, req := s.now }
  else s.txStatus c b stBadParam 0 0

/-- Both events of R340 within or outside an attempt. -/
def State.endEarly (s : State) (c b : Nat) (abort : Bool) : State :=
  let x := s.can c
  match nfind x.pend b with
  | none => s
  | some f =>
    let inTry := match x.cur with | some t => t.buf == b && !t.replaced | none => false
    if inTry then
      let f := if abort then { f with aborted := true } else { f with expired := true }
      s.modCan c fun x => { x with pend := nset x.pend b f }
    else s.txEnd c b (if abort then stAborted else stExpired) f.attempts

/-- An abort of every buffer in a mask of 32 from `base` (R340). -/
def State.canAbort (s : State) (c base mask : Nat) : State :=
  s.each (bitList 32 mask) fun s i => if s.gwReserved c (base + i) then s else s.endEarly c (base + i) true

/-- A write of TXREQ's half from buffer `base` (R337, R372). -/
def State.canRequests (s : State) (c base mask : Nat) : State :=
  s.each (bitList 32 mask) fun s i => if s.gwReserved c (base + i) then s else s.canRequest c (base + i)

/-- VALID_MS of a frame has run out (R340). -/
def State.validityExpiry (s : State) (c b : Nat) : State :=
  match nfind (s.can c).pend b with
  | none => s
  | some f =>
    let v := leAt f.hdr 10 2
    if v = 0 ∨ ¬ s.fbcUp then s
    else (s.until (f.req + v * 1000000)).endEarly c b false

/-! ### The schedule matrix (R342, R343, R290, R320) -/

def matCycle (raw : List Byte) : Nat := leAt raw 8 4
def matNbc (raw : List Byte) : Nat := max 1 (byteAt raw 12)
def matNcol (raw : List Byte) : Nat := max 1 (byteAt raw 13)
/-- START and LATEST of a column, ns. -/
def matStart (raw : List Byte) (k : Nat) : Nat := leAt raw (16 + 4 * k) 2 * 1000
def matLatest (raw : List Byte) (k : Nat) : Nat := leAt raw (18 + 4 * k) 2 * 1000
/-- Cell (j, k). -/
def matCell (raw : List Byte) (j k : Nat) : Nat := leAt raw (80 + 2 * (16 * j + k)) 2

/-- Time domain of a matrix. -/
def MatRun.td (m : MatRun) : Nat := byteAt m.raw 14 % 4

/-- A matrix record of controller `c` comes into force, or goes (R290, R367). -/
def State.matLoad (s : State) (c : Nat) : State :=
  let raw := s.fbcRec 2 c
  if ¬ (bitOf (byteAt raw 15) 0 ∧ 0 < matCycle raw) then s.modCan c fun x => { x with mat := none, matNext := none }
  else
    let m : MatRun := { raw := raw, next := 0 }
    let t := cycleFrom (leAt raw 0 8) (matCycle raw) (s.td m.td).ns
    s.modCan c fun x => { x with matNext := some { m with next := t } }

/-- A basic cycle of the matrix begins at `t`: its first column. -/
def MatRun.cycleAt (m : MatRun) (t : Nat) : MatRun :=
  let j := cycleNo (leAt m.raw 0 8) (matCycle m.raw) t (matNbc m.raw)
  let next := if matNcol m.raw ≤ 1 then t + matCycle m.raw else t + matStart m.raw 1
  { m with row := j, col := 0, start := t, next := next, begun := true, hold := false, missed := false }

/-- The next column of the matrix. -/
def MatRun.advance (m : MatRun) : MatRun :=
  if !m.begun || m.hold || decide (m.col + 1 ≥ matNcol m.raw) then m.cycleAt m.next
  else
    let k := m.col + 1
    let c0 := m.start - matStart m.raw m.col
    let next := if k + 1 < matNcol m.raw then c0 + matStart m.raw (k + 1) else c0 + matCycle m.raw
    { m with col := k, start := m.next, next := next, missed := false }

/-- The next column of the matrix in force begins before the new matrix's first cycle. An overlay may have changed the
domain; each matrix runs in its own (R290, R367). -/
def State.oldColumnFirst (s : State) (m n : MatRun) : Bool :=
  if m.td = n.td then decide (m.next < n.next) else decide (s.ticksTo m.td m.next < s.ticksTo n.td n.next)

/-- A schedule matrix column begins (R342, R343). -/
def State.columnStart (s : State) (c : Nat) : State :=
  let x := s.can c
  if ¬ s.fbcUp then s
  else match x.mat, x.matNext with
    | m, some n =>
      let old := match m with | some m => s.oldColumnFirst m n | none => false
      match old, m with
      | true, some m =>
        let s := s.untilTd m.td m.next
        if (s.td m.td).ns < m.next then s else s.modCan c fun x => { x with mat := some m.advance }
      | _, _ =>
        let s := s.untilTd n.td n.next
        if (s.td n.td).ns < n.next then s
        else s.modCan c fun x => { x with mat := some (n.cycleAt n.next), matNext := none }
    | some m, none =>
      let s := s.untilTd m.td m.next
      if (s.td m.td).ns < m.next then s else s.modCan c fun x => { x with mat := some m.advance }
    | none, none => s

/-- A domain was stepped from `old` ns (R291, R320): the window in force stays, its time going on, until the first basic
cycle that starts after the stepped time. -/
def State.canStepped (s : State) (d old : Nat) : State :=
  let t := (s.td d).ns
  s.each (List.range 8) fun s c =>
    s.modCan c fun x =>
      let f := fun (m : MatRun) => if m.td = d then
          { m with next := cycleFrom (leAt m.raw 0 8) (matCycle m.raw) (t + 1), hold := m.begun,
                   start := ((m.start : Int) + t - old).toNat } else m
      { x with mat := x.mat.map f, matNext := x.matNext.map f }

/-- Buffer `b` is scheduled; the Bellwether's is not (R336, R357). -/
def State.scheduled (s : State) (c b : Nat) : Bool :=
  if b < 32 then bitOf (s.rd FBC_CANc_SCHED_LO c).toNat b
  else if b < 64 then bitOf (s.rd FBC_CANc_SCHED_HI c).toNat (b - 32)
  else false

/-- The present window admits the start of buffer `b`'s frame (R343) (DEDUCED, log entry 74). -/
def State.admits (s : State) (c b : Nat) (f : CanFrame) : Bool :=
  match (s.can c).mat with
  | none => true
  | some m =>
    let cell := matCell m.raw m.row m.col
    let idx := bitsOf cell 9 4
    let sch := s.scheduled c b
    match cell % 4 with
    | 0 => !sch
    | 1 => sch && b == idx && decide ((s.td m.td).ns ≤ m.start + matLatest m.raw m.col)
    | 2 => if sch then byteAt f.hdr 4 / 16 == idx else bitOf cell 2
    | _ => false

/-- An EXCLUSIVE window passes LATEST without its frame starting (R343). -/
def State.schedMiss (s : State) (c : Nat) : State :=
  match (s.can c).mat with
  | none => s
  | some m =>
    let cell := matCell m.raw m.row m.col
    let b := bitsOf cell 9 4
    let t := m.start + matLatest m.raw m.col
    if cell % 4 ≠ 1 ∨ m.missed ∨ ¬ m.begun ∨ ¬ s.fbcUp ∨ m.next ≤ t then s
    else
      let s := s.untilTd m.td (t + 1)
      let inTry : Bool := match (s.can c).cur with | some a => a.buf == b && !a.replaced | none => false
      if (s.td m.td).ns ≤ t ∨ inTry ∨ (nfind (s.can c).pend b).isNone ∨ ¬ s.scheduled c b then s
      else (s.inc FBC_CANc_CNT_SCHED_MISS 1 c).modCan c fun x => { x with mat := some { m with missed := true } }

/-! ### Arbitration (R338) -/

/-- The arbitration field of an ID word as a number: the lower wins the bus (ISO 11898-1) (PRESUMED, log entry 73). -/
def arbKey (w : Nat) : Nat :=
  let rtr := b2n (bitOf w 30)
  if bitOf w 29 then (bitsOf w 28 18 * 4 + 3) * 524288 + bitsOf w 17 0 * 2 + rtr
  else (w % 2048 * 4 + rtr * 2) * 524288

/-- The ID word of a frame. -/
def CanFrame.idw (f : CanFrame) : Nat := leAt f.hdr 0 4

/-- The frame that controller `c` chooses (R338): the one that wins against the others, the lowest buffer among equals
(PRESUMED, log entry 73). -/
def State.canChoice (s : State) (c : Nat) : Option (Nat × CanFrame) :=
  (((s.can c).pend.filter fun e => s.admits c e.1 e.2)).foldl
    (fun a e => match a with
      | none => some e
      | some b => if arbKey e.2.idw < arbKey b.2.idw then some e else some b) none

/-- Network state of R360; a network without management works normally. -/
def State.netState (s : State) (n : Nat) : Nat := s.get FBC_NETn_STATUS_STATE n

/-- The controller may start an attempt: settings, bus, network (R345, R363, R365). -/
def State.canMaySend (s : State) (c : Nat) : Bool :=
  s.fbcUp && !(s.canTested c) && s.canFlag c 5 && !(s.canFlag c 3) && decide (s.get FBC_CANc_ERR_STATE c < 2) &&
    (s.netState c == 1 || s.netState c == 3)

/-- Data that an attempt sends (R336, R337): the snapshot's, or the XL pages as they stand. -/
def State.canData (s : State) (c : Nat) (f : CanFrame) : List Byte :=
  let n := hdrLen f.hdr
  if hdrFmt f.hdr = 2 ∧ 64 < n then s.areaAt (canArea c + 0x8000 + 256 * byteAt f.hdr 7) n
  else if bitOf (byteAt f.hdr 3) 6 then [] else f.data.take n

/-- At bus idle the controller starts an attempt of the frame it chooses (R338). -/
def State.canArbitrate (s : State) (c : Nat) : State :=
  if ¬ (s.canMaySend c) ∨ (s.can c).cur.isSome then s
  else match s.canChoice c with
    | none => s
    | some (b, f) =>
      let f := { f with attempts := f.attempts + 1 }
      s.modCan c fun x =>
        { x with pend := nset x.pend b f,
                 cur := some { buf := b, frame := f, data := s.canData c f, sof := s.td0, uv := s.pcs.vcanUv } }

/-! ### Errors and bus-off (R344–R347) -/

/-- The error counters take new values; the states that follow (R344, R345) (PRESUMED, log entry 72). -/
def State.canCounters (s : State) (c tec rec : Nat) : State :=
  let st := s.get FBC_CANc_ERR_STATE c
  let s := (s.set FBC_CANc_ERR_TEC (min 255 tec) c).set FBC_CANc_ERR_REC (min 255 rec) c
  if 2 ≤ st then s
  else if 255 < tec then
    let s := s.set FBC_CANc_ERR_STATE 2 c
    let s := (s.setFlag FBC_CANc_ERR_COUNTING (!(s.canFlag c 4)) c).set FBC_CANc_ERR_OCC 0 c
    s.canEvt c 4
  else
    let new := if 128 ≤ tec ∨ 128 ≤ rec then 1 else 0
    let s := s.set FBC_CANc_ERR_STATE new c
    if new = 1 ∧ st = 0 then s.canEvt c 3 else s

/-- 128 occurrences of 11 recessive bits end bus-off (R346). -/
def State.busOffEnd (s : State) (c : Nat) : State :=
  if ¬ s.fbcUp ∨ s.get FBC_CANc_ERR_STATE c ≠ 2 ∨ ¬ s.flag FBC_CANc_ERR_COUNTING c then s
  else (s.wr FBC_CANc_ERR 0 c).canEvt c 5

/-- A write of CTRL.RECOVER (R346). -/
def State.canRecover (s : State) (c : Nat) : State :=
  if s.get FBC_CANc_ERR_STATE c = 2 ∧ s.canFlag c 4 ∧ ¬ s.flag FBC_CANc_ERR_COUNTING c then
    (s.setFlag FBC_CANc_ERR_COUNTING true c).set FBC_CANc_ERR_OCC 0 c
  else s

/-- 11 recessive bits have passed: a controller that rejoins is on the bus (R365, R367, R505). -/
def State.canJoin (s : State) (c : Nat) : State :=
  if ¬ s.fbcUp ∨ ¬ s.flag PCS_STATE_DONE ∨ s.get FBC_CANc_ERR_STATE c ≠ 3 ∨ s.canTested c ∨ s.netState c = 0 then s
  else
    let e := (s.rd FBC_CANc_ERR c).toNat
    s.set FBC_CANc_ERR_STATE (if 128 ≤ bitsOf e 7 0 ∨ 128 ≤ bitsOf e 15 8 then 1 else 0) c

/-- A failed attempt: the frame stays pending, or ends as R340 says. -/
def State.txFailed (s : State) (c : Nat) (t : CanTx) : State :=
  if t.replaced then s
  else match nfind (s.can c).pend t.buf with
    | none => s
    | some f =>
      if f.expired then s.txEnd c t.buf stExpired f.attempts
      else if f.aborted then s.txEnd c t.buf stAborted f.attempts
      else s

/-- The controller leaves its bus: an attempt cut off has failed, and its frame is pending again unless R340 ended it; the
controller rejoins when it may. -/
def State.canLeave (s : State) (c : Nat) : State :=
  let s := match (s.can c).cur with
    | some t => (s.modCan c fun x => { x with cur := none }).txFailed c t
    | none => s
  if s.get FBC_CANc_ERR_STATE c = 2 then s else s.set FBC_CANc_ERR_STATE 3 c

/-- A RIDX write consumes FIFO entries and their ring space (R351). -/
def State.rxfConsume (s : State) (c v : Nat) : State :=
  let old := s.get FBC_CANc_RXF_RIDX_INDEX c
  let w := s.get FBC_CANc_RXF_WIDX_INDEX c
  let n := (v % 128 + 128 - old) % 128
  if (w + 128 - old) % 128 < n then s
  else (s.set FBC_CANc_RXF_RIDX_INDEX (v % 128) c).modCan c fun x => { x with ring := x.ring.drop n }

end Sys2Proof.Machine
end

