-- ==== Sys2Proof/Machine/Nm.lean ====
section
/-! DEFINITION. Networks, Bellwethers, network sleep and wake, transceivers (R333, R354–R366). -/

namespace Sys2Proof.Machine

/-! ### Settings of a network (R354, R367) -/

/-- The record of network `n`. -/
def State.netRec (s : State) (n : Nat) : List Byte := (s.cfgData 0x0103 1 n).getD []
def State.netEn (s : State) (n : Nat) : Bool := bitOf (byteAt (s.netRec n) 0) 0
def isCanNet (n : Nat) : Bool := decide (n < 8)
def isLinNet (n : Nat) : Bool := decide (8 ≤ n ∧ n < 12)
def isEthNet (n : Nat) : Bool := decide (12 ≤ n ∧ n < 16)

/-- A time field of a network's record, ns, with its default in ms. -/
def State.netMs (s : State) (n o d : Nat) : Nat := dflt (leAt (s.netRec n) o 2) d * 1000000
def State.netPeriod (s : State) (n : Nat) : Nat := s.netMs n 2 200
def State.netIdle (s : State) (n : Nat) : Nat := s.netMs n 4 2000
def State.netPrep (s : State) (n : Nat) : Nat := s.netMs n 6 1000

/-- The network of Ethernet port `p`, if one has it. -/
def State.portNet (s : State) (p : Nat) : Option Nat :=
  [12, 13, 14, 15].find? fun n => s.netEn n && decide (p < 10) && bitOf (leAt (s.netRec n) 12 2) p

/-- The network's LIN channel is a commander. -/
def State.linCommander (s : State) (l : Nat) : Bool := bitOf (byteAt (s.fbcRec 5 l) 0) 0

/-- The need of a network is held. -/
def State.netNeed (s : State) (n : Nat) : Bool := s.flag FBC_NETn_STATUS_NEED n

/-- The medium of network `n` is in low power, or normal: its bit in `FBC_XCVR` (R362, R368). -/
def State.xcvrSleep (s : State) (n : Nat) (on : Bool) : State :=
  if n < 8 then s.set FBC_XCVR_CAN_SLEEP (setBit (s.get FBC_XCVR_CAN_SLEEP) n on)
  else if n < 12 then s.set FBC_XCVR_LIN_SLEEP (setBit (s.get FBC_XCVR_LIN_SLEEP) (n - 8) on)
  else s

/-- Wake detection of a network is armed or not (R362; field die). -/
def State.arm (s : State) (n : Nat) (on : Bool) : State :=
  { s with fbc := { s.fbc with armed := setBit s.fbc.armed n on } }

/-- The settings enable wake detection on network `n` (R367). -/
def State.wakeEn (s : State) (n : Nat) : Bool := if n < 8 then bitOf (byteAt (s.fbcRec 1 n) 9) 4 else true

/-! ### Transitions (R361, R362) -/

/-- The idle timer starts anew. -/
def State.idleRestart (s : State) (n : Nat) : State := s.modNet n fun x => { x with idleAt := s.now + s.netIdle n }

/-- The medium returns to normal: a CAN controller joins after 11 recessive bits (R365). -/
def State.mediumNormal (s : State) (n : Nat) : State :=
  let s := (s.xcvrSleep n false).arm n false
  if isCanNet n then s.canLeave n else s

/-- The network enters NETWORK with its idle timer started; a LIN commander's schedule goes on with a new slot (R353). -/
def State.netEnter (s : State) (n : Nat) (reason : Option Nat) : State :=
  let s := s.set FBC_NETn_STATUS_STATE 1 n
  let s := match reason with | some r => s.set FBC_NETn_STATUS_WAKE r n | none => s
  let s := s.modNet n fun x => { x with prepAt := none, commit := none, wakeSeen := false, needSeen := false }
  let s := if isLinNet n then s.modLin (n - 8) fun x => { x with slotAt := some s.now, gts := false } else s
  s.idleRestart n

/-- The network becomes DISABLED. -/
def State.netDisable (s : State) (n : Nat) : State :=
  let s := s.set FBC_NETn_STATUS_STATE 3 n
  let s := s.modNet n fun x => { x with prepAt := none, commit := none, wakeSeen := false, needSeen := false, due := none }
  if isLinNet n then s.modLin (n - 8) fun x => { x with slotAt := none, gts := false } else s

/-- A wake from BUS_SLEEP: 2 by the bus, 3 by need (R361). A LIN commander that sends the wake pulse waits 100 ms. -/
def State.netWake (s : State) (n reason : Nat) : State :=
  let s := (s.mediumNormal n).netEnter n (some reason)
  let need := s.netNeed n
  let s := s.modNet n fun x =>
    { x with due := if isLinNet n || !need then none else some (s.now, if reason = 3 then 4 else 0),
             needWake := if reason = 3 then some s.now else none }
  if isLinNet n then
    s.modLin (n - 8) fun x =>
      { x with slotAt := some (s.now + if reason = 3 then 101000000 else 0), act := s.now,
               pulse := if reason = 3 then some s.now else x.pulse }
  else s

/-- A return from PREPARE_SLEEP: one RETURN Bellwether (R356, R361) (DEDUCED, log entry 74). -/
def State.netReturn (s : State) (n : Nat) : State :=
  let s := (s.arm n false).netEnter n none
  s.modNet n fun x => { x with due := if isLinNet n then none else some (s.now, 2) }

/-- Activity on the medium that began at real time `t` (R361, R362). Activity from before the commit point is seen at its end:
a LIN responder's sleep, or a bus release since, has then not happened. -/
def State.netActivity (s : State) (n t : Nat) : State :=
  let x := s.net n
  let st := s.netState n
  let before : Bool := match x.commit with | some c => decide (t < c) | none => true
  if before ∧ (st = 2 ∨ st = 1 ∧ x.commit.isSome) then s.netReturn n
  else if st = 0 ∧ x.commit.isSome ∧ before then
    let s := s.xcvrSleep n false
    (if isCanNet n then s.set FBC_CANc_ERR_STATE x.errSt n else s).netReturn n
  else s

/-- The commit to sleep: wake detection is armed (R362). -/
def State.netCommit (s : State) (n : Nat) : State :=
  (s.modNet n fun x => { x with commit := some s.now, due := none }).arm n (s.wakeEn n)

/-- The idle timer of a network expires (R361). -/
def State.idleExpiry (s : State) (n : Nat) : State :=
  if ¬ (s.fbcUp ∧ n < 16 ∧ s.netState n = 1) then s
  else
    let s := s.until (s.net n).idleAt
    if s.netNeed n ∨ (isLinNet n ∧ ¬ s.linCommander (n - 8)) then s.idleRestart n
    else
      let s := s.set FBC_NETn_STATUS_STATE 2 n
      s.modNet n fun x => { x with prepAt := some (s.now + s.netPrep n), due := none }

/-- T_PREP ends: the network commits; a LIN commander first sends the go-to-sleep command (R362). -/
def State.tPrepExpiry (s : State) (n : Nat) : State :=
  match (s.net n).prepAt with
  | none => s
  | some t =>
    if ¬ (s.fbcUp ∧ n < 16 ∧ s.netState n = 2) ∨ (s.net n).commit.isSome then s
    else
      let s := s.until t
      if isLinNet n then s.modLin (n - 8) fun x => { x with gts := true, cur := some 0x3C, resp := [0, 255, 255, 255, 255, 255, 255, 255] }
      else s.netCommit n

/-- 10 µs after the commit point the controller leaves the bus (R362). -/
def State.busRelease (s : State) (n : Nat) : State :=
  match (s.net n).commit with
  | none => s
  | some t =>
    if ¬ (s.fbcUp ∧ n < 16) ∨ s.netState n = 0 ∨ s.netState n = 3 then s
    else
      let s := s.until (t + 10000)
      let s := (s.set FBC_NETn_STATUS_STATE 0 n).xcvrSleep n true
      let s := if isCanNet n then
          (s.modNet n fun x => { x with errSt := s.get FBC_CANc_ERR_STATE n }).canLeave n
        else if isEthNet n then
          s.each ((List.range 10).filter (bitOf (leAt (s.netRec n) 12 2))) fun s p => s.linkChange p false
        else s
      let x := s.net n
      let s := s.modNet n fun x => { x with prepAt := none }
      if x.wakeSeen then s.netWake n 2 else if x.needSeen then s.netWake n 3 else s

/-- A wake pattern, dominant phase or energy on a sleeping network (R361, R362, R365). -/
def State.wakeDetected (s : State) (n : Nat) : State :=
  if ¬ (s.fbcUp ∧ n < 16) then s
  else
    let x := s.net n
    let sameMs : Bool := match x.needWake with | some t => t / 1000000 == s.now / 1000000 | none => false
    if s.netState n = 0 then (if bitOf s.fbc.armed n then s.netWake n 2 else s)
    else if x.commit.isSome then (if bitOf s.fbc.armed n then s.modNet n fun x => { x with wakeSeen := true } else s)
    else if s.netState n = 1 ∧ sameMs then s.set FBC_NETn_STATUS_WAKE 2 n
    else s

/-! ### Bellwethers (R356–R359) -/

/-- The CAN Bellwether goes to its internal buffer (R357). -/
def State.bellCan (s : State) (n flags : Nat) : State :=
  let r := s.netRec n
  let x := s.net n
  let h := leBytes 4 (leAt r 12 4 + byteAt r 16) ++ leBytes 4 0 ++ leBytes 2 4 ++ leBytes 6 0
  let d := beBytes 2 (leAt r 8 2) ++ leBytes 1 flags ++ leBytes 1 x.seq
  let s := s.modNet n fun x => { x with seq := (x.seq + 1) % 256 }
  s.makePend n 64 { hdr := h, data := d, req := s.now }

/-- The Ethernet Bellwether is built at port M (R358). -/
def State.bellEth (s : State) (n flags : Nat) : State :=
  let r := s.netRec n
  let x := s.net n
  let vid := leAt r 14 2
  let t := s.td0
  let w := flags * 1099511627776 + s.get ESW_NODE_ID_NODE * 281474976710656 + t % 1000000000 * 73786976294838206464 +
    t / 1000000000 % 4294967296 * 79228162514264337593543950336
  let s := s.mSend (beAt r 16 6) (if vid % 4096 = 0 then none else some vid) 3 (leAt r 24 4) x.seq 0 [w]
  (s.modNet n fun x => { x with seq := (x.seq + 1) % 4294967296 }).idleRestart n

/-- A Bellwether falls due (R356). -/
def State.bellDue (s : State) (n : Nat) : State :=
  match (s.net n).due with
  | none => s
  | some (t, fl) =>
    if ¬ (s.fbcUp ∧ n < 16 ∧ s.netState n = 1) then s
    else
      let s := s.until t
      let need := s.netNeed n
      let s := s.modNet n fun x => { x with due := if need then some (t + s.netPeriod n, 0) else none }
      let flags := fl + b2n need
      if isCanNet n then s.bellCan n flags else if isEthNet n then s.bellEth n flags else s

/-- A Bellwether of `node` is received on network `n` (R359, R361). -/
def State.bellHeard (s : State) (n node : Nat) : State :=
  if ¬ (s.netEn n) ∨ s.netState n = 3 ∨ s.netState n = 0 then s
  else
    let s := (s.set FBC_NETn_LAST_NODE node n).inc FBC_NETn_LAST_COUNT 1 n
    let s := s.modNet n fun x => { x with count := min 65535 (x.count + 1) }
    if s.netState n = 1 then s.idleRestart n else s

/-- BELLWETHER_RX: the first waiting Bellwether frame at port M (R358, R359). -/
def State.bellRx (s : State) : State :=
  match s.mTake fun f => f.etype == s.esw.etype && f.kind == 3 with
  | (none, s) => s
  | (some f, s) =>
    if ¬ s.fbcUp then s
    else s.each [12, 13, 14, 15] fun s n => if leAt (s.netRec n) 24 4 = f.streamId then s.bellHeard n f.node else s

/-! ### Attempts (R337, R340, R341, R347) -/

/-- The end of an attempt during which VCAN was low: the bus, held recessive, answers the first dominant bit with a bit error,
whose step of ISO 11898-1 is 8, and no other node can be seen (R2, R333) (PRESUMED, log entry 72). -/
def onDeadBus : CanEnd → CanEnd
  | .error inc _ => .error inc false
  | _ => .error 8 false

/-- A transmit attempt ends (R337–R341, R344–R347) (DESIGN CHOICE, log entry 99). -/
def State.canAttemptEnd (s : State) (c : Nat) (e : CanEnd) : State :=
  match (s.can c).cur with
  | none => s
  | some t =>
    let s := s.modCan c fun x => { x with cur := none }
    let tec := s.get FBC_CANc_ERR_TEC c
    let recv := s.get FBC_CANc_ERR_REC c
    match if t.uv || s.pcs.vcanUv then onDeadBus e else e with
    | .lost => s.txFailed c t
    | .error inc coll =>
      let s := if coll then
          ((s.wr FBC_CANc_COLL_ID (w32 t.frame.idw) c).inc FBC_CANc_COLL_CNT_COUNT 1 c).canEvt c 6
        else s
      (s.txFailed c t).canCounters c (tec + inc) recv
    | .sent =>
      let s := (s.count (440 + c)).canCounters c (tec - 1) recv
      let s := s.modCan c fun x =>
        { x with sent := some (t.frame.idw, byteAt t.frame.hdr 4, t.data, t.sof),
                 pend := if t.replaced then x.pend else nerase x.pend t.buf }
      let s := if t.buf = 64 then s.idleRestart c else s
      let s := if t.replaced then s else s.putPend c t.buf false
      s.txStatus c t.buf stOk t.sof t.frame.attempts

/-! ### Commands (R366) -/

/-- A need is set (R355, R361, R362). -/
def State.needSet (s : State) (n : Nat) : State :=
  if s.netNeed n then s
  else
    let s := s.setFlag FBC_NETn_STATUS_NEED true n
    let x := s.net n
    match s.netState n with
    | 1 =>
      if x.commit.isSome then s.modNet n fun x => { x with needSeen := true }
      else s.modNet n fun x => { x with due := if isLinNet n then none else some (s.now, match x.due with | some d => d.2 | none => 0) }
    | 2 => if x.commit.isSome then s.modNet n fun x => { x with needSeen := true } else s.netReturn n
    | 0 => s.netWake n 3
    | _ => s

/-- A need is cleared. -/
def State.needClear (s : State) (n : Nat) : State :=
  let s := s.setFlag FBC_NETn_STATUS_NEED false n
  s.modNet n fun x => { x with due := none, needSeen := false }

/-- The checks of NM_NEED and NM_RELEASE. -/
def State.nmCheck (s : State) (c : Cmd) : State × Option Res :=
  checks s c [(s.notOwner c 11 c.tgt, bad stNotOwner), (decide (c.tgt < 16) && s.netState c.tgt == 3, bad stNotInMode), outOfRange c 16] [] []

def specNmNeed : OpSpec where
  code := 0x0601
  own c := some (11, c.tgt)
  check s c := s.nmCheck c
  run s c := (s.needSet c.tgt).completeTime c.seq

def specNmRelease : OpSpec where
  code := 0x0602
  own c := some (11, c.tgt)
  check s c := s.nmCheck c
  run s c := (if s.netNeed c.tgt then s.needClear c.tgt else s).completeTime c.seq

/-- Bellwethers are due on network `n`. -/
def State.netSending (s : State) (n : Nat) : Bool := s.netState n == 1 && !(isLinNet n) && (s.netNeed n || (s.net n).due.isSome)

/-- Time remaining to a real time, in 10 ms units (DEDUCED, log entry 74). -/
def State.leftTo (s : State) (t : Nat) : Nat := min 65535 ((t - s.now) / 10000000)

def specNmStatus : OpSpec where
  code := 0x0603
  check s c := checks s c [outOfRange c 16] [] []
  run s c :=
    let n := c.tgt
    let x := s.net n
    s.complete c.seq stOk (s.netState n + 4 * b2n (s.netNeed n) + 8 * b2n (s.netSending n) +
      s.get FBC_NETn_STATUS_WAKE n * 16 + s.get FBC_NETn_LAST_NODE n * 65536 +
      (if s.netState n = 1 then s.leftTo x.idleAt else 0) * 4294967296 + x.count * 281474976710656)

/-- `FBC_NETn_STATUS` as it reads. -/
def State.netStatusWord (s : State) (n : Nat) : Word :=
  let x := s.net n
  let left := match s.netState n with
    | 1 => s.leftTo x.idleAt
    | 2 => (match x.prepAt with | some t => s.leftTo t | none => 0)
    | _ => 0
  w32 ((s.rd FBC_NETn_STATUS n).toNat % 8 + 8 * b2n (s.netSending n) + s.get FBC_NETn_STATUS_WAKE n * 16 + left * 65536)

/-- `FBC_XCVR` as it reads: fail-safe and supply are the field die's. -/
def State.xcvrWord (s : State) : Word :=
  w32 ((s.rd FBC_XCVR).toNat % 4096 + s.fbc.fs % 4096 * 4096 + b2n s.pcs.vcanUv * 16777216)

/-! ### Boot, owners, settings, loss (R355, R361, R367, R477) -/

/-- Every network at the end of boot or at the release of the pen (R361, R477). -/
def State.netsBoot (s : State) : State :=
  s.each (List.range 16) fun s n =>
    if s.netEn n then
      let s := (s.mediumNormal n).netEnter n (some 1)
      let need := s.netNeed n
      s.modNet n fun x => { x with due := if need && !(isLinNet n) then some (s.now, 0) else none }
    else s.netDisable n

/-- The LIN channels start their schedules and their bus-idle time. -/
def State.linsBoot (s : State) : State :=
  s.each (List.range 4) fun s l => s.modLin l fun x => { x with idx := 0, slotAt := some s.now, act := s.now, gts := false }

/-- The owning function `fn` becomes DISABLED (R355). -/
def State.fbcOwnerGone (s : State) (fn : Nat) : State :=
  let s := s.each (List.range 16) fun s n => if s.owner 11 n = fn ∧ s.netNeed n then s.needClear n else s
  s.each (List.range 8) fun s c =>
    if s.owner 9 c = fn then
      s.each ((s.can c).pend.filter fun e => e.1 < 64) fun s e => s.endEarly c e.1 true
    else s

/-- The subsystem is fenced, gated or loses its core die: controllers leave, frames are discarded without status (R339,
R477). What the field die holds stays. -/
def State.fbcDown (s : State) : State :=
  let s := s.each (List.range 8) fun s c =>
    let s := s.each (s.can c).pend fun s e => s.putPend c e.1 false
    (s.modCan c fun x => { x with pend := [], cur := none, mat := none, matNext := none }).set FBC_CANc_ERR_STATE 3 c
  s.each (List.range 4) fun s l => s.modLin l fun x => { x with cur := none, slotAt := none, gts := false }

/-- The records of a controller changed: rejoin, matrix (R367). -/
def State.canApply (s : State) (c : Nat) (old : List Byte) (matOld : List Byte) : State :=
  let new := s.fbcRec 1 c
  let rates := fun (r : List Byte) => (leAt r 0 2, leAt r 4 2, byteAt r 8)
  let s := if rates old ≠ rates new then (s.canLeave c).wr FBC_CANc_ERR (w32 (3 * 65536)) c else s
  if matOld ≠ s.fbcRec 2 c then s.matLoad c else s

/-- The record of a network changed: EN set or cleared by an overlay (R361). -/
def State.netApply (s : State) (n : Nat) (was : Bool) : State :=
  let en := s.netEn n
  if was = en ∨ ¬ s.flag PCS_STATE_DONE then s
  else if en then
    let s := s.netEnter n (some 4)
    if s.netNeed n && !(isLinNet n) then s.modNet n fun x => { x with due := some (s.now, 0) } else s
  -- only a sleeping medium has to be brought back to normal
  else ((if s.netState n = 0 then s.mediumNormal n else s).arm n false).netDisable n

/-! ### Transceivers (R333, R364) -/

/-- T_FS of transceiver `x`, ns (DEDUCED, log entry 74). -/
def State.tfs (s : State) (x : Nat) : Nat :=
  dflt (if x < 8 then byteAt (s.fbcRec 1 x) 10 else byteAt (s.fbcRec 5 (x - 8)) 5) 40 * 100000000

/-- The field die refreshes the transceivers whose controllers run (R364). -/
def State.xcvrRefresh (s : State) : State :=
  if ¬ s.fbcUp then s
  else
    let last := (List.range 12).foldl (fun m x => max m (ngetD s.fbc.refresh x 0)) 0
    let s := s.until (last + 100000000)
    let hung := fun x => decide (x < 8) && s.canTested x
    let live := (List.range 12).filter fun x => !(hung x)
    s.each live fun s x =>
      let s := { s with fbc := { s.fbc with refresh := nset s.fbc.refresh x s.now } }
      if bitOf s.fbc.fs x then
        let s := { s with fbc := { s.fbc with fs := setBit s.fbc.fs x false } }
        let asleep := s.netState x == 0
        (s.xcvrSleep x asleep).arm x (asleep && s.wakeEn x)
      else s

/-- No refresh for T_FS (R364). -/
def State.xcvrFailsafe (s : State) (x : Nat) : State :=
  if 12 ≤ x ∨ bitOf s.fbc.fs x ∨ ¬ s.pcs.vbat then s
  else
    let s := s.until (ngetD s.fbc.refresh x 0 + s.tfs x)
    let s := { s with fbc := { s.fbc with fs := setBit s.fbc.fs x true } }
    (s.xcvrSleep x true).arm x true

end Sys2Proof.Machine
end

