-- ==== Sys2Proof/Machine/Sgw.lean ====
section
/-! DEFINITION. The signal gateway (R369–R386): PDUs, signals, routes, containers. -/

namespace Sys2Proof.Machine

/-! ### Objects -/

/-- The subsystem works (R477, R498). -/
def State.sgwUp (s : State) : Bool := s.coreRuns && s.powered 39 && s.penRuns 30

/-- The settings record of PDU `p`, and of container `k`. -/
def State.pduRec (s : State) (p : Nat) : Option (List Byte) := s.cfgData 0x0104 2 p
def State.contRec (s : State) (k : Nat) : List Byte := (s.cfgData 0x0104 3 k).getD []

def pduKind (r : List Byte) : Nat := byteAt r 0
def pduLen (r : List Byte) : Nat := leAt r 2 2
/-- A transmit PDU, and one with trigger ON_UPDATE. -/
def pduTx (r : List Byte) : Bool := pduKind r % 2 == 1
def pduOnUpdate (r : List Byte) : Bool := bitOf (byteAt r 4) 0

/-- State of PDU `p`, and the state with it changed. -/
def State.pdu (s : State) (p : Nat) : GwPdu := ngetD s.sgw.pdus p {}
def State.modPdu (s : State) (p : Nat) (f : GwPdu → GwPdu) : State :=
  { s with sgw := { s.sgw with pdus := nput {} s.sgw.pdus p (f (s.pdu p)) } }

/-- Signal `i` and route `r`, where defined. -/
def State.sig? (s : State) (i : Nat) : Option GwSignal := nfind s.sgw.sigs i
def State.route? (s : State) (r : Nat) : Option GwRoute := nfind s.sgw.routes r
def State.setRoute (s : State) (r : Nat) (x : GwRoute) : State :=
  { s with sgw := { s.sgw with routes := nset s.sgw.routes r x } }

/-- Fields of a signal (R383). -/
def sgPdu (r : List Byte) : Nat := leAt r 0 2
def sgStart (r : List Byte) : Nat := leAt r 2 2
def sgLen (r : List Byte) : Nat := byteAt r 4
def sgBig (r : List Byte) : Bool := bitOf (byteAt r 5) 0
def sgSigned (r : List Byte) : Bool := bitOf (byteAt r 5) 1
def sgHasInvalid (r : List Byte) : Bool := bitOf (byteAt r 5) 2
def sgFactor (r : List Byte) : F64 := f64OfBits (leAt r 8 8)
def sgOffset (r : List Byte) : F64 := f64OfBits (leAt r 16 8)
def sgInvalid (r : List Byte) : Nat := leAt r 24 8 % 2 ^ sgLen r
def sgInit (r : List Byte) : Nat := leAt r 32 8 % 2 ^ sgLen r

/-- Bit numbers of a signal from its most significant bit downwards in a big-endian layout (R373) (DEDUCED, log entry 76). -/
def beBits : Nat → Nat → List Nat
  | 0, _ => []
  | n + 1, p => p :: beBits n (if p % 8 = 0 then p + 15 else p - 1)

/-- Bit numbers of a signal from its least significant bit upwards (R373). -/
def sgBits (r : List Byte) : List Nat :=
  if sgBig r then (beBits (sgLen r) (sgStart r)).reverse else (List.range (sgLen r)).map fun i => sgStart r + i

/-- The raw value of a signal in a PDU's bytes. -/
def sgGet (r : List Byte) (d : List Byte) : Nat :=
  (sgBits r).foldr (fun p v => 2 * v + b2n (bitOf (byteAt d (p / 8)) (p % 8))) 0

/-- A PDU's bytes with a signal's raw value placed (DEDUCED, log entry 76). -/
def sgPut (r : List Byte) (v : Nat) (d : List Byte) : List Byte :=
  ((sgBits r).zipIdx).foldl (fun d e =>
    d.set (e.1 / 8) (BitVec.ofNat 8 (setBit (byteAt d (e.1 / 8)) (e.1 % 8) (bitOf v e.2)))) d

/-- The image of a PDU from its signals' values (R378) (DEDUCED, log entry 76). -/
def State.pduImage (s : State) (p : Nat) (r : List Byte) : List Byte :=
  s.sgw.sigs.foldl (fun d e => if sgPdu e.2.raw = p then sgPut e.2.raw e.2.val d else d) (List.replicate (pduLen r) 0)

/-- The gateway's event bits and its refusals. -/
def State.sgwEvt (s : State) (f : Fld) : State := s.setFlag f true
def State.gwShort (s : State) : State := (s.inc SGW_CNT_RX_SHORT).sgwEvt SGW_EVT_RX_REFUSED

/-! ### Transmission (R371, R372, R374, R378–R380) -/

/-- The ones'-complement sum of 16-bit words of bytes, most significant byte first. -/
def onesSum : List Byte → Nat
  | a :: b :: l => let s := a.toNat * 256 + b.toNat + onesSum l; s % 65536 + s / 65536
  | [a] => a.toNat * 256
  | [] => 0

/-- The Internet checksum of bytes. -/
def inetSum (b : List Byte) : Nat := 65535 - onesSum b

/-- `SGW_MAC`. -/
def State.sgwMac (s : State) : Nat := beAt ((s.cfgData 0x0104 1 0).getD []) 0 6

/-- A frame of the gateway enters the bridge at port M (R372). -/
def State.gwFrame (s : State) (dst tag etype : Nat) (d : List Byte) : State :=
  let t := if tag % 4096 = 0 then [] else beBytes 2 0x8100 ++ beBytes 2 tag
  let b := beBytes 6 dst ++ beBytes 6 s.sgwMac ++ t ++ beBytes 2 etype ++ d ++ List.replicate (46 - d.length) 0
  s.mIngress b

/-- An IPv4 datagram with UDP (R372): addresses as their four bytes. -/
def udpDatagram (id ttl dscp : Nat) (src dst : List Byte) (sp dp : Nat) (d : List Byte) : List Byte :=
  let n := 8 + d.length
  let head := fun (ck : Nat) => beBytes 1 0x45 ++ beBytes 1 (dscp * 4) ++ beBytes 2 (20 + n) ++ beBytes 2 id ++ beBytes 2 0x4000 ++
    beBytes 1 ttl ++ beBytes 1 17 ++ beBytes 2 ck ++ src ++ dst
  let pseudo := src ++ dst ++ beBytes 2 17 ++ beBytes 2 n
  let udp := fun (ck : Nat) => beBytes 2 sp ++ beBytes 2 dp ++ beBytes 2 n ++ beBytes 2 ck ++ d
  let ck := inetSum (pseudo ++ udp 0)
  head (inetSum (head 0)) ++ udp (if ck = 0 then 65535 else ck)

/-- The words of a container entry (R379). -/
def entryWords (td pdu upd : Nat) (d : List Byte) : List Nat :=
  (upd % 65536 * 65536 + d.length * 4294967296 + pdu * 281474976710656 + td * 18446744073709551616) ::
    (List.range (ceilDiv d.length 16)).map fun i => leNat ((d.drop (16 * i)).take 16)

/-- State of container `k`, and the state with it set. -/
def State.cont (s : State) (k : Nat) : GwCont := ngetD s.sgw.conts k {}
def State.setCont (s : State) (k : Nat) (x : GwCont) : State := { s with sgw := { s.sgw with conts := nput {} s.sgw.conts k x } }

/-- Payload words waiting in a container. -/
def GwCont.words (x : GwCont) : Nat := x.entries.foldl (fun n e => n + e.2.length) 0

/-- A transmit container's frame is sent (R379, R380). -/
def State.contSend (s : State) (k : Nat) : State :=
  let x := s.cont k
  let r := s.contRec k
  if x.entries.isEmpty then s
  else
    let vid := leAt r 14 2
    let s := s.setCont k { x with entries := [], since := none, seq := (x.seq + 1) % 4294967296 }
    s.mSend (beAt r 8 6) (if vid % 4096 = 0 then none else some vid) 4 (leAt r 4 4) x.seq 0 (x.entries.flatMap Prod.snd)

/-- A member PDU's image becomes an entry (R380). -/
def State.contPut (s : State) (k p : Nat) (ws : List Nat) : State :=
  let r := s.contRec k
  if byteAt r 0 % 4 ≠ 3 then s
  else
    let top := leAt r 16 2
    let x := s.cont k
    let without := { x with entries := x.entries.filter fun e => e.1 != p }
    let had := decide (without.entries.length < x.entries.length)
    -- an entry that does not fit beside those waiting goes into the next frame
    let s := if !had && decide (top < x.words + ws.length) then s.contSend k else s
    let x := s.cont k
    let x := if had then { x with entries := x.entries.map fun e => if e.1 = p then (p, ws) else e }
             else { x with entries := x.entries ++ [(p, ws)], since := some (x.since.getD s.now) }
    let s := s.setCont k x
    if top ≤ x.words then s.contSend k else s

/-- The XL page of the gateway's frames; the manual names none. -/
def State.gwPage (s : State) (n : Nat) : Nat × State :=
  if n ≤ 64 then (0, s) else let (k, s) := s.freeNat; (k % (65 - min 64 (ceilDiv n 256)), s)

/-- The image of a PDU as it is built at this instant (R378, R379). -/
def State.pduNow (s : State) (p : Nat) (r : List Byte) : GwImage :=
  { data := s.pduImage p r, at_ := s.td0, upd := (s.pdu p).upd }

/-- Data for a LIN identifier's buffer (R353, R372). -/
def State.linPut (s : State) (l id : Nat) (d : List Byte) : State := (s.linNote l id).setArea (linArea l + 16 * id) d

/-- A transmit PDU's image leaves by its kind (R372). `live` says that it holds the latest values: a LIN response takes
the updates that still come before it starts (R378). -/
def State.pduSend (s : State) (p : Nat) (r : List Byte) (g : GwImage) (live : Bool) : State :=
  let b1 := byteAt r 1
  let d := g.data
  let s := s.modPdu p fun x => { x with img := d, last := some s.now }
  match pduKind r with
  | 1 =>
    let b := byteAt r 5
    let base := canArea b1 + 80 * b
    let (page, s) := s.gwPage d.length
    let h := leBytes 4 (leAt r 18 4) ++ leBytes 1 (byteAt r 22) ++ leBytes 2 0 ++ leBytes 1 page ++ leBytes 2 d.length ++ leBytes 6 0
    let s := s.setArea base h
    let s := if d.length ≤ 64 then s.setArea (base + 16) d else s.setArea (canArea b1 + 0x8000 + 256 * page) d
    s.canRequest b1 b
  | 3 => (s.linPut b1 (byteAt r 18 % 64) d).modPdu p fun x => { x with open_ := live }
  | 5 => s.gwFrame (beAt r 26 6) (leAt r 32 2) (leAt r 24 2) d
  | 7 =>
    let id := s.sgw.ipId
    let s := { s with sgw := { s.sgw with ipId := (id + 1) % 65536 } }
    s.gwFrame (beAt r 26 6) (leAt r 32 2) 0x0800
      (udpDatagram id (byteAt r 46) (byteAt r 47 % 64) ((r.drop 34).take 4) ((r.drop 38).take 4) (leAt r 42 2) (leAt r 44 2) d)
  | 9 => s.contPut b1 p (entryWords g.at_ p g.upd d)
  | _ => s

/-- MIN_GAP of a PDU, ns (DEDUCED, log entry 77). -/
def pduGap (r : List Byte) : Nat := leAt r 12 4 * 1000

/-- The gap since the previous transmission has ended (R374) (DEDUCED, log entry 77). -/
def State.gapOver (s : State) (p : Nat) (r : List Byte) : Bool :=
  match (s.pdu p).last with | some t => decide (t + pduGap r ≤ s.now) | none => true

/-- An image of a RESCALE update is queued, at most four (R375). -/
def State.queueImage (s : State) (p : Nat) (d : GwImage) : State :=
  let q := (s.pdu p).queue
  let s := s.modPdu p fun x => { x with queue := (if 4 ≤ q.length then q.drop 1 else q) ++ [d] }
  if 4 ≤ q.length then (s.inc SGW_CNT_QUEUE_OVF).sgwEvt SGW_EVT_QUEUE_OVF else s

/-- A write to a transmit PDU's signal counts as an update (R374, R375): `rescale` for a RESCALE route. An update within
the gap waits; otherwise the PDU is marked to be sent once all updates of this instant are in. -/
def State.pduUpdated (s : State) (p : Nat) (rescale : Bool) : State :=
  match s.pduRec p with
  | none => s
  | some r =>
    let s := s.modPdu p fun x => { x with upd := (x.upd + 1) % 65536 }
    let s := if (s.pdu p).open_ && pduKind r == 3 then s.linPut (byteAt r 1) (byteAt r 18 % 64) (s.pduImage p r) else s
    if !(pduOnUpdate r) then s
    else if rescale && !(s.gapOver p r && (s.pdu p).queue.isEmpty) then s.queueImage p (s.pduNow p r)
    else s.modPdu p fun x => { x with wait := true }

/-- Every ON_UPDATE PDU that waits and whose gap has ended is sent (R374, R378, R382). -/
def State.flushPdus (s : State) : State :=
  s.each s.sgw.pdus fun s (p, _) =>
    match s.pduRec p with
    | none => s
    | some r =>
      let x := s.pdu p
      if x.wait && x.queue.isEmpty && s.gapOver p r && pduTx r then
        (s.modPdu p fun x => { x with wait := false }).pduSend p r (s.pduNow p r) true
      else s

/-- MIN_GAP ends: the oldest queued image, or the waiting values, are sent (R374, R375). -/
def State.gapEnd (s : State) (p : Nat) : State :=
  match s.pduRec p, (s.pdu p).last with
  | some r, some t =>
    if ¬ s.sgwUp ∨ ¬ ((s.pdu p).wait ∨ (s.pdu p).queue ≠ []) ∨ ¬ pduTx r then s
    else
      let s := s.until (t + pduGap r)
      match (s.pdu p).queue with
      | d :: q => (s.modPdu p fun x => { x with queue := q }).pduSend p r d false
      | [] => (s.modPdu p fun x => { x with wait := false }).pduSend p r (s.pduNow p r) true
  | _, _ => s

/-- A PERIODIC PDU falls due in TD0 (R374) (DEDUCED, log entry 77). -/
def State.periodicTx (s : State) (p : Nat) : State :=
  match s.pduRec p with
  | none => s
  | some r =>
    if ¬ s.sgwUp ∨ ¬ pduTx r ∨ pduOnUpdate r then s
    else
      let t := (s.pdu p).next.getD s.td0
      let s := s.untilTd 0 t
      if s.td0 < t then s
      else (s.modPdu p fun x => { x with next := some (t + leAt r 8 4 * 1000) }).pduSend p r (s.pduNow p r) true

/-- HOLD after the first waiting entry (R380). -/
def State.holdExpiry (s : State) (k : Nat) : State :=
  match (s.cont k).since with
  | none => s
  | some t => if ¬ s.sgwUp then s else (s.until (t + leAt (s.contRec k) 20 4 * 1000)).contSend k

/-! ### Routes (R375–R377) -/

/-- A destination signal takes a raw value. -/
def State.sigWrite (s : State) (i v : Nat) (rescale : Bool) : State :=
  match s.sig? i with
  | none => s
  | some x =>
    let s := { s with sgw := { s.sgw with sigs := nset s.sgw.sigs i { x with val := v % 2 ^ sgLen x.raw } } }
    s.pduUpdated (sgPdu x.raw) rescale

/-- The raw value as an integer. -/
def sgInt (r : List Byte) (v : Nat) : Int := if sgSigned r then signed (sgLen r) v else (v : Int)

/-- The raw range of a signal. -/
def sgRange (r : List Byte) : Int × Int :=
  if sgSigned r then (-(2 ^ (sgLen r - 1) : Nat), (2 ^ (sgLen r - 1) : Nat) - 1) else (0, (2 ^ sgLen r : Nat) - 1)

/-- The routes that carry a frame which ended at real time `t`, ascending: those in force then (R378). -/
def State.routesAt (s : State) (t : Nat) : NMap GwRoute :=
  (s.sgw.gone.filter fun e => decide (e.2.1.since ≤ t ∧ t < e.2.2)).foldl (fun m e => nset m e.1 e.2.1)
    (s.sgw.routes.filter fun e => decide (e.2.since ≤ t))

/-- A route's counts and flags change, unless the route has gone since. -/
def State.routeNote (s : State) (k : Nat) (x : GwRoute) : State :=
  if (s.route? k).any fun y => y.since == x.since then s.setRoute k x else s

/-- y of R376 in binary64. -/
def rescaled (a b : List Byte) (v : Nat) : F64 :=
  let x := F64.mul (f64Round (sgInt a v) 1) (sgFactor a)
  F64.div (F64.add (F64.add x (sgOffset a)) (sgOffset b).neg) (sgFactor b)

/-- A route carries one update of its source (R375, R376). -/
def State.routeUpdate (s : State) (k : Nat) (x : GwRoute) (v : Nat) : State :=
  match s.sig? x.src, s.sig? x.dst with
  | some a, some b =>
    let s := s.count 456
    let x := { x with seen := true, timedOut := false }
    let ok := fun (x : GwRoute) => { x with fwd := (x.fwd + 1) % 4294967296 }
    if x.mode = 0 then (s.routeNote k (ok x)).sigWrite x.dst v false
    else if sgHasInvalid a.raw && v == sgInvalid a.raw then
      if sgHasInvalid b.raw then (s.routeNote k (ok x)).sigWrite x.dst (sgInvalid b.raw) true else s.routeNote k x
    else
      let (lo, hi) := sgRange b.raw
      let y := rescaled a.raw b.raw v
      let (r, sat, s) := match y.toInt lo hi with
        | some r =>
          -- saturated where the unlimited integer differs
          (r, decide (y.toInt (lo - 1) (hi + 1) ≠ some r), s)
        | none => let (r, s) := s.freeIn lo hi; (r, false, s)
      let x := if sat then { x with sat := min 65535 (x.sat + 1) } else x
      let s := if sat then s.sgwEvt SGW_EVT_SAT else s
      (s.routeNote k (ok x)).sigWrite x.dst (unsignedOf (sgLen b.raw) r) true
  | _, _ => s

/-- Receive PDU `p` holds an image `d`, and each of its signals the raw value at its place in it (R370, R373). -/
def State.pduSignals (s : State) (p : Nat) (d : List Byte) : State :=
  let u := s.modPdu p fun x => { x with img := d, seen := s.now, timedOut := false }
  { u with sgw := { u.sgw with sigs := nmap (fun _ (x : GwSignal) =>
      if sgPdu x.raw = p then { x with val := sgGet x.raw d } else x) u.sgw.sigs } }

/-- Route `k` carries its source's value on if the source is a signal of PDU `p` (R375). -/
def State.routeCarry (s : State) (p k : Nat) (x : GwRoute) : State :=
  match s.sig? x.src with
  | some a => if sgPdu a.raw = p then s.routeUpdate k x a.val else s
  | none => s

/-- A receive PDU is taken from a frame that ended at real time `t` (R370, R377): its signals, and the routes from them in
ascending order, as they stood then (R378). -/
def State.pduTake (s : State) (t p : Nat) (r d : List Byte) : State :=
  if d.length < pduLen r then s.gwShort
  else
    let u := s.pduSignals p (d.take (pduLen r))
    (u.each (u.routesAt t) fun v e => v.routeCarry p e.1 e.2).flushPdus

/-- Every receive PDU of a kind that satisfies `f` takes data of a frame that ended at `t`. -/
def State.pdusTake (s : State) (t kind : Nat) (f : List Byte → Bool) (d : List Byte) : State :=
  if ¬ s.sgwUp then s
  else s.each (s.cfgAll 0x0104 2) fun s (p, r) => if pduKind r == kind && f r then s.pduTake t p r d else s

/-- A CAN frame with the gateway action (R348, R370). -/
def State.gwCan (s : State) (c id fmt : Nat) (d : List Byte) : State :=
  s.pdusTake s.now 0 (fun r => byteAt r 1 == c && leAt r 18 4 == id && byteAt r 22 % 4 == fmt) d

/-- A subscribed LIN response with status OK. -/
def State.gwLin (s : State) (l id : Nat) (d : List Byte) : State :=
  s.pdusTake s.now 2 (fun r => byteAt r 1 == l && byteAt r 18 % 64 == id) d

/-- A datagram that R371 accepts: source, destination, destination port, payload; refused datagrams are none. -/
def parseUdp (b : List Byte) : Option (Option (List Byte × List Byte × Nat × List Byte)) :=
  let total := beAt b 2 2
  let src := (b.drop 12).take 4
  let dst := (b.drop 16).take 4
  let n := beAt b 24 2
  let udp := (b.drop 20).take n
  let ok := byteAt b 0 == 0x45 && !(bitOf (beAt b 6 2) 13) && beAt b 6 2 % 8192 == 0 && onesSum (b.take 20) == 65535 &&
    decide (total ≤ b.length)
  if !ok then none
  else if byteAt b 9 ≠ 17 then some none
  else if n < 8 ∨ total < 20 + n then none
  else if beAt b 26 2 = 0 ∨ onesSum (src ++ dst ++ beBytes 2 17 ++ beBytes 2 n ++ udp) = 65535 then
    some (some (src, dst, beAt b 22 2, udp.drop 8))
  else none

/-- The gateway's copy of a frame that port M took under an M_FWD EtherType (R370, R371). -/
def State.gwEth (s : State) (f : EthFrame) : State :=
  if ¬ (s.sgwUp ∧ s.mFwd f.etype) then s
  else
    let d := f.body.drop 2
    let s := s.pdusTake f.rxAt 4 (fun r => leAt r 24 2 == f.etype && (beAt r 26 6 == 0 || beAt r 26 6 == f.src)) d
    if f.etype ≠ 0x0800 then s
    else match parseUdp d with
      | none => (s.inc SGW_CNT_RX_IP).sgwEvt SGW_EVT_RX_REFUSED
      | some none => s
      | some (some (src, dst, port, p)) =>
        s.pdusTake f.rxAt 6 (fun r => (r.drop 38).take 4 == dst && leAt r 44 2 == port &&
          (leAt r 34 4 == 0 || (r.drop 34).take 4 == src)) p

/-- The entries of a container's payload: PDU index and data, or none where they overrun it (R379, R380). -/
def contEntries (f : EthFrame) : Nat → Nat → Option (List (Nat × List Byte))
  | 0, i => if i = f.words then some [] else none
  | fuel + 1, i =>
    if i = f.words then some []
    else
      let h := f.word i
      let n := bitsOf h 47 32
      let w := ceilDiv n 16
      if f.words < i + 1 + w then none
      else match contEntries f fuel (i + 1 + w) with
        | none => none
        | some l => some ((bitsOf h 63 48, (f.body.drop (18 + 16 * (i + 1))).take n) :: l)

/-- CONTAINER_RX: the first waiting Signal Container at port M (R380); an entry feeds the PDU of its index if that PDU names
the container (R370, R385). -/
def State.containerRx (s : State) : State :=
  match s.mTake fun f => f.etype == s.esw.etype && f.kind == 4 with
  | (none, s) => s
  | (some f, s) =>
    if ¬ s.sgwUp then s
    else s.each (s.cfgAll 0x0104 3) fun s (k, r) =>
      if byteAt r 0 % 4 ≠ 1 ∨ leAt r 4 4 ≠ f.streamId ∨ leAt r 2 2 ≠ f.node then s
      else match contEntries f (f.words + 1) 0 with
        | none => s.gwShort
        | some l => s.each l fun s (i, d) =>
          (match s.pduRec i with
            | some p => if pduKind p = 8 ∧ byteAt p 1 = k then s.pduTake f.rxAt i p d else s
            | none => s)

/-- A route from a signal of the timed-out PDU `p` is timed out, and its destination takes what ON_TIMEOUT says (R377). -/
def State.routeTimeout (s : State) (p k : Nat) (x : GwRoute) : State :=
  match s.sig? x.src, s.sig? x.dst with
  | some a, some b =>
    if sgPdu a.raw ≠ p then s
    else
      let s := s.setRoute k { x with timedOut := true }
      if x.onTimeout = 1 then s.sigWrite x.dst (sgInit b.raw) (x.mode == 1)
      else if x.onTimeout = 2 ∧ sgHasInvalid b.raw then s.sigWrite x.dst (sgInvalid b.raw) (x.mode == 1)
      else s
  | _, _ => s

/-- RX_TIMEOUT of a receive PDU (R377). -/
def State.gwTimeout (s : State) (p : Nat) : State :=
  match s.pduRec p with
  | none => s
  | some r =>
    let ms := leAt r 16 2
    if ¬ s.sgwUp ∨ ms = 0 ∨ pduTx r ∨ (s.pdu p).timedOut then s
    else
      let s := s.until ((s.pdu p).seen + ms * 1000000)
      let s := (s.modPdu p fun x => { x with timedOut := true }).sgwEvt SGW_EVT_TIMEOUT
      (s.each s.sgw.routes fun u e => u.routeTimeout p e.1 e.2).flushPdus

/-! ### Commands (R383, R384) -/

/-- A signal record is valid for the PDUs in force (R373, R383). -/
def State.signalOk (s : State) (r : List Byte) : Bool :=
  match s.pduRec (sgPdu r) with
  | none => false
  | some p =>
    inR (sgLen r) 1 64 && decide (byteAt r 5 < 8) && zeroB r 6 2 && zeroB r 40 8 && decide (sgStart r ≤ 16383) &&
      (sgBits r).all (fun b => decide (b < 8 * pduLen p)) && (sgFactor r).isFin && !(sgFactor r).isZero && (sgOffset r).isFin

/-- Lowest route that satisfies `f`. -/
def State.routeWhere (s : State) (f : GwRoute → Bool) : Option Nat := (s.sgw.routes.find? fun e => f e.2).map Prod.fst

/-- A signal comes into being with its INIT value. -/
def State.sigDefine (s : State) (i : Nat) (r : List Byte) : State :=
  { s with sgw := { s.sgw with sigs := nset s.sgw.sigs i { raw := r, val := sgInit r } } }

def specSignalDefine : OpSpec where
  code := 0x0501
  own c := some (6, c.tgt)
  check s c :=
    let r := c.desc.params
    checks s c
      [(s.notOwner c 6 c.tgt || (decide (sgPdu r < 512) && s.owner 8 (sgPdu r) != c.fn), bad stNotOwner), outOfRange c 4096]
      [(0, 6), (8, 32)] [(decide (512 ≤ sgPdu r) || !(s.signalOk r), bad stBadParam)]
  outcome s c := (s.routeWhere fun x => x.src == c.tgt || x.dst == c.tgt).map fun k => (stAborted, some k)
  run s c := (s.sigDefine c.tgt c.desc.params).finish c.seq (stOk, none)

/-- Parameters of ROUTE_CREATE as a route. -/
def routeOf (p : List Byte) : GwRoute :=
  { src := leAt p 0 2, dst := leAt p 2 2, mode := byteAt p 4, onTimeout := byteAt p 5 % 4 }

/-- A route fits the signals and PDUs in force (R375, R384): from a receive PDU to a transmit PDU. -/
def State.routeFits (s : State) (x : GwRoute) : Bool :=
  let dir := fun (i : Nat) => (s.sig? i).bind fun g => (s.pduRec (sgPdu g.raw)).map fun r => (g.raw, pduTx r)
  match dir x.src, dir x.dst with
  | some (a, ta), some (b, tb) =>
    !ta && tb && decide (x.mode ≤ 1) && (x.mode == 1 || (sgLen a == sgLen b && sgSigned a == sgSigned b))
  | _, _ => false

/-- A route's parameters are valid (R384). -/
def State.routeOk (s : State) (p : List Byte) : Bool := s.routeFits (routeOf p) && decide (byteAt p 5 ≤ 2)

/-- Refusals of ROUTE_CREATE and ROUTE_DELETE by the target's state. -/
def State.routeRefused (s : State) (c : Cmd) : Option Res :=
  if c.desc.opcode.toNat = 0x0502 then
    if (s.route? c.tgt).isSome then some (bad stAborted)
    else (s.routeWhere fun x => x.dst == c.p 2 2).map fun k => (stAborted, some k)
  else if (s.route? c.tgt).isNone then some (bad stAborted) else none

/-- A route is deleted at the present instant; while frames wait at port M it stands for those that ended before (R378). -/
def State.routeRemove (s : State) (k : Nat) : State :=
  let gone := match s.route? k with
    | some x => (k, x, s.now) :: s.sgw.gone
    | none => s.sgw.gone
  { s with sgw := { s.sgw with routes := nerase s.sgw.routes k, gone := if s.esw.mq.isEmpty then [] else gone } }

/-- The route command's effect at the present grid point (R378). -/
def State.routeEffect (s : State) (c : Cmd) : State :=
  match s.routeRefused c with
  | some r => s.finish c.seq r
  | none =>
    let s := if c.desc.opcode.toNat = 0x0502 then s.setRoute c.tgt { routeOf c.desc.params with since := s.now }
      else s.routeRemove c.tgt
    s.completeTime c.seq

def specRouteCreate : OpSpec where
  code := 0x0502
  atomic := true
  waits := true
  own c := some (7, c.tgt)
  check s c :=
    let foreign := fun (i : Nat) => decide (i < 4096) && s.owner 6 i != c.fn
    checks s c
      [(s.notOwner c 7 c.tgt || foreign (c.p 0 2) || foreign (c.p 2 2), bad stNotOwner), outOfRange c 1024]
      [(0, 6)] [(!(s.routeOk c.desc.params), bad stBadParam)]
  outcome s c := s.routeRefused c
  run s c := s.setStage c.seq .started

def specRouteDelete : OpSpec where
  code := 0x0503
  atomic := true
  waits := true
  own c := some (7, c.tgt)
  check s c :=
    let foreign := fun (i : Nat) => s.owner 6 i != c.fn
    let theirs := match s.route? c.tgt with | some x => foreign x.src || foreign x.dst | none => false
    checks s c [(s.notOwner c 7 c.tgt || theirs, bad stNotOwner), outOfRange c 1024] [] []
  outcome s c := s.routeRefused c
  run s c := s.setStage c.seq .started

def specRouteStatus : OpSpec where
  code := 0x0504
  own c := some (7, c.tgt)
  check s c :=
    let foreign := fun (i : Nat) => s.owner 6 i != c.fn
    let theirs := match s.route? c.tgt with | some x => foreign x.src || foreign x.dst | none => false
    checks s c [(s.notOwner c 7 c.tgt || theirs, bad stNotOwner), outOfRange c 1024] [] []
  run s c :=
    match s.route? c.tgt with
    | some x => s.complete c.seq stOk (x.fwd + x.sat * 4294967296 + b2n x.timedOut * 281474976710656 + b2n x.seen * 562949953421312)
    | none => s.finish c.seq (bad stAborted)

/-- ROUTE_CHANGE_EFFECT: the route commands fetched before this grid point, and not held (R269), take effect (R378). -/
def State.routesDue (s : State) (holds : Cmd → Bool) : State :=
  if ¬ s.atGrid then s
  else s.each (s.sf.cmds.filter fun c => c.stage == .started && (c.desc.opcode.toNat == 0x0502 || c.desc.opcode.toNat == 0x0503) &&
      decide (c.at_ < s.now) && !(holds c)) fun s c =>
    if c.late s.effectNs then s.finish c.seq (bad stDeadlineMissed) else s.routeEffect c

/-! ### Settings (R381, R385) -/

/-- The gateway's image memory in bytes (R381). -/
def State.sgwNeed (s : State) : Nat :=
  16 * s.sgw.sigs.length + ((s.cfgAll 0x0104 2).map fun e =>
    let n := ceilDiv (pduLen e.2) 16 * 16
    if !(pduTx e.2) then n else if pduOnUpdate e.2 then 5 * n else 0).foldl (· + ·) 0

end Sys2Proof.Machine
end

