-- ==== Sys2Proof/Machine/CanRx.lean ====
section
/-! DEFINITION. CAN reception and LIN (R348–R353): filters, catch buffers, the receive FIFO, LIN slots and responses. -/

namespace Sys2Proof.Machine

/-- Format of a received frame. -/
def rxKind (f : CanRx) : Nat := f.fmt.toNat % 4

/-- A filter record matches a frame (R348, R367). -/
def filterHit (r : List Byte) (en : Nat) (f : CanRx) : Bool :=
  let m := byteAt r 8
  bitOf (byteAt r 9) en && ((f.id.toNat ^^^ leAt r 0 4) &&& leAt r 4 4) == 0 && (m == 0 || bitOf m (rxKind f))

/-- Bytes 0–31 of a receive entry (R349): `sof` TD0 time, `seq` the SEQ byte. -/
def rxHead (f : CanRx) (boff trunc : Bool) (idx xlOfs sof seq : Nat) : List Byte :=
  leBytes 4 f.id.toNat ++ leBytes 1 (f.fmt.toNat % 32 + 32 * b2n boff + 64 * b2n trunc) ++ leBytes 1 f.sdt.toNat ++
    leBytes 1 f.vcid.toNat ++ leBytes 1 idx ++ leBytes 2 f.data.length ++ leBytes 2 xlOfs ++ leBytes 4 f.af.toNat ++
    leBytes 8 sof ++ leBytes 1 seq ++ List.replicate 7 0

/-- Catch buffer `k` takes a frame (R350). -/
def State.canCatch (s : State) (c k : Nat) (f : CanRx) (boff : Bool) (sof : Nat) : State :=
  let base := canArea c + 0x1400 + 96 * k
  let seq := ((ngetD s.fbc.area (base + 24) 0).toNat + 2) % 256
  let s := s.setArea base (rxHead f boff (decide (64 < f.data.length)) k 0 sof seq ++ f.data.take 64)
  s.msi (s.fnFile (s.owner 9 c)) (s.get FBC_CANc_CATCHf_ID_IDENTITY c k)

/-- Bytes written into the XL receive ring from an offset, wrapping (R351). -/
def State.ringPut (s : State) (c : Nat) : List Byte → Nat → State
  | [], _ => s
  | b :: l, o => (s.setArea (canArea c + 0xC000 + o % 8192) [b]).ringPut c l (o + 1)

/-- The receive FIFO takes a frame, or drops it (R351). -/
def State.canFifo (s : State) (c i : Nat) (f : CanRx) (boff : Bool) (sof : Nat) : State :=
  let w := s.get FBC_CANc_RXF_WIDX_INDEX c
  let r := s.get FBC_CANc_RXF_RIDX_INDEX c
  let x := s.can c
  let more := f.data.drop 64
  let used := x.ring.foldl (· + ·) 0
  if (w + 128 - r) % 128 = 64 ∨ 8192 < used + more.length then
    (s.inc FBC_CANc_CNT_RX_DROP 1 c).canEvt c 2
  else
    let ofs := if more.isEmpty then 0 else x.ringAt
    let s := s.setArea (canArea c + 0x2000 + 96 * (w % 64)) (rxHead f boff false i ofs sof 0 ++ f.data.take 64)
    let s := s.ringPut c more x.ringAt
    let s := s.modCan c fun x => { x with ring := x.ring ++ [more.length], ringAt := (x.ringAt + more.length) % 8192 }
    (s.set FBC_CANc_RXF_WIDX_INDEX ((w + 1) % 128) c).canEvt c 1

/-- The first enabled matching filter of a list of indices. -/
def State.filterOn (s : State) (rtype base n en : Nat) (f : CanRx) : Option (Nat × List Byte) :=
  (List.range n).findSome? fun i =>
    match s.cfgData 0x0102 rtype (base + i) with
    | some r => if filterHit r en f then some (i, r) else none
    | none => none

/-- A Bellwether among the received data frames (R357). -/
def State.canBell (s : State) (c : Nat) (f : CanRx) : State :=
  let b := leAt (s.netRec c) 12 4
  let id := f.id.toNat
  if s.netEn c && !(bitOf id 30) && bitOf b 29 == bitOf id 29 &&
      decide (b % 536870912 ≤ id % 536870912 ∧ id % 536870912 < b % 536870912 + 64) then
    s.bellHeard c (if f.data.length < 2 then id % 536870912 - b % 536870912 else beAt f.data 0 2)
  else s

/-- A CAN frame ends on controller `c`'s bus (R345, R348–R351, R357, R361). Without VCAN the bus is held recessive and carries
none (R2, R333). -/
def State.canFrameRx (s : State) (c : Nat) (f : CanRx) : State :=
  let start := s.now - f.ago
  let s := if s.fbcUp ∧ c < 8 ∧ ¬ s.pcs.vcanUv then s.netActivity c start else s
  let st := s.get FBC_CANc_ERR_STATE c
  let listens := s.netState c != 0 || decide ((s.net c).commit.isSome)
  let fmtOk : Bool := match (rxKind f) with | 0 => true | 1 => s.canFlag c 0 | 2 => s.canFlag c 1 | _ => false
  if ¬ (s.fbcUp ∧ c < 8 ∧ ¬ s.pcs.vcanUv ∧ s.canFlag c 5 ∧ st ≠ 3 ∧ fmtOk) ∨ s.canTested c ∨ !listens ||
      (match (s.net c).commit with | some t => decide (t ≤ start) | none => false) then s
  else
    let tec := s.get FBC_CANc_ERR_TEC c
    let recv := s.get FBC_CANc_ERR_REC c
    if f.errs ≠ 0 then s.canCounters c tec (recv + f.errs)
    else
      -- ISO 11898-1: a received frame lowers a counter of 1 to 127 by one, and a higher one to between 119 and 127
      let (recv, s) := if recv ≤ 127 then (recv - 1, s) else (let (k, s) := s.freeNat; (119 + k % 9, s))
      let s := s.canCounters c tec recv
      let boff := decide (st = 2)
      let sof := s.td0 - f.ago
      let s := (s.count (448 + c)).canBell c f
      let hit := s.filterOn 3 (8 * c) 8 0 f
      let s := match hit with | some (k, _) => s.canCatch c k f boff sof | none => s
      let goes := match hit with | some (_, r) => bitOf (byteAt r 9) 1 | none => true
      if !goes then s
      else match s.filterOn 4 (256 * c) 256 2 f with
        | none => s
        | some (i, r) =>
          let act := byteAt r 9 % 4
          let s := if act = 1 ∨ act = 3 then s.canFifo c i f boff sof else s
          if act = 2 ∨ act = 3 then s.gwCan c f.id.toNat (rxKind f) f.data else s

/-! ### LIN (R352, R353, R361, R362) -/

/-- The frame table entry of an identifier (DEDUCED, log entry 75). -/
def State.linEntry (s : State) (l id : Nat) : List Byte := s.fbcRec 6 (64 * l + id)
def State.linOn (s : State) (l : Nat) : Bool :=
  bitOf (byteAt (s.fbcRec 5 l) 0) 1 && (nfind s.fcu.tests (0x400 + l)).isNone

/-- A commander's schedule slot begins: its header is sent, in NETWORK only (R353). -/
def State.linSlot (s : State) (l : Nat) : State :=
  match (s.lin l).slotAt with
  | none => s
  | some t =>
    let r := s.fbcRec 7 l
    let n := leAt r 0 2
    if ¬ (s.fbcUp ∧ l < 4 ∧ s.linOn l ∧ s.linCommander l ∧ n ≠ 0) ∨ s.netState (8 + l) ≠ 1 then s
    else
      let s := s.until t
      let i := (s.lin l).idx % n
      let id := byteAt r (16 + 4 * i) % 64
      s.modLin l fun x =>
        { x with idx := (i + 1) % n, slotAt := some (t + leAt r (18 + 4 * i) 2 * 1000000), cur := some id, act := s.now }

/-- The nominal length of a LIN header, 34 bit times, ns (PRESUMED, log entry 75). -/
def State.linHeader (s : State) (l : Nat) : Nat := 34000000000 / max 1 (leAt (s.fbcRec 5 l) 2 2)

/-- A published response has been sent whose header began at real time `t`: it carried the buffer's data as it stood when
the response started (R353); the updates that the gateway wrote into the buffer since, to an image sent before that instant,
belong to its next frame (R378). -/
def State.linPublished (s : State) (l id t n : Nat) : State :=
  let start := t + s.linHeader l
  let d := s.linDataAt l id start
  let s := s.each ((s.cfgAll 0x0104 2).filter fun e =>
      pduKind e.2 == 3 && byteAt e.2 1 == l && byteAt e.2 18 % 64 == id && (s.pdu e.1).open_ &&
        (s.pdu e.1).last.any fun u => decide (u ≤ start)) fun s e =>
    (s.setArea (linArea l + 16 * id) (d.take (pduLen e.2))).modPdu e.1 fun x => { x with open_ := false }
  s.modLin l fun x => { x with resp := d.take n }

/-- A LIN response ends (R352, R353): status 1 OK, or an error; `ago` ns since the break. The end of a commander's
go-to-sleep command is the commit point; what begins from then on is left to wake detection (R362) (DEDUCED, log entry
75). -/
def State.linResponse (s : State) (l id st : Nat) (data : List Byte) (ago : Nat) : State :=
  let start := s.now - ago
  if ¬ (s.fbcUp ∧ l < 4 ∧ s.linOn l ∧ id < 64) then s
  else if (s.lin l).gts ∧ id = 0x3C then
    (s.modLin l fun x => { x with gts := false, cur := none, slotAt := none }).netCommit (8 + l)
  else if s.netState (8 + l) = 0 ∧ (s.net (8 + l)).commit.isNone then s
  else if (match (s.net (8 + l)).commit with | some t => decide (t ≤ start) | none => false) then s
  else
    let s := s.netActivity (8 + l) start
    let s := s.modLin l fun x => { x with act := s.now, cur := none }
    let e := s.linEntry l id
    let base := linArea l + 16 * id
    let time := leBytes 4 (s.td0 - ago)
    match byteAt e 0 % 4 with
    | 1 =>
      let s := s.linPublished l id start (byteAt e 1)
      let s := (s.setArea (base + 9) (leBytes 1 st)).setArea (base + 12) time
      if st = 1 then s else s.linEvt l 1
    | 2 =>
      if st = 1 then
        let d := data.take (byteAt e 1)
        let seq := ((ngetD s.fbc.area (base + 8) 0).toNat + 2) % 256
        let s := s.setArea base d
        let s := (s.setArea (base + 8) (leBytes 1 seq ++ leBytes 1 st)).setArea (base + 12) time
        (s.linEvt l 0).gwLin l id d
      else (s.setArea (base + 9) (leBytes 1 st)).linEvt l 1
    | _ => s

/-- A responder goes to sleep, unless its own need holds it in NETWORK (R356, R361). -/
def State.linSleep (s : State) (l : Nat) : State :=
  let s := s.linEvt l 2
  if s.netState (8 + l) = 1 ∧ ¬ s.netNeed (8 + l) ∧ (s.net (8 + l)).commit.isNone then s.netCommit (8 + l) else s

/-- A responder receives the go-to-sleep command (R361). -/
def State.linGoToSleep (s : State) (l : Nat) : State :=
  if ¬ (s.fbcUp ∧ l < 4 ∧ s.linOn l) ∨ s.linCommander l ∨ s.netState (8 + l) = 0 then s else s.linSleep l

/-- A responder's bus-idle timeout expires (R361). -/
def State.linIdle (s : State) (l : Nat) : State :=
  if ¬ (s.fbcUp ∧ l < 4 ∧ s.linOn l) ∨ s.linCommander l ∨ s.netState (8 + l) = 0 then s
  else
    let t := dflt (byteAt (s.fbcRec 5 l) 4) 4
    let s := s.until ((s.lin l).act + t * 1000000000)
    (s.modLin l fun x => { x with act := s.now }).linSleep l

end Sys2Proof.Machine
end

