-- ==== Sys2Proof/Machine/TbuStep.lean ====
section
/-! DEFINITION. SET and STEP of a time domain, and what a step does to the schedules that run on it (R315–R320). -/

namespace Sys2Proof.Machine

/-- A domain was stepped (R317–R319): the grid of TD0 is formed anew. `old` is its former time in ns. -/
def State.stepped (s : State) (d old : Nat) : State :=
  let s := s.inc TBU_TDd_STEP_CNT_COUNT 1 d
  let s := if d = 0 then
      let v := (s.td 0).val + 5000 * fracOne
      let g := max (s.tbu.grid + 1) (ceilDiv v (10000 * fracOne))
      let s := { s with tbu := { s.tbu with gridNext := g } }
      s.pdaStepped old s.td0
    else s
  (s.eswStepped d old).canStepped d old

/-- The pending SET of a domain takes effect (R315). -/
def State.applySet (s : State) (d : Nat) : State :=
  let t := s.td d
  match t.pendSet with
  | none => s
  | some (sec, ns, frac) =>
    let s := s.setTd d { t with val := ((sec * 1000000000 + ns) * fracOne + frac) % tdWrap, st := .free, pendSet := none }
    s.stepped d t.ns

/-- The pending step of a domain is checked and takes effect (R316). -/
def State.applyStep (s : State) (d : Nat) (afterSet : Bool) : State :=
  let t := s.td d
  match t.pendStep with
  | none => s
  | some delta =>
    let s := s.setTd d { t with pendStep := none }
    if afterSet && s.stepBad d delta then (s.tbuEvt TBU_EVT_STEP_REFUSED d).report (0x1D0 + d)
    else
      let v := (((t.val : Int) + delta * (fracOne : Int)) % (tdWrap : Int)).toNat
      let st := if t.st = .unset then .free else t.st
      let s := s.setTd d { t with val := v, pendStep := none, st := st }
      (s.refresh d).stepped d t.ns

/-- The instant at which a request on domain `d` is applied: the next tick, or for TD0 the next grid point, just after its
samples (R315, R316, R318). -/
def State.tdDue (s : State) (d : Nat) : Option State :=
  if ¬ s.coreRuns then none
  else if d = 0 then (if s.atGrid ∧ (s.td 0).reqAt < s.now then some s else none)
  else some (s.ticks 1)

/-- TIME_SET_APPLY: a requested SET is applied, and then a step requested after it. -/
def State.timeSetApply (s : State) (d : Nat) : State :=
  if (s.td d).pendSet.isNone then s
  else match s.tdDue d with
    | none => s
    | some s => (s.applySet d).applyStep d true

/-- STEP_APPLY: a step with no SET before it is applied. -/
def State.stepApply (s : State) (d : Nat) : State :=
  if (s.td d).pendStep.isNone ∨ (s.td d).pendSet.isSome then s
  else match s.tdDue d with
    | none => s
    | some s => s.applyStep d false


end Sys2Proof.Machine
end

