-- ==== Sys2Proof/Machine/Plb.lean ====
section
/-! DEFINITION. The partner link (R387–R399): reads and their time-outs, prefetch, inbound requests, heartbeat, MSI-X,
link loss. -/

namespace Sys2Proof.Machine

/-- The answer of an access: an error, or bytes as words (DEDUCED, log entry 13; DESIGN CHOICE, log entry 14). -/
def State.answer (s : State) (r : Option (List Byte)) : State :=
  let words := fun (d : List Byte) => (List.range (ceilDiv d.length 4)).map fun i => w32 (leAt d (4 * i) 4)
  { s with bus := { s.bus with answer := match r with | some d => { data := words d } | none => { error := true } } }

def State.hbRec (s : State) : List Byte := (s.cfgData 0x0105 4 0).getD []

/-! ### Outbound accesses (R389–R393, R396) -/

/-- The gatekeeper of the outbound range, the island and the pen (R442, R477, R499). -/
def State.outAdmit (s : State) (i : Init) (a n : Nat) (write : Bool) : Bool × State :=
  if regionOf a ≠ .outbound ∨ regionOf (a + n - 1) ≠ .outbound ∨ n = 0 then (false, s)
  else if s.gkAdmits i.id.toNat i.secure a n write then (true, s)
  else (false, s.gkEvent { gk := 6, kind := 0, init := i.id.toNat, secure := i.secure, write := write, addr := a })

/-- A posted write by an initiator (R391). -/
def State.outboundWrite (s : State) (i : Init) (a : Nat) (d : List Byte) : State :=
  if ¬ s.coreRuns ∨ s.stalled i then s
  else match s.outAdmit i a d.length true with
    | (false, s) => s.answer none
    | (true, s) => match s.outWrite a d with
      | (false, s) => s.answer none
      | (true, s) => s.answer (some [])

/-- Tags in use (R392, R401). -/
def State.plbTags (s : State) : List Nat := (s.plb.reads.filter fun r => r.tag < 64).map PlbRead.tag

/-- A read takes its tag and its requests leave for the partner. -/
def State.sendRead (s : State) (r : PlbRead) : State :=
  match s.cfgData 0x0105 2 r.win with
  | none => s
  | some w =>
    let n := max r.len r.fetch
    ({ s with plb := { s.plb with reads := s.plb.reads ++ [{ r with at_ := s.now }] } }).askPartner w r.addr n

/-- Queued data reads take free tags, oldest first (R392). -/
def State.issueReads (s : State) : State :=
  match s.plb.queue, (List.range 64).find? fun t => !(s.plbTags.contains t) with
  | r :: l, some t => ({ s with plb := { s.plb with queue := l } }).sendRead { r with tag := t }
  | _, _ => s

/-- A window admits a read of this kind: the window, or nothing after a bus error. -/
def State.readWin (s : State) (i : Init) (a n : Nat) (control : Bool) : Option (Nat × List Byte) × State :=
  match s.outAdmit i a n false with
  | (false, s) => (none, s.answer none)
  | (true, s) =>
    if ¬ s.powered 40 then (none, s.gatedAccess.answer none)
    else if ¬ s.penRuns 31 then (none, s.answer none)
    else match s.outWin a n with
      | none => (none, s.unmapped.answer none)
      | some (w, r) =>
        if owControl r ≠ control then (none, s)
        else if !(laneOk (owFlag r 4) (owElem r) (a - owBase r) n) then (none, s.answer none)
        else if ¬ s.plbLink then (none, (s.plbReport 3).answer none)
        else (some (w, r), s)

/-- A read in a data window (R392, R396). -/
def State.splitRead (s : State) (i : Init) (a n : Nat) : State :=
  if ¬ s.coreRuns ∨ s.stalled i then s
  else match s.readWin i a n false with
    | (none, s) => s
    | (some (w, r), s) =>
      match s.lineOf w a n with
      | some l => (s.lineUsed l a n).answer (some ((l.data.drop (a - l.addr)).take n))
      | none =>
        let (fetch, s) := s.fetchLen r a n
        let rd : PlbRead := { tag := 0, init := i.id.toNat, win := w, addr := a, len := n, at_ := s.now, fetch := fetch }
        ({ s with plb := { s.plb with queue := s.plb.queue ++ [rd] } }).issueReads

/-- A read in a control window: it stalls its initiator (R393). -/
def State.heldRead (s : State) (i : Init) (a n : Nat) : State :=
  if ¬ s.coreRuns ∨ s.stalled i then s
  else match s.readWin i a n true with
    | (none, s) => s
    | (some (w, _), s) => s.sendRead { tag := 64, init := i.id.toNat, win := w, addr := a, len := n, at_ := s.now, fetch := n }

/-- The outstanding read of a tag; 64 + i is the held read of initiator `i`. -/
def State.readOf (s : State) (t : Nat) : Option PlbRead :=
  s.plb.reads.find? fun r => if t < 64 then r.tag == t else r.tag == 64 && r.init + 64 == t

/-- A read is no longer outstanding. -/
def State.dropRead (s : State) (r : PlbRead) : State :=
  { s with plb := { s.plb with reads := s.plb.reads.erase r } }

/-- A read is answered; a response that no one waits for is discarded (R414). -/
def State.readAnswer (s : State) (r : PlbRead) (d : Option (List Byte)) : State := if r.void then s else s.answer d

/-- A completion from the partner (R392, R393): its bytes in partner order, or none for an error status. -/
def State.readCompletion (s : State) (t : Nat) (d : Option (List Byte)) : State :=
  if ¬ s.plbUp then s
  else match s.readOf t with
    | none => { s with plb := { s.plb with unexpected := s.plb.unexpected + 1 } }
    | some r =>
      let s := s.dropRead r
      match s.cfgData 0x0105 2 r.win, d with
      | some w, some d =>
        -- the prefetched bytes beyond the request lie in the same element order
        let (_, d) := laneMap (owFlag w 4) (owElem w) (r.addr - owBase w) (padTo r.fetch d)
        let s := s.readAnswer r (some (d.take r.len))
        (s.keepLine r.win r.addr r.len d).issueReads
      | _, _ => (s.readAnswer r none).issueReads

/-- A split read is not completed within CPL_TO (R392). -/
def State.cplTimeout (s : State) (t : Nat) : State :=
  match s.readOf t with
  | none => s
  | some r =>
    if 64 ≤ t ∨ ¬ s.plbUp then s
    else
      let s := s.until (r.at_ + s.cplTo)
      let s := ((s.dropRead r).setFlag PLB_EVT_CPL_TO true).plbReport 1
      (s.readAnswer r none).issueReads

/-- A held read is not answered within 64 µs (R393). -/
def State.heldTimeout (s : State) (i : Nat) : State :=
  match s.readOf (64 + i) with
  | none => s
  | some r =>
    if ¬ s.plbUp then s
    else
      let s := s.until (r.at_ + 64000)
      (((s.dropRead r).setFlag PLB_EVT_HELD_TO true).plbReport 0).readAnswer r none

/-- A prefetch line unused for PF_AGE (R396). -/
def State.pfExpiry (s : State) (k : Nat) : State :=
  match s.plb.lines[k]? with
  | none => s
  | some l => if ¬ s.plbUp then s else (s.until (l.used + s.pfAge)).discard l

/-! ### Inbound requests (R388, R394, R399) -/

/-- Bytes that the partner writes to the heartbeat landing from its offset `o` on are captured (R399); any such write counts
as a heartbeat (DESIGN CHOICE, log entry 115). -/
def State.hbTake (s : State) (o : Nat) (d : List Byte) : State :=
  let old := (s.rd PLB_HB_RX).toNat
  let get := fun (k was : Nat) => if o ≤ k ∧ k < o + d.length then byteAt d (k - o) else was
  let s := s.wr PLB_HB_RX (w32 (get 8 (old % 256) + get 9 (old / 256 % 256) * 256 + get 14 (old / 65536) % 2 * 65536))
  { s with plb := { s.plb with hbSeen := s.now, hbLost := false } }

/-- A heartbeat of the partner arrives over the link (R399). -/
def State.hbRx (s : State) (d : List Byte) : State := if ¬ (s.plbUp ∧ s.plbLink) then s else s.hbTake 0 d

/-- Reset value of a byte of the MSI-X table: vectors are masked (PCI Express) (PRESUMED, log entry 79). -/
def msixDefault (o : Nat) : Byte := if o % 16 = 12 then 1 else 0
def State.msixByte (s : State) (o : Nat) : Byte := ngetD s.plb.msixTable o (msixDefault o)

/-- Vector `v` is masked (PRESUMED, log entry 79). -/
def State.msixMasked (s : State) (v : Nat) : Bool := bitOf (s.msixByte (16 * v + 12)).toNat 0

/-- The message of a vector goes to the partner. -/
def State.msixMessage (s : State) (v : Nat) : State :=
  let at_ := fun (o n : Nat) => leNat ((List.range n).map fun k => s.msixByte (16 * v + o + k))
  s.toPartner { kind := 4, addr := at_ 0 8, data := leBytes 4 (at_ 8 4) }

/-- A write of `PLB_MSIX_SEND` (R388): endpoint only, and its table is the link logic's (R538). -/
def State.msixSend (s : State) (v : Nat) : State :=
  if s.plbRoot || !s.plbRole then s
  else if s.msixMasked (v % 64) then { s with plb := { s.plb with msixPend := setBit s.plb.msixPend (v % 64) true } }
  else s.msixMessage (v % 64)

/-- Pending vectors that are no longer masked are sent. -/
def State.msixFlush (s : State) : State :=
  (bitList 64 s.plb.msixPend).foldl (fun s v =>
    if s.msixMasked v then s
    else ({ s with plb := { s.plb with msixPend := setBit s.plb.msixPend v false } }).msixMessage v) s

/-- The answer to an inbound read. -/
def State.inAnswers (s : State) (x : Option (List Byte)) : State := { s with plb := { s.plb with inAnswer := x } }

/-- A refused inbound request (R394). -/
def State.inbMiss (s : State) : State := (s.setFlag PLB_EVT_INB_MISS true).inAnswers none

/-- An endpoint's BAR0 (R388). -/
def State.bar0 (s : State) (write : Bool) (o n : Nat) (d : List Byte) : State :=
  if 65536 < o + (if write then d.length else n) then s.inbMiss
  else if write then
    if o < 16 ∧ d ≠ [] then s.hbTake o (d.take (16 - o))
    else if 0x2000 ≤ o ∧ o + d.length ≤ 0x2400 then
      let s := (d.zipIdx).foldl (fun s e =>
        let k := o - 0x2000 + e.2
        { s with plb := { s.plb with msixTable := nput (msixDefault k) s.plb.msixTable k e.1 } }) s
      s.msixFlush
    else s
  else if 0x2000 ≤ o ∧ o + n ≤ 0x2400 then s.inAnswers (some ((List.range n).map fun k => s.msixByte (o - 0x2000 + k)))
  else if 0x3000 ≤ o ∧ o + n ≤ 0x3008 then s.inAnswers (some (((leBytes 8 s.plb.msixPend).drop (o - 0x3000)).take n))
  else s.inAnswers (some (List.replicate n 0))

/-- The size of BAR2 (R388, R400). -/
def State.bar2Size (s : State) : Nat := 2 ^ clampN 20 32 (byteAt s.plbLinkRec 0)

/-- The bytes of the configuration header that R388 gives, at the places of a type 0 header (PRESUMED, log entry 79):
vendor, device, revision, and both BARs with their types. -/
def State.pciHead (s : State) (k : Nat) : Option Byte :=
  if k < 4 then (leBytes 2 Config.vendorId ++ leBytes 2 0x4824)[k]?
  else if k = 8 then some 0xA0
  else if k = 14 then some 0
  else if 16 ≤ k ∧ k < 32 then (leBytes 8 (s.plb.bar0 + 4) ++ leBytes 8 (s.plb.bar2 + 12))[k - 16]?
  else none

/-- A configuration request to the endpoint's function (R388): a BAR keeps the address bits above its size; bytes that R388
does not give read as free values (PRESUMED, log entry 79). -/
def State.pciConfig (s : State) (write : Bool) (o n : Nat) (d : List Byte) : State :=
  if write then
    let put := fun (base size old : Nat) => leNat ((List.range 8).map fun k =>
      if o ≤ base + k ∧ base + k < o + d.length then d.getD (base + k - o) 0 else (leBytes 8 old).getD k 0) / size * size
    { s with plb := { s.plb with bar0 := put 16 65536 s.plb.bar0, bar2 := put 24 s.bar2Size s.plb.bar2 } }
  else
    let (b, s) := s.freeBytes n
    s.inAnswers (some ((b.zipIdx).map fun e => (s.pciHead (o + e.2)).getD e.1))

/-- A request to an inbound window's target. -/
def State.inbound (s : State) (write : Bool) (a n : Nat) (d : List Byte) : State :=
  let n := if write then d.length else n
  match (s.cfgAll 0x0105 3).find? fun e => owFlag e.2 0 && decide (owBase e.2 ≤ a ∧ a + n ≤ owBase e.2 + owSize e.2) with
  | none => s.inbMiss
  | some (_, r) =>
    let e := 2 ^ (byteAt r 24 / 16 % 4 + 1)
    let o := a - owBase r
    let (o', d') := laneMap (owFlag r 3) e o (if write then d else List.replicate n 0)
    let t := owTo r + o'
    let perm := if write then owFlag r 2 else owFlag r 1
    let shape := regionOf t != .imsic || (write && n == 4 && t % 4 == 0)
    let inRange := match regionOf t with | .sram | .lpddr | .imsic => true | _ => false
    if !(perm && shape && inRange && laneOk (owFlag r 3) e o n) then s.inbMiss
    else if ¬ s.gkAdmits 0x18 (owFlag r 6) t n write then
      (s.gkEvent { gk := (gkOf (regionOf t)).getD 0, kind := 0, init := 0x18, secure := owFlag r 6, write := write, addr := t }).inbMiss
    else if regionOf t = .imsic then (if isImsicFile (t / 4096 * 4096) then s.msi t (leNat d') else s.unmapped)
    else if write then (s.physWrite 0x18 t d').2
    else
      let (b, s) := s.physRead 0x18 t n
      { s with plb := { s.plb with inAnswer := b.map fun b => (laneMap (owFlag r 3) e o b).2 } }

/-- A write to a root port: bytes on the heartbeat landing are captured, the others go to the windows (R394, R399). -/
def State.rootWrite (s : State) (a : Nat) (d : List Byte) : State :=
  let l := leAt s.hbRec 8 8
  if (s.cfgData 0x0105 4 0).isSome ∧ d ≠ [] ∧ a < l + 16 ∧ l < a + d.length then
    let pre := d.take (l - a)
    let body := (d.drop (l - a)).take (l + 16 - max a l)
    let rest := d.drop (pre.length + body.length)
    let s := if pre.isEmpty then s else s.inbound true a 0 pre
    let s := s.hbTake (a - l) body
    if rest.isEmpty then s else s.inbound true (l + 16) 0 rest
  else s.inbound true a 0 d

/-- INBOUND_REQUEST (R388, R394): `bar` is what a request to an endpoint addresses, 0 BAR0, 6 the configuration space, else
BAR2, whose windows lie within its size; a root port is addressed by absolute addresses (DESIGN CHOICE, log entry 115). -/
def State.inboundRequest (s : State) (bar : Nat) (write : Bool) (a n : Nat) (d : List Byte) : State :=
  if ¬ (s.plbUp ∧ s.plbLink) then s
  else if s.plbRoot then (if write then s.rootWrite a d else s.inbound false a n d)
  else if bar = 0 then s.bar0 write a n d
  else if bar = 6 then s.pciConfig write a n d
  else if s.bar2Size < a + (if write then d.length else n) then s.inbMiss
  else s.inbound write a n d

/-! ### Heartbeat, link (R387, R398, R399) -/

/-- The heartbeat's write (R399). -/
def State.hbSend (s : State) : State :=
  let r := s.hbRec
  let ms := leAt r 16 2
  match s.plb.hbDue with
  | none => s
  | some t =>
    if ms = 0 ∨ ¬ s.plbUp then s
    else
      let s := s.until t
      let d := leBytes 8 s.td0 ++ leBytes 4 s.plb.hbCount ++ leBytes 2 (s.get ESW_NODE_ID_NODE) ++ leBytes 2 (s.get PLB_HB_CTRL_ACTIVE)
      let s := { s with plb := { s.plb with hbCount := (s.plb.hbCount + 1) % 4294967296, hbDue := some (t + ms * 1000000) } }
      s.toPartner { kind := 0, addr := leAt r 0 8, data := d }

/-- The peer is lost (R399). -/
def State.peerGone (s : State) : State :=
  let s := { s with plb := { s.plb with hbLost := true } }
  (s.setFlag PLB_EVT_PEER_LOST true).plbReport 2

/-- No heartbeat for HB_TIMEOUT (R399). -/
def State.peerLost (s : State) : State :=
  let ms := leAt s.hbRec 18 2
  if ms = 0 ∨ s.plb.hbLost ∨ ¬ s.plbUp then s else (s.until (s.plb.hbSeen + ms * 1000000)).peerGone

/-- Every outstanding and waiting read ends with a bus error (R398) (DEDUCED, log entry 78). -/
def State.failReads (s : State) : State :=
  let l := s.plb.reads ++ s.plb.queue
  let s := { s with plb := { s.plb with reads := [], queue := [] } }
  l.foldl (fun s r => (s.plbReport 3).readAnswer r none) s

/-- The link goes down. -/
def State.linkDown (s : State) : State :=
  let s := (s.setFlag PLB_STATUS_UP false).setFlag PLB_EVT_LINK true
  let s := (s.set PLB_STATUS_SPEED 0).set PLB_STATUS_WIDTH 0
  let s := s.failReads
  let s := s.plb.lines.foldl State.discard s
  s.peerGone

/-- PLB_LINK_CHANGE (R398): speed code and width of a link that comes up. -/
def State.plbLinkChange (s : State) (up : Bool) (speed width : Nat) : State :=
  if ¬ s.plbUp ∨ up = s.plbLink then s
  else if up then
    ((s.setFlag PLB_STATUS_UP true).setFlag PLB_EVT_LINK true |>.set PLB_STATUS_SPEED (clampN 1 4 speed)).set PLB_STATUS_WIDTH (clampN 1 2 width)
  else s.linkDown

/-- PERST_N as an endpoint resets only the link logic (R387): the link goes down. -/
def State.perstReset (s : State) : State := if ¬ s.plbUp ∨ s.plbRoot ∨ ¬ s.plbLink then s else s.linkDown

/-- The oldest discard entry, as its three words (R397, R401). -/
def State.discWords (s : State) : List Nat :=
  match s.plb.disc with
  | [] => [0, 0, 0]
  | x :: _ => [x.len % 1024 + x.win * 65536 + 2147483648, x.addr % 4294967296, x.addr / 4294967296]

/-- `PLB_STATUS` as it reads. -/
def State.plbStatusWord (s : State) : Word := w32 (setBits (s.rd PLB_STATUS).toNat 14 8 s.plbTags.length)

/-- The PLB settings come into force. -/
def State.plbApply (s : State) : State :=
  let ms := leAt s.hbRec 16 2
  { s with plb := { s.plb with hbDue := if ms = 0 then none else some (s.now + ms * 1000000), hbSeen := s.now, hbLost := false } }

/-- The bridge is fenced or gated: what is outstanding fails, lines and queues are lost. -/
def State.plbDown (s : State) : State :=
  let s := if s.plbLink then s.linkDown else s
  { s with plb := { s.plb with hbDue := none } }

end Sys2Proof.Machine
end

