-- ==== Sys2Proof/Machine/Cc.lean ====
section
/-! DEFINITION. The core complex (chapter 12): pairs, hart IDs, the spare pair, machine timers, caches, and the memory
system's copies, scrubbers and error events. -/

namespace Sys2Proof.Machine

/-! ### Pairs and hart IDs (R418–R423) -/

def prRun : Nat := 0
def prFenced : Nat := 1
def prStandby : Nat := 2
def prTest : Nat := 3
def prIdle : Nat := 4
def prLockedOut : Nat := 5

/-- `HART` of a pair that carries no hart ID (R438). -/
def noHart : Nat := 0xF

/-- State of physical pair `p` (R418). -/
def State.pairState (s : State) (p : Nat) : Nat := s.get CC_PAIRp_STATUS_STATE p

/-- Hart ID that pair `p` carries. -/
def State.pairHart (s : State) (p : Nat) : Nat := s.get CC_PAIRp_STATUS_HART p

def State.pair (s : State) (p : Nat) : Pair := s.cc.pairs.getD p {}

def State.modPair (s : State) (p : Nat) (f : Pair → Pair) : State :=
  { s with cc := { s.cc with pairs := s.cc.pairs.set p (f (s.pair p)) } }

def State.setPair (s : State) (p st hart : Nat) : State :=
  (s.set CC_PAIRp_STATUS_STATE st p).set CC_PAIRp_STATUS_HART hart p

def State.hart (s : State) (h : Nat) : Hart := ngetD s.cc.harts h {}

def State.modHart (s : State) (h : Nat) (f : Hart → Hart) : State :=
  { s with cc := { s.cc with harts := nput {} s.cc.harts h (f (s.hart h)) } }

/-- The pair executes. -/
def State.pairRuns (s : State) (p : Nat) : Bool := s.pairState p == prRun || s.pairState p == prIdle

/-- The pair that carries hart ID `h` and executes. -/
def State.carrier (s : State) (h : Nat) : Option Nat :=
  (List.range 7).find? fun p => s.pairRuns p && s.pairHart p == h

/-- A hart that no pair or core runs any more: its reservation is cleared (R414); its machine timer and its interrupt
files stay with the hart ID (R407, R419). -/
def Hart.stop (x : Hart) : Hart :=
  { x with running := false, reservation := none, halted := false, haltReq := false, haveReset := x.haveReset || x.halted }

/-- A hart starts out of reset in M-mode at an address with a reason in a0 (R419) (DESIGN CHOICE, log entry 62). -/
def Hart.start (x : Hart) (pc a0 : Nat) : Hart :=
  { x.stop with running := true, haveReset := true, breakpoint := false, startPc := pc, mode := 3, a0 := a0 }

/-- Hart ID `h` starts: what it held as a debugger saw it, and its triggers, are void (R419, R522, R525). -/
def State.hartStart (s : State) (h pc a0 : Nat) : State :=
  let s := s.modHart h fun x => x.start pc a0
  { s with dbg := { s.dbg with trig := s.dbg.trig.filter fun e => e.1 / 16 != h }
           cc := { s.cc with gpr := s.cc.gpr.filter fun e => e.1 / 65536 != h } }

/-- Restart vector of hart ID `h` (R438). -/
def State.rvec (s : State) (h : Nat) : Nat :=
  (s.rd CC_PAIRp_RVEC_LO h).toNat + (s.rd CC_PAIRp_RVEC_HI h).toNat * 4294967296

/-- Pair `p` starts as hart ID `h` at its restart vector (R419, R422); a power-gated pair stays in reset until its island
returns (R500). -/
def State.pairStart (s : State) (p h a0 : Nat) : State :=
  let s := s.setPair p (if p = 6 ∧ h = 6 then prIdle else prRun) h
  let back := (s.pair p).mis
  let s := s.modPair p fun x => { x with handover := false, mis := false, returned := if back then some s.now else x.returned }
  if s.powered (p + 1) then s.hartStart h (s.rvec h) a0 else s

/-- SPX takes over hart ID `h` (R419): hart 6 is not present meanwhile (DEDUCED, log entry 83). -/
def State.takeover (s : State) (h a0 : Nat) : State :=
  let s := s.modHart 6 Hart.stop
  (s.pairStart 6 h a0).setBitOf CC_EVT_TAKEOVER 0

/-- A fault takeover of hart ID `h` (R420). -/
def State.faultTakeover (s : State) (h : Nat) : State :=
  let s := s.takeover h 1
  { s with cc := { s.cc with takenAt := some s.now } }

/-- The pair's pen has been fenced (R414, R420, R423); `lock` leaves it LOCKED_OUT. An SPX that is held in reset by its
power-gated island takes nothing over (R500). Of two pairs fenced at one instant SPX
takes the lower-numbered (DEDUCED, log entry 83). -/
def State.pairFence (s : State) (p : Nat) (lock : Bool) : State :=
  let was := s.pairState p
  let h := s.pairHart p
  let ran := s.pairRuns p
  let s := s.setPair p (if lock then prLockedOut else prFenced) noHart
  let s := s.modPair p fun x => { x with handover := false }
  let s := s.setBitOf CC_EVT_FENCE p
  if !ran then s
  else
    let s := (s.modHart h Hart.stop).readsVoid h
    if p = 6 then
      if was = prRun ∧ s.pairState h = prStandby ∧ s.powered (h + 1) then s.pairStart h h 1 else s
    else if !(bitOf (s.get CC_SPX_CFG_AUTO) p) then s
    else if s.pairState 6 = prIdle ∧ s.powered 7 then s.faultTakeover h
    else if s.cc.takenAt = some s.now ∧ s.pairState 6 = prRun ∧ p < s.pairHart 6 then
      (s.modHart (s.pairHart 6) Hart.stop).faultTakeover h
    else s

/-- A planned handover by pair `p` is allowed (R421): the pair that is to start is not held in reset (R500)
(DEDUCED, log entry 83). -/
def State.handoverOk (s : State) (p : Nat) : Bool :=
  if p = 6 then s.pairState 6 == prRun && decide (s.pairHart 6 < 6) && s.pairState (s.pairHart 6) == prStandby && s.powered (s.pairHart 6 + 1)
  else s.pairState p == prRun && s.pairState 6 == prIdle && s.powered 7

/-- Write of `CC_PAIRp_CTRL.HANDOVER` by an initiator (R421); refused while the pair is halted (R525). -/
def State.handover (s : State) (init p : Nat) : State :=
  if s.carrier init = some p ∧ s.handoverOk p ∧ (s.hart init).halted = false then s.modPair p fun x => { x with handover := true }
  else s.setFlag CC_PAIRp_STATUS_HO_REFUSED true p

/-- The handover is carried out once the pair's released requests have completed (R421). -/
def State.handoverExecute (s : State) (p : Nat) : State :=
  if !(s.pair p).handover || s.readsOut (s.pairHart p) then s
  else
    let s := s.modPair p fun x => { x with handover := false }
    if !(s.handoverOk p) then s.setFlag CC_PAIRp_STATUS_HO_REFUSED true p
    else if p = 6 then
      let h := s.pairHart 6
      let s := s.setPair 6 prStandby noHart
      let s := (s.modHart h Hart.stop).pairStart h h 2
      s.pairStart 6 6 2
    else
      let s := (s.setPair p prStandby noHart).modHart p Hart.stop
      s.takeover p 2

/-- Error source of a lockstep unit (R475): 0–6 the safety pairs and SPX, 7 the SVP, 8–15 EP0–EP7. -/
def unitSrc (u : Nat) : Nat := if u < 8 then 8 * u else 0x100 + 8 * (u - 8)

/-- Pen of a lockstep unit (R476). -/
def unitPen (u : Nat) : Nat := u + 1

/-- The unit's two copies execute and are compared; a gated clock halts them (R416, R500). -/
def State.unitRuns (s : State) (u : Nat) : Bool :=
  decide (u < 16) && s.coreRuns && s.penRuns (unitPen u) && (decide (7 ≤ u) || s.pairRuns u) &&
    s.powered (if u < 8 then u + 1 else u + 2) && s.clocked (if u < 8 then u + 1 else u + 2)

/-- A mismatch of a lockstep unit with its cause (R414, R416, R417). -/
def State.mismatch (s : State) (u cause : Nat) : State :=
  let again :=
    if u < 7 then
      match (s.pair u).returned with
      | some t => decide (s.now ≤ t + s.get CC_LOCK_CFG_REPEAT_S * 1000000000 ∧ s.get CC_LOCK_CFG_REPEAT_S ≠ 0)
      | none => false
    else false
  let s :=
    if u < 7 then
      let s := (s.set CC_PAIRp_STATUS_CAUSE cause u).inc CC_PAIRp_MISMATCH_COUNT 1 u
      s.modPair u fun x => { x with mis := true }
    else s
  { s with fcu := { s.fcu with todo := s.fcu.todo ++ [{ src := unitSrc u + (cause - 1), lock := again }] } }

/-- A boundary mismatch (R414). With a fold mismatch at the same instant one fence follows, and CAUSE records BOUNDARY
(R417) (DEDUCED, log entry 83). -/
def State.lockstepMismatch (s : State) (u : Nat) : State :=
  if s.unitRuns u then s.mismatch u 1
  else if u < 7 ∧ s.coreRuns ∧ (s.pair u).foldAt = some s.now ∧ s.get CC_PAIRp_STATUS_CAUSE u = 2 then s.set CC_PAIRp_STATUS_CAUSE 1 u
  else s

/-- A per-hart event of hart ID `h` is counted (R527, R529). The mode in which it falls is not modelled, so a filter set that
asks for some of the modes counts it or not (DESIGN CHOICE, log entry 60). -/
def State.countHart (s : State) (h k : Nat) : State :=
  let e := 32 * h + k
  let f := s.get DBG_EVTe_CFG_FSET e
  let modes := s.get DBG_FSETf_MATCH_PRIV f
  let (v, s') := s.freeNat
  if !(s.flag DBG_EVTe_CFG_FILT e) then s.bump e 1
  else if !(bitOf (s.get DBG_FSETf_MATCH_WORLD f) (b2n (s.hartSecure h))) || modes == 0 then s
  else if modes = 63 then s.bump e 1
  else if v % 2 = 0 then s'.bump e 1 else s'

/-- The two copies fold their registers and the CRCs are compared (R416): the registers of each copy come as the bytes of
x1–x31, f0–f31 and fcsr, as the copy has read them. A pair halted by the debugger does not fold. -/
def State.registerFold (s : State) (u : Nat) (main check : List Byte) : State :=
  if !(s.unitRuns u) ∨ (u < 7 ∧ (s.hart (s.pairHart u)).halted) then s
  else
    let s := if u < 7 then (s.wr CC_PAIRp_FOLD (w32 (crc32c main)) u).countHart (s.pairHart u) 24 else s
    if crc32c main = crc32c check then s
    else (if u < 7 then s.modPair u fun x => { x with foldAt := some s.now } else s).mismatch u 2

/-! ### Machine timers (R405) -/

/-- mtime: 100 MHz from the core-die reset. -/
def State.mtime (s : State) : Nat := if s.coreRuns then (s.now - s.cc.mtime0) / 10 % 18446744073709551616 else 0

def State.mtimecmp (s : State) (h : Nat) : Nat :=
  (s.rd CC_HARTh_MTIMECMP_LO h).toNat + (s.rd CC_HARTh_MTIMECMP_HI h).toNat * 4294967296

/-- The machine timer interrupt of hart `h` is pending while mtime has reached its compare. -/
def State.mtipUpdate (s : State) (h : Nat) : State := s.modHart h fun x => { x with mtip := decide (s.mtimecmp h ≤ s.mtime) }

/-- mtime reaches the compare of hart ID `h`. -/
def State.timerCompare (s : State) (h : Nat) : State :=
  if !s.coreRuns ∨ h > 11 ∨ h = 7 then s
  else (s.until (s.cc.mtime0 + s.mtimecmp h * 10)).mtipUpdate h

/-! ### Cache errors (R410) -/

/-- A cache of the application cores: 8–11 the L1 caches of AP0–AP3, 12 the L2. -/
def cacheSrc (u : Nat) (ue : Bool) : Nat := (if u = 12 then 0x48 else 0x40 + 2 * (u - 8)) + b2n ue

/-- The four 16-byte words of the 64-byte line at `a` get the poison marker. -/
def State.poisonLine (s : State) (a : Nat) : State :=
  let b := a / 64 * 64
  { s with ms := { s.ms with poison := [0, 16, 32, 48].foldl (fun m o => nset m (b + o) ()) s.ms.poison } }

/-- A cache error: kind 0 parity, 1 single-bit, 2 uncorrectable in a dirty line at address `a`. A safety pair (0–6) and
the SVP (7) hold no dirty line and have parity alone. -/
def State.cacheError (s : State) (u kind a : Nat) : State :=
  if !s.coreRuns ∨ u > 12 then s
  else if u < 8 then
    if !(s.unitRuns u) then s else (if u < 7 then s.countHart (s.pairHart u) 25 else s).report (8 * u + 3)
  else if !(s.penRuns 17) ∨ !(s.powered 9) then s
  else if kind < 2 then s.report (cacheSrc u false)
  else
    let s := if regionOf a = .sram ∨ (regionOf a = .mram ∧ inMramData a) ∨ (regionOf a = .lpddr ∧ s.ddrServes a 64 ∧ s.flag MS_DDR_STATUS_ECC) then s.poisonLine a else s
    (s.answer none).report (cacheSrc u true)

/-! ### Memory copies, scrubbing and errors (R428–R437) -/

/-- The copy in progress ends (R428, R429). Words that read uncorrectable do so at the same addresses afterwards: the copy has
written the marker for them. -/
def State.migrationDone (s : State) : State :=
  match s.ms.copy with
  | none => s
  | some (b, back) =>
    let s := { s with ms := { s.ms with copy := none, spare := if back then none else some b } }
    let s := (s.setFlag MS_SPARE_STATUS_BUSY false).setFlag MS_SPARE_STATUS_IN_USE (!back)
    let s := if back then s.set MS_SPARE_STATUS_BANK 0 else s
    s.setFlag MS_EVT_MIGRATED true

/-- The MRAM half that a stage is writing (R273, R435). -/
def State.stagingHalf (s : State) (a : Nat) : Bool :=
  s.cfg.jobs.any fun j =>
    j.op == 0 && (a - 0x20000000) / 0x2000000 == 1 - ((if j.kind = 0 then s.cfg.cfgHalf else s.cfg.bootHalf).getD 0)

/-- The memory that holds address `a` answers (DESIGN CHOICE, log entry 100). -/
def State.memoryUp (s : State) (a : Nat) : Bool :=
  s.coreRuns && s.powered (s.islandOf a) &&
  (match regionOf a with
   | .sram | .tcm | .mram => true
   | .lpddr => s.ddrServes a 16 && s.penRuns 33 && s.flag MS_DDR_STATUS_ECC
   | _ => false)

/-- A read of the word at `a` by initiator `init` meets an error of the kind: 0 corrected, 1 uncorrectable, 2 ADDRESS,
which only the SRAM and TCM codes tell apart (R426). A word with the poison marker reads as uncorrectable, and a word found
uncorrectable keeps its error until it is written whole (R427, R431, R433, R435) (DEDUCED, log entry 100). -/
def State.memoryError (s : State) (a init kind : Nat) : State :=
  if !(s.memoryUp a) then s
  else
    let kind := if (s.poisonAt a 1).isSome ∧ kind = 0 then 1 else if 2 ≤ kind ∧ 2 ≤ memIdx a then 1 else min kind 2
    let s := s.memError a init kind
    let s := if kind = 1 then s.badWord a else s
    if kind = 0 ∨ init = 0xFF then s else s.answer none

/-- Scrubber of memory `m` reads the word at `a`: no error, or one of the kind given (R435). -/
def State.scrubStep (s : State) (m a : Nat) (kind : Option Nat) : State :=
  if memIdx a ≠ m ∨ (m = 2 ∧ s.stagingHalf a) then s
  else match (if (s.poisonAt a 1).isSome then some 1 else kind) with
    | none => s
    | some k => s.memoryError a 0xFF k

end Sys2Proof.Machine
end

