-- ==== Sys2Proof/Machine/DieReset.lean ====
section
/-! DEFINITION. What a core-die reset and the loss of VBAT leave (R434, R454, R484, R501, R502, R567). -/

namespace Sys2Proof.Machine

/-- The registers that the field die retains (R501, R517). -/
def retainedRegs : List Reg := [FCU_FATAL_SRC, FCU_FATAL_TIME_LO, FCU_FATAL_TIME_HI, PCS_WAKE, PCS_SLEEP_MS]

def retainedAddr (a : Nat) : Bool := retainedRegs.any fun r => r.retained && r.base == a

/-- What the field die keeps of a channel (R57, R62–R73). What a switch failure element sees of it starts anew (R209). -/
def Ch.fieldPart (c : Ch) : Ch :=
  { state := c.state, copy := c.copy, kept := c.kept, gate := c.gate, req := c.req, pwm := c.pwm, offAt := c.offAt,
    holdEnd := c.holdEnd, orphanHold := c.orphanHold, follow := c.follow, limpTrip := c.limpTrip,
    limpLatched := c.limpLatched, limpA := c.limpA, relAt := c.relAt, edge := c.edge, edgeDuty := c.edgeDuty,
    edgeOff := c.edgeOff, pumpWait := c.pumpWait, swCat := 0 }

/-- Bytes of MRAM: what an entry of memory keeps through every reset (R434, R501). -/
def State.mramOnly (s : State) : NMap Byte := s.mem.filter fun e => regionOf e.1 == .mram

/-- Everything in the core die goes to its reset value; the field die keeps what R57, R67, R484 and R501 name, and OTP
and MRAM stay. -/
def State.coreClear (s : State) : State :=
  { now := s.now, free := s.free, pending := s.pending
    regs := s.regs.filter fun e => retainedAddr e.1
    mem := s.mramOnly
    pda := { ch := nmap (fun _ c => c.fieldPart) s.pda.ch, sense := s.pda.sense, cpLow := s.pda.cpLow,
             limpTick := s.pda.limpTick, lost := s.pda.lost, loaded := s.pda.loaded }
    fbc := { refresh := s.fbc.refresh, fs := s.fbc.fs, armed := s.fbc.armed }
    sec := { otp := s.sec.otp }
    fcu := { errn := s.fcu.errn, errnAt := s.fcu.errnAt, fatalDue := s.fcu.fatalDue, fatalReleased := s.fcu.fatalReleased,
             lockedReset := s.fcu.lockedReset }
    pcs := { s.pcs with draining := [], gated := [], prepAt := none, rstout := false, scan := false } }

/-- The core die is in reset, or unpowered (R495, R501, R567). -/
def State.dieDown (s : State) (b : Boot) : State :=
  let s := s.coreClear.senseFault
  { s with pcs := { s.pcs with boot := b } }

/-- A reset of a core die that is powered, with the reason that `PCS_WAKE` will record: a loss of the core die under R61
(R502), after which the device is WAKING (R493). -/
def State.coreReset (s : State) (reason : Nat) : State :=
  let s := (s.coreLost).dieDown .held
  { s with pcs := { s.pcs with power := .waking, wake := some (reason, 0) } }

/-- VBAT is gone: OTP and MRAM alone are kept (R493, R501). -/
def State.vbatOff (s : State) : State :=
  { now := s.now, free := s.free, pending := s.pending, mem := s.mramOnly, sec := { otp := s.sec.otp }
    pcs := { power := .off, boot := .unpowered, vbat := false, inh := false } }

end Sys2Proof.Machine
end

