-- ==== Sys2Proof/Machine/CfgParse.lean ====
section
/-! DEFINITION. Configuration sets as bytes (R258–R266, R306): headers, sections and records, overlays and patches. -/

namespace Sys2Proof.Machine

/-- Length of an ML-DSA-87 signature (R258). -/
def sigLen : Nat := 4627

/-- Every byte of `d` outside the named ranges is zero. -/
def zeroBut (named : List (Nat × Nat)) (d : List Byte) : Bool :=
  (List.range d.length).all fun o => byteAt d o == 0 || named.any fun e => decide (e.1 ≤ o ∧ o < e.1 + e.2)

/-- The next 16-byte boundary (R258). -/
def up16 (n : Nat) : Nat := ceilDiv n 16 * 16

/-! ### The base image (R260, R261) -/

/-- A base image cut into its records. -/
structure BaseImg where
  total : Nat
  svn   : Nat
  build : Nat
  novl  : Nat
  pfSecure : Bool
  defMode : Nat
  recs  : List CfgRec
  deriving DecidableEq, Repr

/-- One entry of the section table: TYPE, offset, length, record count. -/
structure Sect where
  type  : Nat
  ofs   : Nat
  len   : Nat
  count : Nat
  deriving DecidableEq, Repr

def sectTypes : List Nat :=
  [1, 2, 3, 4, 5, 6, 7, 8, 9, 10, 11, 12, 13, 0x100, 0x101, 0x102, 0x103, 0x104, 0x105, 0x106, 0x107, 0x108]

/-- Entry `i` of the section table, which begins at byte 64. -/
def sectAt (im : List Byte) (i : Nat) : Option Sect :=
  let e := (im.drop (64 + 16 * i)).take 16
  if leAt e 2 2 = 0 ∧ leAt e 12 4 < 4294967296 then some { type := leAt e 0 2, ofs := leAt e 4 4, len := leAt e 8 4, count := leAt e 12 4 }
  else none

/-- Two ranges overlap. -/
def overlap (a an b bn : Nat) : Bool := decide (a < b + bn ∧ b < a + an)

/-- The sections of an image: known types, each once, aligned, inside the body and apart from one another. -/
def sectsOk (total nsect : Nat) : List Sect → Bool
  | [] => true
  | x :: l =>
    sectTypes.contains x.type && x.ofs % 16 == 0 && decide (64 + 16 * nsect ≤ x.ofs) && decide (x.ofs + x.len ≤ total) &&
      l.all (fun y => y.type != x.type && !(overlap x.ofs x.len y.ofs y.len)) && sectsOk total nsect l

/-- `n` records of a fixed size, keyed by position or by a field of theirs. -/
def fixedRecs (type size : Nat) (key : Nat → List Byte → Nat) (d : List Byte) (n : Nat) : Option (List CfgRec) :=
  if d.length ≠ size * n then none
  else some ((List.range n).map fun i => let r := (d.drop (size * i)).take size; { type := type, key := key i r, data := r })

/-- Records whose length each of them gives: `size` of the bytes that remain, 0 where there is none. Each is padded with
zeros to 16 bytes. -/
def varRecs (type : Nat) (size rtype key : List Byte → Nat) (skip : Nat) : Nat → List Byte → Option (List CfgRec)
  | 0, d => if d.isEmpty then some [] else none
  | n + 1, d =>
    let k := size d
    if k = 0 ∨ d.length < up16 k ∨ ¬ zeroB d k (up16 k - k) then none
    else match varRecs type size rtype key skip n (d.drop (up16 k)) with
      | none => none
      | some l => some ({ type := type, rtype := rtype d, key := key d, data := (d.take k).drop skip } :: l)

/-- The records of a section (R261, R306, R329). -/
def sectRecs (x : Sect) (d : List Byte) : Option (List CfgRec) :=
  let one := fun (size : Nat) => if x.count = 1 then fixedRecs x.type size (fun _ _ => 0) d 1 else none
  match x.type with
  | 1 => fixedRecs 1 144 (fun _ r => leAt r 0 2) d x.count
  | 2 => fixedRecs 2 64 (fun _ r => byteAt r 0) d x.count
  | 3 => if x.count = 8 then fixedRecs 3 4 (fun i _ => i) d 8 else none
  | 4 => if x.count = 12 then fixedRecs 4 16 (fun i _ => i) d 12 else none
  | 5 => fixedRecs 5 12 (fun i _ => i) d x.count
  | 6 => varRecs 6 (fun d => if leAt d 2 2 % 16 = 0 ∧ 64 ≤ leAt d 2 2 then leAt d 2 2 else 0) (fun _ => 0) (leAt · 0 2) 0 x.count d
  | 7 => varRecs 7 (fun d => if bitOf (byteAt d 16) 0 then 192 else 64) (fun _ => 0) (leAt · 0 2) 0 x.count d
  | 8 => one 528
  | 9 => one 4
  | 10 => one 3104
  | 11 => varRecs 11 (fun d => 64 + leAt d 12 4 + sigLen) (fun _ => 0) (leAt · 4 2) 0 x.count d
  | 12 => fixedRecs 12 64 (fun _ r => leAt r 0 2) d x.count
  | 13 => one 4
  | 0x100 => one 240
  | t =>
    varRecs t (fun d => if zeroBut [(0, 8)] (d.take 16) then 16 + leAt d 2 2 else 0) (leAt · 0 2) (leAt · 4 4) 16 x.count
      (d ++ List.replicate (up16 d.length - d.length) 0)

/-- Two records of one table have one key. -/
def dupKeys : List CfgRec → Bool
  | [] => false
  | r :: l => (r.type != 5 && l.any fun q => q.type == r.type && q.rtype == r.rtype && q.key == r.key) || dupKeys l

/-- A base image parsed; nothing where its format is wrong. -/
def parseBase (im : List Byte) : Option BaseImg :=
  let total := leAt im 8 4
  let n := leAt im 20 2
  let fl := byteAt im 23
  let ss := (List.range n).filterMap (sectAt im)
  if im.take 4 = [0x4C, 0x43, 0x46, 0x47] ∧ leAt im 4 2 = 1 ∧ leAt im 6 2 = 64 ∧ total % 16 = 0 ∧ 64 ≤ total ∧ total ≤ 0x300000 ∧
      total + sigLen ≤ im.length ∧ 1 ≤ n ∧ n ≤ 64 ∧ ss.length = n ∧ byteAt im 22 ≤ 8 ∧ fl < 32 ∧ fl / 2 ≤ 8 ∧
      zeroB im 24 8 ∧ sectsOk total n ss then
    let rs := ss.map fun x => sectRecs x ((im.drop x.ofs).take x.len)
    if rs.all Option.isSome then
      some { total := total, svn := leAt im 12 4, build := leAt im 16 4, novl := byteAt im 22, pfSecure := bitOf fl 0,
             defMode := fl / 2, recs := rs.flatMap fun r => r.getD [] }
    else none
  else none

/-! ### Overlays (R264–R266) -/

/-- Patch records of an overlay. -/
def parsePatches : Nat → List Byte → Option (List Patch)
  | 0, d => if d.isEmpty then some [] else none
  | n + 1, d =>
    let len := leAt d 4 2
    let t := leAt d 0 2
    let idx := leAt d 8 4
    if d.length < 16 + up16 len ∨ byteAt d 3 ≠ 0 ∨ ¬ zeroB d 12 4 ∨ 1024 < len ∨ 2 < byteAt d 2 ∨
        ¬ zeroB d (16 + len) (up16 len - len) then none
    else match parsePatches n (d.drop (16 + up16 len)) with
      | none => none
      | some l =>
        let sub := decide (0x101 ≤ t)
        some ({ table := t, op := byteAt d 2, ofs := leAt d 6 2, rtype := if sub then idx / 65536 else 0,
                key := if sub then idx % 65536 else idx, data := (d.drop 16).take len } :: l)

/-- An overlay image parsed: its mode, EXPERT, patches and base digest; nothing where its format is wrong. -/
def parseOverlay (im : List Byte) : Option (Overlay × List Byte) :=
  let total := leAt im 8 4
  if im.take 4 = [0x4C, 0x4F, 0x56, 0x4C] ∧ leAt im 4 2 = 1 ∧ leAt im 6 2 = 128 ∧ total % 16 = 0 ∧ 128 ≤ total ∧ total ≤ 65536 ∧
      total + sigLen ≤ im.length ∧ 1 ≤ byteAt im 12 ∧ byteAt im 12 ≤ 8 ∧ zeroB im 13 3 ∧ 1 ≤ leAt im 16 4 ∧ leAt im 16 4 ≤ 2048 ∧
      zeroB im 32 32 then
    match parsePatches (leAt im 16 4) ((im.drop 128).take (total - 128)) with
    | none => none
    | some ps => some ({ mode := byteAt im 12, expert := leAt im 20 4, patches := ps, digest := Config.sha3_512 (im.take total) },
                       (im.drop 64).take 64)
  else none

/-- The tables an overlay may patch (R265). -/
def patchable : List Nat := [1, 2, 3, 4, 5, 6, 7, 8, 12, 0x100, 0x101, 0x102, 0x103, 0x104]

/-- A patch changes a bit of REQ or B2B of a CHANNELS record (R265). -/
def touchesReq (old new : List Byte) : Bool := (byteAt old 4 &&& 0x0B) != (byteAt new 4 &&& 0x0B)

/-- A record identified by a patch. -/
def Patch.hits (p : Patch) (r : CfgRec) : Bool := r.type == p.table && r.rtype == p.rtype && r.key == p.key

/-- A patch of a PORT record of the switch, whose bytes 0 and 1 no overlay may change (R306): it removes and
adds only one in which they are zero, as they are of an absent record. -/
def Patch.fixedPort (p : Patch) : Bool := p.table == 0x101 && p.rtype == 1

/-- An OWNERSHIP record added at a position of its section; the records from there on move up by one, and a position
past the end is refused (R265) (DEDUCED, log entry 112). -/
def ownAdd (t : List CfgRec) (i : Nat) (d : List Byte) : Option (List CfgRec) :=
  if (t.filter fun r => r.type == 5).length < i then none
  else
    let up := t.map fun r => if r.type = 5 ∧ i ≤ r.key then { r with key := r.key + 1 } else r
    let low := fun (r : CfgRec) => r.type == 5 && decide (r.key < i)
    some (up.filter low ++ { type := 5, rtype := 0, key := i, data := d } :: up.filter fun r => !(low r))

/-- One patch applied to the tables; nothing where it is refused (R265, R306). -/
def applyPatch (t : List CfgRec) (p : Patch) : Option (List CfgRec) :=
  if !(patchable.contains p.table) || (p.table == 5 && p.op != 2) || (p.table == 0x101 && p.rtype == 13) then none
  else match p.op with
    | 0 =>
      match t.find? p.hits with
      | none => none
      | some r =>
        let d := patchAt r.data p.ofs p.data
        if r.data.length < p.ofs + p.data.length then none
        else if p.table = 2 ∧ touchesReq r.data d then none
        else if p.fixedPort ∧ p.ofs < 2 ∧ p.data ≠ [] then none
        else some (t.map fun x => if p.hits x then { x with data := d } else x)
    | 1 =>
      if p.data ≠ [] ∨ ¬ t.any p.hits ∨ (p.fixedPort ∧ t.any fun r => p.hits r && r.data.take 2 != [0, 0]) then none
      else some (t.filter fun x => !(p.hits x))
    | _ =>
      if p.ofs ≠ 0 then none
      else if p.table = 5 then ownAdd t p.key p.data
      else if t.any p.hits ∨ (p.fixedPort ∧ p.data.take 2 ≠ [0, 0]) then none
      else some (t ++ [{ type := p.table, rtype := p.rtype, key := p.key, data := p.data }])

/-- The tables of an overlay's mode, its patches applied in order (R266). -/
def applyPatches (t : List CfgRec) : List Patch → Option (List CfgRec)
  | [] => some t
  | p :: l => match applyPatch t p with | none => none | some t => applyPatches t l

/-- At most 256 element instances differ (R265). -/
def overlayElems (ps : List Patch) : Nat := ((ps.filter fun p => p.table == 6).map Patch.key).eraseDups.length

/-! ### Records of the settings sections (R306, R329, R367, R385, R400, R446, R489, R516) -/

/-- The rate's bit time is a whole number of 12.5 ns periods (R332). -/
def rateOk (kb : Nat) : Bool := decide (kb ≠ 0 ∧ 80000 % kb = 0)

/-- Format bytes of an MSB-first list of `n` fixed-size entries at the end of a record. -/
def lenIs (d : List Byte) (n : Nat) : Bool := d.length == n

/-- A value keeps the range of a field while the function it serves is selected; else it may also be 0 (DEDUCED, log entry
80). -/
def rangeIf (on : Bool) (lo hi v : Nat) : Bool := inR v lo hi || (!on && v == 0)

/-- BW_BASE: a Classical ID word with its six low bits zero (R357). -/
def bwBaseOk (w : Nat) : Bool := w % 64 == 0 && !(bitOf w 30) && !(bitOf w 31) && (bitOf w 29 || decide (w < 2048))

/-- A data rate, kb/s, suits the formats enabled: 500–8000 for CAN FD, 2000–10 000 for CAN XL (R331, R332). -/
def canDataOk (fd xl : Bool) (kb : Nat) : Bool :=
  rateOk kb && inR kb 500 10000 && (!fd || inR kb 500 8000) && (!xl || inR kb 2000 10000)

/-- A settings record keeps the ranges its chapter gives. -/
def settingOk (type rtype key : Nat) (d : List Byte) : Bool :=
  let u8 := byteAt d
  let u16 := fun o => leAt d o 2
  let u32 := fun o => leAt d o 4
  match type, rtype with
  | 0x101, 1 =>
    lenIs d 16 && decide (key ≤ 11) && decide (u8 0 ≤ 2) && (decide (key < 2) || u8 0 == 0) && decide (u8 1 < 12) &&
      !(bitOf (u16 2) 12) && (u16 4 == 0 || inR (u16 4) 64 9216) && decide (u8 6 ≤ 3) && u8 7 == 0 && u8 11 == 0 && zeroB d 12 4
  | 0x101, 2 => lenIs d 16 && inR key 6 9 && decide (u8 0 < 2) && rangeIf (u8 0 == 1) 1 16 (u8 2) && zeroB d 6 10
  | 0x101, 3 => lenIs d 16 && inR key 1 4094 && decide (u16 0 < 4096 ∧ u16 2 < 4096) && zeroB d 4 12
  | 0x101, 4 => lenIs d 16 && decide (key ≤ 255) && decide (u16 6 ≤ 4095 ∧ u16 8 < 4096) && zeroB d 10 6
  | 0x101, 5 =>
    decide (key ≤ 9) && inR (u16 12) 1 256 && lenIs d (16 + 8 * u16 12) && decide (0 < u32 8) &&
      (List.range (u16 12)).all fun i => zeroB d (17 + 8 * i) 3 && inR (u32 (20 + 8 * i)) 100 1000000000
  | 0x101, 6 => lenIs d 16 && decide (key < 80) && zeroB d 4 12
  | 0x101, 7 =>
    lenIs d 16 && decide (key ≤ 255) && decide (u8 0 ≤ 2 ∧ u8 1 < 16) && (u8 12 == 255 || decide (u8 12 < 64)) && u8 13 == 0 &&
      (u16 14 == 65535 || decide (u16 14 < 256)) && (u8 0 != 1 || decide (u16 2 < 128))
  | 0x101, 8 =>
    decide (key ≤ 63) && inR (u8 12) 1 64 && u8 13 == 0 && decide (u8 14 ≤ 3) && u8 15 == 0 && lenIs d (16 + 8 * u8 12) &&
      decide (0 < u32 8) && (List.range (u8 12)).all fun i => decide (u8 (16 + 8 * i) < 2) && zeroB d (17 + 8 * i) 3
  | 0x101, 9 => lenIs d 32 && decide (key ≤ 255) && decide (u8 16 < 16) && zeroB d 17 15
  | 0x101, 10 =>
    lenIs d 16 && decide (key ≤ 127) && inR (u8 0) 1 2 && u8 1 == 0 && decide (u16 8 ≤ 4095 ∧ u8 10 < 8) &&
      rangeIf (bitOf (u8 10) 1) 2 32 (u8 11) && inR (u16 12) 1 1000 && zeroB d 14 2
  | 0x101, 11 => lenIs d 16 && decide (key ≤ 127) && !(bitOf (u16 6) 12) && inR (u8 8) 1 36 && decide (u8 9 < 2) && zeroB d 10 6
  | 0x101, 12 => lenIs d 16 && decide (key ≤ 7) && zeroB d 2 14
  | 0x101, 13 => lenIs d 32 && decide (key ≤ 1) && decide (u8 0 < 4) && zeroB d 1 3 && zeroB d 24 8
  | 0x101, 14 => lenIs d 16 && key == 0 && inR (u16 4) 1 1000 && zeroB d 6 10
  | 0x102, 1 =>
    lenIs d 16 && decide (key ≤ 7) && rateOk (u16 0) && inR (u16 0) 125 1000 && inR (u16 2) 500 900 && (u16 4 == 0 || canDataOk (bitOf (u8 8) 0) (bitOf (u8 8) 1) (u16 4)) &&
      (!(bitOf (u8 8) 1) || bitOf (u8 8) 2) && decide (u8 8 < 64) && decide (u8 9 < 32) && (u8 10 == 0 || decide (10 ≤ u8 10)) && zeroB d 11 5
  | 0x102, 2 =>
    let nbc := u8 12
    let ncol := u8 13
    let st := fun k => u16 (16 + 4 * k)
    lenIs d 2128 && decide (key ≤ 7) && inR (u32 8) 10000 100000000 && inR nbc 1 64 && inR ncol 1 16 && decide (u8 14 ≤ 3 ∧ u8 15 < 2) &&
      st 0 == 0 && (List.range (ncol - 1)).all (fun k => decide (st k < st (k + 1))) && decide (st (ncol - 1) * 1000 < u32 8) &&
      (List.range 1024).all fun i => let c := u16 (80 + 2 * i); !(bitOf c 3) && decide (c < 1024)
  | 0x102, 3 => lenIs d 16 && decide (key < 64) && decide (u8 8 < 8 ∧ u8 9 < 4) && zeroB d 10 6
  | 0x102, 4 => lenIs d 16 && decide (key < 2048) && decide (u8 8 < 8 ∧ u8 9 < 8) && zeroB d 10 6
  | 0x102, 5 =>
    lenIs d 16 && decide (key ≤ 3) && decide (u8 0 < 4) && u8 1 == 0 && inR (u16 2) 1000 20000 && inR (u8 4) 4 10 &&
      (u8 5 == 0 || decide (10 ≤ u8 5)) && zeroB d 6 10
  | 0x102, 6 => lenIs d 16 && decide (key < 256) && decide (u8 0 < 8 ∧ u8 0 % 4 ≠ 3) && (u8 0 % 4 == 0 || inR (u8 1) 1 8) && zeroB d 2 14
  | 0x102, 7 =>
    decide (key ≤ 3) && inR (u16 0) 1 64 && lenIs d (16 + 4 * u16 0) && zeroB d 2 14 &&
      (List.range (u16 0)).all fun i => decide (u8 (16 + 4 * i) < 64) && u8 (17 + 4 * i) == 0 && inR (u16 (18 + 4 * i)) 1 1000
  | 0x103, 1 =>
    let per := dflt (u16 2) 200
    let idle := dflt (u16 4) 2000
    lenIs d 32 && decide (key ≤ 15) && decide (u8 0 < 2) && u8 1 == 0 && inR per 10 10000 && inR idle 20 60000 && decide (2 * per ≤ idle) &&
      inR (dflt (u16 6) 1000) 10 10000 && zeroB d 10 2 &&
      (if key < 8 then bwBaseOk (u32 12) && decide (u8 16 < 64) && zeroB d 17 15 else if key < 12 then zeroB d 12 20 else decide (u16 12 < 1024) && !(bitOf (u16 14) 12) && zeroB d 22 2 && zeroB d 28 4)
  | 0x104, 1 => lenIs d 16 && key == 0 && decide (u8 6 ≤ 15) && zeroB d 7 9
  | 0x104, 2 =>
    let k := u8 0
    lenIs d 48 && decide (key ≤ 511) && decide (k ≤ 9) && inR (u16 2) 1 2048 && (k != 1 || decide (u8 5 < 64)) && u8 23 == 0 &&
      !(bitOf (u16 32) 12) &&
      (if k ≤ 1 then decide (u16 2 ≤ 64 ∨ u8 22 % 4 = 2) && decide (u8 1 < 8)
       else if k ≤ 3 then decide (u16 2 ≤ 8 ∧ u8 1 < 4)
       else if k = 6 ∨ k = 7 then decide (u16 2 ≤ 1472) else true) &&
      (decide (k < 8) || decide (u8 1 < 32)) && decide (u8 4 < 2) && (k % 2 == 0 || inR (u32 8) 100 60000000) && zeroB d 6 2 &&
      decide (u8 47 < 64) && (k != 7 || decide (1 ≤ u8 46))
  | 0x104, 3 =>
    lenIs d 32 && decide (key ≤ 31) && decide (u8 0 < 4) && u8 1 == 0 && !(bitOf (u16 14) 12) && inR (u16 16) 2 90 && zeroB d 18 2 &&
      (!(bitOf (u8 0) 1) || inR (u32 20) 10 1000000) && zeroB d 24 8
  | 0x104, 4 => lenIs d 48 && decide (key ≤ 4095)
  | 0x104, 5 => lenIs d 48 && decide (key ≤ 1023)
  | 0x105, 1 => lenIs d 16 && key == 0 && inR (u8 0) 20 32 && inR (u8 1) 1 8 && inR (u16 2) 1 1000 && (u32 4 == 0 || inR (u32 4) 50 50000) && zeroB d 8 8
  | 0x105, 2 =>
    let sz := leAt d 8 8
    lenIs d 32 && decide (key ≤ 15) && decide (u8 24 < 128 ∧ u8 24 / 32 < 3) && !(bitOf (u8 24) 2 && (bitOf (u8 24) 1 || bitOf (u8 24) 3)) && zeroB d 25 7 &&
      (!(bitOf (u8 24) 0) || (inR (Nat.log2 sz) 12 31 && sz == 2 ^ Nat.log2 sz && leAt d 0 8 % sz == 0 && leAt d 16 8 % sz == 0 &&
        decide (0x80000000 ≤ leAt d 0 8 ∧ leAt d 0 8 + sz ≤ 0x100000000)))
  | 0x105, 3 =>
    let a := leAt d 16 8
    let n := leAt d 8 8
    lenIs d 32 && decide (key ≤ 15) && decide (u8 24 < 128 ∧ u8 24 / 16 % 4 < 3) && zeroB d 25 7 &&
      (!(bitOf (u8 24) 0) || decide (0 < n) && (match regionOf a with
        | .sram | .lpddr | .imsic => regionOf (a + n - 1) == regionOf a
        | _ => false))
  | 0x105, 4 => lenIs d 32 && key == 0 && zeroB d 20 12
  | 0x106, 1 => lenIs d 32 && decide (key / 32 < 22 ∧ key / 32 ≠ 7 ∧ key % 32 < gkRegions (key / 32)) && zeroB d 28 4
  | 0x107, 1 => lenIs d 16 && decide (key < 1024) && zeroB d 4 12
  | 0x107, 2 => lenIs d 16 && key == 0 && zeroB d 8 8
  | 0x108, 1 =>
    lenIs d 16 && key == 0 && decide (u8 0 < 2) && u8 1 == 0 && inR (dflt (u16 2) 50) 10 10000 && inR (dflt (u16 4) 50) 10 1000 &&
      inR (dflt (u16 6) 20) 1 1000 && zeroB d 12 4
  | 0x108, 2 => lenIs d 32 && decide (key ≤ 63)
  | 0x108, 3 => lenIs d 16 && decide (key ≤ 7) && decide (u8 0 < 64 ∧ u8 1 < 4) && u8 3 == 0 && decide (u16 4 < 512) && zeroB d 6 10
  | _, _ => false

end Sys2Proof.Machine
end

