-- ==== Sys2Proof/Machine/Sheepdog.lean ====
section
/-! DEFINITION. Sheepdog (R509–R516): rules, park slots, the supply estimate, cycles and wake decisions. -/

namespace Sys2Proof.Machine

/-! ### Rules (R510, R511) -/

def rlKind (r : List Byte) : Nat := byteAt r 0
def rlIndex (r : List Byte) : Nat := byteAt r 1
def rlDiv (r : List Byte) : Nat := max 1 (byteAt r 2)
def rlN (r : List Byte) : Nat := byteAt r 3 % 16
def rlTrigger (r : List Byte) : Nat := byteAt r 3 / 16 % 4
def rlInvert (r : List Byte) : Bool := bitOf (byteAt r 3) 6
def rlLow (r : List Byte) : Nat := leAt r 4 2
def rlHigh (r : List Byte) : Nat := leAt r 6 2
def rlAction (r : List Byte) : Nat := byteAt r 10
def rlArg (r : List Byte) : Nat := byteAt r 11
def rlPeriod (r : List Byte) : Nat := leAt r 12 4

/-- The rule takes part in mode `m` (R510). -/
def rlIn (r : List Byte) (m : Nat) : Bool := rlKind r != 0 && bitOf (leAt r 16 2) m

/-- The rule samples its input (R509). -/
def rlSamples (r : List Byte) : Bool := rlKind r != 2 && rlKind r != 7

/-- A park slot's fields (R516). -/
def pkChannel (r : List Byte) : Nat := byteAt r 0
def pkEn (r : List Byte) : Bool := bitOf (byteAt r 1) 0
def pkWake (r : List Byte) : Bool := bitOf (byteAt r 1) 1
def pkDuty (r : List Byte) : Nat := byteAt r 2
def pkIn (r : List Byte) (m : Nat) : Bool := pkEn r && bitOf (leAt r 4 2) m

/-- A rule keeps R510 and R511; `slots` are the defined park slots. -/
def ruleOk (r : List Byte) (slots : List Nat) : Bool :=
  let k := rlKind r
  let top := [0, 15, 15, 11, 0, 0, 8, 0, 15, 7].getD k 0
  k == 0 ||
  (decide (k ≤ 9) && decide (rlIndex r ≤ top) && inR (byteAt r 2) 1 255 && inR (rlN r) 1 15 && decide (byteAt r 3 < 128) &&
    (match k with
     | 2 => decide (rlTrigger r ≠ 0) && rlAction r == 1 && inR (rlLow r) 20 80 && rlHigh r == 0
     | 6 | 8 => rlLow r == 0 && rlHigh r == 0
     | 7 => rlTrigger r == 0 && rlAction r == 1 && rlLow r == 0 && rlHigh r == 0
     | _ => true) &&
    (if k = 1 ∨ k = 2 then decide (byteAt r 8 < 16 ∧ byteAt r 8 % 8 ≤ 5) else byteAt r 8 == 0) &&
    (if k = 1 then inR (byteAt r 9) 1 50 else decide (byteAt r 9 ≤ 50)) &&
    (match rlAction r with
     | 0 | 1 => rlArg r == 0
     | 2 | 3 => slots.contains (rlArg r)
     | 4 | 5 => decide (rlArg r < 16)
     | _ => false) &&
    (if k = 7 then inR (rlPeriod r) 1 16777215 else rlPeriod r == 0) && decide (leAt r 16 2 < 512) && zeroB r 18 14)

/-! ### Sampling times and the supply estimate (R509, R515, R516) -/

/-- Two rules need one input. -/
def sameInput (q r : List Byte) : Bool := rlKind q == rlKind r && rlIndex q == rlIndex r

/-- The first rule of each input that rules sample in mode `m`, in index order, with the smallest DIV among them. -/
def sampledInputs (m : Nat) (rules : List (List Byte)) : List (List Byte × Nat) :=
  rules.foldl (fun acc r =>
    if !(rlIn r m && rlSamples r) then acc
    else if acc.any fun e => sameInput e.1 r then acc.map fun e => if sameInput e.1 r then (e.1, min e.2 (rlDiv r)) else e
    else acc ++ [(r, rlDiv r)]) []

/-- Charge of one sample, nC (R515). -/
def sampleCharge (r : List Byte) : Nat :=
  match rlKind r with
  | 1 => [0, 5, 10, 20, 50, 100].getD (byteAt r 8 % 8) 0 * byteAt r 9 + 20
  | 3 => 50
  | _ => 10

/-- The rules that take the samples of cycle `c`: of each input the first rule that is due (R509). -/
def cycleSamples (m c : Nat) (rules : List (List Byte)) : List (List Byte) :=
  rules.foldl (fun acc r =>
    if rlIn r m && rlSamples r && decide (c % rlDiv r = 0) && !(acc.any (sameInput r)) then acc ++ [r] else acc) []

/-- Wetting and sampling of cycle `c` in mode `m`, ns. -/
def cycleTimeAt (m : Nat) (rules : List (List Byte)) (c : Nat) : Nat :=
  let l := cycleSamples m c rules
  (l.map fun r => if rlKind r = 1 then byteAt r 9 * 10000 else 0).foldl (· + ·) 0 + Config.sdSampleNs * l.length

/-- One cycle number for every set of divisors that can fall due together. -/
def dueCycles (ds : List Nat) : List Nat := ds.foldl (fun acc d => (acc ++ acc.map (Nat.lcm d)).eraseDups) [1]

/-- The longest wetting and sampling of a cycle in mode `m`, ns (R516). -/
def cycleTime (m : Nat) (rules : List (List Byte)) : Nat :=
  let ds := ((rules.filter fun r => rlIn r m && rlSamples r).map rlDiv).eraseDups
  ((dueCycles ds).map (cycleTimeAt m rules)).foldl max 0

/-- A supply estimate as a fraction: nA over a divisor. -/
structure SdEst where
  num : Nat
  den : Nat
  deriving DecidableEq, Repr

/-- The estimate of R515 for mode `m`; `armed` are the armed CAN and LIN receivers and Ethernet ports. -/
def sdEstimate (m : Nat) (rules parks : List (List Byte)) (cycleMs : Nat) (armed : Nat × Nat × Nat) : SdEst :=
  let l := sampledInputs m rules
  let edges := (rules.filter fun r => rlIn r m && rlKind r == 2).map rlIndex
  let p := (parks.filter fun r => pkIn r m).length
  let base := 150 + 60 * armed.1 + 40 * armed.2.1 + 1200 * armed.2.2 + 15 * edges.eraseDups.length
  -- Σ Q / DIV as a fraction, nC
  let (a, b) := l.foldl (fun (x : Nat × Nat) e => (x.1 * e.2 + sampleCharge e.1 * x.2, x.2 * e.2)) (0, 1)
  let sentinel := !l.isEmpty || decide (0 < p)
  if !sentinel then { num := base, den := 1 }
  else { num := (base + 500 + 30000 * p) * (b * cycleMs) + (250 * b + a) * 1000, den := b * cycleMs }

/-- The estimate in µA, rounded up. -/
def SdEst.ua (e : SdEst) : Nat := ceilDiv e.num (e.den * 1000)

/-- Armed receivers and ports of the settings in `t` (R362, R367, R515). -/
def armedOf (t : List CfgRec) : Nat × Nat × Nat :=
  let rec' := fun (type rtype key : Nat) => ((t.find? fun r => r.type == type && r.rtype == rtype && r.key == key).map CfgRec.data).getD []
  let en := fun n => bitOf (byteAt (rec' 0x103 1 n) 0) 0
  (((List.range 8).filter fun c => en c && bitOf (byteAt (rec' 0x102 1 c) 9) 4).length,
   ((List.range 4).filter fun l => en (8 + l)).length,
   ((List.range 10).filter fun p => [12, 13, 14, 15].any fun n => en n && bitOf (leAt (rec' 0x103 1 n) 12 2) p).length)

/-- The records of one settings RTYPE in tables `t`, in key order of appearance. -/
def recsOf (t : List CfgRec) (type rtype : Nat) : List (Nat × List Byte) :=
  (t.filter fun r => r.type == type && r.rtype == rtype).map fun r => (r.key, r.data)

/-- A rule list by index: rules in ascending index. -/
def byKey (l : List (Nat × List Byte)) : List (List Byte) := nvals (l.foldl (fun m e => nset m e.1 e.2) ([] : NMap (List Byte)))

/-- The Sheepdog section keeps R516 in mode `m`, whose tables are `t`; `limit` is the LIMIT of each channel. -/
def sheepdogOk (t : List CfgRec) (m : Nat) (limit : Nat → Nat) : Bool :=
  let sl := ((recsOf t 0x108 1).head?.map Prod.snd).getD []
  let cyc := dflt (leAt sl 4 2) 50
  let rules := byKey (recsOf t 0x108 2)
  let parks := recsOf t 0x108 3
  let slots := (parks.filter fun e => pkEn e.2).map Prod.fst
  let chans := (parks.filter fun e => pkEn e.2).map fun e => pkChannel e.2
  rules.all (fun r => ruleOk r slots) && chans.all (fun n => limit n != 0) && chans.eraseDups.length == chans.length &&
    decide (cycleTime m rules ≤ cyc * 500000) &&
    (leAt sl 8 4 == 0 ||
      (let e := sdEstimate m rules (parks.map Prod.snd) cyc (armedOf t); decide (e.num ≤ leAt sl 8 4 * 1000 * e.den)))

/-- `PCS_SD_STATUS` for the mode in force (R517). -/
def State.sdStatus (s : State) : Word :=
  let t := s.cfg.tables
  let rules := byKey (recsOf t 0x108 2)
  let parks := recsOf t 0x108 3
  let sl := ((recsOf t 0x108 1).head?.map Prod.snd).getD []
  let e := sdEstimate (s.get SF_MODE_MODE) rules (parks.map Prod.snd) (dflt (leAt sl 4 2) 50) (armedOf t)
  w32 ((rules.filter fun r => rlKind r != 0).length + maskOf ((parks.filter fun p => pkEn p.2).map Prod.fst) * 256 +
    min 65535 e.ua * 65536)

/-- The Sheepdog section is loaded into the field die (R503): what is loaded unchanged keeps its state, since the rules execute
until protection is active (DEDUCED, log entry 89). -/
def State.sdLoad (s : State) : State :=
  let sl := (s.cfgData 0x108 1 0).getD []
  let rule := fun (e : Nat × List Byte) =>
    match (nfind s.pcs.rules e.1).filter fun (q : Rule) => q.raw == e.2 with | some q => q | none => { raw := e.2 : Rule }
  let park := fun (e : Nat × List Byte) =>
    match (nfind s.pcs.parks e.1).filter fun (q : Park) => q.raw == e.2 with | some q => q | none => { raw := e.2 : Park }
  let rules := (s.cfgAll 0x108 2).foldl (fun m e => if rlKind e.2 = 0 then m else nset m e.1 (rule e)) ([] : NMap Rule)
  let parks := (s.cfgAll 0x108 3).foldl (fun m e => if pkEn e.2 then nset m e.1 (park e) else m) ([] : NMap Park)
  let prep := dflt (leAt sl 2 2) 50
  let s := { s with pcs := { s.pcs with tPrepMs := prep, sdCycleMs := dflt (leAt sl 4 2) 50, inhMinMs := dflt (leAt sl 6 2) 20,
                                        rules := rules, parks := parks } }
  (s.setFlag PCS_SLEEP_CFG_EN (bitOf (byteAt sl 0) 0)).set PCS_SLEEP_CFG_T_PREP prep

/-! ### Wake decisions and the two sleep states (R493, R508, R513) -/

/-- The device sleeps. -/
def State.asleep (s : State) : Bool := s.pcs.power == .stowed || s.pcs.power == .sentinel

/-- Rules execute: from t_s until protection is active (R491, R504, R507). -/
def State.sdRuns (s : State) : Bool := s.pcs.sdRunning && (s.asleep || s.pcs.power == .waking)

/-- A wake decision: latched, the first recorded (R508). -/
def State.wakeDecide (s : State) (reason idx : Nat) : State :=
  if s.asleep && s.pcs.wake.isNone then { s with pcs := { s.pcs with wake := some (reason, idx), wakeAt := s.now } } else s

/-- Park slot that names channel `n` and is active in the mode of the handover (R514). -/
def State.parkOf (s : State) (n : Nat) : Option (Nat × Park) :=
  s.pcs.parks.find? fun e => pkIn e.2.raw s.pcs.sdMode && pkChannel e.2.raw == n

/-- Something needs SENTINEL (R513). -/
def State.sentinelNeeded (s : State) : Bool :=
  s.pcs.rules.any (fun e => rlIn e.2.raw s.pcs.sdMode && rlSamples e.2.raw) || s.pcs.parks.any (fun e => e.2.on) ||
    allCh.any fun n => (s.chan n).state == chLimp

/-- STOWED or SENTINEL, as R513 gives it. -/
def State.sdPower (s : State) : State :=
  if s.asleep then { s with pcs := { s.pcs with power := if s.sentinelNeeded then .sentinel else .stowed } } else s

/-! ### Park slots (R514) -/

def State.setPark (s : State) (k : Nat) (x : Park) : State := { s with pcs := { s.pcs with parks := nset s.pcs.parks k x } }

/-- A park channel conducts at DUTY: fully, or by the field die's 200 Hz PWM (DEDUCED, log entry 88). -/
def State.parkDrive (s : State) (k : Nat) (x : Park) : State :=
  let n := pkChannel x.raw
  let d := pkDuty x.raw
  let s := (s.fieldOn n).modChan n fun c =>
    { c with limpA := if c.state = chHeld then c.limpA else 0, edge := if d = 0 then none else some (s.now + 5000000 * d / 256, false), edgeDuty := d }
  (s.setChState n chHeld).setPark k { x with on := true }

/-- PARK_ON: ignored on a LATCHED channel and under limp. -/
def State.parkOn (s : State) (k : Nat) : State :=
  match nfind s.pcs.parks k with
  | none => s
  | some x =>
    let st := (s.chan (pkChannel x.raw)).state
    if !(pkIn x.raw s.pcs.sdMode) || st == chLatched || st == chLimp || x.on then s else s.parkDrive k x

/-- PARK_OFF: the channel turns off with the normal sink. -/
def State.parkOff (s : State) (k : Nat) : State :=
  match nfind s.pcs.parks k with
  | none => s
  | some x =>
    let n := pkChannel x.raw
    if !x.on || (s.chan n).state == chLimp then s
    else ((s.modChan n fun c => { c with edge := none }).turnOff n false).setPark k { x with on := false }

/-- A park channel that conducts no more (a trip, or limp took it): the slot is off, and a trip may wake (R514). -/
def State.parkTripped (s : State) (n : Nat) : State :=
  match s.pcs.parks.find? fun e => e.2.on && pkChannel e.2.raw == n with
  | none => s
  | some (k, x) =>
    let s := s.setPark k { x with on := false }
    (if pkWake x.raw then s.wakeDecide 7 n else s).sdPower

/-! ### A cycle (R509, R512, R513) -/

/-- What a kind's input reads, in the unit of its bounds. -/
def State.ruleInput (s : State) (x : SdIn) (r : List Byte) : Int :=
  match rlKind r with
  | 1 => (codeOf x.wk (rlIndex r) 0 : Nat)
  | 3 => (codeOf x.ain (rlIndex r) 0 : Nat)
  | 4 => (x.vbat : Nat)
  | 5 => x.temp
  | 9 => codeOf x.cur (rlIndex r) 0
  | _ => if s.pcs.limpPin then 1 else 0

/-- The condition of a sampled rule (R511). -/
def State.ruleTrue (s : State) (x : SdIn) (r : List Byte) : Bool :=
  let v := s.ruleInput x r
  let sg := rlKind r == 5 || rlKind r == 9
  let lo : Int := if sg then signed 16 (rlLow r) else (rlLow r : Nat)
  let hi : Int := if sg then signed 16 (rlHigh r) else (rlHigh r : Nat)
  let c :=
    match rlKind r with
    | 6 => if rlIndex r = 0 then s.pcs.limpPin else bitOf s.pcs.lhPins (rlIndex r - 1)
    | 8 => bitOf s.pcs.sdFlags (rlIndex r)
    | _ => decide (lo ≤ v ∧ v ≤ hi)
  c != rlInvert r

/-- A rule's action (R510). -/
def State.ruleAct (s : State) (i : Nat) (r : List Byte) : State :=
  match rlAction r with
  | 1 => s.wakeDecide 6 i
  | 2 => s.parkOn (rlArg r)
  | 3 => s.parkOff (rlArg r)
  | 4 => { s with pcs := { s.pcs with sdFlags := setBit s.pcs.sdFlags (rlArg r) true } }
  | 5 => { s with pcs := { s.pcs with sdFlags := setBit s.pcs.sdFlags (rlArg r) false } }
  | _ => s

/-- The filter of a sampled rule (R512): its new state and whether it changed. -/
def Rule.filter (q : Rule) (c : Bool) : Rule × Bool :=
  if !q.begun then ({ q with begun := true, value := c, run := 0 }, false)
  else if c = q.value then ({ q with run := 0 }, false)
  else if rlN q.raw ≤ q.run + 1 then ({ q with value := c, run := 0 }, true)
  else ({ q with run := q.run + 1 }, false)

/-- One rule in cycle `c` (R509–R513) (DEDUCED, log entry 88). -/
def State.ruleRun (s : State) (x : SdIn) (c : Nat) (i : Nat) : State :=
  match nfind s.pcs.rules i with
  | none => s
  | some q =>
    let r := q.raw
    let put := fun (s : State) (q : Rule) => { s with pcs := { s.pcs with rules := nset s.pcs.rules i q } }
    if !(rlIn r s.pcs.sdMode) || rlKind r == 2 then s
    else if rlKind r = 7 then
      let n := (c + 1) * s.pcs.sdCycleMs / (rlPeriod r * 1000)
      if q.fired < n then (put s { q with fired := n }).ruleAct i r else s
    else if c % rlDiv r ≠ 0 then s
    else
      let (q', ch) := q.filter (s.ruleTrue x r)
      let s := put s q'
      let go := match rlTrigger r with
        | 0 => q'.value
        | 1 => ch && q'.value
        | 2 => ch && !q'.value
        | _ => ch
      if go then s.ruleAct i r else s

/-- A Sheepdog cycle: the RC gives its length to ±5 % (R509). -/
def State.sdCycle (s : State) (x : SdIn) : State :=
  if !s.sdRuns then s
  else
    let (e, s) := s.freeIn (-50000) 50000
    let s := s.until (s.pcs.cycleAt + (s.pcs.sdCycleMs * (1000000 + e)).toNat)
    let c := s.pcs.cycle
    let s := s.each (List.range 64) fun s i => s.ruleRun x c i
    ({ s with pcs := { s.pcs with cycle := c + 1, cycleAt := s.now } }).sdPower

/-- A kind 2 input holds a new level for N periods (R511). -/
def State.wkEdge (s : State) (i : Nat) (up : Bool) : State :=
  match nfind s.pcs.rules i with
  | none => s
  | some q =>
    let t := rlTrigger q.raw
    if !s.sdRuns || !(rlIn q.raw s.pcs.sdMode) || rlKind q.raw != 2 then s
    else if t = 3 ∨ (t = 1 ∧ up) ∨ (t = 2 ∧ !up) then s.ruleAct i q.raw else s

end Sys2Proof.Machine
end

