-- ==== Sys2Proof/Machine/Sec.lean ====
section
/-! DEFINITION. Security (chapter 13): lifecycle and OTP, secure calls and attestation, keys and engine jobs, the random
number generator, and debug tokens. -/

namespace Sys2Proof.Machine

/-! ### Lifecycle and OTP (R453–R456) -/

/-- A word of an OTP item: 0 the Dandiper digest, 1–4 the root digests, 5 revocation, 6 the debug digest (R469). -/
def State.otpWord (s : State) (item w : Nat) : Word := ngetD s.sec.otp.words (item * 16 + w) 0

/-- The 64 bytes of a digest item. -/
def State.otpDigest (s : State) (item : Nat) : List Byte :=
  (List.range 16).flatMap fun w => leBytes 4 (s.otpWord item w).toNat

/-- The item has any bit set. -/
def State.otpUsed (s : State) (item : Nat) : Bool := (List.range 16).any fun w => s.otpWord item w != 0

/-- The lifecycle fuses advance to state `t` (R456); `ok` says that the programmed fuses read back right. -/
def State.lcAdvance (s : State) (t : Nat) (ok : Bool) : State :=
  if t ≤ s.sec.otp.lifecycle ∨ 4 < t ∨ ok = false then s.setFlag SEC_EVT_LC_ERR true
  else
    let o := s.sec.otp
    { s with sec := { s.sec with otp := { o with lifecycle := t, dusDestroyed := o.dusDestroyed || t == lcReturn } } }

/-- Write of `SEC_LC_CTRL` (R456, R469) (DEDUCED, log entries 37 and 84). -/
def State.writeLcCtrl (s : State) (v : Word) (ok : Bool) : State :=
  if bitsOf v.toNat 15 8 = 0xA5 then s.lcAdvance (bitsOf v.toNat 2 0) ok else s

/-- A request to program `data` into a word of an item is refused (R454) (DEDUCED, log entry 84). -/
def State.otpRefused (s : State) (item w : Nat) (data : Word) : Bool :=
  if item = 5 then
    decide (w ≠ 0) || s.lc == lcEnd || decide ((s.otpWord 5 0 ||| data).toNat % 16 = 15)
  else if (1 ≤ item ∧ item ≤ 4) ∨ item = 6 then !(s.lc == lcManufacture || s.lc == lcDevelopment) || s.otpUsed item
  else true

/-- A request for an OTP operation by a write of `SEC_OTP_CTRL`; the operation ends with an event of its own. -/
def State.writeOtpCtrl (s : State) (v : Word) : State :=
  let old := s.rd SEC_OTP_CTRL
  let rd := bitOf v.toNat 8
  let pg := bitOf v.toNat 9
  let s := s.wr SEC_OTP_CTRL (SEC_OTP_CTRL.written old v)
  if !rd ∧ !pg then s
  else
    let item := s.get SEC_OTP_CTRL_ITEM
    let w := s.get SEC_OTP_CTRL_WORD
    let data := s.rd SEC_OTP_DATA
    let no := (rd && pg) || s.sec.otpOp.isSome || decide (6 < item) || (pg && s.otpRefused item w data)
    if no then s.setFlag SEC_OTP_CTRL_ERR true
    else
      let s := s.setFlag SEC_OTP_CTRL_BUSY true
      { s with sec := { s.sec with otpOp := some (item, w, if pg then some data else none) } }

/-- The OTP operation ends. -/
def State.otpDone (s : State) : State :=
  match s.sec.otpOp with
  | none => s
  | some (item, w, d) =>
    let s := { s with sec := { s.sec with otpOp := none } }
    let s := s.setFlag SEC_OTP_CTRL_BUSY false
    match d with
    | none => s.wr SEC_OTP_DATA (s.otpWord item w)
    | some d =>
      let d := if item = 5 then d &&& 15 else d
      let o := s.sec.otp
      { s with sec := { s.sec with otp := { o with words := nput 0 o.words (item * 16 + w) (s.otpWord item w ||| d) } } }

/-! ### Identity and attestation (R457, R458) -/

/-- The bytes of a name in ASCII. -/
def asciiBytes (t : String) : List Byte := t.toList.map fun c => BitVec.ofNat 8 c.toNat

/-- Seed of the identity key (R457). -/
def identitySeed : List Byte := Config.shake256 (Config.dus ++ asciiBytes "LD4824 IDENTITY") 32

/-- Seed of the alias key of a boot image (R457). -/
def aliasSeed (dBoot : List Byte) (svn : Nat) : List Byte :=
  Config.shake256 (Config.dus ++ dBoot ++ leBytes 4 svn ++ asciiBytes "LD4824 ALIAS") 32

/-- The running image's alias seed. -/
def State.aliasSeed (s : State) : List Byte := Sys2Proof.Machine.aliasSeed s.sec.dBoot s.sec.bootSvn

/-- The alias certificate, made once per boot (R457). -/
def State.makeCert (s : State) : State :=
  if s.sec.otp.dusDestroyed then s
  else
    let (r, s) := s.freeNat
    let m := leBytes 8 s.sec.otp.devid ++ leBytes 1 s.lc ++ s.sec.dBoot ++ Config.mlDsaPk s.aliasSeed
    { s with sec := { s.sec with cert := Config.mlDsaSign identitySeed (Config.sha3_512 m) r } }

/-- The overlay in force, in a mode other than 0. -/
def State.overlayInForce (s : State) : Option Overlay :=
  s.cfg.overlays.find? fun o => o.mode == s.get SF_MODE_MODE && s.get SF_MODE_MODE != 0

/-- Bytes 0–10 082 of the report for an issuer and a nonce (R458). -/
def State.report10083 (s : State) (fn : Nat) (nonce : List Byte) : List Byte :=
  [0x4C, 0x41, 0x54, 0x54] ++ leBytes 2 1 ++ leBytes 1 s.lc ++ leBytes 1 (s.get SF_MODE_MODE) ++
  leBytes 8 s.sec.otp.devid ++ leBytes 4 s.sec.bootSvn ++ leBytes 4 s.cfg.svn ++ leBytes 1 s.sec.otp.bootSvn ++
  leBytes 1 s.sec.otp.cfgSvn ++ leBytes 2 fn ++ leBytes 4 s.sec.bootSeq ++ leBytes 8 s.td0 ++ leBytes 8 0 ++
  padTo 32 nonce ++ padTo 64 s.sec.dBoot ++ padTo 64 s.cfg.digest ++
  padTo 64 ((s.overlayInForce.map Overlay.digest).getD []) ++
  padTo 2592 (Config.mlDsaPk identitySeed) ++ padTo 2592 (Config.mlDsaPk s.aliasSeed) ++ padTo 4627 s.sec.cert

/-- The whole report, signed with the alias key. -/
def State.attestReport (s : State) (fn : Nat) (nonce : List Byte) : List Byte × State :=
  let (r, s) := s.freeNat
  let b := s.report10083 fn nonce
  (b ++ padTo 4627 (Config.mlDsaSign s.aliasSeed (Config.sha3_512 b) r), s)

/-! ### Secure calls (R459–R461) -/

/-- Accesses by the SVP and the engines at a physical address; they pass every gatekeeper (R444). -/
def State.svpRead (s : State) (a n : Nat) : Option (List Byte) × State :=
  match regionOf a with
  | .outbound => s.outRead a n
  | .sram | .tcm | .mram | .lpddr | .rom => s.physRead 0x10 a n
  | _ => (none, s)

def State.svpWrite (s : State) (a : Nat) (d : List Byte) : Bool × State :=
  match regionOf a with
  | .outbound => s.outWrite a d
  | .sram | .tcm | .mram | .lpddr => s.physWrite 0x10 a d
  | _ => (false, s)

/-- The 64 bytes of a descriptor (R22). -/
def descBytes (d : Desc) : List Byte :=
  leBytes 2 d.opcode.toNat ++ leBytes 2 d.tag.toNat ++
  leBytes 1 (b2n d.fence + 2 * b2n d.atomic + 4 * b2n d.notify + 8 * b2n d.expert + 16 * d.rsvd.toNat) ++
  leBytes 1 d.group.toNat ++ leBytes 2 d.target.toNat ++ leBytes 8 d.deadline.toNat ++ padTo 48 d.params

/-- Records in the secure call ring (R469). -/
def State.callDepth (s : State) : Nat := 16 * 2 ^ min 8 (s.get SEC_CALL_CFG_ORDER)

/-- A secure call: its record is written and the secure world signalled, unless the secure world is DOWN (R459, R460). -/
def State.secureCall (s : State) (c : Cmd) : State :=
  if s.sec.down then s.complete c.seq stUnavailable 0
  else
    let q := s.sec.callSeq
    let s := s.setStage c.seq .secure
    let s := { s with sec := { s.sec with callSeq := (q + 1) % 4294967296, calls := s.sec.calls ++ [{ seq := q, cmd := c.seq, at_ := s.now }] } }
    if !(s.flag SEC_CALL_CFG_EN) then s
    else
      let rec_ := descBytes c.desc ++ leBytes 2 c.fn ++ leBytes 1 (b2n (s.fnSecure c.fn)) ++ [0] ++ leBytes 4 q ++ List.replicate 56 0
      let base := s.get SEC_CALL_BASE_LO_BASE * 128 + s.get SEC_CALL_BASE_HI_BASE * 4294967296
      let tail := s.get SEC_CALL_TAIL_TAIL % s.callDepth
      let (_, s) := s.svpWrite (base + 128 * tail) rec_
      let s := s.set SEC_CALL_TAIL_TAIL ((tail + 1) % s.callDepth)
      s.msi (0x50000000 + 0x1000 * s.get SEC_CALL_CFG_HART) (s.get SEC_CALL_CFG_IDENTITY)

/-- The secure world is DOWN until the next core-die reset: every waiting call ends (R460) (DEDUCED, log entry 83). -/
def State.secureDown (s : State) : State :=
  if s.sec.down then s
  else
    let calls := s.sec.calls
    let s := { s with sec := { s.sec with down := true, calls := [] } }
    let s := (s.setFlag SEC_STATUS_SW_DOWN true).setFlag SEC_EVT_SW_DOWN true
    let s := s.report 0x200
    s.each calls fun s k => s.complete k.cmd stUnavailable 0

/-- A waiting call is answered with a status and a result. -/
def State.callEnd (s : State) (k : SecCall) (status result : Nat) : State :=
  let s := { s with sec := { s.sec with calls := s.sec.calls.filter fun x => x.seq != k.seq } }
  s.complete k.cmd status result

/-- CALL_TO of a waiting call has passed: the cycle in which it passes is over, and an answer in that cycle still counts
(R460) (DEDUCED, log entry 120). -/
def State.overdue (s : State) (k : SecCall) : Bool := decide (k.at_ + s.sec.callTo * 1000000 + 2 ≤ s.now)

/-- The answer in `SEC_CALL_ANS0`–`3` is posted (R459); it comes too late for a secure world that an overdue call has brought
DOWN (R460). -/
def State.callAnswer (s : State) : State :=
  let w := fun i => (s.sec.ans.getD i 0).toNat
  let s := if s.sec.calls.any s.overdue then s.secureDown else s
  match s.sec.calls.find? fun k => k.seq == w 0 with
  | none => s.inc SEC_CALL_LATE_COUNT
  | some k => s.callEnd k (w 1 % 65536) (w 2 + w 3 * 4294967296)

/-- Write of an answer word; word 3 posts it. -/
def State.writeAns (s : State) (w : Nat) (v : Word) : State :=
  let s := { s with sec := { s.sec with ans := s.sec.ans.set w v } }
  if w = 3 then s.callAnswer else s

/-- CALL_TO of the oldest waiting call passes without an answer: the cycle in which it passes ends (R460). -/
def State.callTimeout (s : State) : State :=
  match s.sec.calls with
  | [] => s
  | k :: _ => (s.until (k.at_ + s.sec.callTo * 1000000 + 2)).secureDown

/-- ATTEST (R458). -/
def specAttest : OpSpec where
  code := 0x0A01
  long := true
  check s c :=
    let pre := orErr (firstErr [(s.lc == lcReturn, bad stNotPermitted), (c.tgt != 0, bad stBadParam)]) (strayErr [(0, 40)] c)
    s.thenXlate c pre false (c.p 32 8) 14710 true 32
  run s c := (s.accept c.seq).secureCall c

/-- The report of a waiting ATTEST is written, and its second completion follows (R458). -/
def State.attestDone (s : State) (seq : Nat) : State :=
  match s.sec.calls.find? fun k => k.cmd == seq, s.cmd? seq with
  | some k, some c =>
    if c.desc.opcode ≠ 0x0A01 then s
    else if s.sec.rngFail then s.callEnd k stHwFault 0
    else
      let (b, s) := s.attestReport c.fn (c.desc.params.take 32)
      match s.writeRecord c (c.p 32 8) b with
      | (some e, s) => let (v, s) := s.freeNat; s.callEnd k e.1 (v % 18446744073709551616)
      | (none, s) => let (v, s) := s.freeNat; s.callEnd k stOk (v % 18446744073709551616)
  | _, _ => s

/-! ### Key slots (R462) -/

/-- Key slot `k`. -/
def State.key (s : State) (k : Nat) : KeySlot := ngetD s.sec.keys k {}

def State.setKey (s : State) (k : Nat) (x : KeySlot) : State := { s with sec := { s.sec with keys := nput {} s.sec.keys k x } }

/-- The 32 bytes of `SEC_KEY_DATA0`–`7`. -/
def State.keyBytes (s : State) : List Byte := s.sec.keyData.flatMap fun w => leBytes 4 w.toNat

/-- Write of `SEC_KEY_CTRL` (R462). -/
def State.writeKeyCtrl (s : State) (v : Word) : State :=
  let k := bitsOf v.toNat 4 0
  match bitsOf v.toNat 9 8 with
  | 1 => s.setKey k { loaded := true, key := s.keyBytes }
  | 2 => if s.lc = lcReturn then s else s.setKey k { loaded := true, key := Config.shake256 (Config.dus ++ s.keyBytes) 32 }
  | 3 => s.setKey k {}
  | _ => s

/-! ### KEY_USE and the engine jobs (R463, R464) -/

/-- The parameter bytes that an operation of KEY_USE names. -/
def keyNamed (op : Nat) : List (Nat × Nat) :=
  if op = 1 ∨ op = 2 then [(0, 1), (4, 44)] else if op = 3 then [(0, 1), (2, 2), (8, 32)] else [(0, 1), (2, 2)]

/-- The fields of an association parameter block are in range: port, direction, channel, AN (R463). -/
def saFieldsOk (p : List Byte) : Bool := decide (byteAt p 2 ≤ 1) && decide (byteAt p 3 < 32)

/-- The fields of a GCM parameter block are in range. -/
def gcmFieldsOk (p : List Byte) : Bool := inR (leAt p 4 4) 1 65536 && decide (leAt p 36 4 ≤ leAt p 4 4)

/-- The receive channel that the block names; a transmit association has the one channel of its SecY. -/
def saChannel (p : List Byte) : Nat := if bitOf (byteAt p 3) 0 then byteAt p 3 / 2 % 4 else 0

/-- The associations of the channel that the block names. -/
def State.saPeers (s : State) (p : List Byte) : List Sa :=
  s.esw.sas.filter fun a => a.port == byteAt p 2 && a.tx == !(bitOf (byteAt p 3) 0) && a.slot == saChannel p

/-- KEY_USE (R463). -/
def specKeyUse : OpSpec where
  code := 0x0A02
  check s c :=
    let p := c.desc.params
    let op := byteAt p 0
    let pol := s.get SEC_KEYk_POL_OPS c.tgt
    let known := decide (1 ≤ op ∧ op ≤ 4)
    let inRange := decide (c.tgt < 32)
    let noOp := inRange && known && (!(bitOf pol (op - 1)) || (decide (3 ≤ op) && !(s.fnSecure c.fn)))
    let mask := if c.fn < 32 then (s.rd SEC_KEYk_FN_LO c.tgt).toNat else (s.rd SEC_KEYk_FN_HI c.tgt).toNat
    let noFn := inRange && !(bitOf mask (c.fn % 32))
    let gcm := decide (op ≤ 2)
    let badField := if gcm then !(gcmFieldsOk p) else !(saFieldsOk p)
    let pre := orErr (firstErr [(noOp, bad stNotPermitted), (noFn, bad stNotOwner), outOfRange c 32, (!known, bad stBadParam)])
      (orErr (strayErr (keyNamed op) c) (firstErr [(!((s.key c.tgt).loaded) || badField, bad stBadParam)]))
    let n := c.p 4 4
    let out := n - c.p 36 4
    let (s, e) := s.thenXlate c pre (!gcm) (c.p 8 8) n false 8
    let (s, e) := s.thenXlate c e (!gcm) (c.p 16 8) out true 16
    let (s, e) := s.thenXlate c e (!gcm) (c.p 40 8) 16 (op == 1) 40
    let full := op == 3 && decide (2 ≤ ((s.saPeers p).filter fun a => a.an != byteAt p 3 / 8 % 4).length)
    (s, orErr e (firstErr [(full, bad stInfeasible)]))
  run s c := s.secureCall c

/-- The association that a parameter block installs, under a key (R463): the key with the SSCI and the salt. -/
def saOf (p key : List Byte) : Sa :=
  { port := byteAt p 2, tx := !(bitOf (byteAt p 3) 0), sci := beAt p 8 8, an := byteAt p 3 / 8 % 4, slot := saChannel p,
    key := key ++ (p.drop 24).take 16, pn := leAt p 16 8 }

/-- Associations of the SecYs after one is installed: one of the same channel and AN is replaced. -/
def State.saInstall (s : State) (a : Sa) : State :=
  { s with esw := { s.esw with sas := (s.esw.sas.filter fun x => !(x.port == a.port && x.tx == a.tx && x.slot == a.slot && x.an == a.an)) ++ [a] } }

/-- The association that a block names is removed. -/
def State.saRetire (s : State) (p : List Byte) : State :=
  let a := saOf p []
  { s with esw := { s.esw with sas := s.esw.sas.filter fun x => !(x.port == a.port && x.tx == a.tx && x.slot == a.slot && x.an == a.an) } }

/-- Job words 1–12 as the 48 parameter bytes of R463 (DEDUCED, log entry 84). -/
def jobParams (l : List Word) : List Byte := ((l.drop 1).take 12).flatMap fun w => leBytes 4 w.toNat

/-- A GCM job (R464). The job words do not name the key slot: a free value, so the output, and whether a tag matches, are
free too. -/
def State.jobGcm (s : State) (p : List Byte) (decrypt : Bool) : Nat × State :=
  if !(gcmFieldsOk p) then (stBadParam, s)
  else
    let n := leAt p 4 4
    let aad := leAt p 36 4
    match s.svpRead (leAt p 8 8) n with
    | (none, s) => (stHwFault, s)
    | (some b, s) =>
      let (t, s) := if decrypt then s.svpRead (leAt p 40 8) 16 else (some [], s)
      match t with
      | none => (stHwFault, s)
      | some t =>
        let (k, s) := s.freeNat
        let key := (s.key (k % 32)).key
        let iv := (p.drop 24).take 12
        let res : Option (List Byte × List Byte) :=
          if decrypt then (Config.gcmDecrypt key iv (b.take aad) (b.drop aad) t).map fun x => (x, [])
          else some (Config.gcmEncrypt key iv (b.take aad) (b.drop aad))
        match res with
        | none => let (ok, s) := s.svpWrite (leAt p 16 8) (List.replicate (n - aad) 0); (if ok then stAborted else stHwFault, s)
        | some (x, tag) =>
          let (ok, s) := s.svpWrite (leAt p 16 8) (padTo (n - aad) x)
          let (ok2, s) := if decrypt then (true, s) else s.svpWrite (leAt p 40 8) (padTo 16 tag)
          (if ok && ok2 then stOk else stHwFault, s)

/-- Hash jobs: SHA3-512, or SHAKE256 with an output length (R464). -/
def State.jobHash (s : State) (p : List Byte) (shake : Bool) : Nat × State :=
  match s.svpRead (leAt p 8 8) (leAt p 4 4) with
  | (none, s) => (stHwFault, s)
  | (some b, s) =>
    let n := leAt p 24 4
    let out := if shake then padTo n (Config.shake256 b n) else padTo 64 (Config.sha3_512 b)
    let (ok, s) := s.svpWrite (leAt p 16 8) out
    (if ok then stOk else stHwFault, s)

/-- Job 7: a signature with the alias key over a report buffer (R457, R464). -/
def State.jobSign (s : State) (p : List Byte) : Nat × State :=
  if s.sec.rngFail then (stHwFault, s)
  else if leAt p 4 4 ≠ 10083 ∨ s.lc = lcReturn then (stBadParam, s)
  else match s.svpRead (leAt p 8 8) 10083 with
    | (none, s) => (stHwFault, s)
    | (some b, s) =>
      if b.take 4 ≠ [0x4C, 0x41, 0x54, 0x54] then (stBadParam, s)
      else
        let (r, s) := s.freeNat
        let (ok, s) := s.svpWrite (leAt p 16 8) (padTo 4627 (Config.mlDsaSign s.aliasSeed (Config.sha3_512 b) r))
        (if ok then stOk else stHwFault, s)

/-- The job with these words runs: its status code. Where the manual states no parameters (8, the verification), the
outcome is a free value (DEDUCED, log entry 84). -/
def State.runJob (s : State) (l : List Word) : Nat × State :=
  let p := jobParams l
  match (l.getD 0 0).toNat with
  | 1 => s.jobGcm p false
  | 2 => s.jobGcm p true
  | 3 =>
    if !(saFieldsOk p) then (stBadParam, s)
    else if s.sec.down then (stUnavailable, s)
    else if 2 ≤ ((s.saPeers p).filter fun a => a.an != byteAt p 3 / 8 % 4).length then (stInfeasible, s)
    else
      let (k, s) := s.freeNat
      (stOk, s.saInstall (saOf p (s.key (k % 32)).key))
  | 4 => if saFieldsOk p then (stOk, s.saRetire p) else (stBadParam, s)
  | 5 => s.jobHash p false
  | 6 => s.jobHash p true
  | 7 => s.jobSign p
  | 8 => let (v, s) := s.freeNat; (if v % 2 = 0 then stOk else stAborted, s)
  | _ => (stBadParam, s)

/-- Write of `SEC_JOB_CTRL`: GO starts the job; while one runs it is ignored. With the engines' pen fenced a job completes
with HW_FAULT (R478). -/
def State.writeJobCtrl (s : State) (v : Word) : State :=
  if !(bitOf v.toNat 0) ∨ s.sec.job.isSome then s
  else if !(s.penRuns 32) then s.set SEC_JOB_CTRL_STATUS stHwFault
  else
    let s := s.setFlag SEC_JOB_CTRL_BUSY true
    { s with sec := { s.sec with job := some ((List.range 16).map fun w => s.rd SEC_JOBw w) } }

/-- The job running ends. -/
def State.jobDone (s : State) : State :=
  match s.sec.job with
  | none => s
  | some l =>
    let (st, s) := s.runJob l
    let s := { s with sec := { s.sec with job := none } }
    (s.setFlag SEC_JOB_CTRL_BUSY false).set SEC_JOB_CTRL_STATUS st

/-! ### Random numbers (R465) -/

/-- A health test fails (R465); the words that the FIFO holds stay (DEDUCED, log entry 85). -/
def State.rngHealthFail (s : State) : State :=
  if !s.coreRuns ∨ s.sec.rngFail then s
  else (({ s with sec := { s.sec with rngFail := true } } : State).setFlag SEC_EVT_RNG_FAIL true).report 0x201

/-- A running generator has put further words, a free number of them, into its FIFO of 16 (R465) (DEDUCED, log entry 85). -/
def State.rngFill (s : State) : State :=
  if s.sec.rngFail then s
  else
    let (n, s) := s.freeNat
    { s with sec := { s.sec with rngLeft := s.sec.rngLeft + n % (17 - s.sec.rngLeft) } }

/-- A read of `SEC_RNG_DATA`: one word of the FIFO, a free value, or zero when it is empty (R465). -/
def State.rngTake (s : State) : Word × State :=
  let s := s.rngFill
  if s.sec.rngLeft = 0 then (0, s)
  else
    let (v, s) := s.freeNat
    (w32 v, { s with sec := { s.sec with rngLeft := s.sec.rngLeft - 1 } })

/-- `SEC_RNG_STATUS` as it reads: the words in the FIFO, and whether the generator has stopped. -/
def State.rngStatus (s : State) : Word × State :=
  let s := s.rngFill
  (w32 (s.sec.rngLeft + 32 * b2n s.sec.rngFail), s)

/-! ### Debug access (R466–R468) -/

/-- A challenge is drawn; none where the generator has stopped (R465, R467). -/
def State.newChallenge (s : State) : State :=
  let (b, s) := s.freeBytes 32
  { s with sec := { s.sec with chal := (List.range 8).map fun w => w32 (leAt b (4 * w) 4) } }

/-- The 32 bytes of the challenge. -/
def State.challenge (s : State) : List Byte := if s.sec.rngFail then List.replicate 32 0 else s.sec.chal.flatMap fun w => leBytes 4 w.toNat

/-- A token is accepted (R467) (DEDUCED, log entry 86). -/
def State.tokenOk (s : State) (t : List Byte) : Bool :=
  let pk := (t.drop 64).take 2592
  decide (t.length = 7283) && t.take 4 == [0x4C, 0x44, 0x42, 0x47] && leAt t 4 2 == 1 && decide (byteAt t 6 < 64) &&
  byteAt t 7 == 0 && zeroBut [(0, 48), (64, 7219)] t && !s.sec.rngFail &&
  Config.sha3_512 pk == s.otpDigest 6 &&
  Config.mlDsaVerify pk (Config.sha3_512 (t.take 2656)) (t.drop 2656) &&
  leAt t 8 8 == s.sec.otp.devid && (t.drop 16).take 32 == s.challenge

/-- A debug token is handed in (R467); `ok` says that fuses it programs read back right (DEDUCED, log entry 86). -/
def State.debugToken (s : State) (t : List Byte) (ok : Bool) : State :=
  if !s.powerUp || !(s.powered 43) then s
  else
    let s := { s with dbg := { s.dbg with tapIr := 0x14, token := t } }
    let s := s.setFlag SEC_EVT_DBG_TOKEN true
    let s :=
      if s.tokenOk t then
        let s := { s with sec := { s.sec with grants := some (byteAt t 6 % 16) } }
        let s := if bitOf (byteAt t 6) 4 then s.lcAdvance lcReturn ok else s
        if bitOf (byteAt t 6) 5 then s.lcAdvance lcEnd ok else s
      else s
    s.newChallenge

/-- Write of `SEC_DBG_CTRL` (R468). -/
def State.writeDbgCtrl (s : State) (v : Word) : State :=
  if bitOf v.toNat 0 then { s with sec := { s.sec with grants := none } } else s

end Sys2Proof.Machine
end

