-- ==== Sys2Proof/Machine/FnCmd.lean ====
section
/-! DEFINITION. Atomic groups, ownership, and the commands that manage functions (R235–R236, R244–R254). -/

namespace Sys2Proof.Machine

/-- The definitions of the opcodes that act on the units (chapters 01–05, 09–11, 13). -/
def unitSpecs : List OpSpec :=
  [specChSet, specChPwmConfig, specChClearLatch, specChDiagRead, specChAssignProfile, specChSenseoutSelect,
   specProfileWrite, specProfileRead, specMeasStreamOpen, specMeasRead, specMeasCalibrate, specMeasStreamClose,
   specElemCreate, specElemParam, specElemDelete, specElemStatus, specPlacementRead, specTripReset, specIngestOpen,
   specIngestClose, specPlacementRebalance, specElemLoad, specSignalDefine, specRouteCreate, specRouteDelete,
   specRouteStatus, specNmNeed, specNmRelease, specNmStatus, specTimeRead, specAttest, specKeyUse]

/-- The owned resource that a command acts on (R244). -/
def ownOf (c : Cmd) : Option (Nat × Nat) :=
  match unitSpecs.find? fun o => o.code == c.desc.opcode.toNat with
  | some o => o.own c
  | none => none

/-- The two signals of a route command (R384): those it names, or those of the route it deletes. -/
def State.routeSignals (s : State) (c : Cmd) : List Nat :=
  match c.desc.opcode.toNat with
  | 0x0502 => [c.p 0 2, c.p 2 2]
  | 0x0503 => match s.route? c.tgt with | some x => [x.src, x.dst] | none => []
  | _ => []

/-- The command acts on a resource: its own, or a signal of its route (R244, R384). -/
def State.actsOn (s : State) (c : Cmd) (kind i : Nat) : Bool :=
  ownOf c == some (kind, i) || (kind == 6 && (s.routeSignals c).contains i)

/-- The command has not taken effect. -/
def Cmd.before (c : Cmd) : Bool :=
  match c.stage with
  | .waiting | .started | .withheld | .held | .member => true
  | _ => false

/-! ### Atomic groups (R235, R236) -/

/-- The open group of a queue. -/
def State.openGroup (s : State) (fn src : Nat) : Option Group :=
  s.sf.groups.find? fun g => g.fn == fn && g.src == src && g.closed.isNone

/-- The group whose first member was fetch `key`. -/
def State.groupOf (s : State) (key : Nat) : Option Group := s.sf.groups.find? fun g => g.key == key

/-- Members of a group that wait for its effect. -/
def State.members (s : State) (g : Group) : List Cmd := s.sf.cmds.filter fun c => c.stage == .member && c.aux == g.key

def State.modGroup (s : State) (key : Nat) (f : Group → Group) : State :=
  { s with sf := { s.sf with groups := s.sf.groups.map fun g => if g.key == key then f g else g } }

def State.dropGroup (s : State) (key : Nat) : State :=
  { s with sf := { s.sf with groups := s.sf.groups.filter fun g => g.key != key } }

/-- A group fails (R236): its members complete with ABORTED; an open group stays open until it is closed. -/
def State.groupFail (s : State) (g : Group) : State :=
  let s := s.each (s.members g) fun s c => s.finish c.seq (bad stAborted)
  if g.closed.isSome then s.dropGroup g.key else s.modGroup g.key fun g => { g with failed := true }

/-! ### Ownership (R244–R247) -/

/-- A command without room for its completion will complete with a status once there is room (R228). -/
def State.endsLater (s : State) (seq status : Nat) : State :=
  let (v, s) := s.freeNat
  s.mapCmds fun k => if k.seq == seq then { k with fin := some (status, v % 18446744073709551616) } else k

/-- One resource passes to another function: the old owner's commands on it that have not taken effect complete with
NOT_OWNER (R247), those that wait for room once they have it (R228). -/
def State.ownerMove (s : State) (kind i fn : Nat) : State :=
  let old := s.owner kind i
  if old = fn then s
  else
    let s := s.setOwner kind i fn
    let hit := s.sf.cmds.filter fun c => c.before && c.fn == old && !c.desc.expert && s.actsOn c kind i
    let s := s.each hit fun s c =>
      if c.stage == .waiting && c.src != 8 && !(s.cqRoom c.fn c.src c.need) then s.endsLater c.seq stNotOwner
      else
      let s := s.finish c.seq (bad stNotOwner)
      if c.stage = .member then (match s.groupOf c.aux with | some g => s.groupFail g | none => s) else s
    match kind with
    | 0 => s.streamsLose i fn
    | 12 => s.queueNewOwner i
    | _ => s

/-- The fields of OWNERSHIP_SET, 12 bytes, are in range (R246). -/
def ownFieldsOk (p : List Byte) : Bool :=
  decide (byteAt p 0 ≤ 12 ∧ byteAt p 1 ≤ 63) && leAt p 2 2 == 0 && decide (1 ≤ leAt p 8 4) &&
    decide (leAt p 4 4 + leAt p 8 4 ≤ ownSize (byteAt p 0))

def specOwnershipSet : OpSpec where
  code := 0x0F03
  waits := true
  check s c :=
    checks s c [(c.fn != 0, bad stNotOwner), (c.tgt != 0, bad stBadParam)] [(0, 2), (4, 8)]
      [(!(ownFieldsOk c.desc.params), bad stBadParam)]
  run s c :=
    let s := (s.setStage c.seq .started).setAux c.seq s.now
    { s with sf := { s.sf with ownPend := s.sf.ownPend ++
      [{ cmd := c.seq, kind := c.p 0 1, owner := c.p 1 1, first := c.p 4 4, count := c.p 8 4 }] } }

/-- One accepted OWNERSHIP_SET at the present grid point (R246, R247). -/
def State.ownChange (s : State) (x : OwnChange) : State :=
  match s.cmd? x.cmd with
  | none => { s with sf := { s.sf with ownPend := s.sf.ownPend.filter fun y => y.cmd != x.cmd } }
  | some c =>
    if s.now ≤ c.aux then s
    else
      let s := { s with sf := { s.sf with ownPend := s.sf.ownPend.filter fun y => y.cmd != x.cmd } }
      if c.late s.effectNs then s.finish c.seq (bad stDeadlineMissed)
      else (s.each ((List.range x.count).map fun k => x.first + k) fun s i => s.ownerMove x.kind i x.owner).completeTime c.seq

/-- OWNERSHIP_CHANGE: the changes accepted before this grid point, and not held (R269), take effect in the order of their
commands. -/
def State.ownershipDue (s : State) (holds : Cmd → Bool) : State :=
  if s.atGrid then
    s.each (s.sf.ownPend.filter fun x => !((s.cmd? x.cmd).any holds)) State.ownChange
  else s

/-! ### Quiesce and resume (R250, R251) -/

/-- The shared checks of group 0x0F: the PF alone, and a VF as target. -/
def fnChecks (c : Cmd) : List (Bool × Res) :=
  [(c.fn != 0, bad stNotOwner), (decide (c.tgt = 0 ∨ 63 < c.tgt), bad stBadParam)]

/-- FN_QUIESCE commands that wait for function `n`. -/
def State.quiescers (s : State) (n : Nat) : List Cmd :=
  s.sf.cmds.filter fun c => c.stage == .started && c.desc.opcode.toNat == 0x0F01 && c.tgt == n

def State.setFnState (s : State) (n st : Nat) : State := s.set SF_FNn_STATE_STATE st n

def specFnQuiesce : OpSpec where
  code := 0x0F01
  check s c := checks s c (fnChecks c) [] []
  outcome s c := if s.fnState c.tgt = 0 then some (bad stAborted) else none
  run s c :=
    let n := c.tgt
    match s.fnState n with
    | 0 => s.finish c.seq (bad stAborted)
    | 3 => s.complete c.seq stOk 0
    | 2 => s.setStage c.seq .started
    | _ =>
      let f := s.fn n
      let s := (s.setFnState n 2).setFn n { f with quiesceAt := f.done }
      let s := (s.setStage c.seq .started).setAux c.seq f.done
      s.each (s.sf.cmds.filter fun k => k.fn == n && k.stage == .withheld) fun s k => s.finish k.seq (bad stAborted)

/-- QUIESCE_DRAINED: nothing of a QUIESCING function is in flight any more; a FN_QUIESCE whose deadline has passed has missed
it (R250) (DEDUCED, log entry 49). -/
def State.quiesceDrained (s : State) (n : Nat) : State :=
  if s.fnState n ≠ 2 ∨ s.fnInflight n ≠ 0 then s
  else
    let qs := s.quiescers n
    let s := s.setFnState n 3
    s.each qs fun s c =>
      if c.late s.td0 then s.finish c.seq (bad stDeadlineMissed) else s.complete c.seq stOk ((s.fn n).done - c.aux)

def specFnResume : OpSpec where
  code := 0x0F02
  check s c := checks s c (fnChecks c) [] []
  outcome s c := if s.fnState c.tgt = 0 then some (bad stAborted) else none
  run s c :=
    let n := c.tgt
    if s.fnState n = 0 then s.finish c.seq (bad stAborted)
    else
      let qs := s.quiescers n
      let s := s.setFnState n 1
      let s := s.each qs fun s k => s.complete k.seq stAborted ((s.fn n).done - (s.fn n).quiesceAt)
      s.finish c.seq (stOk, none)

/-! ### Enabling and disabling a VF (R249, R252–R254) -/

/-- A window table's entry. -/
def windowAt (t : List Byte) (i : Nat) : Window :=
  { base := leAt t (32 * i) 8, size := leAt t (32 * i + 8) 8, phys := leAt t (32 * i + 16) 8,
    r := bitOf (byteAt t (32 * i + 24)) 0, w := bitOf (byteAt t (32 * i + 24)) 1 }

/-- A physical range lies wholly within SRAM, LPDDR5 or the outbound range. -/
def windowPhys (a n : Nat) : Bool :=
  let k := regionOf a
  (k == .sram || k == .lpddr || k == .outbound) && regionOf (a + n - 1) == k

/-- Window `i` breaks a rule of R220, alone or against the windows before it. -/
def windowBad (t : List Byte) (i : Nat) : Bool :=
  let x := windowAt t i
  x.base % 4096 != 0 || x.size % 4096 != 0 || x.size == 0 || x.phys % 4096 != 0 || decide (4 ≤ byteAt t (32 * i + 24)) ||
    !(zeroBut [] ((t.drop (32 * i + 25)).take 7)) || !(windowPhys x.phys x.size) ||
    (List.range i).any fun j => let y := windowAt t j; decide (x.base < y.base + y.size ∧ y.base < x.base + x.size)

def specVfEnable : OpSpec where
  code := 0x0F04
  check s c :=
    let n := c.p 8 1
    let pre := orErr (firstErr ([(c.p 10 1 == 1 && !(s.fnSecure 0), bad stNotPermitted)] ++ fnChecks c))
      (orErr (strayErr [(0, 11), (12, 2), (16, 8)] c)
        (firstErr [(decide (n = 0 ∨ 16 < n) || decide (c.p 9 1 = 0 ∨ 8 < c.p 9 1) || decide (1 < c.p 10 1) ||
          decide (256 < c.p 12 2) || !(isImsicFile (c.p 16 8)), bad stBadParam)]))
    let (s, e) := s.thenXlate c pre false (c.p 0 8) (32 * n) false 0
    match e with
    | some e => (s, some e)
    | none =>
      match s.fnRead c.fn (c.p 0 8) (32 * n) with
      | (.error _, s) => (s, none)
      | (.ok t, s) => (s, ((List.range n).find? (windowBad t)).map fun i => (stBadParam, some i))
  outcome s c := if s.fnState c.tgt ≠ 0 then some (bad stAborted) else none
  run s c :=
    let n := c.tgt
    if s.fnState n ≠ 0 then s.finish c.seq (bad stAborted)
    else match s.fnRead c.fn (c.p 0 8) (32 * c.p 8 1) with
      | (.error _, s) => s.finish c.seq (bad stHwFault)
      | (.ok t, s) =>
        let lo := 0x42000000 + 0x1000 * n
        let f := s.fn n
        let sec := c.p 10 1 == 1
        let s := { s with regs := s.regs.filter fun e => !(decide (lo ≤ e.1 ∧ e.1 < lo + 0x800)) }
        let lim := if c.p 12 2 = 0 then 256 else c.p 12 2
        let ws := (List.range (c.p 8 1)).map (windowAt t)
        let s := s.setFn n { secure := sec, limit := lim, imsic := c.p 16 8, windows := ws, done := f.done, dirty := f.dirty }
        let s := s.wr SF_FNn_STATE (w32 (1 + 4 * b2n sec + 16 * c.p 9 1)) n
        s.completeTime c.seq

/-- What a disable of function `n` does beside its commands (R145, R217, R254, R304, R355). -/
def State.fnGone (s : State) (n : Nat) : State :=
  let s := (s.setFn n { s.fn n with windows := [], mbx := {}, qps := List.replicate 8 {} }).set SF_FNn_STATE_NQP 0 n
  let s := s.each (s.pda.streams.filter fun e => e.2.fn == n && e.2.ring) fun s e => s.streamGone e.1
  let s := s.each (allCh.filter fun c => s.owner 0 c == n) fun s c => s.streamsLose c 64
  s.fbcOwnerGone n

def specVfDisable : OpSpec where
  code := 0x0F05
  check s c := checks s c (fnChecks c) [] []
  outcome s c := if s.fnState c.tgt = 0 then some (bad stAborted) else none
  run s c :=
    let n := c.tgt
    match s.fnState n with
    | 0 => s.finish c.seq (bad stAborted)
    | 3 => ((s.fnGone n).setFnState n 0).complete c.seq stOk 0
    | _ =>
      let qs := s.quiescers n
      let out := s.sf.cmds.filter fun k => k.fn == n &&
        (match k.stage with | .waiting | .withheld | .held | .member => true | _ => false)
      let disc := out.length + b2n (s.fn n).mbx.sent
      let left := s.sf.cmds.filter fun k => !(out.any fun o => o.seq == k.seq)
      let run := (left.filter fun k => k.fn == n).map Cmd.seq
      let left := left.map fun (k : Cmd) => if k.fn == n then { k with mute := true } else k
      let s := { s with sf := { s.sf with cmds := left, groups := s.sf.groups.filter fun g => g.fn != n } }
      let s := (s.fnGone n).setFnState n 0
      let s := s.setFn n { s.fn n with dirty := (s.fn n).dirty ++ [(c.seq, disc, run)] }
      let s := ((s.setFlag SF_FNn_STATE_DIRTY true n).inc SF_DIRTY_COUNT_COUNT).sfEvt 0
      let s := s.each (allCh.filter fun k => s.owner 0 k == n) State.orphanNow
      let s := s.each qs fun s k => s.finish k.seq (bad stAborted)
      s.setStage c.seq .started

/-- DIRTY_DISABLE_DONE: each dirty disable of the VF whose executing commands have finished completes (R253). -/
def State.dirtyDone (s : State) (n : Nat) : State :=
  s.each (s.fn n).dirty fun s (seq, disc, run) =>
    if s.sf.cmds.any fun c => run.contains c.seq then s
    else
      let s := s.setFn n { s.fn n with dirty := (s.fn n).dirty.filter fun e => e.1 != seq }
      s.complete seq stOk (disc % 65536 + run.length % 65536 * 65536 + 2 ^ 63)

end Sys2Proof.Machine
end

