-- ==== Sys2Proof/Machine/CfgApply.lean ====
section
/-! DEFINITION. Tables coming into force (R262–R269): the base image at boot, and the differences between two modes. -/

namespace Sys2Proof.Machine

/-- Why tables cannot come into force: a record is refused, or a placement fails with a reason of R169. -/
inductive CfgErr where
  | record
  | placement (r : Option Nat)
  deriving DecidableEq, Repr

/-- A step of the application. -/
abbrev CfgRes := Except CfgErr State

/-- The steps for every element of a list, in order. -/
def eachE {α : Type} (s : State) : List α → (State → α → CfgRes) → CfgRes
  | [], _ => .ok s
  | x :: l, f => match f s x with | .error e => .error e | .ok s => eachE s l f

/-- A step that is refused unless a check holds. -/
def needs (b : Bool) (s : State) : CfgRes := if b then .ok s else .error .record

/-- A step after another. -/
def andThen (r : CfgRes) (f : State → CfgRes) : CfgRes := match r with | .error e => .error e | .ok s => f s

/-- The data of a record of a table list. -/
def recAt (t : List CfgRec) (type rtype key : Nat) : Option (List Byte) :=
  (t.find? fun r => r.type == type && r.rtype == rtype && r.key == key).map CfgRec.data

/-- One item on which two table lists differ: its key, and its record in each. -/
structure CfgDiff where
  key : Nat
  old : Option (List Byte)
  new : Option (List Byte)

/-- The new record, if there is one, has the length of its layout. -/
def CfgDiff.sized (d : CfgDiff) (n : Nat) : Bool := match d.new with | some r => r.length == n | none => true

/-- The items of one record type on which two table lists differ (R266), in the order of the new list. -/
def diffs (old new : List CfgRec) (type rtype : Nat) : List CfgDiff :=
  let keys := (((new ++ old).filter fun r => r.type == type && r.rtype == rtype).map CfgRec.key).eraseDups
  (keys.map fun k => { key := k, old := recAt old type rtype k, new := recAt new type rtype k : CfgDiff }).filter
    fun d => d.old != d.new

/-- A register takes a record's value as a write would set it, or its reset value where the record is absent. -/
def State.regTo (s : State) (r : Reg) (i j : Nat) (d : Option (List Byte)) (o : Nat) : State :=
  match d with
  | none => s.wr r (r.resetAt i) i j
  | some b => s.wr r (r.clamped (r.written (s.rd r i j) (w32 (leAt b o 4)))) i j

/-- As `regTo`, where the two records differ in the register's four bytes. -/
def State.regDiff (s : State) (r : Reg) (i j : Nat) (d : CfgDiff) (o : Nat) : State :=
  if d.old.isSome == d.new.isSome && (d.old.map fun b => leAt b o 4) == (d.new.map fun b => leAt b o 4) then s
  else s.regTo r i j d.new o

/-! ### Ownership (R245, R247) -/

/-- The owners that the OWNERSHIP records give, by `SF_OWN` offset; where records overlap, the later prevails. -/
def ownTable (t : List CfgRec) : NMap Nat :=
  (t.filter fun r => r.type == 5).foldl (fun m r =>
    (List.range (leAt r.data 8 4)).foldl (fun m i =>
      nset m (ownOffset (byteAt r.data 0) (leAt r.data 4 4 + i)) (byteAt r.data 1)) m) []

/-- Kind and index of an `SF_OWN` offset. -/
def ownKind (o : Nat) : Nat × Nat :=
  match (List.range 13).find? fun k => decide (ownOffset k 0 ≤ o ∧ o < ownOffset k 0 + ownSize k) with
  | some k => (k, o - ownOffset k 0)
  | none => (13, 0)

def State.cfgOwners (s : State) (old new : List CfgRec) : CfgRes :=
  if !((new.filter fun r => r.type == 5).all fun r => r.data.length == 12 && ownFieldsOk r.data) then .error .record
  else
    let a := ownTable old
    let b := ownTable new
    let offs := (b.map Prod.fst ++ a.map Prod.fst).eraseDups.filter fun o => ngetD a o 0 != ngetD b o 0
    .ok (s.each offs fun s o => s.ownerMove (ownKind o).1 (ownKind o).2 (ngetD b o 0))

/-! ### Profiles, groups, inputs, channels (R261, R262, R268) -/

/-- A changed profile (R88): a channel that uses it and is not idle keeps its fixed-in-use fields. -/
def State.cfgProfile (s : State) (d : CfgDiff) : CfgRes :=
  let ok := match d.new with
    | none => true
    | some r => r.length == 144 && leAt r 0 2 == d.key && inR d.key 1 127 && zeroB r 2 14 && (profileBad (r.drop 16)).isNone
  if !ok then .error .record
  else
    let users := s.profileUsers d.key
    let before := s
    let s := s.each users fun s n =>
      let st := (s.chan n).state
      if st = chOff ∨ st = chLatched ∨ !before.prot then s
      else s.modChan n fun c => { c with fixed := some (c.fixed.getD (before.prof n)) }
    let s := { s with pda := { s.pda with profiles := match d.new with
      | some r => nset s.pda.profiles d.key (r.drop 16)
      | none => nerase s.pda.profiles d.key } }
    .ok (s.each users fun s n => s.rangeChange n (before.prof n))

/-- The codes of the CHANNELS record in force, over those of the profile (R262). -/
def State.recordCodes (s : State) (n : Nat) : State :=
  match s.cfgData 2 0 n with
  | none => s
  | some r =>
    let v := leAt r 4 4
    let s := s.set PDA_CHn_CTRL_CEIL_CODE (bitsOf v 9 4) n
    let s := s.set PDA_CHn_CTRL_SRC_CODE (bitsOf v 13 10) n
    s.set PDA_CHn_CTRL_SINK_CODE (bitsOf v 17 14) n

/-- Channels with a deferred profile index (R268). -/
def State.countPending (s : State) : State := s.set SF_MODE_PENDING s.cfg.pendProf.length

/-- A channel takes the profile index of its record: at once, or in a mode change when it is next idle (R263, R268)
(DEDUCED, log entry 80). -/
def State.cfgIndex (s : State) (n p : Nat) : State :=
  let st := (s.chan n).state
  let s := { s with cfg := { s.cfg with pendProf := nerase s.cfg.pendProf n } }
  let s :=
    if st = chOff ∨ st = chLatched ∨ !s.prot then (s.assignProfile n p).recordCodes n
    else if s.profIdx n = p then s
    else { s with cfg := { s.cfg with pendProf := nset s.cfg.pendProf n p } }
  s.countPending

/-- PROFILE_INDEX_APPLY: the deferred index of a channel that has become OFF or LATCHED (R268). -/
def State.profileIndexApply (s : State) (n : Nat) : State :=
  match nfind s.cfg.pendProf n with
  | none => s
  | some p => if (s.chan n).state = chOff ∨ (s.chan n).state = chLatched then s.cfgIndex n p else s

/-- CTRL of a CHANNELS record: everything but REQ; B2B only while the channel is OFF (R262). -/
def State.cfgCtrl (s : State) (n v : Nat) : State :=
  let old := (s.rd PDA_CHn_CTRL n).toNat
  let b2b := if (s.chan n).state = chOff ∨ !s.prot then bitOf v 3 else bitOf old 3
  s.wr PDA_CHn_CTRL (w32 (setBits (setBit (v % 262144) 3 b2b) 1 0 (bitsOf old 1 0))) n

/-- A CHANNELS record keeps its layout, names a defined profile, and gives a period that CH_PWM_CONFIG would accept (R76,
R262, R263). -/
def State.channelRecOk (s : State) (n : Nat) (r : List Byte) : Bool :=
  r.length == 64 && decide (n < 64) && byteAt r 0 == n && byteAt r 1 == 0 && zeroB r 44 20 && byteAt r 4 % 4 == 0 &&
    (s.profile (leAt r 2 2)).isSome && decide (leAt r 2 2 < 128) && inR (leAt r 8 4) 4000 100000000

/-- A changed CHANNELS record, field by field (R262, R268). -/
def State.cfgChannel (s : State) (d : CfgDiff) : CfgRes :=
  let n := d.key
  match d.new with
  | none => .error .record
  | some r =>
    let p := leAt r 2 2
    if !(s.channelRecOk n r) then .error .record
    else
      let s := if (d.old.map fun b => leAt b 2 2) = some p then s else s.cfgIndex n p
      let s := if (d.old.map fun b => leAt b 4 4) = some (leAt r 4 4) then s else s.cfgCtrl n (leAt r 4 4)
      let s := s.regDiff PDA_CHn_PWM_PERIOD n 0 d 8
      let s := s.regDiff PDA_CHn_PWM_DUTY n 0 d 12
      let s := s.regDiff PDA_CHn_PWM_CFG n 0 d 16
      let s := (s.dutyFollow n).pwmResync n
      let s := s.regDiff PDA_CHn_DIAG_OFF n 0 d 20
      let s := s.regDiff PDA_CHn_DIAG_ON n 0 d 24
      let s := s.regDiff PDA_CHn_THRESH n 0 d 28
      let s := s.regDiff PDA_CHn_ORPHAN n 0 d 32
      let s := s.regDiff PDA_CHn_LIMP n 0 d 36
      .ok (s.regDiff PDA_CHn_LIMP_I2T n 0 d 40)

/-- The CHANNELS section holds its 64 records in channel order, or is absent (R262). -/
def channelsOk (t : List CfgRec) : Bool :=
  let ks := (t.filter fun r => r.type == 2).map CfgRec.key
  ks.isEmpty || ks == List.range 64

def State.cfgPda (s : State) (old new : List CfgRec) : CfgRes :=
  if !(channelsOk new) then .error .record
  else andThen (eachE s (diffs old new 1 0) State.cfgProfile) fun s =>
    andThen (eachE s (diffs old new 3 0) fun s d =>
      if d.key < 8 ∧ d.sized 4 then .ok (s.regTo PDA_GRPk_DROOP d.key 0 d.new 0) else .error .record) fun s =>
    andThen (eachE s (diffs old new 4 0) fun s d =>
      if d.key < 12 ∧ d.sized 16 ∧ d.new.all (fun r => zeroB r 12 4) then
        .ok (((s.regDiff PDA_AINj_CFG d.key 0 d 0).regDiff PDA_AINj_SCALE d.key 0 d 4).regDiff PDA_AINj_OFFSET d.key 0 d 8)
      else .error .record) fun s =>
    eachE s (diffs old new 2 0) State.cfgChannel

/-! ### User elements, ingest, elements, bulletins, streams (R263) -/

def State.cfgUsers (s : State) (old new : List CfgRec) : CfgRes :=
  let s := if (diffs old new 10 0).isEmpty then s else { s with cfg := { s.cfg with userKey := (recAt new 10 0 0).getD [] } }
  eachE s (diffs old new 11 0) fun s d =>
    match d.new with
    | none => .error .record
    | some im => match s.userLoad im with | .ok s => .ok s | .error _ => .error .record

/-- The device EtherType of the tables. -/
def cfgEtype (s : State) (t : List CfgRec) : Nat :=
  match recAt t 0x101 14 0 with | some r => leAt r 0 2 | none => s.esw.etype

def State.cfgIngest (s : State) (etype : Nat) (d : CfgDiff) : CfgRes :=
  let s := if (nfind s.pe.ings d.key).isSome then
      { s with pe := { s.pe with ings := nerase s.pe.ings d.key } }.wr PE_INGh_STATUS 0 d.key else s
  match d.new with
  | none => .ok s
  | some r =>
    let p := (r.drop 16).take 48
    let t := r.drop 64
    let foreign := bitOf (byteAt p 0) 0
    let ok := decide (d.key < 128) && leAt r 0 2 == d.key && zeroB r 2 14 && zeroB p 16 8 && ingFieldsOk p &&
      (if foreign then t.length == 128 && tmplOk etype t else t.isEmpty)
    if ok then .ok (s.ingOpen d.key (ingOf p t)) else .error .record

/-- The block of an ELEMENTS record. -/
def elemBlk (r : List Byte) : List Byte := (r.drop 64).take (leAt r 44 4)

/-- An ELEMENTS record's own form (R261) (DEDUCED, log entry 80). -/
def elemRecOk (h : Nat) (r : List Byte) : Bool :=
  decide (h < 2048) && leAt r 0 2 == h && leAt r 2 2 == r.length && zeroB r 4 4 && zeroB r 48 16 &&
    decide (64 + leAt r 44 4 ≤ r.length) && decide (leAt r 44 4 ≤ 4096) && (r.drop (64 + leAt r 44 4)).all (· == 0)

/-- Two ELEMENTS records differ in their parameter blocks alone (DEDUCED, log entry 80). -/
def blockOnly (a b : List Byte) : Bool := (a.drop 8).take 36 == (b.drop 8).take 36

/-- Changed instances come into being without a placement; removed ones go. -/
def State.cfgElemNew (s : State) (d : CfgDiff) : CfgRes :=
  let gone := fun (s : State) => if (s.inst? d.key).isSome then s.removeInst d.key else s
  match d.new with
  | none => .ok (gone s)
  | some r =>
    if !(elemRecOk d.key r) then .error .record
    else if (s.inst? d.key).isSome && (match d.old with | some o => blockOnly o r | none => false) then .ok s
    else
      let h := d.key
      let x := instOf ((r.drop 8).take 48)
      .ok ((gone s).setInst h { x with blk := elemBlk r, aWord := mword 0 (0x9000 + h) (128 + 768) 0,
                                       tWord := mword 0 (0x9800 + h) (1 + 768) 0 })

/-- A changed instance is checked as ELEM_CREATE, or as ELEM_PARAM where only its block differs, on behalf of its
handle's owner. -/
def State.cfgElemCheck (s : State) (d : CfgDiff) : CfgRes :=
  match d.new, s.inst? d.key with
  | some r, some x =>
    let h := d.key
    let p := (r.drop 8).take 48
    let fn := s.owner 3 h
    let keep := x.a.isSome || x.unplaced
    if (s.elemFields fn h p).isSome then .error .record
    else match s.elemBlock fn h x (instInputs p) (elemBlk r) with
      | .error _ => .error .record
      | .ok y =>
        if keep then
          .ok (s.setInst h { y with pend := some (elemBlk r), renew := x.renew || elemRenews x.type (x.pend.getD x.blk) (elemBlk r) })
        else .ok (s.setInst h y)
  | _, _ => .ok s

/-- Bulletin registers (R261): the local bulletins, then the subscriptions. -/
def State.cfgBulletins (s : State) (d : CfgDiff) : CfgRes :=
  let ok := match d.new with
    | none => true
    | some r => d.key == 0 && r.length == 528 && zeroB r 12 4 && (List.range 32).all fun j => zeroB r (28 + 16 * j) 4
  if !ok then .error .record
  else
    let en := s.flag PE_BUL_CFG_EN
    let s := ((s.regDiff PE_BUL_DMAC_LO 0 0 d 0).regDiff PE_BUL_DMAC_HI 0 0 d 4).regDiff PE_BUL_CFG 0 0 d 8
    let s := if s.flag PE_BUL_CFG_EN = en then s else s.bulEnable (!en)
    .ok (s.each (List.range 32) fun s j =>
      let was := s.rd PE_SUBj_SRC j
      let s := (s.regDiff PE_SUBj_MASK_LO j 0 d (20 + 16 * j)).regDiff PE_SUBj_MASK_HI j 0 d (24 + 16 * j)
      (s.regDiff PE_SUBj_SRC j 0 d (16 + 16 * j)).subSrcWrite j was)

/-- The descriptor of a command that a record stands for; no command in flight has its fetch number. -/
def cfgCmd (s : State) (fn opcode target : Nat) (p : List Byte) : Cmd :=
  { seq := s.sf.nextSeq, fn := fn, src := 8,
    desc := { opcode := BitVec.ofNat 16 opcode, tag := 0, fence := false, atomic := false, notify := false, expert := false,
              rsvd := 0, group := 0, target := BitVec.ofNat 16 target, deadline := 0, params := p } }

def State.cfgStream (s : State) (d : CfgDiff) : CfgRes :=
  let s := if (nfind s.pda.streams d.key).isSome then s.streamGone d.key else s
  match d.new with
  | none => .ok s
  | some r =>
    let c := cfgCmd s (s.owner 2 d.key) 0x0301 d.key (r.drop 16)
    let ok := r.length == 64 && leAt r 0 2 == d.key && zeroB r 2 14 && byteAt r 16 % 4 == 0
    if !ok then .error .record
    else match specMeasStreamOpen.check s c with
      | (_, some _) => .error .record
      | (s, none) => .ok (specMeasStreamOpen.run s c)

/-- INGEST, ELEMENTS and a full placement where instances differ, BULLETINS, STREAMS. -/
def State.cfgPe (s : State) (old new : List CfgRec) : CfgRes :=
  let s := s.each (diffs old new 9 0) fun s d => s.regTo PE_PLACE_CFG 0 0 d.new 0
  let el := diffs old new 6 0
  andThen (eachE s (diffs old new 7 0) fun s d => s.cfgIngest (cfgEtype s new) d) fun s =>
  andThen (eachE s el State.cfgElemNew) fun s =>
  andThen (eachE s el State.cfgElemCheck) fun s =>
  andThen (if el.isEmpty then .ok s else match s.fullPlace with
    | .ok s => .ok s.peTrack
    | .error r => .error (.placement r)) fun s =>
  andThen (eachE s (diffs old new 8 0) State.cfgBulletins) fun s =>
  eachE s (diffs old new 12 0) State.cfgStream

/-! ### Subsystem settings -/

/-- The TBU record (R329): a queue is bound to one port at most. -/
def State.cfgTbu (s : State) (d : CfgDiff) : CfgRes :=
  let ptpq := fun (r : List Byte) => ((List.range 10).map fun p => leAt r (84 + 16 * p) 4 % 256).filter fun v => bitOf v 7
  let ok := match d.new with
    | none => true
    | some r => d.key == 0 && r.length == 240 && (ptpq r).eraseDups.length == (ptpq r).length && zeroB r 72 8 &&
        (List.range 4).all (fun k => zeroB r (16 * k + 8) 8) && (List.range 10).all fun p => zeroB r (88 + 16 * p) 8
  if !ok then .error .record
  else
    let s := s.each (List.range 4) fun s k => (s.regDiff TBU_TDd_CFG k 0 d (16 * k)).regDiff TBU_TDd_HOLD k 0 d (16 * k + 4)
    let s := (s.regDiff TBU_TS_ETYPE 0 0 d 64).regDiff TBU_TS_EN 0 0 d 68
    .ok (s.each (List.range 10) fun s p => (s.regDiff TBU_PORTp_LAT p 0 d (80 + 16 * p)).regDiff TBU_PORTp_PTPQ p 0 d (84 + 16 * p))

/-- EtherTypes that the device EtherType may not be (R298) (DEDUCED, log entry 80). -/
def etypeBarred : List Nat := [0x8100, 0x88A8, 0x88E5, 0x88F7, 0xF1C1]

/-- A value is refused as device EtherType: barred, or used by an open foreign template or an M_FWD entry (R298). -/
def State.etypeRefused (s : State) (v : Nat) : Bool :=
  etypeBarred.contains v || (s.pe.ings.any fun e => e.2.foreign && leAt e.2.tmpl 0 2 == v) ||
    ((s.cfgAll 0x0101 12).any fun e => leAt e.2 0 2 == v && v != 0)

/-- The switch settings as a whole (R284, R292, R298). -/
def State.eswOk (s : State) : Bool :=
  decide ((s.cfgAll 0x0101 3).length ≤ 256) &&
  (List.range 10).all (fun p =>
    let sum := (List.range 8).foldl (fun a k => a + s.idleSlope p k) 0
    sum == 0 || decide (sum * 4 ≤ 3 * (if p < 2 then [10000000, 5000000, 2500000].getD (byteAt (s.eswRec 1 p) 0) 0 else s.portRate p))) &&
  (match s.cfgData 0x0101 14 0 with | none => true | some r => !(s.etypeRefused (leAt r 0 2)))

/-- Changed items of the switch, with what each starts anew (R290, R294, R295, R320). -/
def State.cfgEsw (s : State) (old new : List CfgRec) : CfgRes :=
  if !s.eswOk then .error .record
  else
    let ks := fun rt => (diffs old new 0x101 rt).map CfgDiff.key
    let s := s.each (ks 1) fun s p => if s.portOff p then s.linkChange p false else s
    let s := s.each (ks 2) fun s p =>
      let on := s.plcaOn p && s.linkUp p
      ((s.setFlag ESW_PORTp_LINK_PLCA_ACTIVE on p).setFlag ESW_PORTp_LINK_PLCA_FALLBACK false p).modPort p fun x => { x with beacon := s.now }
    let td := fun (r : Option (List Byte)) => byteAt (r.getD []) 6 % 4
    let s := s.each ((diffs old new 0x101 1).filter fun d => td d.old != td d.new) fun s d => s.gateMoved d.key
    let s := s.each (ks 5) fun s p => s.loadGcl p
    let s := s.each (ks 8) fun s g => { s with esw := { s.esw with held := nerase s.esw.held g } }
    let s := s.each (ks 9) fun s k => { s with esw := { s.esw with meters := nerase s.esw.meters k } }
    let s := s.each (ks 10) fun s h => { s with esw := { s.esw with gen := nerase s.esw.gen h, recov := nerase s.esw.recov h } }
    .ok (s.each (diffs old new 0x101 14) fun s d =>
      let v := match d.new with | some r => leAt r 0 2 | none => 0x88B5
      let s := (s.set ESW_DEV_ETYPE_ETYPE v).set ESW_NODE_ID_NODE (match d.new with | some r => leAt r 2 2 | none => 0)
      { s with esw := { s.esw with etype := v, etypeAt := none } })

/-- A port belongs to one Ethernet network at most (R354). -/
def State.netsOk (s : State) : Bool :=
  let masks := ((s.cfgAll 0x103 1).filter fun e => decide (12 ≤ e.1) && bitOf (byteAt e.2 0) 0).map fun e => leAt e.2 12 2
  (List.range 10).all fun p => decide ((masks.filter fun m => bitOf m p).length ≤ 1)

/-- The FBC and network settings, which come into force at the end of boot and at a mode boundary (R367, R505). -/
def State.cfgFbc (s : State) (old new : List CfgRec) : CfgRes :=
  if !s.netsOk then .error .record
  else if !(s.flag PCS_STATE_DONE) then .ok s
  else
    let cans := ((diffs old new 0x102 1) ++ (diffs old new 0x102 2)).map CfgDiff.key
    let s := s.each cans.eraseDups fun s c => s.canApply c ((recAt old 0x102 1 c).getD []) ((recAt old 0x102 2 c).getD [])
    let lins := ((diffs old new 0x102 5) ++ (diffs old new 0x102 7)).map CfgDiff.key
    let s := s.each lins.eraseDups fun s l => s.modLin l fun x => { x with idx := 0, slotAt := some s.now, gts := false }
    .ok (s.each (diffs old new 0x103 1) fun s d => s.netApply d.key (match d.old with | some r => bitOf (byteAt r 0) 0 | none => false))

/-- A changed PDU or container (R374, R385): what it has built is sent as built, its gap, update count and sequence go on;
a PERIODIC PDU starts its periods anew, a receive PDU its timeout. -/
def State.cfgPdu (s : State) (d : CfgDiff) : State :=
  s.modPdu d.key fun x =>
    if d.new.isNone then { x with next := none, wait := false, queue := [], open_ := false }
    else { x with next := none, seen := s.now, timedOut := false }
def State.cfgCont (s : State) (d : CfgDiff) : State :=
  if d.new.any fun r => byteAt r 0 % 4 == 3 then s else s.setCont d.key { s.cont d.key with entries := [], since := none }

/-- The gateway settings: a signal or route whose record differs starts anew (R385); the signals and routes in force must fit
the PDUs in force (R373, R384). -/
def State.cfgSgw (s : State) (old new : List CfgRec) : CfgRes :=
  let s := s.each (diffs old new 0x104 2) State.cfgPdu
  let s := s.each (diffs old new 0x104 3) State.cfgCont
  andThen (eachE s (diffs old new 0x104 4) fun s d =>
    match d.new with
    | none => .ok { s with sgw := { s.sgw with sigs := nerase s.sgw.sigs d.key } }
    | some r =>
      -- the owner of the signal owns its PDU (R263, R383)
      if s.signalOk r && s.owner 6 d.key == s.owner 8 (sgPdu r) then .ok (s.sigDefine d.key r) else .error .record) fun s =>
  let s := s.each (diffs old new 0x104 5) fun s d => { s with sgw := { s.sgw with routes := nerase s.sgw.routes d.key } }
  andThen (eachE s (diffs old new 0x104 5) fun s d =>
    match d.new with
    | none => .ok s
    | some r =>
      -- the owner of the route owns both of its signals (R263, R384)
      let fn := s.owner 7 d.key
      if s.routeOk r && zeroB r 6 42 && s.owner 6 (leAt r 0 2) == fn && s.owner 6 (leAt r 2 2) == fn && (s.routeWhere fun x => x.dst == leAt r 2 2).isNone then .ok (s.setRoute d.key (routeOf r))
      else .error .record) fun s =>
  needs ((s.sgw.sigs.all fun e => s.signalOk e.2.raw) && (s.sgw.routes.all fun e => s.routeFits e.2) && decide (s.sgwNeed ≤ 1048576)) s

/-- Enabled outbound windows do not overlap (R389). -/
def State.winsOk (s : State) : Bool :=
  let ws := ((s.cfgAll 0x105 2).filter fun e => owFlag e.2 0)
  ws.all fun a => ws.all fun b => a.1 == b.1 || decide (owBase a.2 + owSize a.2 ≤ owBase b.2 ∨ owBase b.2 + owSize b.2 ≤ owBase a.2)

/-- The PLB, gatekeeper and FCU sections, which overlays cannot patch. -/
def State.cfgPlb (s : State) (old new : List CfgRec) : CfgRes :=
  let any := ([1, 2, 3, 4] : List Nat).any fun rt => !(diffs old new 0x105 rt).isEmpty
  if !any then .ok s else if s.winsOk then .ok s.plbApply else .error .record

/-- The eight words of a gatekeeper region (R443, R446). -/
def State.gkLoad (s : State) (g r : Nat) (d : List Byte) : State :=
  let s := s.wr SEC_GKg_REGr_BASE (w32 (leAt d 0 4)) g r
  let s := s.wr SEC_GKg_REGr_SIZE (w32 (leAt d 4 4)) g r
  let s := s.wr SEC_GKg_REGr_INIT_LO (w32 (leAt d 8 4)) g r
  let s := s.wr SEC_GKg_REGr_INIT_HI (w32 (leAt d 12 4)) g r
  let s := s.wr SEC_GKg_REGr_FN_LO (w32 (leAt d 16 4)) g r
  let s := s.wr SEC_GKg_REGr_FN_HI (w32 (leAt d 20 4)) g r
  s.wr SEC_GKg_REGr_CTRL (w32 (leAt d 24 4 % 128)) g r

/-- What a write of `v` makes of a source's configuration (R474): a field that would fall below its default stays. -/
def fcuMerge (i : Nat) (old v : Word) : Word :=
  let dv := (FCU_SRCi_CFG.resetAt i).toNat
  let o := old.toNat
  let n := v.toNat
  let cls := if min 2 (bitsOf n 1 0) < min 2 (bitsOf dv 1 0) then bitsOf o 1 0 else bitsOf n 1 0
  let keep := fun (b : Nat) => if bitOf dv b && !(bitOf n b) then bitOf o b else bitOf n b
  let dev := if bitOf dv 5 || (bitOf n 5 && decide (cls < 2)) then bitOf o 5 else bitOf n 5
  let x := FCU_SRCi_CFG.written old v
  w32 (setBit (setBit (setBit (setBits x.toNat 1 0 cls) 3 (keep 3)) 4 (keep 4)) 5 dev)

/-- The FCU reactions (R489): a record that would weaken a default is refused. -/
def State.cfgFcu (s : State) (old new : List CfgRec) : CfgRes :=
  andThen (eachE s (diffs old new 0x107 1) fun s d =>
    match d.new with
    | none => .ok (s.regTo FCU_SRCi_CFG d.key 0 none 0)
    | some r =>
      let o := s.rd FCU_SRCi_CFG d.key
      let v := fcuMerge d.key o (w32 (leAt r 0 4))
      if v = FCU_SRCi_CFG.written o (w32 (leAt r 0 4)) then .ok (s.wr FCU_SRCi_CFG v d.key) else .error .record) fun s =>
  .ok (s.each (diffs old new 0x107 2) fun s d => (s.regTo FCU_ERRN_CFG 0 0 d.new 0).regTo FCU_FATAL_CFG 0 0 d.new 4)

/-- The subsystem settings in the order of their TYPE (R261) (DEDUCED, log entry 80). -/
def State.cfgSettings (s : State) (old new : List CfgRec) : CfgRes :=
  let kept := (new.filter fun r => decide (0x101 ≤ r.type)).all fun r => settingOk r.type r.rtype r.key r.data
  andThen (needs kept s) fun s =>
  andThen (eachE s (diffs old new 0x100 0) State.cfgTbu) fun s =>
  andThen (s.cfgEsw old new) fun s =>
  andThen (s.cfgFbc old new) fun s =>
  andThen (s.cfgSgw old new) fun s =>
  andThen (s.cfgPlb old new) fun s =>
  andThen (.ok (s.each (diffs old new 0x106 1) fun s d =>
    match d.new with | some r => s.gkLoad (d.key / 32) (d.key % 32) r | none => s)) fun s =>
  s.cfgFcu old new

/-- The new tables come into force in place of the old (R263, R266), in mode `m`. -/
def State.applyTables (s : State) (new : List CfgRec) (m : Nat) : CfgRes :=
  let old := s.cfg.tables
  let s := s.each (List.range 10) State.creditTo
  let s := { s with cfg := { s.cfg with tables := new } }
  andThen (s.cfgOwners old new) fun s =>
  andThen (s.cfgPda old new) fun s =>
  andThen (s.cfgUsers old new) fun s =>
  andThen (s.cfgPe old new) fun s =>
  andThen (s.cfgSettings old new) fun s =>
  needs (sheepdogOk new m fun n => s.get PDA_CHn_LIMP_I2T_LIMIT n) s

/-! ### Configuration sets (R258–R266, R271) -/

/-- A configuration set that has been read and verified. -/
structure CfgSet where
  base : BaseImg
  digest : List Byte
  overlays : List Overlay
  deriving DecidableEq, Repr

/-- The overlay images that follow the base image, from offset `o`, with their signatures; the reason where one fails
(R258, R259, R264). -/
def readOverlays (key dig im : List Byte) : Nat → Nat → Except Nat (List Overlay)
  | 0, o => if im.length ≤ up16 o ∧ o ≤ im.length then .ok [] else .error 1
  | n + 1, o =>
    let x := im.drop (up16 o)
    match parseOverlay x with
    | none => .error 1
    | some (v, bd) =>
      let total := leAt x 8 4
      if !(Config.mlDsaVerify key (Config.sha3_512 (x.take total)) ((x.drop total).take sigLen)) then .error 2
      else match readOverlays key dig im n (up16 o + total + sigLen) with
        | .error e => .error e
        | .ok l => if bd = dig then .ok (v :: l) else .error 5

/-- A configuration set as bytes, read with the configuration key against the rollback counter: the set, or the reason
of R272. -/
def readSet (key : List Byte) (rollback : Nat) (im : List Byte) : Except Nat CfgSet :=
  match parseBase im with
  | none => .error 1
  | some b =>
    let dig := Config.sha3_512 (im.take b.total)
    if !(Config.mlDsaVerify key dig ((im.drop b.total).take sigLen)) then .error 2
    else if b.svn < rollback then .error 3
    else match readOverlays key dig im b.novl (b.total + sigLen) with
      | .error e => .error e
      | .ok l =>
        let modes := l.map Overlay.mode
        if 64 < b.svn ∨ modes.eraseDups.length ≠ modes.length ∨ (b.defMode ≠ 0 ∧ ¬ modes.contains b.defMode) then .error 1
        else if dupKeys b.recs then .error 6
        else .ok { base := b, digest := dig, overlays := l }

/-- The tables of a mode (R266). -/
def modeTables (base : List CfgRec) (ovl : List Overlay) (m : Nat) : Option (List CfgRec) :=
  if m = 0 then some base
  else match ovl.find? fun o => o.mode == m with
    | none => none
    | some o => if 256 < overlayElems o.patches then none else applyPatches base o.patches

/-- EXPERT of a mode: its overlay's, or the EXPERT section's in mode 0. -/
def modeExpert (base : List CfgRec) (ovl : List Overlay) (m : Nat) : Nat :=
  match ovl.find? fun o => o.mode == m && m != 0 with
  | some o => o.expert % 16384
  | none => leAt ((recAt base 13 0 0).getD []) 0 4 % 16384

/-- The base image and then the overlay of a mode on a state that has none in force (R263). -/
def State.cfgSetApply (s : State) (x : CfgSet) (m : Nat) : CfgRes :=
  let s := { s with cfg := { s.cfg with base := x.base.recs, overlays := x.overlays, build := x.base.build, svn := x.base.svn,
                                        digest := x.digest } }
  let s := s.setFn 0 { s.fn 0 with secure := x.base.pfSecure }
  let s := s.setFlag SF_FNn_STATE_WORLD x.base.pfSecure 0
  let s := s.set SF_MODE_PRESENT (maskOf (x.overlays.map fun o => o.mode - 1))
  andThen (s.applyTables x.base.recs 0) fun s =>
  let s := s.set SF_EXPERT_ALLOW_ALLOW (modeExpert x.base.recs x.overlays 0)
  if m = 0 then .ok s
  else match modeTables x.base.recs x.overlays m with
    | none => .error .record
    | some t => andThen (s.applyTables t m) fun s =>
      .ok ((s.set SF_EXPERT_ALLOW_ALLOW (modeExpert x.base.recs x.overlays m)).set SF_MODE_MODE m)

/-- Every mode of the set on an idle device with all pairs in service: the reason of R272 where one is refused
(DEDUCED, log entry 38). -/
def setReason (x : CfgSet) : Option Nat :=
  ((0 :: x.overlays.map Overlay.mode).findSome? fun m =>
    match State.reset.cfgSetApply x m with
    | .ok _ => none
    | .error .record => some 6
    | .error (.placement _) => some 7)

end Sys2Proof.Machine
end

