-- ==== Sys2Proof/Machine/Image.lean ====
section
/-! DEFINITION. Images in MRAM: commit records (R271), boot images and their verification (R449–R451), staging and
committing (R272–R275), and the mode commands (R267–R270, R277). -/

namespace Sys2Proof.Machine

/-! ### Commit records (R271) -/

def icEmpty : Nat := 0
def icStaged : Nat := 1
def icCommitted : Nat := 2
def icTrial : Nat := 3
def icTrialBooted : Nat := 4

/-- A commit record whose magic and CRC are right. -/
structure Commit where
  seq   : Nat
  state : Nat
  len   : Nat
  deriving DecidableEq, Repr

/-- Base of an area: kind 0 configuration, 1 boot; half 0 A, 1 B. -/
def areaBase (kind half : Nat) : Nat := 0x20000000 + half * 0x2000000 + (if kind = 0 then 0x1800000 else 0)

/-- The largest image that an area holds. -/
def areaRoom (kind : Nat) : Nat := (if kind = 0 then 0x400000 else 0x1800000) - 64

/-- The commit record of an area. -/
def State.commitOf (s : State) (kind half : Nat) : Option Commit :=
  let b := s.bytes (areaBase kind half) 64
  if b.take 4 = [0x4C, 0x43, 0x4D, 0x54] ∧ leAt b 60 4 = crc32c (b.take 60) then
    some { seq := leAt b 4 4, state := byteAt b 8, len := leAt b 16 4 }
  else none

/-- STATE of an area; an area without a valid record holds nothing that could be selected. -/
def State.areaState (s : State) (kind half : Nat) : Nat := match s.commitOf kind half with | some c => c.state % 8 | none => icEmpty

/-- The bytes of a commit record. -/
def commitBytes (c : Commit) : List Byte :=
  let b := [0x4C, 0x43, 0x4D, 0x54] ++ leBytes 4 c.seq ++ leBytes 8 c.state ++ leBytes 4 c.len ++ List.replicate 40 0
  b ++ leBytes 4 (crc32c b)

/-- The commit record of an area is written. -/
def State.setCommit (s : State) (kind half : Nat) (c : Commit) : State := s.setBytes (areaBase kind half) (commitBytes c)

/-- The record of an area without a committed image: its SEQ is a free value, and so is the LEN of an empty area. -/
def State.markArea (s : State) (kind half state : Nat) (len : Option Nat) : State :=
  let (q, s) := s.freeNat
  let (l, s) := match len with | some l => (l, s) | none => s.freeNat
  s.setCommit kind half { seq := q % 4294967296, state := state, len := l % 4294967296 }

/-- The image of an area. -/
def State.imageOf (s : State) (kind half : Nat) (len : Nat) : List Byte := s.bytes (areaBase kind half + 64) (min len (areaRoom kind))

/-- A new commit sequence number: one above the highest of a committed or trial area of the kind (DEDUCED, log entry 45). -/
def State.newSeq (s : State) (kind : Nat) : Nat :=
  let q := fun h => match s.commitOf kind h with | some c => if 2 ≤ c.state then c.seq else 0 | none => 0
  (max (q 0) (q 1) + 1) % 4294967296

/-- The half from which an image kind runs; where none runs, the half that `SF_IMAGE_STATUS` shows. -/
def State.runHalf (s : State) (kind : Nat) : Nat := (if kind = 0 then s.cfg.cfgHalf else s.cfg.bootHalf).getD 0

/-- The device runs from a TRIAL_BOOTED area of the kind. -/
def State.runsTrial (s : State) (kind : Nat) : Bool := if kind = 0 then s.cfg.cfgTrial else s.cfg.bootTrial

/-- The areas of a kind that may be selected at boot, highest SEQ first (R271). -/
def State.candidates (s : State) (kind : Nat) : List Nat :=
  let ok := fun h => match s.commitOf kind h with | some c => c.state == icCommitted || c.state == icTrial | none => false
  let q := fun (h : Nat) => (match s.commitOf kind h with | some c => c.seq | none => 0 : Nat)
  (if q 0 < q 1 then [1, 0] else [0, 1]).filter ok

/-- A selected area: a TRIAL becomes TRIAL_BOOTED; answers whether it was one. -/
def State.selectArea (s : State) (kind half : Nat) : Bool × State :=
  match s.commitOf kind half with
  | some c => if c.state = icTrial then (true, s.setCommit kind half { c with state := icTrialBooted }) else (false, s)
  | none => (false, s)

/-- `SF_IMAGE_STATUS` (R276) (DEDUCED, log entry 45). -/
def State.imageStatus (s : State) : Word :=
  let c := s.runHalf 0
  let b := s.runHalf 1
  w32 (c + 2 * s.areaState 0 (1 - c) + 16 * b + 32 * s.areaState 1 (1 - b) + 256 * b2n (!s.cfg.jobs.isEmpty))

/-! ### Boot images (R449–R451) -/

/-- A component entry (R450). -/
structure BootComp where
  type  : Nat
  ofs   : Nat
  len   : Nat
  load  : Nat
  entry : Nat
  deriving DecidableEq, Repr

/-- A boot image's header, cut into fields (R449). -/
structure BootImg where
  total  : Nat
  svn    : Nat
  slot   : Nat
  worlds : Nat
  callTo : Nat
  rootPk : List Byte
  cfgPk  : List Byte
  comps  : List BootComp
  deriving DecidableEq, Repr

/-- Component entry `i` of a header, with the bytes that must be zero. -/
def compAt (im : List Byte) (i : Nat) : Option BootComp :=
  let e := (im.drop (5248 + 32 * i)).take 32
  if zeroB e 1 3 ∧ zeroB e 12 4 then
    some { type := byteAt e 0, ofs := leAt e 4 4, len := leAt e 8 4, load := leAt e 16 8, entry := leAt e 24 8 }
  else none

/-- The memory parameter record of an image, if it has one (R432). -/
def memRecord (im : List Byte) (cs : List BootComp) : Option (List Byte) :=
  (cs.find? fun c => c.type == 4).map fun c => (im.drop c.ofs).take c.len

/-- Components do not overlap. -/
def compsApart : List BootComp → Bool
  | [] => true
  | x :: l => l.all (fun y => !(overlap x.ofs x.len y.ofs y.len)) && compsApart l

/-- A component may be loaded where its LOAD says (R450). -/
def loadOk (ddr : Bool) (c : BootComp) : Bool :=
  c.load == 0 ||
    (match regionOf c.load with
     | .sram => decide (c.load + c.len ≤ 0x11000000)
     | .tcm => decide (c.load + c.len ≤ 0x409C0000)
     | .lpddr => ddr && decide (c.load + c.len ≤ 0x200000000)
     | _ => false)

/-- The component rules of R450 for an image of `total` bytes. -/
def compsOk (im : List Byte) (total worlds : Nat) (cs : List BootComp) : Bool :=
  let n := fun t => (cs.filter fun c => c.type == t).length
  let mr := memRecord im cs
  let ddr := match mr with | some r => bitOf (byteAt r 0) 0 | none => false
  cs.all (fun c => inR c.type 1 4 && decide (c.ofs % 16 = 0 ∧ 5504 ≤ c.ofs ∧ c.ofs + c.len ≤ total) &&
    (if c.type = 2 ∨ c.type = 3 then loadOk ddr c else c.load == 0 && c.entry == 0)) &&
  compsApart cs && n 1 == 1 && n 3 == 1 && decide (n 2 ≤ 1 ∧ n 4 ≤ 1) && ((n 2 == 1) == (worlds != 0)) &&
  cs.all (fun c => (c.type != 1 || decide (sigLen ≤ c.len)) && (c.type != 4 || c.len == 32))

/-- Step 1 of R451: the header and the components. -/
def parseBoot (im : List Byte) : Option BootImg :=
  let total := leAt im 8 4
  let n := byteAt im 21
  let w := leAt im 22 2
  let cs := (List.range n).filterMap (compAt im)
  if im.take 4 = [0x4C, 0x42, 0x4F, 0x54] ∧ leAt im 4 2 = 1 ∧ leAt im 6 2 = 5504 ∧ total % 16 = 0 ∧ 5504 ≤ total ∧
      total + sigLen ≤ areaRoom 1 ∧ total + sigLen ≤ im.length ∧ leAt im 12 4 ≤ 64 ∧ (byteAt im 20 ≤ 3 ∨ byteAt im 20 = 255) ∧
      2 ≤ n ∧ n ≤ 8 ∧ ¬ bitOf w 7 ∧ w < 4096 ∧ leAt im 24 2 ≤ 1000 ∧ zeroB im 26 38 ∧
      zeroB im (5248 + 32 * n) (32 * (8 - n)) ∧ cs.length = n ∧ compsOk im total w cs then
    some { total := total, svn := leAt im 12 4, slot := byteAt im 20, worlds := w,
           callTo := if leAt im 24 2 = 0 then 10 else leAt im 24 2, rootPk := (im.drop 64).take 2592,
           cfgPk := (im.drop 2656).take 2592, comps := cs }
  else none

/-- Verification of a boot image (R451, R540): the image, or the number of the step that fails. -/
def State.verifyBoot (s : State) (im : List Byte) : Except Nat BootImg :=
  match parseBoot im with
  | none => .error 1
  | some b =>
    if !s.pcs.ddrFitted && b.comps.any (fun c => regionOf c.load == .lpddr) then .error 1 else
    let d := Config.sha3_512 b.rootPk
    let rootOk :=
      if b.slot = 255 then decide (d = s.otpDigest 0) && s.lc == lcManufacture
      else decide (d = s.otpDigest (1 + b.slot)) && s.otpUsed (1 + b.slot) && !(bitOf (s.otpWord 5 0).toNat b.slot)
    let body := im.take b.total
    let one := (b.comps.find? fun c => c.type == 1).map fun c => (im.drop c.ofs).take c.len
    let oneOk := match one with
      | some x => Config.mlDsaVerify Config.dandiperPk (Config.sha3_512 (x.take (x.length - sigLen))) (x.drop (x.length - sigLen))
      | none => false
    if !rootOk then .error 2
    else if !(Config.mlDsaVerify b.rootPk (Config.sha3_512 body) ((im.drop b.total).take sigLen)) then .error 3
    else if b.svn < s.sec.otp.bootSvn then .error 4
    else if !oneOk then .error 5
    else .ok b

/-! ### Staging and committing (R272–R275) -/

/-- The reason of R272 why an image of a kind is refused, if it is. A boot image's signatures and keys are its reason 2,
and its BOOT_SVN takes the place of CFG_SVN (DEDUCED, log entries 38 and 47). -/
def State.stageReason (s : State) (kind : Nat) (im : List Byte) : Option Nat :=
  if kind = 0 then
    match readSet s.cfg.key s.sec.otp.cfgSvn im with
    | .error e => some e
    | .ok x => setReason x
  else
    match s.verifyBoot im with
    | .error 1 => some 1
    | .error 4 => some 3
    | .error _ => some 2
    | .ok _ => none

/-- A stage or commit of the kind is in progress. -/
def State.imageJob? (s : State) (kind : Nat) : Option ImageJob := s.cfg.jobs.find? fun j => j.kind == kind

def State.addJob (s : State) (j : ImageJob) : State := { s with cfg := { s.cfg with jobs := s.cfg.jobs ++ [j] } }
def State.dropJob (s : State) (kind : Nat) : State := { s with cfg := { s.cfg with jobs := s.cfg.jobs.filter fun j => j.kind != kind } }

def specImageStage : OpSpec where
  code := 0x0702
  long := true
  check s c :=
    let pre := orErr (firstErr [(c.fn != 0, bad stNotOwner), (decide (1 < c.tgt), bad stBadParam)]) (strayErr [(0, 12)] c)
    s.thenXlate c pre false (c.p 0 8) (c.p 8 4) false 0
  outcome s c := if (s.imageJob? c.tgt).isSome || s.runsTrial c.tgt then some (bad stAborted) else none
  run s c :=
    let s := s.accept c.seq
    let s := s.markArea c.tgt (1 - s.runHalf c.tgt) icEmpty none
    s.addJob { cmd := c.seq, kind := c.tgt, op := 0, src := c.p 0 8, len := c.p 8 4 }

/-- IMAGE_STAGE_DONE: the copy, its verification and the STAGED record (R273); `ok` says that MRAM took the writes
(DESIGN CHOICE, log entry 46). -/
def State.imageStageDone (s : State) (kind : Nat) (ok : Bool) : State :=
  match s.imageJob? kind with
  | none => s
  | some j =>
    if j.op ≠ 0 ∨ !s.sf.running then s
    else
      let s := s.dropJob kind
      let h := 1 - s.runHalf kind
      if areaRoom kind < j.len then s.complete j.cmd stBadParam 4
      else match s.fnRead 0 j.src j.len with
        | (.error .xlate, s) => (s.xlateEvt).finish j.cmd (bad stHwFault)
        | (.error .bus, s) => s.finish j.cmd (bad stHwFault)
        | (.ok d, s) =>
          if !ok then s.finish j.cmd (bad stHwFault)
          else
            let s := s.setBytes (areaBase kind h + 64) d
            match s.stageReason kind (s.imageOf kind h j.len) with
            | some r => s.complete j.cmd stBadParam r
            | none => (s.markArea kind h icStaged (some j.len)).complete j.cmd stOk j.len

def specImageCommit : OpSpec where
  code := 0x0703
  long := true
  check s c :=
    checks s c [(c.fn != 0, bad stNotOwner), (decide (1 < c.tgt), bad stBadParam)] [(0, 2)]
      [(decide (2 < c.p 0 1 ∨ 1 < c.p 1 1) || (c.p 0 1 == 1 && c.p 1 1 == 1), bad stBadParam)]
  outcome s c :=
    let staged := s.areaState c.tgt (1 - s.runHalf c.tgt) == icStaged
    if (s.imageJob? c.tgt).isSome || (if c.p 0 1 = 2 then !(s.runsTrial c.tgt) else !staged) then some (bad stAborted) else none
  run s c :=
    (s.accept c.seq).addJob { cmd := c.seq, kind := c.tgt, op := 1, action := c.p 0 1, advance := c.p 1 1 == 1 }

def State.withOtp (s : State) (o : Otp) : State := { s with sec := { s.sec with otp := o } }

/-- A rollback counter is raised to the SVN of an image (R453). -/
def State.rollbackTo (s : State) (kind svn : Nat) : State :=
  let o := s.sec.otp
  let n := min 64 svn
  if kind = 0 then (s.set SEC_STATUS_CFG_RB (max o.cfgSvn n)).withOtp { o with cfgSvn := max o.cfgSvn n }
  else (s.set SEC_STATUS_BOOT_RB (max o.bootSvn n)).withOtp { o with bootSvn := max o.bootSvn n }

/-- IMAGE_COMMIT_DONE: the commit record is written with a single write (R274). -/
def State.imageCommitDone (s : State) (kind : Nat) : State :=
  match s.imageJob? kind with
  | none => s
  | some j =>
    if j.op ≠ 1 ∨ !s.sf.running then s
    else
      let s := s.dropJob kind
      let h := if j.action = 2 then s.runHalf kind else 1 - s.runHalf kind
      match s.commitOf kind h with
      | none => s.finish j.cmd (bad stAborted)
      | some c =>
        let seq := if j.action = 2 then c.seq else s.newSeq kind
        let s := s.setCommit kind h { c with seq := seq, state := if j.action = 1 then icTrial else icCommitted }
        let s := if j.action ≠ 2 then s
          else if kind = 0 then { s with cfg := { s.cfg with cfgTrial := false } }
          else { s with cfg := { s.cfg with bootTrial := false } }
        let s := if j.advance then s.rollbackTo kind (leAt (s.imageOf kind h 16) 12 4) else s
        s.complete j.cmd stOk seq

/-! ### Modes (R267–R270, R277) -/

def specModeRead : OpSpec where
  code := 0x0704
  check s c := checks s c [(c.tgt != 0, bad stBadParam)] [] []
  run s c := s.complete c.seq stOk ((s.rd SF_MODE).toNat + s.cfg.build * 4294967296)

/-- The mode is in the set in force. -/
def State.modePresent (s : State) (m : Nat) : Bool := m == 0 || (decide (m ≤ 8) && bitOf (s.get SF_MODE_PRESENT) (m - 1))

/-- The state in mode `m`, or why it cannot be entered; CTRL acts in the field die at the boundary itself (R268). -/
def State.modeTrial (s : State) (m : Nat) : CfgRes :=
  match modeTables s.cfg.base s.cfg.overlays m with
  | none => .error .record
  | some t => andThen (s.applyTables t m) fun s => .ok (if s.prot then s.each allCh State.boundaryCopy else s)

/-- The status of a mode that cannot be entered (R267). -/
def modeErr : CfgErr → Res
  | .placement r => (stInfeasible, r)
  | .record => bad stInfeasible

def specModeSelect : OpSpec where
  code := 0x0701
  waits := true
  check s c :=
    checks s c [(c.fn != 0, bad stNotOwner), (s.flag SF_MODE_NO_CFG, bad stNotInMode), (!(s.modePresent c.tgt), bad stBadParam)] [] []
  run s c :=
    if let some e := s.cfg.preparing then s.complete c.seq stAborted e.1
    else if c.tgt = s.get SF_MODE_MODE then
      if c.late s.td0 then s.finish c.seq (bad stDeadlineMissed) else s.complete c.seq stOk s.cfg.entered
    else
      let s := (s.setStage c.seq .started).setAux c.seq s.now
      let s := { s with cfg := { s.cfg with preparing := some (c.tgt, c.seq) } }
      s.setFlag SF_MODE_PREPARING true

/-- The preparation of a mode is over (DEDUCED, log entry 44). -/
def State.prepareOver (s : State) : State :=
  ({ s with cfg := { s.cfg with preparing := none } }).setFlag SF_MODE_PREPARING false

/-- MODE_APPLY: at the first grid point after preparation every changed table takes effect (R267), before any
command that falls due there (R269) (DEDUCED, log entry 44). -/
def State.modeApply (s : State) : State :=
  match s.cfg.preparing with
  | none => s
  | some (m, seq) =>
    match s.cmd? seq with
    | none => s.prepareOver
    | some c =>
      if !s.atGrid || decide (s.now ≤ c.aux) || s.pe.reflow || s.pe.rebal.isSome || s.cfg.tookAt == some s.now then s
      else if c.late s.effectNs then (s.prepareOver).finish seq (bad stDeadlineMissed)
      else match s.modeTrial m with
        | .error e => (s.prepareOver).finish seq (modeErr e)
        | .ok t =>
          let t := (t.set SF_MODE_MODE m).set SF_EXPERT_ALLOW_ALLOW (modeExpert t.cfg.base t.cfg.overlays m)
          let t := { t with cfg := { t.cfg with entered := t.effectNs } }
          (t.prepareOver).completeTime seq

end Sys2Proof.Machine
end

