-- ==== Sys2Proof/Machine/UnitTest.lean ====
section
/-! DEFINITION. Unit tests (R486–R488): TEST_RUN, TEST_RESULT, and the end of a test. -/

namespace Sys2Proof.Machine

/-- A test ID names a unit (R486). -/
def testKnown (id : Nat) : Bool :=
  match id / 256 with
  | 0 => decide (id < 7)
  | 1 => decide (id % 256 < 8)
  | 2 => decide (id % 256 < 17)
  | 3 => decide (id % 256 < 8)
  | 4 => decide (id % 256 < 4)
  | 5 => decide (id % 256 < 10)
  | 6 => decide (id % 256 < 64)
  | _ => false

/-- The source that reports a failure of the unit (R475, R487). -/
def testFailSrc (id : Nat) : Nat :=
  match id / 256 with
  | 0 => 8 * id + 4
  | 1 => 0x100 + 8 * (id % 256) + 7
  | 2 => 0x60 + 4 * (id % 256) + 3
  | _ => 0x220

/-- Pens whose fence ends a test of the unit. -/
def testPens (id : Nat) : List Nat :=
  match id / 256 with
  | 0 => [1 + id]
  | 1 => [9 + id % 256]
  | 3 => [29]
  | 4 => [29]
  | 5 => [18, 19 + id % 256]
  | _ => []

/-- The test of a unit is running. -/
def State.testing (s : State) (id : Nat) : Bool := (nfind s.fcu.tests id).isSome

/-- The preparation that R486 asks for holds. A safety pair that is FENCED may be tested too (R422) (DEDUCED, log entry 48). -/
def State.testReady (s : State) (id : Nat) : Bool :=
  let i := id % 256
  match id / 256 with
  | 0 =>
    !((List.range 7).any s.testing) &&
      (s.pairState i == prFenced || s.pairState i == (if i = 6 then prIdle else prStandby))
  | 2 => s.ms.copy.isNone && (if i = 16 then s.ms.spare.isNone else s.ms.spare == some i)
  | 6 => (s.chan i).state == chOff
  | _ => true

def State.setPen (s : State) (p st : Nat) : State := s.set FCU_PENn_STATUS_STATE st p

/-- Sources of a pen whose pairs still read error report afresh (R477). -/
def State.reReport (s : State) (p : Nat) : State :=
  let hit := s.regs.filter fun e =>
    decide (0x4B002000 ≤ e.1 ∧ e.1 < 0x4B003000) && bitOf e.2.toNat 0 && s.get FCU_SRCi_CFG_PEN ((e.1 - 0x4B002000) / 4) == p
  let s := s.each hit fun s e => s.report ((e.1 - 0x4B002000) / 4)
  s.each (s.fcu.brokenNow.filter fun e => s.get FCU_SRCi_CFG_PEN e.1 == p) fun s e =>
    { s with fcu := { s.fcu with todo := s.fcu.todo ++ [{ src := e.1, broken := true }] } }

/-- Tests of element-processor pairs go on: a pair is drained once no reflow is in progress, and tested once drained (R174).
A fenced or locked-out pair, which carries nothing, is tested likewise, the latter in its locked pen (DEDUCED, log entry 48). -/
def State.epTests (s : State) : State :=
  s.each ((s.fcu.tests.map Prod.fst).filter fun id => id / 256 == 1) fun s id =>
    let p := id % 256
    let s :=
      if s.peBusy || bitOf s.pe.draining p then s
      else
        let s := { s with pe := { s.pe with draining := setBit s.pe.draining p true } }
        if s.penRuns (9 + p) then s.pairLeaves p else s
    if !s.peBusy && bitOf s.pe.draining p && decide (s.get FCU_PENn_STATUS_STATE (9 + p) ≤ 1) then s.setPen (9 + p) 3 else s

/-- What the start of a test does to its unit (R486). -/
def State.testStart (s : State) (id : Nat) : State :=
  let i := id % 256
  match id / 256 with
  | 0 =>
    let h := s.pairHart i
    let s := if s.pairRuns i then s.modHart h Hart.stop else s
    (s.setPair i prTest noHart).setPen (1 + i) 3
  | 1 => s.epTests
  | 3 => s.canLeave i
  | 5 => s.linkChange i false
  | _ => s

/-- The result value of a test (R488). -/
def TestRes.value (r : TestRes) : Nat := b2n r.pass + (r.code % 256) * 256 + (r.us % 4294967296) * 65536

def specTestRun : OpSpec where
  code := 0x0801
  long := true
  check s c := checks s c [(c.fn != 0, bad stNotOwner), (!(testKnown c.tgt), bad stBadParam)] [] []
  outcome s c :=
    if s.testing c.tgt then some (stAborted, some 2)
    else if s.testReady c.tgt then none
    else some (stAborted, some 1)
  run s c :=
    let s := s.accept c.seq
    ({ s with fcu := { s.fcu with tests := nset s.fcu.tests c.tgt c.seq, testAt := nset s.fcu.testAt c.tgt s.now } }).testStart c.tgt

def specTestResult : OpSpec where
  code := 0x0802
  check s c := checks s c [(c.fn != 0, bad stNotOwner), (!(testKnown c.tgt), bad stBadParam)] [] []
  run s c :=
    s.complete c.seq stOk (match nfind s.fcu.results c.tgt with | some r => r.value + 2 ^ 63 | none => 0)

/-- The unit after its test (R487); code 7 leaves it to the fence that ended it (DEDUCED, log entries 48 and 83). -/
def State.testAfter (s : State) (id code : Nat) : State :=
  let i := id % 256
  match id / 256 with
  | 0 =>
    if code = 7 then s
    else if code = 0 then ((s.setPair i prStandby noHart).setPen (1 + i) 0).reReport (1 + i)
    else (s.setPair i prLockedOut noHart).setPen (1 + i) 2
  | 1 =>
    if code = 7 then { s with pe := { s.pe with draining := setBit s.pe.draining i false } }
    else
      let s := if s.get FCU_PENn_STATUS_STATE (9 + i) = 3 then s.setPen (9 + i) 0 else s
      if code = 0 ∧ s.get FCU_PENn_STATUS_STATE (9 + i) = 0 then (s.pairReturns i).reReport (9 + i)
      else if code = 0 then { s with pe := { s.pe with draining := setBit s.pe.draining i false } }
      else { s with pe := { s.pe with failed := setBit s.pe.failed i true, draining := setBit s.pe.draining i false } }
  | 6 =>
    if !(s.offTestOk i) then s
    else if code = 5 then s.offResult i (some 0)
    else if code = 6 then s.offResult i (some 1)
    else if code = 0 then s.offResult i none
    else s
  | _ => s

/-- A test ends with a code after `us` microseconds (R487, R488): result, unit, failure report, completion. -/
def State.testEnd (s : State) (id code us : Nat) : State :=
  match nfind s.fcu.tests id with
  | none => s
  | some seq =>
    let r : TestRes := { pass := code == 0, code := code, us := us }
    let s := { s with fcu := { s.fcu with tests := nerase s.fcu.tests id, testAt := nerase s.fcu.testAt id,
                                          results := nset s.fcu.results id r } }
    let s := s.testAfter id code
    let s := if code = 0 then s else s.report (testFailSrc id)
    s.complete seq stOk r.value

/-- The test of pair `p`, which it carries out once it is drained, has begun. -/
def State.epTested (s : State) (p : Nat) : Bool :=
  let st := s.get FCU_PENn_STATUS_STATE (9 + p)
  st == 3 || (st == 2 && bitOf s.pe.draining p)

/-- TEST_DONE: the test of unit `id` finishes after `us` microseconds. -/
def State.testDone (s : State) (id code us : Nat) : State :=
  match nfind s.fcu.testAt id with
  | none => s
  | some t =>
    if id / 256 = 1 ∧ !(s.epTested (id % 256)) ∨ 6 < code then s
    else (s.until (t + us * 1000)).testEnd id code us

/-- Tests whose unit lies in a pen that is fenced end with code 7 (R487). -/
def State.testsFenced (s : State) (p : Nat) : State :=
  s.each ((s.fcu.tests.map Prod.fst).filter fun id => (testPens id).contains p) fun s id =>
    s.testEnd id 7 ((s.now - ngetD s.fcu.testAt id s.now) / 1000)

end Sys2Proof.Machine
end

