-- ==== Sys2Proof/Machine/Service.lean ====
section
/-! DEFINITION. The service at work (R222–R243): doorbells, fetching, starting, atomic groups, deadlines, held and withheld
commands. -/

namespace Sys2Proof.Machine

/-! ### The opcode index (R255) -/

def opSpecs : List OpSpec :=
  unitSpecs ++ [specModeSelect, specImageStage, specImageCommit, specModeRead, specTestRun, specTestResult, specFnQuiesce,
    specFnResume, specOwnershipSet, specVfEnable, specVfDisable]

def specOf (opcode : Nat) : Option OpSpec := opSpecs.find? fun o => o.code == opcode

/-- The opcode of a command. -/
def Cmd.op (c : Cmd) : Nat := c.desc.opcode.toNat

/-- The lowest reserved bit of word 0 that is not zero, by its number (R22, R24). -/
def rsvdBit (d : Desc) : Option Nat := ((List.range 4).find? fun k => bitOf d.rsvd.toNat k).map (36 + ·)

/-- Steps 1 to 7 of R243: the first check that fails. -/
def State.stepErr (s : State) (c : Cmd) : State × Option Res :=
  match specOf c.op with
  | none => (s, some (bad stBadOpcode))
  | some o =>
    match rsvdBit c.desc with
    | some b => (s, some (stBadParam, some (0x100 + b)))
    | none =>
      if (c.desc.atomic && (!o.atomic || c.src == 8)) || (c.desc.expert && !o.expert) then (s, some (bad stBadParam))
      else o.check s c

/-! ### Holding while a mode is prepared (R175, R269) -/

/-- Opcodes that change placement (R175). -/
def placementOps : List Nat := [0x0401, 0x0402, 0x0403, 0x0409]

/-- The two modes differ on an item of one table (DEDUCED, log entry 43). -/
def recDiffers (a b : List CfgRec) (type rtype key : Nat) : Bool := recAt a type rtype key != recAt b type rtype key

/-- The mode change being prepared alters an item of the resource (kind and index of R244). -/
def modeAlters (a b : List CfgRec) (kind i : Nat) : Bool :=
  ngetD (ownTable a) (ownOffset kind i) 0 != ngetD (ownTable b) (ownOffset kind i) 0 ||
  (match kind with
   | 0 => recDiffers a b 2 0 i || (let p := leAt ((recAt a 2 0 i).getD []) 2 2; recDiffers a b 1 0 p)
   | 2 => recDiffers a b 12 0 i
   | 3 => recDiffers a b 6 0 i
   | 4 => recDiffers a b 7 0 i
   | 6 => recDiffers a b 0x104 4 i
   | 7 => recDiffers a b 0x104 5 i
   | 11 => recDiffers a b 0x103 1 i
   | _ => false)

/-- A command is held while a mode is prepared (DEDUCED, log entry 43). -/
def State.modeHolds (s : State) (c : Cmd) : Bool :=
  match s.cfg.preparing with
  | none => false
  | some (m, _) =>
    placementOps.contains c.op ||
      (match modeTables s.cfg.base s.cfg.overlays m with
       | none => false
       | some t =>
         (match ownOf c with | some (k, i) => modeAlters s.cfg.tables t k i | none => false) ||
           (s.routeSignals c).any (modeAlters s.cfg.tables t 6) ||
           (c.op == 0x0603 && modeAlters s.cfg.tables t 11 c.tgt) ||
           (c.op == 0x0F03 && (List.range (min 4096 (c.p 8 4))).any fun k => modeAlters s.cfg.tables t (c.p 0 1) (c.p 4 4 + k)) ||
           ((c.op == 0x0201 || c.op == 0x0202) && recDiffers s.cfg.tables t 1 0 c.tgt))

/-- The state `t` that a grid point's commands lead to from `s`. While a mode is being prepared, the instant is kept: the mode
does not change at a grid point at which a command has already taken effect (R269). -/
def State.after (s t : State) : State :=
  if s.cfg.preparing.isSome && t.sf.cmds != s.sf.cmds then { t with cfg := { t.cfg with tookAt := some t.now } } else t

/-- CHANNEL_REQUEST_EFFECT: a request takes effect unless a mode change holds its command (R269); an expert request is
checked against the mode in force (R248, R269). -/
def State.requestDue (s : State) (n : Nat) : State :=
  match ((s.chan n).pend.bind PendReq.cmd).bind s.cmd? with
  | none => s.requestEffect n
  | some c =>
    let due := s.atGrid && (s.chan n).pend.any fun r => decide (r.at_ < s.now)
    if s.modeHolds c then s
    else if due && s.expertShut c then (s.modChan n fun c => { c with pend := none }).finish c.seq (bad stNotInMode)
    else s.after (s.requestEffect n)

/-! ### Starting a command -/

/-- A command is checked and executed (R239, R243). -/
def State.execute (s : State) (seq : Nat) : State :=
  match s.cmd? seq with
  | none => s
  | some c =>
    if s.modeHolds c then s.setStage seq .held
    else match s.stepErr c, specOf c.op with
      | (s, some e), _ => s.finish seq e
      | (s, none), none => s
      | (s, none), some o =>
        if !o.waits && c.late s.td0 then s.finish seq (bad stDeadlineMissed)
        else
          let early := if o.waits || (c.op == 0x0402 && s.peBusy) then none else o.outcome s c
          match early with
          | some e => s.finish seq e
          | none => o.run s c

/-- What a command's target names: commands with one name of one queue take effect in order (R234). -/
def Cmd.names (c : Cmd) : Option (Nat × Nat) :=
  let o := c.op
  let t := c.tgt
  if o = 0x0106 then some (1, t)
  else if o / 256 = 1 ∨ o = 0x0406 then some (0, t)
  else if o / 256 = 2 then some (13, t)
  else if o = 0x0301 ∨ o = 0x0304 then some (2, t)
  else if o / 256 = 3 then some (14, t)
  else if 0x0401 ≤ o ∧ o ≤ 0x0405 then some (3, t)
  else if o = 0x0407 ∨ o = 0x0408 then some (4, t)
  else if o = 0x0501 then some (6, t)
  else if o / 256 = 5 then some (7, t)
  else if o / 256 = 6 then some (11, t)
  else if o = 0x0702 ∨ o = 0x0703 then some (15, t)
  else if o / 256 = 8 then some (16, t)
  else if o = 0x0901 then some (17, t)
  else if o = 0x0A02 then some (18, t)
  else if o / 256 = 15 ∧ o ≠ 0x0F03 then some (19, t)
  else none

/-- An earlier command that has not taken effect and holds later ones of its name back; a quiesce or a disable that has begun
does not (DEDUCED, log entry 39). -/
def Cmd.blocks (k : Cmd) : Bool := k.before && !(k.stage == .started && (k.op == 0x0F01 || k.op == 0x0F05))

/-- The commands of the command's queue that precede it, name its target and have yet to take effect (R234). -/
def State.ahead (s : State) (c : Cmd) : List Cmd :=
  (s.qCmds c.fn c.src).filter fun k => decide (k.seq < c.seq) && k.names.isSome && k.names == c.names && k.blocks

/-- `k` is a member of a group that a command after `c` closes, or that is open: a command between its members runs normally
(R235). -/
def State.between (s : State) (c k : Cmd) : Bool :=
  k.stage == .member && (match s.groupOf k.aux with
    | some g => g.closed.isNone || (s.members g).any fun m => decide (c.seq < m.seq)
    | none => false)

/-- The order of R175 and R234 lets the command start. A CH_SET may replace one that waits for its grid point (R72);
ELEM_STATUS and PLACEMENT_READ pass what a reflow or a full placement holds (R175); a CH_DIAG_READ that would be withheld
behind a withheld one only meets its refusal (R78); a member of a group is checked before earlier commands of its target have
taken effect, and the group waits for them (DEDUCED, log entry 39). -/
def State.orderOk (s : State) (c : Cmd) : Bool :=
  if c.src = 8 then true
  else
    let earlier := (s.qCmds c.fn c.src).filter fun k => decide (k.seq < c.seq)
    let fenced := earlier.any fun k => k.desc.fence && !k.desc.atomic
    let mine := c.desc.fence && !c.desc.atomic && !earlier.isEmpty
    let same := (s.ahead c).any fun k => !(s.between c k) && !(c.op == 0x0101 && k.op == 0x0101 && k.stage == .started) &&
      !((c.op == 0x0404 || c.op == 0x0405) && s.peBusy && placementOps.contains k.op) &&
      !(c.op == 0x0104 && k.op == 0x0104 && k.stage == .withheld && s.diagWaits c)
    let group := c.desc.atomic && earlier.any fun k => k.desc.atomic && k.stage == .waiting
    !fenced && !mine && !group && (c.desc.atomic || !same)

/-- The command can start now (R228, R234). -/
def State.canStart (s : State) (c : Cmd) : Bool :=
  c.stage == .waiting && s.sf.running && (c.src == 8 || s.cqRoom c.fn c.src c.need) && s.orderOk c

/-! ### Atomic groups (R235, R236) -/

/-- A descriptor of the group with the open group's ID (R235, R236). -/
def State.inGroup (s : State) (c : Cmd) (g : Group) : State :=
  let s := s.modGroup g.key fun g => { g with count := g.count + 1 }
  let (s, e) := s.stepErr c
  let e := orErr e (if 32 ≤ g.count then some (bad stBadParam) else none)
  let s := match e with
    | some e => (s.finish c.seq e).groupFail g
    | none => if g.failed then s.finish c.seq (bad stAborted) else (s.setStage c.seq .member).setAux c.seq g.key
  if !c.desc.fence then s
  else if g.failed || e.isSome then s.dropGroup g.key
  else s.modGroup g.key fun g => { g with closed := some s.now }

/-- A command was fetched within 1 ms of a group's first member (R236). -/
def Group.admits (g : Group) (c : Cmd) : Bool := decide (c.at_ ≤ g.first + 1000000)

/-- Fetched members of an open group that wait to be taken. -/
def State.groupWaits (s : State) (g : Group) : List Cmd :=
  (s.qCmds g.fn g.src).filter fun c => c.stage == .waiting && c.desc.atomic && c.desc.group.toNat == g.id && decide (g.key < c.seq) && g.admits c

/-- ATOMIC_GROUP_TIMEOUT: 1 ms has passed since the first member's fetch and no closing member has been fetched (R236). Every
member completes with ABORTED, one that still waits for room as soon as it has it. -/
def State.groupTimeout (s : State) (fn src : Nat) : State :=
  match s.openGroup fn src with
  | none => s
  | some g =>
    let ws := s.groupWaits g
    if ws.any fun c => c.desc.fence then s
    else
      let s := s.until (g.first + 1000000)
      let s := s.each (s.members g) fun s c => s.finish c.seq (bad stAborted)
      (s.each ws fun s c => s.endsLater c.seq stAborted).dropGroup g.key

/-- A member of an atomic group is taken: checked, and kept until the group takes effect. A descriptor fetched more than 1 ms
after the open group's first member finds that group over (R236). -/
def State.takeMember (s : State) (c : Cmd) : State :=
  let gid := c.desc.group.toNat
  let s := match s.openGroup c.fn c.src with
    | some g => if g.admits c then s else s.groupTimeout c.fn c.src
    | none => s
  match s.openGroup c.fn c.src with
  | some g =>
    if g.id ≠ gid then
      let e := if (specOf c.op).isNone then bad stBadOpcode
        else match rsvdBit c.desc with | some b => (stBadParam, some (0x100 + b)) | none => bad stBadParam
      s.finish c.seq e
    else s.inGroup c g
  | none =>
    let g : Group := { fn := c.fn, src := c.src, id := gid, first := c.at_, key := c.seq }
    ({ s with sf := { s.sf with groups := s.sf.groups ++ [g] } }).inGroup c g

/-- One member of a group takes effect at the group's grid point: the status that would not be a success, and the state.
PWM values are taken for the next period start, and a route command has its effect here (R235, R378)
(DEDUCED, log entry 39). A member that the charge pump defers (R35) does not hold the others back (DESIGN CHOICE, log
entry 117). -/
def State.memberRun (s : State) (c : Cmd) : Option Res × State :=
  let (s1, e) := s.stepErr c
  match e, specOf c.op with
  | some e, _ => (some e, s1)
  | none, none => (none, s1)
  | none, some o =>
    match o.outcome s1 c with
    | some e => (some e, s1)
    | none =>
      let s2 := o.run s1 c
      if c.op = 0x0102 ∧ s1.pwmLate c = true then (some (bad stDeadlineMissed), s1)
      else if c.op = 0x0102 then (none, s2.setStage c.seq .effected)
      else if c.op = 0x0502 ∨ c.op = 0x0503 then (none, s2.routeEffect c)
      else if c.op ≠ 0x0101 then (none, s2)
      else
        let s3 := s2.modChan c.tgt fun k => { k with pend := k.pend.map fun p => if p.cmd = some c.seq then { p with at_ := 0 } else p }
        (none, s3.requestEffect c.tgt)

/-- The members of a group one after another; one that fails leaves no effect. -/
def State.membersRun (s : State) : List Cmd → List (Nat × Res) × State
  | [] => ([], s)
  | c :: l =>
    match s.memberRun c with
    | (some e, _) => let (b, s) := s.membersRun l; ((c.seq, e) :: b, s)
    | (none, s) => s.membersRun l

/-- A closed group is due: its grid point is reached, neither a reflow nor a mode being prepared holds a member, and no
earlier command of a member's target has yet to take effect (R234). -/
def State.groupDue (s : State) (g : Group) : Bool :=
  let ms := s.members g
  (match g.closed with | some t => s.atGrid && decide (t < s.now) | none => false) &&
    !(s.peBusy && ms.any fun c => c.op == 0x0402) && !(ms.any s.modeHolds) &&
    !(ms.any fun c => (s.ahead c).any fun k => !(k.stage == .member && k.aux == g.key))

/-- ATOMIC_GROUP_EFFECT: every member takes effect at this grid point, or none does (R235, R236, R239). -/
def State.groupEffect (s : State) (g : Group) : State :=
  if !(s.groupDue g) then s
  else
    let ms := s.members g
    if ms.any fun c => c.late s.effectNs then
      (s.each ms fun s c => s.finish c.seq (bad stDeadlineMissed)).dropGroup g.key
    else match s.membersRun ms with
      | ([], t) => t.dropGroup g.key
      | (b, _) =>
        let s := s.each ms fun s c =>
          s.finish c.seq (match b.find? fun e => e.1 == c.seq with | some e => e.2 | none => bad stAborted)
        s.dropGroup g.key

/-- ATOMIC_GROUP_EFFECT of the oldest closed group of a queue. -/
def State.groupEffectOf (s : State) (fn src : Nat) : State :=
  match s.sf.groups.find? fun g => g.fn == fn && g.src == src && g.closed.isSome with
  | some g => s.groupEffect g
  | none => s

/-- COMMAND_START: a fetched command starts, if room and order allow (R228, R234). -/
def State.commandStart (s : State) (seq : Nat) : State :=
  match s.cmd? seq with
  | none => s
  | some c =>
    if !(s.canStart c) then s
    else if let some (st, r) := c.fin then s.complete seq st r
    else if c.desc.atomic && c.src != 8 then s.takeMember c
    else s.execute seq

/-! ### Fetching (R223, R225, R230, R233) -/

/-- In-flight limit of a function (R233). -/
def State.fnLimit (s : State) (fn : Nat) : Nat := if fn = 0 then 256 else (s.fn fn).limit

/-- The function may have a descriptor fetched: enabled, and below both limits (DEDUCED, log entry 90). -/
def State.fnTakes (s : State) (fn : Nat) : Bool :=
  s.sf.running && s.fnState fn == 1 && decide (s.fnInflight fn < s.fnLimit fn ∧ s.sf.cmds.length < 1024)

/-- Queue `q` of a function has a descriptor to fetch; 8 is the mailbox. -/
def State.queueReady (s : State) (fn q : Nat) : Bool :=
  if q = 8 then (s.fn fn).mbx.sent
  else
    decide (q < s.get SF_FNn_STATE_NQP fn) && s.flag SF_QPq_CFG_EN fn q && decide (s.get SF_QPq_STATUS_ERR fn q < 2) &&
      (s.qp fn q).head != (s.qp fn q).tail

/-- High-priority queues: the mailbox and the pairs with PRIO (R225). -/
def State.queueHigh (s : State) (fn q : Nat) : Bool := q == 8 || s.flag SF_QPq_CFG_PRIO fn q

/-- Queues 0–8 in round-robin order after the one served last. -/
def afterQ (last : Nat) : List Nat := (List.range 9).map fun k => (last + 1 + k) % 9

/-- The queue of a function that is served next, and whether it is of high priority. -/
def State.nextQueue (s : State) (fn : Nat) : Option (Nat × Bool) :=
  let f := s.fn fn
  match (afterQ f.rrHi).find? fun q => s.queueHigh fn q && s.queueReady fn q with
  | some q => some (q, true)
  | none => ((afterQ f.rrLo).find? fun q => !(s.queueHigh fn q) && s.queueReady fn q).map fun q => (q, false)

/-- The function served next in the round, with its queue. -/
def State.nextFn (s : State) : Option (Nat × Nat × Bool) :=
  ((List.range 64).map fun k => (s.sf.rrFn + 1 + k) % 64).findSome? fun fn =>
    if s.fnTakes fn then (s.nextQueue fn).map fun e => (fn, e.1, e.2) else none

/-- A descriptor's fields (R22). -/
def descOf (b : List Byte) : Desc :=
  let fl := byteAt b 4
  { opcode := BitVec.ofNat 16 (leAt b 0 2), tag := BitVec.ofNat 16 (leAt b 2 2), fence := bitOf fl 0, atomic := bitOf fl 1,
    notify := bitOf fl 2, expert := bitOf fl 3, rsvd := BitVec.ofNat 4 (fl / 16), group := BitVec.ofNat 8 (byteAt b 5),
    target := BitVec.ofNat 16 (leAt b 6 2), deadline := BitVec.ofNat 64 (leAt b 8 8), params := (b.drop 16).take 48 }

/-- A descriptor enters flight (R233). FN_QUIESCE keeps the count from which it counts completions (R250)
(DESIGN CHOICE, log entry 31; DEDUCED, log entry 49). -/
def State.enter (s : State) (fn src : Nat) (d : Desc) : State :=
  let s := s.count 422
  let seq := s.sf.nextSeq
  let aux := if d.opcode.toNat = 0x0F01 then (s.fn d.target.toNat).done else 0
  { s with sf := { s.sf with nextSeq := seq + 1, cmds := s.sf.cmds ++ [{ seq := seq, fn := fn, src := src, desc := d, at_ := s.now, aux := aux }] } }

/-- DESCRIPTOR_FETCH: the next descriptor of the round is fetched (DESIGN CHOICE, log entry 31). -/
def State.fetch (s : State) : State :=
  match s.nextFn with
  | none => s
  | some (fn, q, hi) =>
    let s := { s with sf := { s.sf with rrFn := fn } }
    let f := s.fn fn
    let s := s.setFn fn (if hi then { f with rrHi := q } else { f with rrLo := q })
    if q = 8 then
      let f := s.fn fn
      let d := descOf (f.mbx.words.flatMap fun w => leBytes 4 w.toNat)
      (s.setFn fn { f with mbx := { f.mbx with sent := false } }).enter fn 8 d
    else
      let x := s.qp fn q
      let base := (s.rd SF_QPq_SQ_BASE_LO fn q).toNat + (s.rd SF_QPq_SQ_BASE_HI fn q).toNat * 4294967296
      match s.fnRead fn (base + 64 * x.head) 64 with
      | (.error .xlate, s) => s.qpErr fn q 2
      | (.error .bus, s) => s.qpErr fn q 3
      | (.ok b, s) => (s.setQp fn q { x with head := (x.head + 1) % s.sqDepth fn q }).enter fn q (descOf b)

/-- A command handed to the service with its descriptor: it enters flight and starts if it can. A queue's command is taken
while its pair runs and the function's limits allow; a mailbox command while the mailbox is free (R224, R230–R233). -/
def State.submit (s : State) (fn src : Nat) (d : Desc) : State :=
  let seq := s.sf.nextSeq
  if !(s.fnTakes fn) then s
  else if src = 8 then
    if s.flag SF_MBX_STATUS_BUSY fn then s.setFlag SF_MBX_STATUS_OVERWRITE true fn
    else
      let f := s.fn fn
      let s := s.setFn fn { f with mbx := { f.mbx with st := .busy, sent := false } }
      ((s.setFlag SF_MBX_STATUS_BUSY true fn).enter fn 8 d).commandStart seq
  else if decide (src < s.get SF_FNn_STATE_NQP fn) && s.flag SF_QPq_CFG_EN fn src && decide (s.get SF_QPq_STATUS_ERR fn src < 2) then
    (s.enter fn src d).commandStart seq
  else s

/-- The row of an opcode: the request with its opcode (DESIGN CHOICE, log entry 31). -/
def State.request (s : State) (opcode : Nat) (r : Req) : State :=
  s.submit r.fn r.src
    { opcode := BitVec.ofNat 16 opcode, tag := r.tag, fence := r.fence, atomic := r.atomic, notify := r.notify,
      expert := r.expert, rsvd := r.rsvd, group := r.group, target := r.target, deadline := r.deadline, params := r.params }

/-! ### Held and withheld commands, deadlines (R78, R175, R239, R269) -/

/-- Held commands go on in their order of arrival, while nothing holds them any more. -/
def State.releaseHeld (s : State) : State :=
  s.each (s.sf.cmds.filter fun c => c.stage == .held) fun s c =>
    if s.peBusy || s.cfg.preparing.isSome then s else s.execute c.seq

/-- Opcodes whose effect, or end, at a later instant a deadline may forestall (R239, R250). -/
def gridOps : List Nat := [0x0101, 0x0102, 0x0403, 0x0502, 0x0503, 0x0701, 0x0F01, 0x0F03]

/-- DEADLINE_MISSED: the deadline of a command without effect has passed (R239) (DEDUCED, log entry 44). -/
def State.deadlineMissed (s : State) (seq : Nat) : State :=
  match s.cmd? seq with
  | none => s
  | some c =>
    let can := c.desc.deadline.toNat != 0 && (c.stage == .withheld || c.stage == .held || (c.stage == .started && gridOps.contains c.op))
    if !can then s
    else
      let s := s.untilTd 0 (c.desc.deadline.toNat + 1)
      if !(c.late s.td0) then s
      else
        let s := match s.cfg.preparing with | some (_, k) => if k = seq then s.prepareOver else s | none => s
        s.finish seq (bad stDeadlineMissed)

/-- WITHHELD_READ_RELEASE: a wait-mask bit of the function's withheld read of channel `n` is set (R78). A mode change that alters
the channel holds it (R269), and it waits while the service pair restarts (R480). -/
def State.withheldRelease (s : State) (n fn : Nat) : State :=
  match s.sf.cmds.find? fun c => c.stage == .withheld && c.fn == fn && c.op == 0x0104 && c.tgt == n with
  | none => s
  | some c =>
    if s.diagWaits c || s.modeHolds c || !s.sf.running then s
    else if c.late s.td0 then s.finish c.seq (bad stDeadlineMissed)
    else s.diagTake c

/-- MODE_APPLY, after which the commands that it held go on. -/
def State.modeApplied (s : State) : State := if s.sf.running then s.modeApply.releaseHeld else s

/-- REFLOW_DONE: the reflow in progress ends; drains and held commands go on (R172–R175) (DESIGN CHOICE, log entry 56). -/
def State.reflowDone (s : State) : State :=
  if !s.pe.reflow || !s.sf.running then s else (({ s with pe := { s.pe with reflow := false } }).epTests).releaseHeld

/-- REBALANCE_DONE, and what waited for it. -/
def State.rebalanced (s : State) : State := if s.pe.rebal.isNone || !s.sf.running then s else (s.rebalanceDone.epTests).releaseHeld

/-! ### Doorbells and queue configuration (R222–R224, R227, R230, R232) -/

/-- A doorbell or head error (R224, R227); a pair that has stopped keeps the code of its stop (DEDUCED, log entry 42). -/
def State.bellErr (s : State) (fn q : Nat) : State := if s.get SF_QPq_STATUS_ERR fn q < 2 then s.qpErr fn q 1 else s.sfEvt 2

/-- A write of SQ_TAIL (R223, R224). -/
def State.writeSqTail (s : State) (fn q : Nat) (v : Word) : State :=
  let d := s.sqDepth fn q
  let x := s.qp fn q
  let t := bitsOf v.toNat 11 0
  if d ≤ t ∨ d - 1 < (x.tail + d - x.head) % d + (t + d - x.tail % d) % d then s.bellErr fn q
  else (s.setQp fn q { x with tail := t }).wr SF_QPq_SQ_TAIL (w32 t) fn q

/-- A write of CQ_HEAD (R227). -/
def State.writeCqHead (s : State) (fn q : Nat) (v : Word) : State :=
  let d := s.cqDepth fn q
  let x := s.qp fn q
  let h := bitsOf v.toNat 11 0
  if d ≤ h ∨ (x.cqTail + d - x.cqHead % d) % d < (h + d - x.cqHead % d) % d then s.bellErr fn q
  else (s.setQp fn q { x with cqHead := h }).wr SF_QPq_CQ_HEAD (w32 h) fn q

/-- The pair is ACTIVE (R222). -/
def State.qpActive (s : State) (fn q : Nat) : Bool := s.flag SF_QPq_CFG_EN fn q || !(s.qCmds fn q).isEmpty

/-- A write of QP_CFG (R222). -/
def State.writeQpCfg (s : State) (fn q : Nat) (v : Word) : State :=
  let was := s.flag SF_QPq_CFG_EN fn q
  let old := (s.rd SF_QPq_CFG fn q).toNat
  let new := (SF_QPq_CFG.written (s.rd SF_QPq_CFG fn q) v).toNat
  if was then s.wr SF_QPq_CFG (w32 (setBits new 7 0 (old % 256))) fn q
  else if !(bitOf new 31) then s.wr SF_QPq_CFG (w32 new) fn q
  else if s.qpActive fn q then s
  else
    let s := (s.wr SF_QPq_CFG (w32 new) fn q).setQp fn q {}
    ((s.set SF_QPq_STATUS_ERR 0 fn q).wr SF_QPq_SQ_TAIL 0 fn q).wr SF_QPq_CQ_HEAD 0 fn q

/-- A write of mailbox command word `w` (R230, R232): word 15 submits. -/
def State.writeMbxCmd (s : State) (fn w : Nat) (v : Word) : State :=
  if s.flag SF_MBX_STATUS_BUSY fn then s.setFlag SF_MBX_STATUS_OVERWRITE true fn
  else
    let f := s.fn fn
    let m := { f.mbx with words := f.mbx.words.set w v }
    if w ≠ 15 then s.setFn fn { f with mbx := m }
    else (s.setFn fn { f with mbx := { m with st := .busy, sent := true } }).setFlag SF_MBX_STATUS_BUSY true fn

/-- A read of MBX_RESULT0: the 16 bytes of R231, and what the read leaves; BUSY while the service pair restarts (R480). -/
def State.readMbx (s : State) (fn : Nat) : List Byte × State :=
  let f := s.fn fn
  let f := if s.fcu.svpFence.isSome then { f with mbx := { f.mbx with st := .busy } } else f
  let rep := fun (b : List Byte) => patchAt b 4 (leBytes 1 (byteAt b 4 ||| 2))
  match f.mbx.st with
  | .never => (rep (List.replicate 16 0), s)
  | .busy => (leBytes 4 (stBusy * 65536) ++ List.replicate 12 0, s)
  | .fresh => (f.mbx.result, s.setFn fn { f with mbx := { f.mbx with st := .seen } })
  | .seen => (rep f.mbx.result, s)

/-- `SF_QPq_STATUS` as it reads. -/
def State.qpStatus (s : State) (fn q : Nat) : Word :=
  w32 ((s.qp fn q).head + 4096 * b2n (s.qpActive fn q) + 8192 * s.get SF_QPq_STATUS_ERR fn q + 65536 * (s.qCmds fn q).length)

end Sys2Proof.Machine
end

