-- ==== Sys2Proof/Machine/Fcu.lean ====
section
/-! DEFINITION. The fault collector (chapter 14): events and their reactions, pens, the service pair penned, clearing, the
device safe state, and the error pin. -/

namespace Sys2Proof.Machine

/-! ### What a pen's fence does, and its release (R478, R480) -/

/-- ENTRY of the world of hart `h` (R451). -/
def State.entryOf (s : State) (h : Nat) : Nat := if s.hartSecure h then s.sec.entryS else s.sec.entryN

/-- The application harts start with a reason in a0 (R478, R500). -/
def State.appStart (s : State) (a0 : Nat) : State :=
  s.each [8, 9, 10, 11] fun s h => s.hartStart h (s.entryOf h) a0

/-- The debug session ends: harts that it halted resume (R478). -/
def State.debugEnds (s : State) : State :=
  let s := { s with cc := { s.cc with harts := nmap (fun _ (x : Hart) => { x with halted := false, haltReq := false }) s.cc.harts, gpr := [] } }
  { s with dbg := { s.dbg with dmactive := false, hartsel := 0, sberror := 0, sbdata := 0, abstractData := 0, cmderr := 0, trig := [] } }

/-- The service pair is fenced: the service stops until it resumes (R480) (DEDUCED, log entry 41). -/
def State.svpStops (s : State) : State :=
  { s with sf := { s.sf with running := false }, fcu := { s.fcu with svpFence := some s.now } }

/-- The clock island of a pen that a release acts on (R476, R498) (DEDUCED, log entry 81). -/
def penIsland (p : Nat) : Nat :=
  if 9 ≤ p ∧ p ≤ 16 then p + 1
  else if 19 ≤ p ∧ p ≤ 28 then p + 9
  else match p with
    | 17 => 9
    | 18 => 27
    | 29 => 38
    | 30 => 39
    | 31 => 40
    | 32 => 41
    | 33 => 26
    | 34 => 43
    | _ => 0

/-- What the fence of pen `p`, or the gating of its islands, does to the device (R478, R500). `lock`: LOCKED_OUT
(DESIGN CHOICE, log entries 2 and 119). -/
def State.penDown (s : State) (p : Nat) (lock : Bool) : State :=
  let s := s.testsFenced p
  if 1 ≤ p ∧ p ≤ 7 then
    let secure := s.pairRuns (p - 1) && s.hartSecure (s.pairHart (p - 1))
    let s := s.pairFence (p - 1) lock
    if secure then s.secureDown else s
  else if 9 ≤ p ∧ p ≤ 16 then s.pairLeaves (p - 9)
  else if 19 ≤ p ∧ p ≤ 28 then s.linkChange (p - 19) false
  else match p with
    | 8 => s.svpStops
    | 17 => s.each [8, 9, 10, 11] fun s h => s.modHart h Hart.stop
    | 18 =>
      let s := s.each (List.range 10) fun s q => s.linkChange q false
      { s with esw := { s.esw with mq := [], learned := [] } }
    | 29 => s.fbcDown
    | 31 => s.plbDown
    | 32 =>
      if s.sec.job.isNone then s
      else
        let s := { s with sec := { s.sec with job := none } }
        (s.setFlag SEC_JOB_CTRL_BUSY false).set SEC_JOB_CTRL_STATUS stHwFault
    | 33 => { s with mem := s.mem.filter fun e => regionOf e.1 != .lpddr, ms := { s.ms with poison := s.ms.poison.filter fun e => regionOf e.1 != .lpddr } }
    | 34 => s.debugEnds
    | _ => s

/-- What the release of pen `p` from a fence, or its return from gating, does; `a0` is the reason harts start with. -/
def State.penUp (s : State) (p a0 : Nat) : State :=
  if 9 ≤ p ∧ p ≤ 16 then s.pairReturns (p - 9)
  else match p with
    | 17 => s.appStart a0
    | 29 => if s.flag PCS_STATE_DONE then (s.each (List.range 8) State.matLoad).netsBoot.linsBoot else s
    | 31 => s.plbApply
    | _ => s

/-! ### The device safe state (R484, R485) -/

/-- The fatal record, and the core die into its fatal reset. -/
def State.deviceSafe (s : State) (src : Nat) : State :=
  let s := ((s.set FCU_FATAL_SRC_SRC src).inc FCU_FATAL_SRC_COUNT).setFlag FCU_FATAL_SRC_VALID true
  let s := (s.wr FCU_FATAL_TIME_LO (w32 s.td0)).wr FCU_FATAL_TIME_HI (w32 (s.td0 / 4294967296))
  let again := match s.fcu.fatalReleased with | some t => decide (s.now ≤ t + 60000000000) | none => false
  let reboot := s.flag FCU_FATAL_CFG_REBOOT && !again
  let due := s.now + max 1 (s.get FCU_FATAL_CFG_REBOOT_DELAY) * 1000000
  let s := if s.flag FCU_FATAL_CFG_SAFE_OFF then s.safeOff else s.coreLost
  let s := s.dieDown (if reboot then .held else .lockedReset)
  { s with fcu := { s.fcu with fatalDue := if reboot then some due else none, lockedReset := !reboot },
           pcs := { s.pcs with power := .waking, wake := some (3, 0) } }

/-! ### Events (R471–R475) -/

/-- The source is one of the table of R475. -/
def srcUsed (i : Nat) : Bool := decide (i < 1024) && FCU_SRCi_CFG.resetAt i != 0

/-- A comparator output of a lockstep unit: the unit's first source (R471). -/
def comparatorBase (i : Nat) : Option Nat :=
  let b := i / 8 * 8
  if i - b < 3 ∧ (b < 0x40 ∨ (0x100 ≤ b ∧ b < 0x140)) then some b else none

/-- The pen is fenced or locked out. -/
def State.penFenced (s : State) (p : Nat) : Bool := inR (s.get FCU_PENn_STATUS_STATE p) 1 2

/-- The source of a pair's own COMPARATOR fences its pen: CAUSE records it (R415). -/
def State.comparatorCause (s : State) (p src : Nat) : State :=
  if 1 ≤ p ∧ p ≤ 7 ∧ src = 8 * (p - 1) + 2 then s.set CC_PAIRp_STATUS_CAUSE 3 (p - 1) else s

/-- TEST_FAIL of a safety pair, which is reported although the failed test has locked the pair's pen (R487) (DEDUCED, log
entry 48). -/
def pairTestFail (i : Nat) : Bool := decide (i < 0x38) && i % 8 == 4

/-- A pen is fenced by a source (R477) (DEDUCED, log entry 87). -/
def State.fencePen (s : State) (p src : Nat) (lock : Bool) : State :=
  if p = 8 then
    let r := s.get CC_LOCK_CFG_REPEAT_S
    let again := match s.fcu.svpResumed with | some t => r != 0 && decide (s.now ≤ t + r * 1000000000) | none => false
    if lock || again then s.deviceSafe src
    else
      let s := (s.setPen 8 1).set FCU_PENn_STATUS_SRC src 8
      ({ s with fcu := { s.fcu with penAt := nset s.fcu.penAt 8 s.now } }).penDown 8 false
  else
    let s := ((s.setPen p (if lock then 2 else 1)).set FCU_PENn_STATUS_SRC src p).comparatorCause p src
    let s := { s with fcu := { s.fcu with penAt := nset s.fcu.penAt p s.now } }
    s.penDown p lock

/-- A fatal event within the 50 ns in which its pen is being fenced locks the pen out (R479). -/
def State.lockPen (s : State) (p src : Nat) : State :=
  let s := ((s.setPen p 2).set FCU_PENn_STATUS_SRC src p).comparatorCause p src
  if 1 ≤ p ∧ p ≤ 7 then s.setPair (p - 1) prLockedOut noHart else s

/-- An event enters the count, the log and the source's state (R472, R481, R490). -/
def State.srcRecord (s : State) (i cls : Nat) (broken esc : Bool) : State :=
  let s := ((s.count 460).inc FCU_SRCi_STATE_COUNT 1 i).setFlag FCU_SRCi_STATE_LATCHED true i
  let s := if broken then s.setFlag FCU_SRCi_STATE_BROKEN true i else s
  let s := s.setBitOf FCU_LATCHEDw_LATCHED (i % 32) (i / 32)
  let s := if esc then { s with fcu := { s.fcu with escd := nset s.fcu.escd i () } } else s
  let info := i + cls * 1024 + s.get FCU_SRCi_CFG_PEN i * 4096 + b2n broken * 262144 + b2n esc * 524288 + 2147483648
  let e : FcuEntry := { info := w32 info, time := s.td0 }
  let full := decide (32 ≤ s.fcu.log.length)
  let s := { s with fcu := { s.fcu with log := if full then s.fcu.log.drop (s.fcu.log.length - 31) ++ [e] else s.fcu.log ++ [e] } }
  if full then s.setFlag FCU_LOG_STATUS_OVF true else s

/-- Escalation of a corrected event (R473): whether it escalates, and the window. -/
def State.escalate (s : State) (i cls : Nat) : Bool × State :=
  let n := s.get FCU_SRCi_CFG_ESC_N i
  if cls ≠ 0 ∨ n = 0 then (false, s)
  else
    let l := (ngetD s.fcu.recent i []).filter (fun t => decide (s.now < t + 1000000000)) ++ [s.now]
    let up := decide (n ≤ l.length)
    (up, { s with fcu := { s.fcu with recent := nput [] s.fcu.recent i (if up then [] else l) } })

/-- One event, by its class and reactions (DEDUCED, log entry 87). -/
def State.fcuEvent (s : State) (r : FcuReport) : State :=
  if !(srcUsed r.src) then s
  else
    let i := match r.broken, comparatorBase r.src with | true, some b => b + 2 | _, _ => r.src
    let cfg := min 2 (s.get FCU_SRCi_CFG_CLASS i)
    let cls := if r.broken then max cfg (min 2 (s.get FCU_SRCi_CFG_BCLASS i)) else cfg
    let p := s.get FCU_SRCi_CFG_PEN i
    if s.penFenced p then
      if cls = 2 ∧ s.now ≤ ngetD s.fcu.penAt p 0 + 50 ∧ s.get FCU_PENn_STATUS_STATE p = 1 then
        let s := s.srcRecord i cls r.broken false
        if p = 8 ∨ s.flag FCU_SRCi_CFG_DEVICE i then s.deviceSafe i else s.lockPen p i
      else if pairTestFail i then
        let s := s.srcRecord i cls r.broken false
        if cls = 2 ∧ s.flag FCU_SRCi_CFG_DEVICE i then s.deviceSafe i else s
      else s
    else
      let s := if i ≠ r.src then s.setFlag FCU_SRCi_STATE_BROKEN true r.src else s
      let (esc, s) := s.escalate i cls
      let cls := if esc then 1 else cls
      let s := s.srcRecord i cls r.broken esc
      match cls with
      | 0 => s
      | 1 => if p ≠ 0 && s.flag FCU_SRCi_CFG_FENCE i then s.fencePen p i r.lock else s
      | _ => if p = 0 || s.flag FCU_SRCi_CFG_DEVICE i then s.deviceSafe i else s.fencePen p i true

/-- The events reported in this step, one after another (DESIGN CHOICE, log entry 17; DEDUCED, log entry 87). -/
def State.fcuLoop : Nat → State → State
  | 0, s => s
  | k + 1, s =>
    match s.fcu.todo with
    | [] => s
    | r :: l => State.fcuLoop k (({ s with fcu := { s.fcu with todo := l } }).fcuEvent r)

/-! ### The error pin (R482, R483) -/

/-- A latched source calls for ERR_N. -/
def State.latchedErrn (s : State) : Bool :=
  s.regs.any fun e =>
    decide (0x4B002000 ≤ e.1 ∧ e.1 < 0x4B003000) && bitOf e.2.toNat 1 &&
      (let i := (e.1 - 0x4B002000) / 4
       s.flag FCU_SRCi_CFG_ERRN i || decide (2 ≤ s.get FCU_SRCi_CFG_CLASS i))

/-- A condition of R482 holds, or factory scan mode does (R539). While the device sleeps by the sequence of R507, the boot
condition does not count. -/
def State.errnWanted (s : State) : Bool :=
  s.latchedErrn || s.flag FCU_ERRN_CTRL_HOLD || s.flag FCU_FATAL_SRC_VALID ||
    (s.flag FCU_STATUS_BOOT_HOLD && !s.asleep && s.pcs.power != .off) || s.pda.lost || s.pcs.scanHold

/-- ERR_N is asserted as soon as a condition holds; its release is an event of its own (DEDUCED, log entry 87). -/
def State.errnEval (s : State) : State :=
  if s.errnWanted && !s.fcu.errn then { s with fcu := { s.fcu with errn := true, errnAt := s.now } } else s

/-- ERRN_PULSE_END: MIN_PULSE has passed and no condition holds. -/
def State.errnPulseEnd (s : State) : State :=
  if !s.fcu.errn then s
  else
    let d := clampN 1 10000 (s.get FCU_ERRN_CFG_MIN_PULSE) * 1000
    let (e, s) := s.freeIn (-(d / 20 : Nat)) (d / 20 : Nat)
    let s := s.until ((s.fcu.errnAt : Int) + d + e).toNat
    if s.errnWanted then s else { s with fcu := { s.fcu with errn := false } }

/-- `FCU_STATUS` as it reads. -/
def State.fcuStatus (s : State) : Word :=
  w32 (b2n s.fcu.errn + 2 * b2n (s.flag FCU_FATAL_SRC_VALID) + (s.rd FCU_STATUS).toNat / 4 * 4)

/-! ### Sources, clearing and release (R470, R474, R477, R481) -/

/-- The lockstep unit whose BOUNDARY or FOLD pair source `i` is (R475). -/
def mismatchUnit (i : Nat) : Option Nat :=
  if 1 < i % 8 then none
  else if i < 0x40 then some (i / 8)
  else if 0x100 ≤ i ∧ i < 0x140 then some (8 + (i - 0x100) / 8)
  else none

/-- FCU_ERROR_EVENT: the pair of source `i` reads error, and so is complementary (R470); that of a running unit's comparison is a mismatch (DEDUCED, log
entry 18). -/
def State.errorEvent (s : State) (i : Nat) : State :=
  if !s.coreRuns || !(srcUsed i) || s.flag FCU_SRCi_STATE_ACTIVE i then s
  else
    let s := ({ s with fcu := { s.fcu with brokenNow := nerase s.fcu.brokenNow i } } : State).setFlag FCU_SRCi_STATE_ACTIVE true i
    match mismatchUnit i with
    | some u => if s.unitRuns u then s.mismatch u (1 + i % 8) else s.report i
    | none => s.report i

/-- BROKEN_PAIR: the pair of source `i` reads non-complementary, and so reads no error (R470). -/
def State.brokenPair (s : State) (i : Nat) : State :=
  if !s.coreRuns || !(srcUsed i) || (nfind s.fcu.brokenNow i).isSome then s
  else
    let s := s.setFlag FCU_SRCi_STATE_ACTIVE false i
    { s with fcu := { s.fcu with brokenNow := nset s.fcu.brokenNow i (), todo := s.fcu.todo ++ [{ src := i, broken := true }] } }

/-- ERROR_SOURCE_IDLE: the pair of source `i` reads no error again (DEDUCED, log entry 18). -/
def State.sourceIdle (s : State) (i : Nat) : State :=
  if !s.coreRuns || !(srcUsed i) then s
  else
    let s := s.setFlag FCU_SRCi_STATE_ACTIVE false i
    { s with fcu := { s.fcu with brokenNow := nerase s.fcu.brokenNow i } }

/-- A write of `FCU_SRCi_STATE` (R481). -/
def State.writeSrcState (s : State) (i : Nat) (v : Word) : State :=
  let l := bitOf v.toNat 1 && s.flag FCU_SRCi_STATE_LATCHED i
  let b := bitOf v.toNat 2 && s.flag FCU_SRCi_STATE_BROKEN i
  let s :=
    if !l then s
    else if s.flag FCU_SRCi_STATE_ACTIVE i then s.inc FCU_STATUS_CLEAR_REFUSED
    else (({ s with fcu := { s.fcu with escd := nerase s.fcu.escd i } } : State).setFlag FCU_SRCi_STATE_LATCHED false i).set FCU_LATCHEDw_LATCHED (setBit (s.get FCU_LATCHEDw_LATCHED (i / 32)) (i % 32) false) (i / 32)
  if !b then s
  else if (nfind s.fcu.brokenNow i).isSome then s.inc FCU_STATUS_CLEAR_REFUSED
  else s.setFlag FCU_SRCi_STATE_BROKEN false i

/-- A fenced pen runs again; one whose island is power-gated does so at the island's return (R500). -/
def State.penRelease (s : State) (p a0 : Nat) : State :=
  let s := s.setPen p 0
  (if s.powered (penIsland p) then s.penUp p a0 else s).reReport p

/-- A write of `FCU_PENn_CTRL` (R477): pair pens and the service pair's pen are released otherwise. -/
def State.writePenCtrl (s : State) (p : Nat) (v : Word) : State :=
  if !(bitOf v.toNat 0) ∨ p < 9 ∨ 35 < p ∨ s.get FCU_PENn_STATUS_STATE p ≠ 1 then s else s.penRelease p 3

/-- A write of `CC_PAIRp_CTRL.RESTART` (R422) (DEDUCED, log entry 83). -/
def State.pairRestart (s : State) (p : Nat) : State :=
  if 6 < p ∨ s.pairState p ≠ prFenced then s
  else
    let s := s.setPen (1 + p) 0
    let served := (s.carrier p).isSome
    let s := if p < 6 && served then s.setPair p prStandby noHart else s.pairStart p p 3
    s.reReport (1 + p)

/-- What becomes, as the service resumes, of a command that was in flight at the fence (R480): it completes FENCED, unless its
effect is there or its status is fixed; a dirty disable, which has begun, completes with its outcome (DEDUCED, log entry 41). -/
def State.fencedEnd (s : State) (c : Cmd) : State :=
  if c.mute then (if c.stage = .effected then s else s.complete c.seq stFenced 0)
  else if c.op = 0x0F05 ∧ c.stage = .started then s
  else match c.fin with
    | some (st, r) => s.complete c.seq st r
    | none =>
      if c.stage = .effected then s
      else if c.stage = .waiting ∧ c.src ≠ 8 ∧ !(s.cqRoom c.fn c.src 1) then s.endsLater c.seq stFenced
      else s.finish c.seq (bad stFenced)

/-- Function `n` as the service resumes (R480): a quiesce that ended FENCED leaves it ENABLED, and its dirty disables complete
once their commands have (DEDUCED, log entry 41). -/
def State.fnUnfenced (s : State) (n : Nat) : State := (if s.fnState n = 2 then s.setFnState n 1 else s).dirtyDone n

/-- SVP_RESUME (R480): the service resumes, and what was in flight at the fence completes. -/
def State.svpResume (s : State) : State :=
  match s.fcu.svpFence with
  | none => s
  | some t =>
    let s := if s.now > t then s else s.until (t + 2)
    let s := s.setPen 8 0
    let s := { s with fcu := { s.fcu with svpFence := none, svpResumed := some s.now }
                      sf := { s.sf with running := true, groups := [], ownPend := [] }
                      cfg := { s.cfg with jobs := [] }
                      sec := { s.sec with calls := [] } }
    let s := s.prepareOver
    let s := s.each s.sf.cmds State.fencedEnd
    (s.each (List.range 64) State.fnUnfenced).reReport 8

end Sys2Proof.Machine
end

