-- ==== Sys2Proof/Machine/Islands.lean ====
section
/-! DEFINITION. Clock islands (R448, R498–R500): votes, gating, and return from gating. -/

namespace Sys2Proof.Machine

/-- The pen whose fence the gating of island `i` resembles (R476, R498, R500) (DEDUCED, log entry 81). -/
def islPen (i : Nat) : Option Nat :=
  if i = 9 then some 17
  else if 10 ≤ i ∧ i ≤ 17 then some (i - 1)
  else if 28 ≤ i ∧ i ≤ 37 then some (i - 9)
  else match i with
    | 26 => some 33
    | 27 => some 18
    | 38 => some 29
    | 39 => some 30
    | 40 => some 31
    | 41 => some 32
    | 43 => some 34
    | _ => none

/-- The island is powered while any of its votes is set (R448). -/
def State.pwrVoted (s : State) (i : Nat) : Bool :=
  s.clkVoted i || s.flag PCS_ISLi_VOTE_S_PWR i || s.flag PCS_ISLi_VOTE_N_PWR i

/-- The island is powered, and then clocked or restartable (R499, R517), or it is neither. -/
def State.setIsl (s : State) (i : Nat) (on : Bool) : State :=
  (s.setFlag PCS_ISLi_STATUS_CLK on i).setFlag PCS_ISLi_STATUS_PWR on i

/-- Memory of physical SRAM bank `b` loses its content: the logical bank that it serves reads as zero afterwards (R500). -/
def State.bankLost (s : State) (b : Nat) : State :=
  let lost := fun (a : Nat) => regionOf a == .sram && s.sramBank a == b
  { s with mem := s.mem.filter fun e => !(lost e.1), ms := { s.ms with poison := s.ms.poison.filter fun e => !(lost e.1) } }

/-- Physical SRAM banks of an island. -/
def islBanks (i : Nat) : List Nat := if i = 24 then [16] else (List.range 4).map fun k => 4 * (i - 20) + k

/-- An SRAM island may not lose its power: it holds the gateway bank or a bank under migration (R500). -/
def State.bankHeld (s : State) (i : Nat) : Bool :=
  (islBanks i).any fun b =>
    (match s.ms.copy with | some (c, _) => c == b || b == 16 | none => false) ||
      (match s.cfgData 0x0104 1 0 with
       | some r => s.sramBank (0x10000000 + 0x100000 * (byteAt r 6 % 16)) == b
       | none => false)

/-- An island loses its power (R500). A safety pair is held in reset; its files, TCM and hart ID stay (DEDUCED, log entry 82). -/
def State.powerGate (s : State) (i : Nat) : State :=
  let s :=
    if 1 ≤ i ∧ i ≤ 7 then (if s.pairRuns (i - 1) then s.modHart (s.pairHart (i - 1)) Hart.stop else s)
    else if 20 ≤ i ∧ i ≤ 24 then s.each (islBanks i) State.bankLost
    else match islPen i with
      | some p => s.penDown p false
      | none => s
  s.setIsl i false

/-- The island is waiting to be gated. -/
def State.setDraining (s : State) (i : Nat) (on : Bool) : State :=
  let l := s.pcs.draining.filter (· != i)
  { s with pcs := { s.pcs with draining := if on then l ++ [i] else l } }

/-- An element-processor pair's island is gated, or no longer. -/
def State.setGated (s : State) (i : Nat) (on : Bool) : State :=
  let l := s.pcs.gated.filter (· != i)
  { s with pcs := { s.pcs with gated := if on then l ++ [i] else l } }

/-- Requests that the island has accepted and not yet completed (R448). -/
def State.islandBusy (s : State) (i : Nat) : Bool :=
  if 1 ≤ i ∧ i ≤ 7 then s.readsOut (s.pairHart (i - 1))
  else match i with
    | 9 => [8, 9, 10, 11].any s.readsOut
    | 40 => !(s.plb.reads.isEmpty && s.plb.queue.isEmpty)
    | 41 => s.sec.job.isSome
    | _ => false

/-- The votes of an element-processor pair's island: it drains under R174 before it is gated, and returns to service
(DEDUCED, log entry 81). -/
def State.epIsland (s : State) (i : Nat) : State :=
  let p := i - 10
  let clk := s.clkVoted i
  let pwr := s.pwrVoted i
  let on := !(s.pcs.gated.contains i) && s.powered i
  if clk then
    if s.pcs.draining.contains i then ((s.setDraining i false).setFlag PCS_ISLi_STATUS_DRAINING false i).pairReturns p
    else if on || !(s.powered i) then s
    else ((s.setGated i false).setIsl i true).pairReturns p
  else if !on then s.setIsl i (pwr && s.powered i)
  else
    let s := (s.setDraining i true).setFlag PCS_ISLi_STATUS_DRAINING true i
    if s.testing (0x100 + p) || s.peBusy then s
    else
      let s := if bitOf s.pe.draining p then s
        else ({ s with pe := { s.pe with draining := setBit s.pe.draining p true } }).pairLeaves p
      if s.peBusy then s
      else
        let s := (s.setDraining i false).setFlag PCS_ISLi_STATUS_DRAINING false i
        ({ s with pe := { s.pe with draining := setBit s.pe.draining p false } }).setGated i true |>.setIsl i pwr

/-- The votes of an island act on it: with the last one gone it is gated once it is idle (R448) (DEDUCED, log entry 82). -/
def State.islandEval (s : State) (i : Nat) : State :=
  if hwIslands.contains i ∨ 45 < i then s
  else if 10 ≤ i ∧ i ≤ 17 then s.epIsland i
  else if s.pwrVoted i then
    s.setDraining i false
  else if !(s.powered i) then s
  else if (decide (20 ≤ i ∧ i ≤ 24) && s.bankHeld i) || s.islandBusy i then s.setDraining i true
  else (s.setDraining i false).powerGate i

/-- A write of `PCS_ISLi_VOTE`: each world moves its own votes alone (R448) (DEDUCED, log entry 36). -/
def State.writeVote (s : State) (a : Init) (addr i : Nat) (v : Word) : State :=
  let old := s.rd PCS_ISLi_VOTE i
  let mine : Word := if a.secure then 3 else 0x300
  let s := s.wr PCS_ISLi_VOTE ((old &&& ~~~ mine) ||| (v &&& mine)) i
  let s := if !a.secure && (v &&& 3) != (old &&& 3) then
      s.gkEvent { gk := 20, kind := 4, init := a.id.toNat, secure := false, write := true, addr := addr } else s
  s.islandEval i

/-- A write of `PCS_RUN_HOLD`, by the same rule (R517). -/
def State.writeRunHold (s : State) (a : Init) (addr : Nat) (v : Word) : State :=
  let old := s.rd PCS_RUN_HOLD
  let mine : Word := if a.secure then 1 else 0x100
  let s := s.wr PCS_RUN_HOLD ((old &&& ~~~ mine) ||| (v &&& mine))
  if !a.secure && (v &&& 1) != (old &&& 1) then
    s.gkEvent { gk := 20, kind := 4, init := a.id.toNat, secure := false, write := true, addr := addr } else s

/-- The switch's settings as its tables have them. -/
def State.eswRestore (s : State) : State :=
  let r := s.cfgData 0x0101 14 0
  let v := match r with | some r => leAt r 0 2 | none => 0x88B5
  let s := (s.set ESW_DEV_ETYPE_ETYPE v).set ESW_NODE_ID_NODE (match r with | some r => leAt r 2 2 | none => 0)
  let s := { s with esw := { s.esw with etype := v, etypeAt := none } }
  s.each (List.range 10) fun s p => s.loadGcl p

/-- ISLAND_RETURN: a power-gated island with a vote set again is powered, its settings restored (R499, R500)
(DEDUCED, log entry 82). -/
def State.islandReturn (s : State) (i : Nat) : State :=
  if !s.coreRuns ∨ 45 < i ∨ s.powered i ∨ !(s.pwrVoted i) then s
  else
    let s := (s.setGated i false).setIsl i true
    if 1 ≤ i ∧ i ≤ 7 then
      (if s.pairRuns (i - 1) && s.penRuns i then s.hartStart (s.pairHart (i - 1)) (s.rvec (s.pairHart (i - 1))) 4 else s)
    else if 10 ≤ i ∧ i ≤ 17 then s.pairReturns (i - 10)
    else
      let s := if i = 27 then s.eswRestore else s
      match islPen i with
      | some p => if s.penRuns p then s.penUp p 4 else s
      | none => s

/-- Islands that wait for a drain or a copy are gated once it is over. -/
def State.gatesDue (s : State) : State := s.each s.pcs.draining State.islandEval

end Sys2Proof.Machine
end

