-- ==== Sys2Proof/Machine/Views.lean ====
section
/-! DEFINITION. What registers read (R12–R17): register lines by address, and the current contents of the registers that
show other state. -/

namespace Sys2Proof.Machine

/-! ### Register lines by address (R8, R12) -/

/-- The register lines of slot `k` (R8). -/
def slotRegs : Nat → List Reg
  | 0 => regsCC
  | 1 => regsMS
  | 2 => regsSF ++ [ESW_Qq_BASE, ESW_Qq_CFG, ESW_Qq_TX_TAIL, ESW_Qq_RX_TAIL]
  | 3 => regsPDA
  | 4 => regsPE
  | 5 => regsTBU
  | 6 => regsESW
  | 7 => regsFBC
  | 8 => regsSGW
  | 9 => regsPLB
  | 10 => regsSEC
  | 11 => regsFCU
  | 12 => regsPCS
  | 13 => regsDBG
  | _ => []

/-- The slot of an address. -/
def slotOf (a : Nat) : Option Nat := match regionOf a with | .slot k => some k | _ => none

/-- The register line that covers an address, with its indices. -/
def regAt (a : Nat) : Option (Reg × Nat × Nat) :=
  match slotOf a with
  | none => none
  | some k => (slotRegs k).findSome? fun r => (r.at? a).map fun e => (r, e.1, e.2)

/-- The function page of an address in the SF slot (R9). -/
def pageOf (a : Nat) : Option Nat := if 0x42000000 ≤ a ∧ a < 0x42040000 then some ((a - 0x42000000) / 0x1000) else none

/-- The line is one of the guest Ethernet queue's registers, which live with the queue whatever the page (R299). -/
def isQueueReg (r : Reg) : Bool := decide (0x42000800 ≤ r.base ∧ r.base < 0x42000810)

/-- The register exists for these indices: the page is live, the pair exists, the queue is the page's (R11, R218, R222,
R299, R442). -/
def State.regLive (s : State) (r : Reg) (a i j : Nat) : Bool :=
  match pageOf a with
  | some fn =>
    s.fnState fn != 0 &&
      (if isQueueReg r then s.qOwner j == fn
       else if 0x42000100 ≤ r.base ∧ r.base < 0x42000120 then decide (j < s.get SF_FNn_STATE_NQP fn)
       else true)
  | none =>
    if 0x40000100 ≤ a ∧ a < 0x400001C0 then i != 7
    else if r.base / 0x1000 = 0x4A001 then i != 7 && decide (j < gkRegions i)
    else true

/-- The home of the register's bits: a queue's registers have one home whatever the page. -/
def homeIdx (r : Reg) (i : Nat) : Nat := if isQueueReg r then 0 else i

/-! ### Logs whose lowest register removes an entry (R13) -/

/-- The two words of a 64-bit value. -/
def words2 (v : Nat) : List Word := [w32 v, w32 (v / 4294967296)]

/-- The oldest entry of the log whose INFO register lies at `low`, as the words of its group, and the state without it;
nothing for an address that is no log's. The count of an empty log's words is zero. -/
def State.logHead (s : State) (low : Nat) : Option (List Word × State) :=
  match low with
  | 0x45000040 => match s.tbu.tsq with
    | [] => some (List.replicate 20 0, s)
    | e :: l => some (tsqWords e, { s with tbu := { s.tbu with tsq := l } })
  | 0x49000024 => some (s.discWords.map w32, { s with plb := { s.plb with disc := s.plb.disc.drop 1 } })
  | 0x41000044 => match s.ms.log with
    | [] => some (List.replicate 5 0, s)
    | e :: l => some (e.info :: (words2 e.addr ++ words2 e.time), { s with ms := { s.ms with log := l } })
  | 0x4A000024 => match s.sec.gkLog with
    | [] => some (List.replicate 3 0, s)
    | e :: l =>
      some (w32 (e.gk + e.kind * 32 + e.init * 256 + b2n e.secure * 65536 + b2n e.write * 131072 + 2147483648) :: words2 e.addr,
        { s with sec := { s.sec with gkLog := l } })
  | 0x4B000034 => match s.fcu.log with
    | [] => some (List.replicate 3 0, s)
    | e :: l => some (e.info :: words2 e.time, { s with fcu := { s.fcu with log := l } })
  | 0x4D004104 => match s.dbg.samples with
    | [] => some (List.replicate 5 0, s)
    | e :: l => some (e.info :: (words2 e.pc ++ words2 e.time), { s with dbg := { s.dbg with samples := l } })
  | _ => none

/-! ### Performance counters (R527, R528, R532) -/

/-- Counter `e` never counts: unused ones, L2 misses of safety harts, register folds of application harts. -/
def neverCounts (e : Nat) : Bool :=
  decide (224 ≤ e ∧ e < 256) || decide (462 ≤ e) || (decide (e < 384) && decide (29 ≤ e % 32)) ||
    (decide (e < 224) && e % 32 == 12) || (decide (256 ≤ e ∧ e < 384) && e % 32 == 24)

/-- The model counts event `e` exactly; the count of any other is a free value (log entry 60). -/
def countsExactly (e : Nat) : Bool :=
  decide (392 ≤ e ∧ e < 400) || decide (421 ≤ e ∧ e ≤ 423) || decide (428 ≤ e ∧ e ≤ 460) ||
    (decide (e < 224) && (e % 32 == 24 || e % 32 == 25))

/-- Event `e` is one of accesses, which have initiators (R527, R529, R532). -/
def accessEvent (e : Nat) : Bool := decide (400 ≤ e ∧ e ≤ 420) || e == 425 || e == 426 || e == 459

/-- The attributed world of counter `e` is S: an event without an initiator, a secure hart's, or accesses of which the
counter's filter set takes those of S alone (R527) (DESIGN CHOICE, log entry 60). -/
def State.counterSecure (s : State) (e : Nat) : Bool :=
  if e < 384 then s.hartSecure (e / 32)
  else if accessEvent e then
    s.flag DBG_EVTe_CFG_FILT e && s.get DBG_FSETf_MATCH_WORLD (s.get DBG_EVTe_CFG_FSET e) == 2
  else true

/-- `n` events `e` that the model does not see one by one: a filtered counter takes a free part of them (R529). -/
def State.bumpSome (s : State) (e n : Nat) : State :=
  if s.flag DBG_EVTe_CFG_FILT e then let (v, s) := s.freeNat; s.bump e (v % (n + 1)) else s.bump e n

/-- Hart `h` has gone on by free numbers of slots, at least those given: retiring, bad speculation, front-end and back-end bound.
Each slot is counted in SLOTS and in one of the four, and each retired instruction fills one (R530). -/
def State.hartAdvance (s : State) (h : Nat) (lo : Nat × Nat × Nat × Nat) : State :=
  let (a, s) := s.freeNat
  let (b, s) := s.freeNat
  let (c, s) := s.freeNat
  let (d, s) := s.freeNat
  let (a, b, c, d) := (lo.1 + a, lo.2.1 + b, lo.2.2.1 + c, lo.2.2.2 + d)
  let e := 32 * h
  (((((s.bumpSome (e + 1) a).bumpSome (e + 2) (a + b + c + d)).bumpSome (e + 3) a).bumpSome (e + 4) b).bumpSome (e + 5) c).bumpSome (e + 6) d

/-- A counter that the model does not count exactly has gone on by a free number of events, at least `n`: it never steps
back (R527, R529) (DESIGN CHOICE, log entry 60). -/
def State.counterAdvance (s : State) (e n : Nat) : State :=
  if countsExactly e || neverCounts e then s
  else if e < 384 ∧ 1 ≤ e % 32 ∧ e % 32 ≤ 6 then
    let (v, s) := s.freeNat
    let k := e % 32
    s.hartAdvance (e / 32) (if k = 1 ∨ k = 3 then (n, 0, 0, 0) else if k = 2 then (v % (n + 1), 0, 0, n - v % (n + 1))
      else if k = 4 then (0, n, 0, 0) else if k = 5 then (0, 0, n, 0) else (0, 0, 0, n))
  else let (v, s) := s.freeNat; s.bump e (n + v)

/-- Counter `e` as a read from a world finds it (DESIGN CHOICE, log entry 60). -/
def State.counter (s : State) (e : Nat) (secure : Bool) : Nat × State :=
  if neverCounts e || (!secure && s.counterSecure e) then (0, s)
  else
    let s := s.counterAdvance e 0
    (ngetD s.dbg.counters e 0, s)

/-! ### Current contents by slot -/

/-- A channel's registers (R81, R121) (DEDUCED, log entry 20). CP_WAIT shows a pending restart whose delay has run out, that
waits for no thermal latch, and that the charge pump defers, whatever its cause (DESIGN CHOICE, log entry 117). -/
def State.viewChannel (s : State) (r : Reg) (n : Nat) : Word :=
  let c := s.chan n
  if r.base = PDA_CHn_STATUS.base then
    w32 (c.state + 256 * b2n (c.state == chLimp) + 512 * b2n (c.state == chHeld) + 1024 * b2n c.thermal +
      2048 * b2n c.offBusy.isSome + c.left % 16 * 65536)
  else if r.base = PDA_CHn_INRUSH.base then
    w32 (c.clock % 1048576 + 1048576 * b2n (s.inWindow n) + 2097152 * b2n c.paused)
  else if r.base = PDA_CHn_I2T.base then w32 (min 4294967295 (c.b / 6553600000))
  else if r.base = PDA_CHn_RESTART.base then
    let due := c.restart && c.delay == 0
    w32 (min 65535 (ceilDiv c.delay 100) + c.used % 16 * 65536 + 1048576 * b2n c.restart + 2097152 * b2n (due && c.thermal) +
      4194304 * b2n (due && !c.thermal && (s.pda.cpLow || (c.cause == fCpUv && !(s.flag PDA_CP_STATUS_CP_OK)))))
  else if r.base = PDA_CHn_TW.base then (if pWireEn (s.prof n) then s.rd r n else 0)
  else s.rd r n

/-- The PDA channel interrupt, a level: an event bit set together with its enable (R58). -/
def State.chIrq (s : State) : Bool :=
  (s.rd PDA_CH_EVT_LO &&& s.rd PDA_CH_IRQ_EN_LO) != 0 || (s.rd PDA_CH_EVT_HI &&& s.rd PDA_CH_IRQ_EN_HI) != 0

/-- A source of `cls` is LATCHED and calls for its APLIC interrupt: IRQ is among its reactions, or it is fatal with DEVICE
clear (R408, R472) (DEDUCED, log entry 96). -/
def State.fcuIrq (s : State) (corrected : Bool) : Bool :=
  s.regs.any fun e =>
    decide (0x4B002000 ≤ e.1 ∧ e.1 < 0x4B003000) && bitOf e.2.toNat 1 &&
      (let i := (e.1 - 0x4B002000) / 4
       let cfg := min 2 (s.get FCU_SRCi_CFG_CLASS i)
       let cls := if bitOf e.2.toNat 2 then max cfg (min 2 (s.get FCU_SRCi_CFG_BCLASS i)) else cfg
       let cls := if (nfind s.fcu.escd i).isSome then max cls 1 else cls
       if corrected then cls == 0 && s.flag FCU_SRCi_CFG_IRQ i
       else (cls == 1 && s.flag FCU_SRCi_CFG_IRQ i) || (cls == 2 && !(s.flag FCU_SRCi_CFG_DEVICE i)))

/-- The level of wired source `k` of the APLIC (R408); sources 14–63 are never pending. -/
def State.wired (s : State) (k : Nat) : Bool :=
  let lvl := fun (evt en : Reg) => s.rd evt &&& s.rd en != 0
  match k with
  | 1 => s.chIrq
  | 2 => lvl PE_TRIP_EVT_LO PE_TRIP_IRQ_EN_LO || lvl PE_TRIP_EVT_HI PE_TRIP_IRQ_EN_HI
  | 3 => lvl ESW_EVT ESW_EVT_EN
  | 4 => lvl TBU_EVT TBU_EVT_EN
  | 5 => lvl SGW_EVT SGW_EVT_EN
  | 6 => lvl PLB_EVT PLB_EVT_EN
  | 7 => s.fcuIrq true
  | 8 => s.fcuIrq false
  | 9 => lvl MS_EVT MS_EVT_EN
  | 10 => lvl CC_EVT CC_EVT_EN
  | 11 => lvl SEC_EVT SEC_EVT_EN
  | 12 => lvl PCS_EVT PCS_EVT_EN
  | 13 => lvl DBG_EVT DBG_EVT_EN
  | _ => false

/-- A group's reference voltage in 10 mV (R95): frozen during an event (DEDUCED, log entry 20). -/
def State.vref (s : State) (k : Nat) : Nat :=
  let g := s.grp k
  let (sum, n) := match g.event with | some (a, b, _) => (a, b) | none => histSum g.hist
  if n = 0 then 0 else min 65535 ((sum * 100).toNat / (65536 * n))

/-- Word `j` of a source's latest measurement word (R146) (DESIGN CHOICE, log entry 26). -/
def State.measWord (s : State) (kind i j : Nat) : Word := w32 ((s.word (sidOf kind i)).getD 0 / 4294967296 ^ j)

def State.viewPda (s : State) (r : Reg) (i j : Nat) : Word :=
  let b := r.base
  if b = PDA_LIMP_STATUS.base then
    w32 (b2n s.pcs.limpPin + 2 * b2n (allCh.any fun n => (s.chan n).state == chLimp) + s.pcs.lhPins % 256 * 256)
  else if b = PDA_PROFILEp.base then w32 (leAt ((s.profile i).getD []) (4 * j) 4)
  else if b = PDA_GRPk_STATUS.base then w32 ((s.rd r i).toNat % 65536 + s.vref i * 65536)
  else if b = PDA_MEAS_CURn.base then s.measWord 0 i j
  else if b = PDA_MEAS_OUTn.base then s.measWord 1 i j
  else if b = PDA_MEAS_GRPk.base then s.measWord 2 i j
  else if b = PDA_MEAS_AINj.base then s.measWord 3 i j
  else if b = PDA_MEAS_INTi.base then s.measWord 4 i j
  else if 0x43001000 ≤ b ∧ b < 0x43003000 then s.viewChannel r i
  else s.rd r i j

def State.viewPe (s : State) (r : Reg) (i j : Nat) : Word :=
  if r.base = PE_STATUS.base then s.peStatus
  else if r.base = PE_EPp_LOAD.base then s.peLoad i
  else s.rd r i j

def State.viewSf (s : State) (r : Reg) (i j : Nat) : Word :=
  let b := r.base
  if b = SF_FN_ID.base then w32 (i + (if i = 0 then 1 else s.fnState i) * 256 + s.get SF_FNn_STATE_WORLD i * 1024)
  else if b = SF_FN_STATUS.base then
    w32 (min 511 (s.fnInflight i) + (if i = 0 ∧ ¬ s.flag PCS_STATE_DONE then 0 else s.fnLimit i) * 65536)
  else if b = SF_MBX_RESULTw.base then w32 (leAt (s.readMbx i).1 (4 * j) 4)
  else if b = SF_QPq_STATUS.base then s.qpStatus i j
  else if b = SF_INFLIGHT.base then w32 (min 2047 s.sf.cmds.length)
  else if b = SF_FNn_STATE.base then w32 ((s.rd r i).toNat % 256 + min 511 (s.fnInflight i) * 256)
  else if b = SF_IMAGE_STATUS.base then s.imageStatus
  else s.rd r (homeIdx r i) j

/-- `TBU_TDd_STATUS`: the ms left are rounded up (DEDUCED, log entry 20). -/
def State.tdStatus (s : State) (d : Nat) : Word :=
  let t := s.td d
  let till := match t.st with
    | .locked => t.refresh + s.refreshT d
    | .holdover => t.holdAt + s.holdT d
    | _ => 0
  w32 (tdCode t.st + 4 * b2n t.pendStep.isSome + min 65535 (ceilDiv (till - s.now) 1000000) * 65536)

def State.viewTbu (s : State) (r : Reg) (i j : Nat) : Word :=
  let b := r.base
  let t := s.td i
  if b = TBU_TDd_TIME_FRAC.base then w32 t.frac
  else if b = TBU_TDd_TIME_NS.base then w32 t.nsec
  else if b = TBU_TDd_TIME_SEC_LO.base then w32 t.sec
  else if b = TBU_TDd_TIME_SEC_HI.base then w32 (t.sec / 4294967296 % 65536)
  else if b = TBU_TDd_INC_FRAC.base then w32 t.inc
  else if b = TBU_TDd_INC_NS.base then w32 (t.inc / 4294967296 % 16)
  else if b = TBU_TDd_STATUS.base then s.tdStatus i
  else if b = TBU_TSQ_STATUS.base then w32 (setBits (s.rd r).toNat 8 0 s.tbu.tsq.length)
  else s.rd r i j

/-- `FBC_CANc_ERR`: how many occurrences have been counted during bus-off recovery is a free value, which never falls while
the counting lasts (R346, R368). -/
def State.canErrWord (s : State) (c : Nat) : Word × State :=
  if s.flag FBC_CANc_ERR_COUNTING c then
    let (k, s) := s.freeNat
    let n := s.get FBC_CANc_ERR_OCC c
    let s := s.set FBC_CANc_ERR_OCC (n + k % (128 - min 127 n)) c
    (s.rd FBC_CANc_ERR c, s)
  else (s.rd FBC_CANc_ERR c, s)

def State.viewFbc (s : State) (r : Reg) (i j : Nat) : Word × State :=
  let b := r.base
  if b = FBC_XCVR.base then (s.xcvrWord, s)
  else if b = FBC_NETn_STATUS.base then (s.netStatusWord i, s)
  else if b = FBC_CANc_TXREQ_LO.base then (s.rd FBC_CANc_TXPEND_LO i, s)
  else if b = FBC_CANc_TXREQ_HI.base then (s.rd FBC_CANc_TXPEND_HI i, s)
  else if b = FBC_CANc_ERR.base then s.canErrWord i
  else (s.rd r i j, s)

def State.viewSec (s : State) (r : Reg) (i j : Nat) : Word × State :=
  let b := r.base
  if b = SEC_STATUS.base then
    (w32 (setBits (setBits (s.rd r).toNat 23 16 s.sec.otp.bootSvn) 31 24 s.sec.otp.cfgSvn), s)
  else if b = SEC_GK_STATUS.base then (w32 (setBits (s.rd r).toNat 4 0 s.sec.gkLog.length), s)
  else if b = SEC_DEVID_LO.base then (w32 s.sec.otp.devid, s)
  else if b = SEC_DEVID_HI.base then (w32 (s.sec.otp.devid / 4294967296), s)
  else if b = SEC_DBG_CHALw.base then (w32 (leAt s.challenge (4 * i) 4), s)
  else if b = SEC_DBG_EN.base then (w32 (s.dbgEn + 16 * b2n s.sec.grants.isSome), s)
  else if b = SEC_RNG_STATUS.base then s.rngStatus
  else if b = SEC_KEYk_POL.base then (w32 (s.get SEC_KEYk_POL_OPS i + 256 * b2n (s.key i).loaded), s)
  else (s.rd r i j, s)

/-- `PCS_STATE.STATE` (R517). -/
def powerCode : Power → Nat
  | .run => 4
  | .prepareSleep => 5
  | _ => 3

/-- `PCS_WK.LEVEL` of input `j` follows its pin, whose voltage over the last 50 µs is the board's, a free value in mV: set above
3.5 V, cleared below 3.1 V (R517) (DEDUCED, log entry 92). -/
def State.wkLevel (s : State) (j : Nat) : State :=
  let (v, s) := s.freeIn 0 60000
  if 3500 < v then s.set PCS_WK_LEVEL (setBit (s.get PCS_WK_LEVEL) j true)
  else if v < 3100 then s.set PCS_WK_LEVEL (setBit (s.get PCS_WK_LEVEL) j false)
  else s

def State.viewPcs (s : State) (r : Reg) (i j : Nat) : Word :=
  let b := r.base
  if b = PCS_STATE.base then
    w32 (powerCode s.pcs.power + 8 * b2n (allCh.any fun n => (s.chan n).state == chLimp) + (s.rd r).toNat / 16 * 16)
  else if b = PCS_SD_STATUS.base then s.sdStatus
  else s.rd r i j

/-- The debug module is active (R523) (PRESUMED, log entry 94). -/
def State.dbgActive (s : State) : Bool := s.dbg.dmactive || s.cc.harts.any fun e => e.2.halted

def State.viewDbg (s : State) (secure : Bool) (r : Reg) (i j : Nat) : Word × State :=
  let b := r.base
  if b = DBG_STATUS.base then
    (w32 (maskOf ((s.cc.harts.filter fun e => e.2.halted).map Prod.fst) + 4096 * b2n s.dbgActive), s)
  else if b = DBG_CNTe_LO.base then let (v, s) := s.counter i secure; (w32 v, s)
  else if b = DBG_CNTe_HI.base then let (v, s) := s.counter i secure; (w32 (v / 4294967296), s)
  else if b = DBG_SMP_STATUS.base then (w32 (setBits (s.rd r).toNat 6 0 s.dbg.samples.length), s)
  else (s.rd r i j, s)

/-- The current contents of a register, as a read from a world finds them: a WO bit reads zero (R15)
(DESIGN CHOICE, log entry 11). -/
def State.view (s : State) (secure : Bool) (r : Reg) (i j : Nat) : Word × State :=
  let (v, s) :=
    match slotOf r.base with
    | some 0 =>
      (if r.base = CC_MTIME_LO.base then w32 s.mtime
       else if r.base = CC_MTIME_HI.base then w32 (s.mtime / 4294967296) else s.rd r i j, s)
    | some 1 => (if r.base = MS_ERR_STATUS.base then w32 (setBits (s.rd r).toNat 4 0 s.ms.log.length) else s.rd r i j, s)
    | some 2 => (s.viewSf r i j, s)
    | some 3 => (s.viewPda r i j, s)
    | some 4 => (s.viewPe r i j, s)
    | some 5 => (s.viewTbu r i j, s)
    | some 7 => s.viewFbc r i j
    | some 9 =>
      (if r.base = PLB_STATUS.base then s.plbStatusWord
       else if r.base = PLB_DISC_STATUS.base then w32 (setBits (s.rd r).toNat 3 0 s.plb.disc.length) else s.rd r i j, s)
    | some 10 => s.viewSec r i j
    | some 11 =>
      (if r.base = FCU_STATUS.base then s.fcuStatus
       else if r.base = FCU_LOG_STATUS.base then w32 (setBits (s.rd r).toNat 5 0 s.fcu.log.length) else s.rd r i j, s)
    | some 12 =>
      if r.base = PCS_WK.base then let s := s.each (List.range 16) State.wkLevel; (s.rd PCS_WK, s) else (s.viewPcs r i j, s)
    | some 13 => s.viewDbg secure r i j
    | _ => (s.rd r i j, s)
  (v &&& ~~~ (w32 r.wo), s)

end Sys2Proof.Machine
end

