-- ==== Sys2Proof/Machine/Aplic.lean ====
section
/-! DEFINITION. The APLIC (R408): the registers of its two domains as AIA 1.0 lays them out, and the messages of its wired
sources. -/

namespace Sys2Proof.Machine

/-- The wired sources that can become pending (R408). -/
def aplicSources : List Nat := (List.range 13).map (· + 1)
def aplicUsed (i : Nat) : Bool := decide (1 ≤ i ∧ i ≤ 13)

/-- The state of a domain: the machine-level one, or the supervisor-level one. -/
def State.aplic (s : State) (sup : Bool) : Aplic := if sup then s.cc.aplicS else s.cc.aplicM
def State.setAplic (s : State) (sup : Bool) (x : Aplic) : State :=
  if sup then { s with cc := { s.cc with aplicS := x } } else { s with cc := { s.cc with aplicM := x } }

/-- The machine-level domain has delegated source `i` to the supervisor-level one (AIA 1.0). -/
def State.aplicDelegated (s : State) (i : Nat) : Bool := bitOf (ngetD s.cc.aplicM.cfg i 0) 10

/-- The source mode of source `i` in a domain; 0 where the source is inactive there. -/
def State.aplicMode (s : State) (sup : Bool) (i : Nat) : Nat :=
  let v := ngetD (s.aplic sup).cfg i 0
  if !(aplicUsed i) || bitOf v 10 || sup != s.aplicDelegated i then 0 else v % 8

/-- The rectified input of a source by its mode: 4 and 6 the level, 5 and 7 its inverse, 1 detached (AIA 1.0). -/
def State.aplicIn (s : State) (sup : Bool) (i : Nat) : Bool :=
  match s.aplicMode sup i with
  | 4 | 6 => s.wired i
  | 5 | 7 => !(s.wired i)
  | _ => false

/-! ### Messages -/

/-- The interrupt file that a target names: hart index, guest index and the domain's address registers (AIA 1.0). -/
def State.aplicFile (s : State) (sup : Bool) (hart guest : Nat) : Nat :=
  let at_ := fun k => ngetD s.cc.aplicM.base k 0
  let h := at_ 1
  let group := hart / 2 ^ bitsOf h 15 12 % 2 ^ bitsOf h 18 16
  let idx := hart % 2 ^ bitsOf h 15 12
  let (lo, hi) := if sup then (at_ 2, at_ 3) else (at_ 0, h)
  let ppn := Nat.lor (Nat.lor (lo + hi % 4096 * 4294967296) (group * 2 ^ (bitsOf h 28 24 + 12))) (idx * 2 ^ bitsOf hi 22 20)
  (Nat.lor ppn (if sup then guest else 0)) * 4096

/-- The target of source `i`: interrupt file and identity. -/
def State.aplicTarget (s : State) (sup : Bool) (i : Nat) : Nat × Nat :=
  let t := ngetD (s.aplic sup).tgt i 0
  (s.aplicFile sup (bitsOf t 31 18) (bitsOf t 17 12), t % 2048)

/-- The pending bit of source `i` follows its input: a level-sensitive source is pending from its assertion on until its
message has gone or its input falls, and again once its interrupt has been taken from its file while it is still asserted
(R408); an edge sets the bit of an edge-sensitive one. -/
def State.aplicPend (s : State) (sup : Bool) (i : Nat) : State :=
  let x := s.aplic sup
  let now_ := s.aplicIn sup i
  let rises := now_ && !(bitOf x.seen i)
  let (file, id) := s.aplicTarget sup i
  let taken := !(bitOf (ngetD s.imsic file 0) id)
  let ip := if 6 ≤ s.aplicMode sup i then now_ && (bitOf x.ip i || rises || taken) else bitOf x.ip i || rises
  s.setAplic sup { x with ip := setBit x.ip i ip, seen := setBit x.seen i now_ }

/-- A pending and enabled source of an enabled domain sends its message, which clears its pending bit. -/
def State.aplicSend (s : State) (sup : Bool) (i : Nat) : State :=
  let x := s.aplic sup
  if x.ie && bitOf x.ip i && bitOf x.en i then
    let (file, id) := s.aplicTarget sup i
    (s.setAplic sup { x with ip := setBit x.ip i false }).msi file id
  else s

/-- The sources of both domains as they stand (R408). -/
def State.aplicStep (s : State) : State :=
  s.each [false, true] fun s sup =>
    s.each (aplicSources.filter fun i => s.aplicMode sup i != 0) fun s i => (s.aplicPend sup i).aplicSend sup i

/-! ### Registers (AIA 1.0) -/

/-- Bits of a word of 32 sources. -/
def aplicWord (m k : Nat) : Nat := m / 2 ^ (32 * k) % 4294967296

/-- The sources active in a domain among those a mask names. -/
def State.aplicMask (s : State) (sup : Bool) (m : Nat) : List Nat := aplicSources.filter fun i => bitOf m i && s.aplicMode sup i != 0

/-- A register of a domain at offset `o`. -/
def State.aplicRead (s : State) (sup : Bool) (o : Nat) : Nat :=
  let x := s.aplic sup
  if o = 0 then 0x80000004 + b2n x.ie * 256
  else if o < 0x1000 then (if sup && !(s.aplicDelegated (o / 4)) then 0 else ngetD x.cfg (o / 4) 0)
  else if 0x1BC0 ≤ o ∧ o < 0x1BD0 then (if sup then 0 else ngetD x.base ((o - 0x1BC0) / 4) 0)
  else if 0x1C00 ≤ o ∧ o < 0x1C80 then aplicWord x.ip ((o - 0x1C00) / 4)
  else if 0x1D00 ≤ o ∧ o < 0x1D80 then
    aplicWord ((aplicSources.filter (s.aplicIn sup)).foldl (fun m i => setBit m i true) 0) ((o - 0x1D00) / 4)
  else if 0x1E00 ≤ o ∧ o < 0x1E80 then aplicWord x.en ((o - 0x1E00) / 4)
  else if o = 0x3000 then x.gen
  else if 0x3004 ≤ o ∧ o < 0x4000 then ngetD x.tgt ((o - 0x3000) / 4) 0
  else 0

/-- `sourcecfg` of source `i`: an inactive source keeps neither pending nor enable bit nor target; a source that is not
delegated does not exist in the supervisor-level domain. -/
def State.aplicSetCfg (s : State) (sup : Bool) (i v : Nat) : State :=
  if !(aplicUsed i) || (sup && !(s.aplicDelegated i)) then s
  else
    let mode := if v % 8 = 2 ∨ v % 8 = 3 then 0 else v % 8
    let v := if !sup && bitOf v 10 then 1024 else mode
    let drop := fun (x : Aplic) => { x with ip := setBit x.ip i false, en := setBit x.en i false, tgt := nerase x.tgt i,
                                            seen := setBit x.seen i false }
    let x := s.aplic sup
    let was := s.aplicMode sup i
    let x := { (if was = 0 ∨ v = 0 ∨ v = 1024 then drop x else x) with cfg := nput 0 x.cfg i v }
    let s := s.setAplic sup x
    if sup || v == 1024 then s else s.setAplic true { drop s.cc.aplicS with cfg := nerase s.cc.aplicS.cfg i }

/-- Pending bits of the active sources `l` are set or cleared; that of a level-sensitive source is set only while its input
is asserted. -/
def State.aplicSetIp (s : State) (sup : Bool) (l : List Nat) (on : Bool) : State :=
  s.each l fun s i =>
    let x := s.aplic sup
    if on && decide (6 ≤ s.aplicMode sup i) && !(s.aplicIn sup i) then s
    else s.setAplic sup { x with ip := setBit x.ip i on }

/-- Enable bits of the active sources `l`. -/
def State.aplicSetEn (s : State) (sup : Bool) (l : List Nat) (on : Bool) : State :=
  s.each l fun s i => let x := s.aplic sup; s.setAplic sup { x with en := setBit x.en i on }

/-- A write of a register of a domain at offset `o`. -/
def State.aplicWrite (s : State) (sup : Bool) (o v : Nat) : State :=
  let x := s.aplic sup
  let word := fun (base : Nat) => s.aplicMask sup (v * 2 ^ (32 * ((o - base) / 4)))
  let one := s.aplicMask sup (2 ^ (v % 1024))
  let within := fun (base : Nat) => decide (base ≤ o ∧ o < base + 0x80)
  if o = 0 then s.setAplic sup { x with ie := bitOf v 8 }
  else if o < 0x1000 then s.aplicSetCfg sup (o / 4) v
  else if 0x1BC0 ≤ o ∧ o < 0x1BD0 then
    if sup || bitOf (ngetD x.base 1 0) 31 then s else s.setAplic sup { x with base := nput 0 x.base ((o - 0x1BC0) / 4) v }
  else if within 0x1C00 then s.aplicSetIp sup (word 0x1C00) true
  else if o = 0x1CDC ∨ o = 0x2000 then s.aplicSetIp sup one true
  else if within 0x1D00 then s.aplicSetIp sup (word 0x1D00) false
  else if o = 0x1DDC then s.aplicSetIp sup one false
  else if within 0x1E00 then s.aplicSetEn sup (word 0x1E00) true
  else if o = 0x1EDC then s.aplicSetEn sup one true
  else if within 0x1F00 then s.aplicSetEn sup (word 0x1F00) false
  else if o = 0x1FDC then s.aplicSetEn sup one false
  else if o = 0x2004 then s.aplicSetIp sup (s.aplicMask sup (2 ^ (leNat (leBytes 4 v).reverse % 1024))) true
  else if o = 0x3000 then
    let v := bitsOf v 31 18 * 262144 + v % 2048
    (s.setAplic sup { x with gen := v }).msi (s.aplicFile sup (bitsOf v 31 18) 0) (v % 2048)
  else if 0x3004 ≤ o ∧ o < 0x4000 then
    let i := (o - 0x3000) / 4
    if s.aplicMode sup i = 0 then s
    else s.setAplic sup { x with tgt := nput 0 x.tgt i (bitsOf v 31 18 * 262144 + (if sup then bitsOf v 17 12 else 0) * 4096 + v % 2048) }
  else s

/-- The domain and offset of an address of the APLIC (R408). -/
def aplicAt (a : Nat) : Option (Bool × Nat) :=
  if 0x40100000 ≤ a ∧ a < 0x40108000 then some (false, a - 0x40100000)
  else if 0x40108000 ≤ a ∧ a < 0x40110000 then some (true, a - 0x40108000)
  else none

end Sys2Proof.Machine
end

