-- ==== Sys2Proof/Machine/Bus.lean ====
section
/-! DEFINITION. Accesses over the bus (R8–R17, R248, R440–R448, R477, R499): admission, reads with their latches, writes
with their held words and effects. -/

namespace Sys2Proof.Machine

/-! ### Values wider than 32 bits (R13) -/

/-- The words that an initiator's latch or held set has for the value at `low`. -/
def mwGet (l : List MwHold) (init low : Nat) : Option (NMap Word) :=
  (l.find? fun h => h.init == init && h.low == low).map MwHold.words

/-- The list without the initiator's entry for the value at `low`. -/
def mwDrop (l : List MwHold) (init low : Nat) : List MwHold := l.filter fun h => !(h.init == init && h.low == low)

/-- The list with the initiator's entry for the value at `low` set. -/
def mwPut (l : List MwHold) (init low : Nat) (w : NMap Word) : List MwHold :=
  mwDrop l init low ++ [{ init := init, low := low, words := w }]

/-- The lowest address and the length of the value a register is part of; the mailbox result is one value of four words
(DEDUCED, log entry 12). -/
def valueOf (r : Reg) (a j : Nat) : Nat × Nat :=
  if r.base = SF_MBX_RESULTw.base then (a - 4 * j, 4) else r.group a j

/-! ### Admission (R8, R17, R248, R442–R447, R477, R499) -/

/-- An access of `n` bytes is admitted to its target; `false` is a bus error. -/
def State.accessOk (s : State) (i : Init) (a n : Nat) (write : Bool) : Bool × State :=
  let rg := regionOf a
  let id := i.id.toNat
  if n = 0 ∨ rg = .none ∨ regionOf (a + n - 1) ≠ rg ∨ (rg = .imsic ∧ !(isImsicFile (a / 4096 * 4096))) then (false, s.unmapped)
  else if !(s.gkAdmits id i.secure a n write) then
    (false, s.gkEvent { gk := (gkOf rg).getD 0, kind := 0, init := id, secure := i.secure, write := write, addr := a })
  else match rg with
    | .slot _ =>
      if !(s.powered (s.islandOf a)) then (false, s.gatedAccess)
      else if !(s.penRuns (penOf a)) then (false, s)
      else (true, s)
    | _ => (true, s)

/-- A gatekeeper event of the slot that holds the address (DEDUCED, log entry 36). -/
def State.slotEvent (s : State) (i : Init) (a kind : Nat) (write : Bool) : State :=
  s.gkEvent { gk := 8 + (slotOf a).getD 0, kind := kind, init := i.id.toNat, secure := i.secure, write := write, addr := a }

/-- The address lies in a message area of the FBC slot (R334). -/
def inArea (a : Nat) : Bool := decide (0x47100000 ≤ a ∧ a < 0x48000000)

/-- The address is buffer memory of a message area. -/
def isBuffer (a : Nat) : Bool := inArea a && isArea (a - 0x47000000)

/-- The register window that R248 governs, but for function pages and the command service's own registers, message areas,
the service pair, and what R445 and R469 except (DEDUCED, log entry 35). -/
def State.windowShut (s : State) (i : Init) (a : Nat) (r : Reg) : Bool :=
  let k := (slotOf a).getD 0
  let free := i.id.toNat == 0x10 || k == 2 || inArea a ||
    (k == 10 && i.secure && (r.world == .S || r.base / 0x1000 == 0x4A001))
  !free && !(bitOf (s.get SF_EXPERT_ALLOW_ALLOW) k)

/-! ### Reads -/

/-- The current contents of the register at an address. -/
def State.viewAt (s : State) (secure : Bool) (a : Nat) : Word × State :=
  match regAt a with
  | some (r, i, j) => s.view secure r i j
  | none => (0, s)

/-- The current contents of registers in order. -/
def State.viewAll (s : State) (secure : Bool) : List Nat → List Word × State
  | [] => ([], s)
  | a :: l =>
    let (w, s) := s.viewAt secure a
    let (ws, s) := s.viewAll secure l
    (w :: ws, s)

/-- The words of a value as a read of its lowest register finds them, and what that read leaves: of a log it removes the
oldest entry. -/
def State.readValue (s : State) (secure : Bool) (r : Reg) (low len i : Nat) : List Word × State :=
  match s.logHead low with
  | some x => x
  | none =>
    if r.base = SF_MBX_RESULTw.base then
      let (b, s) := s.readMbx i
      ((List.range 4).map fun k => w32 (leAt b (4 * k) 4), s)
    else if r.base = DBG_CNTe_LO.base then
      let (v, s) := s.counter i secure
      (words2 v, s)
    else s.viewAll secure ((List.range len).map fun k => low + 4 * k)

/-- The world that a sample's event is attributed to (R527) (DEDUCED, log entry 93). -/
def State.sampleSecure (s : State) (e : Sample) : Bool :=
  let h := bitsOf e.info.toNat 7 4
  if h = 15 then s.counterSecure (s.get DBG_SMPs_CFG_EVENT (e.info.toNat % 8)) else s.hartSecure h

/-- The debug module (initiator 0x20) reads zero from a counter or a sample record whose attributed world lacks its
non-invasive enable (R466, R521). -/
def State.blind (s : State) (i : Init) (r : Reg) (x : Nat) : Bool :=
  i.id == 0x20 &&
    (let shut := fun (secure : Bool) => !(bitOf s.dbgEn (if secure then 1 else 3))
     if r.base = DBG_CNTe_LO.base ∨ r.base = DBG_CNTe_HI.base then shut (s.counterSecure x)
     else match s.dbg.samples with
       | e :: _ => decide (DBG_SMP_INFO.base ≤ r.base ∧ r.base < DBG_SMP_INFO.base + 20) && shut (s.sampleSecure e)
       | [] => false)

/-- A read clears RC bits (R15); a port counter is cleared whole (R305). -/
def State.clearRead (s : State) (r : Reg) (i j : Nat) : State :=
  if r.rc = 0 then s
  else
    let s := s.wr r (s.rd r i j &&& ~~~ (w32 r.rc)) i j
    if r.base = ESW_PORTp_CNTc_LO.base then s.wr ESW_PORTp_CNTc_HI 0 i j else s

/-- The word at an address of a slot that no register line covers: the owners' bytes (R244), the registers of the APLIC
(R408), or zero (R14). -/
def State.readOther (s : State) (a : Nat) : Word :=
  if 0x42090000 ≤ a ∧ a < 0x42092700 then
    w32 (leNat ((List.range 4).map fun k => BitVec.ofNat 8 (ngetD s.sf.own (a - 0x42090000 + k) 0)))
  else match aplicAt a with
    | some (sup, o) => w32 (s.aplicRead sup o)
    | none => 0

/-- An admitted read of one register (R13–R17) (DEDUCED, log entry 12). -/
def State.readReg (s : State) (i : Init) (a : Nat) : Word × State :=
  match regAt a with
  | none => (s.readOther a, s)
  | some (r, x, j) =>
    if r.world = .S ∧ i.secure = false then (0, s.slotEvent i a 1 false)
    else if !(s.regLive r a x j) then (0, s)
    else
      let (low, len) := valueOf r a j
      let id := i.id.toNat
      if len ≤ 1 then
        let (v, s) := if r.base = SEC_RNG_DATA.base then s.rngTake else s.view i.secure r x j
        (v, s.clearRead r x j)
      else if a = low then
        let hidden := s.blind i r x
        let (ws, s) := s.readValue i.secure r low len x
        let ws := if hidden then ws.map fun _ => 0 else ws
        let s := s.clearRead r x j
        let none_ := decide (low = 0x45000040) && ws.all (· == 0)
        let s := if none_ then s
          else { s with bus := { s.bus with latches := mwPut s.bus.latches id low ((ws.zipIdx).map fun e => (e.2, e.1)) } }
        (ws.headD 0, s)
      else
        match mwGet s.bus.latches id low with
        | some m => (ngetD m ((a - low) / 4) 0, s)
        | none =>
          if s.blind i r x then (0, s)
          else match s.logHead low with
            | some (ws, _) => (ws.getD ((a - low) / 4) 0, s)
            | none => s.view i.secure r x j

/-! ### Effects of writes -/

/-- A write of `DBG_SMPs_CFG` (R531, R533): setting EN takes the sampler for the writer's world and starts its count
(DEDUCED, log entry 36). -/
def State.writeSampler (s : State) (i : Init) (k : Nat) (v : Word) : State :=
  let old := s.rd DBG_SMPs_CFG k
  if bitOf old.toNat 10 && !i.secure then s.slotEvent i (DBG_SMPs_CFG.addr k 0) 1 true
  else
    let s := s.wr DBG_SMPs_CFG (DBG_SMPs_CFG.written old v) k
    if bitOf v.toNat 9 && !(bitOf old.toNat 9) then
      let e := bitsOf v.toNat 8 0
      let s := (s.setFlag DBG_SMPs_CFG_WORLD i.secure k).counterAdvance e 0
      { s with dbg := { s.dbg with sampleBase := s.dbg.sampleBase.set k (ngetD s.dbg.counters e 0) } }
    else s

/-- A write of `ESW_DEV_ETYPE` (R298). -/
def State.writeEtype (s : State) (v : Word) : State :=
  if s.etypeRefused (v.toNat % 65536) then s.setFlag ESW_EVT_ETYPE_REFUSED true
  else
    let s := s.wr ESW_DEV_ETYPE (ESW_DEV_ETYPE.written (s.rd ESW_DEV_ETYPE) v)
    { s with esw := { s.esw with etypeAt := some s.now } }

/-- A write of a queue register, whatever the owner's page (R299, R300). -/
def State.writeQueueReg (s : State) (r : Reg) (q : Nat) (v : Word) : State :=
  let old := s.rd r 0 q
  let en := s.flag ESW_Qq_CFG_EN 0 q
  if r.base = ESW_Qq_BASE.base then (if en then s else s.wr r v 0 q)
  else if r.base = ESW_Qq_CFG.base then
    let s := s.wr r (r.written old v) 0 q
    if !en && bitOf v.toNat 16 then s.queueStart q else s
  else
    let depth := if r.base = ESW_Qq_TX_TAIL.base then s.txDepth q else s.rxDepth q
    if depth ≤ v.toNat % 4096 then s else s.wr r (r.written old v) 0 q

/-- The action bits of `MS_SPARE_CTRL` (R428, R429, R487): a bank whose test failed stays out of the map. -/
def State.writeSpare (s : State) (v : Word) : State :=
  let b := v.toNat % 16
  let s := if bitOf v.toNat 4 then s.startMigration b else s
  if bitOf v.toNat 5 then s.startReturn b else s

/-- The rights of R445 over a gatekeeper region: `none` ignores the write, else the word that is written. -/
def State.gkRights (s : State) (i : Init) (r : Reg) (g k : Nat) (v : Word) : Option Word :=
  let c := (s.rd SEC_GKg_REGr_CTRL g k).toNat
  if bitOf c 6 || (!i.secure && bitOf c 5) then none
  else if r.base = SEC_GKg_REGr_CTRL.base ∧ i.secure = false then
    some (w32 (setBit (setBits v.toNat 2 1 (bitsOf c 2 1)) 5 (bitOf c 5)))
  else some v

/-- The effect of an accepted write of a register of one word (DESIGN CHOICE, log entry 11). -/
def State.writeReg (s : State) (i : Init) (r : Reg) (a x j : Nat) (v : Word) : State :=
  let b := r.base
  let n := v.toNat
  let old := s.rd r x j
  let plain := s.wr r (r.written old v) x j
  match slotOf a with
  | some 0 =>
    if b = CC_PAIRp_CTRL.base then
      let s := if bitOf n 0 then s.handover i.id.toNat x else s
      if bitOf n 1 then s.pairRestart x else s
    else plain
  | some 1 =>
    if b = MS_SPARE_CTRL.base then plain.writeSpare v
    else if b = MS_SPARE_CFG.base then plain.autoMigrate
    else plain
  | some 2 =>
    if isQueueReg r then s.writeQueueReg r j v
    else if b = SF_MBX_CMDw.base then s.writeMbxCmd x j v
    else if b = SF_QPq_CFG.base then s.writeQpCfg x j v
    else if b = SF_QPq_SQ_TAIL.base then s.writeSqTail x j v
    else if b = SF_QPq_CQ_HEAD.base then s.writeCqHead x j v
    else plain
  | some 3 =>
    if b = PDA_CHn_CTRL.base then s.writeCtrl x v
    else if b = PDA_CHn_FAULT.base then s.clearFaults x n
    else if b = PDA_CHn_PWM_PERIOD.base then (s.wr r (r.clamped (r.written old v)) x).pwmResync x
    else if b = PDA_GRPk_DROOP.base then s.wr r (r.clamped (r.written old v)) x
    else if b = PDA_CHn_PWM_DUTY.base then (plain.dutyFollow x).pwmResync x
    else if b = PDA_CHn_PWM_CFG.base then plain.dutyFollow x
    else plain
  | some 4 =>
    if b = PE_BUL_CFG.base then (if bitOf n 16 = bitOf old.toNat 16 then plain else plain.bulEnable (bitOf n 16))
    else if b = PE_PLACE_CFG.base then s.wr r (r.clamped (r.written old v))
    else if b = PE_SUBj_SRC.base then plain.subSrcWrite x old
    else plain
  | some 5 =>
    if b = TBU_SNAP.base then (if bitOf n 0 then s.snapCapture else s)
    else if b = TBU_TDd_CTRL.base then s.tdCtrl x n
    else plain
  | some 6 => if b = ESW_DEV_ETYPE.base then s.writeEtype v else plain
  | some 7 =>
    if b = FBC_CANc_TXREQ_LO.base then s.canRequests x 0 n
    else if b = FBC_CANc_TXREQ_HI.base then s.canRequests x 32 n
    else if b = FBC_CANc_TXABORT_LO.base then s.canAbort x 0 n
    else if b = FBC_CANc_TXABORT_HI.base then s.canAbort x 32 n
    else if b = FBC_CANc_CTRL.base then (if bitOf n 0 then s.canRecover x else s)
    else if b = FBC_CANc_RXF_RIDX.base then s.rxfConsume x n
    else plain
  | some 9 => if b = PLB_MSIX_SEND.base then s.msixSend (n % 64) else plain
  | some 10 =>
    if b = SEC_LC_CTRL.base then
      let (k, s) := s.freeNat
      s.writeLcCtrl v (k % 2 == 1)
    else if b = SEC_OTP_CTRL.base then s.writeOtpCtrl v
    else if b = SEC_CALL_ANSw.base then s.writeAns x v
    else if b = SEC_KEY_DATAw.base then { s with sec := { s.sec with keyData := s.sec.keyData.set x v } }
    else if b = SEC_KEY_CTRL.base then s.writeKeyCtrl v
    else if b = SEC_JOB_CTRL.base then s.writeJobCtrl v
    else if b = SEC_DBG_CTRL.base then s.writeDbgCtrl v
    else plain
  | some 11 =>
    if b = FCU_SRCi_CFG.base then s.wr r (fcuMerge x old v) x
    else if b = FCU_SRCi_STATE.base then s.writeSrcState x v
    else if b = FCU_PENn_CTRL.base then s.writePenCtrl x v
    else plain
  | some 12 =>
    if b = PCS_ISLi_VOTE.base then s.writeVote i a x v
    else if b = PCS_RUN_HOLD.base then s.writeRunHold i a v
    else if b = PCS_RESET_CTRL.base then (if bitOf n 0 && bitsOf n 15 8 == 0xA5 then s.coreReset 4 else s)
    else plain
  | some 13 => if b = DBG_SMPs_CFG.base then s.writeSampler i x v else plain
  | _ => plain

/-- Registers set to words, by the access types of their bits. -/
def State.writeAll (s : State) : List (Nat × Word) → State
  | [] => s
  | (a, w) :: l =>
    (match regAt a with
     | some (r, x, j) => s.wr r (r.written (s.rd r x j) w) x j
     | none => s).writeAll l

/-- The effect of a write of the highest register of a value wider than 32 bits (R13): its words from the lowest up. -/
def State.writeValue (s : State) (r : Reg) (low x j : Nat) (ws : List Word) : State :=
  let w := fun k => (ws.getD k 0).toNat
  if r.base = TBU_TDd_TIME_SEC_HI.base then s.tdSet x (w 2 + w 3 % 65536 * 4294967296) (w 1) (w 0)
  else if r.base = TBU_TDd_STEP_HI.base then s.tdStep x (signed 64 (w 0 + w 1 * 4294967296))
  else if r.base = TBU_TDd_INC_NS.base then s.tdInc x (w 0 + w 1 % 16 * 4294967296)
  else if 0x42000100 ≤ low ∧ low < 0x42040000 ∧ s.flag SF_QPq_CFG_EN x j then s
  else if low = SEC_CALL_BASE_LO.base ∧ s.flag SEC_CALL_CFG_EN then s
  else
    let s := s.writeAll ((ws.zipIdx).map fun e => (low + 4 * e.2, e.1))
    if r.base = CC_HARTh_MTIMECMP_HI.base then s.mtipUpdate x
    -- an asserted row sets the latches of the channels that its mask now names (R176)
    else if r.base = PE_SUBj_MASK_HI.base then s.subRow x
    else s

/-- The words of the value at `low` below its highest, as a write of the highest register by an initiator combines them. -/
def State.heldWords (s : State) (init low : Nat) : List Nat → List Word
  | [] => []
  | k :: l =>
    (match nfind ((mwGet s.bus.holds init low).getD []) k with
     | some w => w
     | none => (s.viewAt true (low + 4 * k)).1) :: s.heldWords init low l

/-- An admitted write of one register (R13–R17, R248, R445) (DEDUCED, log entry 12). -/
def State.writeWord (s : State) (i : Init) (a : Nat) (v : Word) : State :=
  match regAt a with
  | none => (match aplicAt a with | some (sup, o) => s.aplicWrite sup o v.toNat | none => s)
  | some (r, x, j) =>
    let gk := r.base / 0x1000 = 0x4A001
    if r.world = .S ∧ i.secure = false then s.slotEvent i a 1 true
    else if s.windowShut i a r then s.slotEvent i a 2 true
    else if !(s.regLive r a x j) then s
    else match (if gk then s.gkRights i r x j v else some v) with
      | none => s.slotEvent i a 3 true
      | some v' =>
        let s := if gk ∧ v' ≠ v then s.slotEvent i a 3 true else s
        let (low, len) := r.group a j
        let k := (a - low) / 4
        let id := i.id.toNat
        if len ≤ 1 then s.writeReg i r a x j v'
        else if k + 1 < len then
          { s with bus := { s.bus with holds := mwPut s.bus.holds id low (nset ((mwGet s.bus.holds id low).getD []) k v') } }
        else
          let ws := s.heldWords id low (List.range k) ++ [v']
          ({ s with bus := { s.bus with holds := mwDrop s.bus.holds id low } }).writeValue r low x j ws

/-! ### Accesses of any initiator -/

/-- The access has the form R12 asks of a register: one or two aligned words. -/
def wordForm (a n : Nat) : Bool := (n == 4 && a % 4 == 0) || (n == 8 && a % 8 == 0)

/-- A misaligned access to memory that crosses a 4 KiB boundary: it is split in two there (R404). -/
def pageCross (a n : Nat) : Bool :=
  (match regionOf a with
   | .slot _ | .imsic | .outbound | .none => false
   | _ => true) && decide (a % n ≠ 0 ∧ a / 4096 ≠ (a + n - 1) / 4096)

/-- A read of `n` bytes that is not split: the bytes, or nothing for a bus error. A register access of two words is two
accesses (R12). The buffer memory of the message areas of the FBC takes any size and alignment (DESIGN CHOICE, log
entry 13). -/
def State.busReadPart (s : State) (i : Init) (a n : Nat) : Option (List Byte) × State :=
  if !s.coreRuns then (none, s)
  else match s.accessOk i a n false with
    | (false, s) => (none, s)
    | (true, s) =>
      match regionOf a with
      | .slot _ =>
        if isBuffer a then (some (s.areaAt (a - 0x47000000) n), s)
        else if !(wordForm a n) then (none, s)
        else
          let (v, s) := s.readReg i a
          if n = 4 then (some (leBytes 4 v.toNat), s)
          else
            let (w, s) := s.readReg i (a + 4)
            (some (leBytes 4 v.toNat ++ leBytes 4 w.toNat), s)
      | .imsic => if wordForm a n then (some (List.replicate n 0), s) else (none, s)
      | .outbound => s.outRead a n
      | .none => (none, s)
      | _ => s.physRead i.id.toNat a n

/-- A read of `n` bytes; the parts of a split one are checked on their own (R404) (DEDUCED, log entry 13). -/
def State.busRead (s : State) (i : Init) (a n : Nat) : Option (List Byte) × State :=
  if !(pageCross a n) then s.busReadPart i a n
  else
    let k := 4096 - a % 4096
    match s.busReadPart i a k with
    | (none, s) => (none, s)
    | (some b, s) => match s.busReadPart i (a + k) (n - k) with
      | (none, s) => (none, s)
      | (some c, s) => (some (b ++ c), s)

/-- A write of bytes that is not split; `false` for a bus error (DEDUCED, log entry 13). -/
def State.busWritePart (s : State) (i : Init) (a : Nat) (d : List Byte) : Bool × State :=
  let n := d.length
  if !s.coreRuns then (false, s)
  else match s.accessOk i a n true with
    | (false, s) => (false, s)
    | (true, s) =>
      match regionOf a with
      | .slot _ =>
        if isBuffer a then (true, s.writeArea (a - 0x47000000) d)
        else if !(wordForm a n) then (false, s)
        else
          let s := s.writeWord i a (w32 (leAt d 0 4))
          if n = 4 then (true, s) else (true, s.writeWord i (a + 4) (w32 (leAt d 4 4)))
      | .imsic => if wordForm a n then (true, s.msi a (leAt d 0 4)) else (false, s)
      | .outbound => s.outWrite a d
      | .none => (false, s)
      | _ => s.physWrite i.id.toNat a d

/-- A write of bytes; the parts of a split one are checked on their own (R404) (DEDUCED, log entry 13). -/
def State.busWrite (s : State) (i : Init) (a : Nat) (d : List Byte) : Bool × State :=
  if !(pageCross a d.length) then s.busWritePart i a d
  else
    let k := 4096 - a % 4096
    match s.busWritePart i a (d.take k) with
    | (false, s) => (false, s)
    | (true, s) => s.busWritePart i (a + k) (d.drop k)

/-- A read whose answer goes to its initiator (DESIGN CHOICE, log entry 14); a port that a held read stalls makes none
(R393) (DEDUCED, log entry 78). -/
def State.answerRead (s : State) (i : Init) (a n : Nat) : State :=
  if s.stalled i then s
  else
    let (b, s) := s.busRead i a n
    s.answer b

/-- A write whose answer goes to its initiator; nothing answers once the write has reset the core die
(DESIGN CHOICE, log entry 14). -/
def State.answerWrite (s : State) (i : Init) (a : Nat) (d : List Byte) : State :=
  if s.stalled i then s
  else
    let (ok, s) := s.busWrite i a d
    if s.coreRuns then s.answer (if ok then some [] else none) else s

/-- A read of the register of a line with indices `x` and `j`, where the line has them. -/
def State.rowRead (s : State) (i : Init) (r : Reg) (x : Nat := 0) (j : Nat := 0) : State :=
  if x < r.n1 && j < r.n2 then s.answerRead i (r.addr x j) 4 else s

/-- A write of the register of a line with indices `x` and `j`, where the line has them. -/
def State.rowWrite (s : State) (i : Init) (r : Reg) (v : Word) (x : Nat := 0) (j : Nat := 0) : State :=
  if x < r.n1 && j < r.n2 then s.answerWrite i (r.addr x j) (leBytes 4 v.toNat) else s

end Sys2Proof.Machine
end

