-- ==== Sys2Proof/Machine/Dbg.lean ====
section
/-! DEFINITION. Debug (chapter 16): the debug module's requests and accesses, the image loader, and the samplers. -/

namespace Sys2Proof.Machine

/-! ### Requests (R519–R525) -/

/-- The module answers: the core die runs, island 43 is powered, pen 34 runs. -/
def State.dbgUp (s : State) : Bool := s.coreRuns && s.powered 43 && s.penRuns 34

/-- Hart ID `h` names a user hart (R11, R520). -/
def userHart (h : Nat) : Bool := decide (h ≤ 11) && h != 7

/-- The instructions of the test access port (R518). -/
def irIdcode : Nat := 0x01
def irDmi : Nat := 0x11
def irToken : Nat := 0x14
def irLoader : Nat := 0x16

/-- The data register that an instruction selects: its width, and what a capture finds, for CHAL the `k`-th in turn (R518, R526);
every value without a row selects BYPASS. -/
def State.tapCapture (s : State) (ir k : Nat) : Nat × Nat :=
  match ir with
  | 0x01 => (32, 0x04824001)
  | 0x10 => (32, 1 + 7 * 16 + s.dbg.dmiOp * 1024)
  | 0x11 => (41, s.dbg.dmiOp)
  | 0x14 => (32, 0)
  | 0x15 => (32, leAt s.challenge (4 * (k % 8)) 4)
  | 0x16 => (32, (s.rd DBG_LOADER_STATUS).toNat)
  | _ => (1, 0)

/-- The port is scanned with an instruction. -/
def State.tapScan (s : State) (ir : Nat) : State := { s with dbg := { s.dbg with tapIr := ir, tapDr := (s.tapCapture ir 0).2 } }

/-- The port answers: it is powered with the core die, and its controller lies in island 43 (R519). -/
def State.tapUp (s : State) : Bool := s.coreRuns && s.powered 43

/-- TDO is driven only while the port answers (R519). -/
def State.tdoDriven (s : State) : Bool := s.tapUp

/-- A request reaches the module, which it leaves active. -/
def State.dmActive (s : State) : State := { s with dbg := { s.dbg with dmactive := true, dmiOp := 0, tapIr := irDmi } }

/-- The hart is present and its world has the invasive enable (R521). -/
def State.dbgOpen (s : State) (h : Nat) : Bool := userHart h && (s.hart h).running && s.invasive (s.hartSecure h)

/-- dmstatus for hart `h` (R520, R521, R525): a hart that is none reports nonexistent; one that no pair carries, or whose world lacks
the invasive enable, unavailable (PRESUMED, log entry 94). -/
def State.dmstatusOf (s : State) (h : Nat) : Nat :=
  let x := s.hart h
  let open_ := s.dbgOpen h
  let pair := fun (lo : Nat) (b : Bool) => b2n b * (2 ^ lo + 2 ^ (lo + 1))
  3 + 128 + pair 8 (open_ && x.halted) + pair 10 (open_ && !x.halted) + pair 12 (userHart h && !open_) + pair 14 (!(userHart h)) +
    pair 18 (userHart h && x.haveReset) + 2 ^ 22

/-- A request reaches the module for hart `h`, which it selects. -/
def State.dbgSelect (s : State) (h : Nat) : State :=
  { s with dbg := { s.dbg with dmactive := true, dmiOp := 0, tapIr := irDmi, hartsel := h, dmstatus := s.dmstatusOf h } }

/-- A request that the island does not take fails with op = 2 and has no effect; with the core die down the port is inert
(R519) (DEDUCED, log entry 94). -/
def State.dmiFail (s : State) : State := if s.coreRuns then { s with dbg := { s.dbg with dmiOp := 2 } } else s

/-- SPX has taken hart `h` over at this instant: the fence prevails over a halt request (R525). -/
def State.justTaken (s : State) (h : Nat) : Bool := s.cc.takenAt == some s.now && s.pairHart 6 == h

/-- HALT_REQUEST (R521, R525). -/
def State.haltRequest (s : State) (h : Nat) : State :=
  if !s.dbgUp then s.dmiFail
  else
    let s := s.dbgSelect h
    if s.dbgOpen h && !(s.hart h).halted && !(s.justTaken h) then s.modHart h fun x => { x with haltReq := true } else s

/-- HALT_EFFECT: the next instruction boundary after the released requests (R524). -/
def State.haltEffect (s : State) (h : Nat) : State :=
  if s.coreRuns && (s.hart h).running && (s.hart h).haltReq && !(s.readsOut h) then
    s.modHart h fun x => { x with halted := true, haltReq := false }
  else s

/-- A hart has executed instructions: what the debugger knew of its registers is void, but for those of debug mode. -/
def State.regsVoid (s : State) (h : Nat) : State :=
  { s with cc := { s.cc with gpr := s.cc.gpr.filter fun e => e.1 / 65536 != h || (decide (0x7B2 ≤ e.1 % 65536 ∧ e.1 % 65536 ≤ 0x7B3)) || e.1 % 65536 == 0x7B0 } }

/-- A hart goes on from its halt. -/
def State.hartResume (s : State) (h : Nat) : State :=
  (s.modHart h fun x => { x with halted := false, haltReq := false }).regsVoid h

/-- dcsr (RISC-V Debug 1.0); its step bit is 2. -/
def csrDcsr : Nat := 0x7B0
def State.stepping (s : State) (h : Nat) : Bool := bitOf (ngetD s.cc.gpr (h * 65536 + csrDcsr) 0) 2

/-- RESUME_REQUEST (R520); with dcsr.step the hart executes one instruction and is halted again (R524). -/
def State.resumeRequest (s : State) (h : Nat) : State :=
  if !s.dbgUp then s.dmiFail
  else
    let s := s.dbgSelect h
    if userHart h && (s.hart h).halted then (if s.stepping h then s.regsVoid h else s.hartResume h) else s

/-- A hart reset by the debugger (R522). -/
def State.hartReset (s : State) (h : Nat) : State :=
  s.hartStart h (if h < 8 then s.rvec h else s.entryOf h) 5

/-- NDMRESET: every user hart whose world has the invasive enable (R522). -/
def State.ndmReset (s : State) : State :=
  if !s.dbgUp then s.dmiFail
  else
    let s := s.dmActive
    s.each ((List.range 12).filter s.dbgOpen) State.hartReset

/-- HARTRESET: the selected hart alone (R522). -/
def State.hartResetOf (s : State) (h : Nat) : State :=
  if !s.dbgUp then s.dmiFail
  else
    let s := s.dbgSelect h
    if s.dbgOpen h then s.hartReset h else s

/-- Hart `h` has a trigger with dmode set, bit 59 of tdata1 (R521). -/
def State.hasDmode (s : State) (h : Nat) : Bool := s.dbg.trig.any fun e => e.1 / 16 == h && bitOf e.2.1 59

/-- DEBUG_TRIGGER: a trigger of the hart fires. One with dmode enters debug mode while it is set and the hart's world has the
invasive enable; one with action 0 raises a breakpoint exception (R521). -/
def State.debugTrigger (s : State) (h : Nat) (dmode : Bool) : State :=
  if !s.coreRuns || !(userHart h) || !(s.hart h).running || (s.hart h).halted then s
  else if !dmode then s.modHart h fun x => { x with breakpoint := true }
  else if s.hasDmode h && s.invasive (s.hartSecure h) then
    s.modHart h fun x => { x with halted := true, haltReq := false }
  else s

/-! ### Abstract commands and the system bus (R520, R521) -/

/-- The result of an abstract command (PRESUMED, log entry 94). -/
def State.abstractEnd (s : State) (err : Nat) (v : Nat) : State :=
  { s with dbg := { s.dbg with cmderr := err, abstractData := if err = 0 then v else s.dbg.abstractData } }

/-- The register of a halted hart: a value that the debugger has not seen is free, and stays (DEDUCED, log entry 93). -/
def State.hartReg (s : State) (h n : Nat) : Nat × State :=
  let k := h * 65536 + n
  if n = 0x1000 then (0, s)
  else match nfind s.cc.gpr k with
    | some v => (v, s)
    | none =>
      let (v, s) := s.freeNat
      let x := v % 2 ^ (if 0x1040 ≤ n then 128 else 64)
      (x, { s with cc := { s.cc with gpr := nset s.cc.gpr k x } })
def State.setHartReg (s : State) (h n v : Nat) : State := { s with cc := { s.cc with gpr := nset s.cc.gpr (h * 65536 + n) v } }

/-- Triggers of hart `h`: mcontrol6 of 4 on a safety hart and 8 on an application hart, and one icount, the last (R520). -/
def trigCount (h : Nat) : Nat := if h < 8 then 5 else 9

/-- tdata1, whose bit 59 is dmode, and whose bits 63 to 60 are the type (RISC-V Debug 1.0) (PRESUMED, log entry 94). -/
def csrTdata1 : Nat := 0x7A1

/-- The trigger that tselect (CSR 0x7A0) of hart `h` names, and a trigger's registers; type 15 is a disabled one
(RISC-V Debug 1.0) (PRESUMED, log entry 94). -/
def State.tselect (s : State) (h : Nat) : Nat := ngetD s.cc.gpr (h * 65536 + 0x7A0) 0 % trigCount h
def State.trigger (s : State) (h : Nat) : Nat × Nat × Nat := ngetD s.dbg.trig (h * 16 + s.tselect h) (15 * 2 ^ 60, 0, 0)
def State.setTrigger (s : State) (h : Nat) (x : Nat × Nat × Nat) : State :=
  { s with dbg := { s.dbg with trig := nset s.dbg.trig (h * 16 + s.tselect h) x } }

/-- What a CSR of hart `h` holds: mhartid the hart ID (R419), the time CSR mtime, mip the machine timer interrupt, with MSIP zero
(R405), the Zihpm counters what their mhpmevent names, but no event of another hart (R528), the triggers (R520); of any other the
value that the debugger has seen or written, or a free one (DEDUCED, log entry 93). -/
def State.csrRead (s : State) (h n : Nat) : Nat × State :=
  if n = 0xF14 then (h, s)
  else if n = 0xC01 then (s.mtime, s)
  else if n = 0x344 then
    let (v, s) := s.freeNat
    (setBit (setBit v 3 false) 7 (s.hart h).mtip, s)
  else if n = 0x320 then let (v, s) := s.hartReg h n; (v % 8, s)
  else if 0x323 ≤ n ∧ n < 0x340 then let (v, s) := s.hartReg h n; (v % 512, s)
  else if (0xB03 ≤ n ∧ n < 0xB20) ∨ (0xC03 ≤ n ∧ n < 0xC20) then
    let (v, s) := s.hartReg h (0x320 + n % 32)
    let e := v % 512
    if e < 384 ∧ e / 32 ≠ h then (0, s) else s.counter e (s.hartSecure h)
  else if n = 0x7A0 then (s.tselect h, s)
  else if n = csrTdata1 then ((s.trigger h).1, s)
  else if n = 0x7A2 then ((s.trigger h).2.1, s)
  else if n = 0x7A3 then ((s.trigger h).2.2, s)
  else if n = csrDcsr then let (v, s) := s.hartReg h n; (setBit v 9 false % 268435456 + 4 * 268435456, s)
  else s.hartReg h n

/-- A CSR of hart `h` is written; false where it is read-only, which is an exception. Writes of mhpmcounterN are ignored (R528);
a trigger takes a type that it has, else it is disabled (R520) (PRESUMED, log entry 94). -/
def State.csrWrite (s : State) (h n v : Nat) : Bool × State :=
  if 0xC00 ≤ n then (false, s)
  else if 0xB03 ≤ n ∧ n < 0xB20 then (true, s)
  else if n = 0x7A0 then (true, if v < trigCount h then s.setHartReg h n v else s)
  else if n = csrTdata1 then
    let last := s.tselect h + 1 == trigCount h
    let t := v / 2 ^ 60
    let v := if t = (if last then 3 else 6) then v else 15 * 2 ^ 60 + 2 ^ 59 * b2n (bitOf v 59)
    (true, s.setTrigger h (v, (s.trigger h).2))
  else if n = 0x7A2 then (true, s.setTrigger h ((s.trigger h).1, v, (s.trigger h).2.2))
  else if n = 0x7A3 then (true, s.setTrigger h ((s.trigger h).1, (s.trigger h).2.1, v))
  else (true, s.setHartReg h n v)

/-- An abstract register access, `size` 2 or 3 for 32 or 64 bits: GPRs, FPRs, CSRs, and, of up to 128 bits, vector registers of
the application cores (DEDUCED, log entry 93). -/
def State.abstractReg (s : State) (h n : Nat) (write : Bool) (size v : Nat) : State :=
  let vector := decide (8 ≤ h ∧ 0x1040 ≤ n ∧ n < 0x1060)
  if !(decide (n < 0x1040) || vector) || !(size == 2 || size == 3 || (vector && size == 4)) then s.abstractEnd 2 0
  else
    let v := v % 2 ^ (8 * 2 ^ size)
    if write then
      if n < 0x1000 then
        match s.csrWrite h n v with
        | (true, s) => s.abstractEnd 0 s.dbg.abstractData
        | (false, s) => s.abstractEnd 3 0
      else (if n = 0x1000 then s else s.setHartReg h n v).abstractEnd 0 s.dbg.abstractData
    else
      let (x, s) := if n < 0x1000 then s.csrRead h n else s.hartReg h n
      s.abstractEnd 0 (x % 2 ^ (8 * 2 ^ size))

/-- An abstract memory access, made as the hart makes it: an address above 40 bits faults (R403). -/
def State.abstractMem (s : State) (h a : Nat) (write : Bool) (size v : Nat) : State :=
  let i : Init := { id := BitVec.ofNat 8 h, secure := s.hartSecure h }
  if 3 < size then s.abstractEnd 2 0
  else if 2 ^ 40 ≤ a then s.abstractEnd 5 0
  else if write then
    match s.busWrite i a (leBytes (2 ^ size) v) with
    | (true, s) => s.abstractEnd 0 s.dbg.abstractData
    | (false, s) => s.abstractEnd 5 0
  else
    match s.busRead i a (2 ^ size) with
    | (some d, s) => s.abstractEnd 0 (leNat d)
    | (none, s) => s.abstractEnd 5 0

/-- ABSTRACT_COMMAND: an access to register `at_` of hart `h`, or to memory at `at_`, after which `post` has the hart execute
the program buffer if the access has succeeded (R520, R524); only a halted hart carries it out (PRESUMED, log entry 94). -/
def State.abstractCommand (s : State) (h : Nat) (mem : Bool) (at_ : Nat) (write : Bool) (size v : Nat) (post : Bool) : State :=
  if !s.dbgUp then s.dmiFail
  else
    let s := s.dbgSelect h
    if !(userHart h) || !(s.hart h).halted then s.abstractEnd 4 0
    else
      let s := if mem then s.abstractMem h at_ write size v else s.abstractReg h (at_ % 65536) write size v
      if post && s.dbg.cmderr == 0 then s.regsVoid h else s

/-- SYSTEM_BUS_ACCESS (R521): in the world of `DBG_SBA`, as initiator 0x20 (PRESUMED, log entry 94). -/
def State.systemBus (s : State) (write : Bool) (a size v : Nat) : State :=
  if !s.dbgUp then s.dmiFail
  else
    let s := s.dmActive
    let secure := s.flag DBG_SBA_WORLD
    let err := fun (s : State) (e : Nat) => { s with dbg := { s.dbg with sberror := e } }
    let i : Init := { id := 0x20, secure := secure }
    if !(s.invasive secure) then err s 3
    else if 3 < size then err s 4
    else if a % 2 ^ size ≠ 0 then err s 3
    else if write then
      match s.busWrite i a (leBytes (2 ^ size) v) with
      | (true, s) => err s 0
      | (false, s) => let (k, s) := s.freeNat; err s (1 + k % 7)
    else
      match s.busRead i a (2 ^ size) with
      | (some d, s) => err { s with dbg := { s.dbg with sbdata := leNat d } } 0
      | (none, s) => let (k, s) := s.freeNat; err s (1 + k % 7)

/-- TAP_RESET: only the controller, to IDCODE (R518, R519). -/
def State.tapReset (s : State) : State := if s.tapUp then { s with dbg := { s.dbg with tapIr := irIdcode } } else s

/-- The enables as they stand: a halted hart whose world has lost its invasive enable resumes, and that world's dmode
triggers are disabled (R468, R525). -/
def State.dbgSettle (s : State) : State :=
  let shut := fun (h : Nat) => !(s.invasive (s.hartSecure h))
  let s' := s.each ((s.cc.harts.filter fun e => (e.2.halted || e.2.haltReq) && shut e.1).map Prod.fst) State.hartResume
  { s' with dbg := { s'.dbg with trig := s'.dbg.trig.filter fun e => (s.hart (e.1 / 16)).running && !(bitOf e.2.1 59 && shut (e.1 / 16)) } }

/-! ### The image loader (R526) -/

/-- The boot ROM serves the loader. -/
def State.loaderServes (s : State) : Bool :=
  s.tapUp && s.pcs.boot == .bootFail && s.flag SEC_STATUS_BOOT_FAIL && decide (s.lc ≤ lcDevelopment)

def State.loaderFail (s : State) (step : Nat) : State :=
  let s := (s.set DBG_LOADER_STATUS_PHASE 0).set DBG_LOADER_STATUS_FAIL step
  { s with dbg := { s.dbg with loaderLen := 0, loader := [] } }

/-- LOADER_SHIFT: the capture shows `DBG_LOADER_STATUS`; the word shifted in is the length, or a word of the image (DEDUCED,
log entry 95). -/
def State.loaderShift (s : State) (w : Word) : State :=
  let s := if s.tapUp then s.tapScan irLoader else s
  if !s.loaderServes ∨ 2 ≤ s.get DBG_LOADER_STATUS_PHASE then s
  else if s.dbg.loaderLen = 0 then
    let n := w.toNat
    if n = 0 ∨ n % 16 ≠ 0 ∨ areaRoom 1 < n then s.loaderFail 6
    else
      let s := (s.set DBG_LOADER_STATUS_PHASE 1).set DBG_LOADER_STATUS_FAIL 0
      { s with dbg := { s.dbg with loaderLen := n, loader := [] } }
  else
    let im := s.dbg.loader ++ leBytes 4 w.toNat
    let s := { s with dbg := { s.dbg with loader := im } }
    if s.dbg.loaderLen ≤ im.length then s.set DBG_LOADER_STATUS_PHASE 2 else s

/-- LOADER_IMAGE_DONE: verified, staged into the inactive area, committed; a software reset follows (DEDUCED, log entry 95). -/
def State.loaderDone (s : State) : State :=
  if !s.loaderServes ∨ s.get DBG_LOADER_STATUS_PHASE ≠ 2 then s
  else
    let im := s.dbg.loader
    match s.verifyBoot im with
    | .error e => s.loaderFail e
    | .ok _ =>
      let h := 1 - s.runHalf 1
      let seq := s.newSeq 1
      let s := s.setBytes (areaBase 1 h + 64) im
      let s := s.setCommit 1 h { seq := seq, state := icCommitted, len := im.length }
      (s.set DBG_LOADER_STATUS_PHASE 3).coreReset 4

/-! ### Samplers (R531) -/

/-- A record enters the sample FIFO: of samples of one instant the lower sampler's comes first (R531). -/
def sampleEnter (l : List Sample) (r : Sample) : List Sample :=
  let later := fun (x : Sample) => x.time == r.time && decide (r.info.toNat % 8 < x.info.toNat % 8)
  let n := (l.reverse.takeWhile later).length
  l.take (l.length - n) ++ [r] ++ l.drop (l.length - n)

/-- The count `m` after `n` more events, and the events from a count `b` to a count `c` (R527). -/
def countAfter (m n : Nat) : Nat := (m + n) % 281474976710656
def countFrom (b c : Nat) : Nat := (c + 281474976710656 - b) % 281474976710656

/-- The record of a sample of sampler `k` (R531, R533). -/
def State.sampleRec (s : State) (k e pc mode : Nat) : Sample :=
  let hide := decide (e < 384) && !(s.flag DBG_SMPs_CFG_WORLD k) && s.hartSecure (e / 32)
  let info := k + (if e < 384 then e / 32 else 15) * 16 + (if e < 384 then mode % 8 * 256 else 0) + b2n hide * 2048 + 2147483648
  { info := w32 info, pc := if hide ∨ 384 ≤ e then 0 else pc % 2 ^ 64, time := s.td0 }

/-- The next sample of sampler `k` counts from `b`. -/
def State.sampleFrom (s : State) (k b : Nat) : State := { s with dbg := { s.dbg with sampleBase := s.dbg.sampleBase.set k b } }

/-- A record of sampler `k` enters the FIFO, or is discarded where the FIFO is full (R531). -/
def State.sampleStore (s : State) (k : Nat) (r : Sample) : State :=
  if 64 ≤ s.dbg.samples.length then s.setFlag DBG_SMP_STATUS_OVF true
  else ({ s with dbg := { s.dbg with samples := sampleEnter s.dbg.samples r } }).setBitOf DBG_EVT_SAMPLE k

/-- SAMPLER_SAMPLE: the counter of sampler `k` has advanced by PERIOD since its last sample, whose count is the base of the
next; `pc` and `mode` of the hart of a per-hart event (DEDUCED, log entry 93). -/
def State.samplerSample (s : State) (k pc mode : Nat) : State :=
  let e := s.get DBG_SMPs_CFG_EVENT k
  let period := max 1 (s.get DBG_SMPs_PERIOD_PERIOD k)
  let base := s.dbg.sampleBase.getD k 0
  let gone := countFrom base (ngetD s.dbg.counters e 0)
  if !s.coreRuns || decide (8 ≤ k) || !(s.flag DBG_SMPs_CFG_EN k) || neverCounts e || (countsExactly e && decide (gone < period)) then s
  else
    let s := if gone < period then s.counterAdvance e (period - gone) else s
    (s.sampleFrom k (countAfter base period)).sampleStore k (s.sampleRec k e pc mode)

end Sys2Proof.Machine
end

