-- ==== Sys2Proof/Machine/Boot.lean ====
section
/-! DEFINITION. Resets, boot and sleep (chapter 15): the reset release with the boot image and the configuration set, the
points of the boot timetable, the sleep sequence; and what ends every command. -/

namespace Sys2Proof.Machine

/-! ### Choosing and verifying the images at boot (R271, R451, R452) -/

/-- The boot image of half `h`, or the step of R451 that fails. -/
def State.bootArea (s : State) (h : Nat) : Except Nat (BootImg × List Byte × Nat) :=
  match s.commitOf 1 h with
  | none => .error 1
  | some c =>
    let im := s.imageOf 1 h c.len
    match s.verifyBoot im with
    | .error e => .error e
    | .ok b => .ok (b, im, c.seq)

/-- The first candidate whose image verifies. -/
def State.bootChoice (s : State) : Option (Nat × BootImg × List Byte × Nat) :=
  (s.candidates 1).findSome? fun h => match s.bootArea h with | .ok x => some (h, x) | .error _ => none

/-- BOOT_FAIL: the reason is that of the first area tried; where none could be tried, a free value (R452)
(DEDUCED, log entry 89). -/
def State.bootFails (s : State) : State :=
  let (v, s) := s.freeNat
  let step := match (s.candidates 1).head? with
    | some h => (match s.bootArea h with | .error e => e | .ok _ => 1)
    | none => 1 + v % 5
  let s := (s.setFlag SEC_STATUS_BOOT_FAIL true).set SEC_STATUS_FAIL_STEP step
  { s with pcs := { s.pcs with boot := .bootFail } }

/-- Each hart ID's restart vector is the ENTRY of its world (R451). -/
def State.vectors (s : State) : State :=
  s.each (List.range 7) fun s p =>
    (s.wr CC_PAIRp_RVEC_LO (w32 (s.entryOf p)) p).wr CC_PAIRp_RVEC_HI (w32 (s.entryOf p / 4294967296)) p

/-- The chosen boot image becomes the running one (R449–R451, R457). -/
def State.bootTake (s : State) (h : Nat) (b : BootImg) (im : List Byte) (seq : Nat) : State :=
  let (trial, s) := s.selectArea 1 h
  let entry := fun (t : Nat) => match b.comps.find? fun c => c.type == t with | some c => c.entry | none => 0
  let s := { s with
    cfg := { s.cfg with bootHalf := some h, bootTrial := trial, key := b.cfgPk }
    sec := { s.sec with callTo := b.callTo, bootSvn := b.svn, bootSeq := seq, entryS := entry 2, entryN := entry 3,
                        dBoot := Config.sha3_512 (im.take b.total) } }
  let s := (s.set SEC_WORLD_MAP_MAP b.worlds).set SEC_STATUS_ROOT (if b.slot = 255 then 15 else b.slot)
  s.vectors.makeCert

/-! ### The configuration set at boot (R263, R270, R271, R446) -/

/-- Base address and size in 4 KiB pages of the target of gatekeeper `g` (R8, R411, R442). -/
def gkTarget (g : Nat) : Nat × Nat :=
  match g with
  | 0 => (0, 0x40)
  | 1 => (0x8000, 0x389C0)
  | 2 => (0x10000, 0x1000)
  | 3 => (0x20000, 0x4000)
  | 4 => (0x100000, 0x100000)
  | 5 => (0x50000, 0x200)
  | 6 => (0x80000, 0x80000)
  | _ => (0x40000 + 0x1000 * (g - 8), 0x1000)

/-- Region 0 of every gatekeeper under NO_CFG (R446). -/
def State.gkOpen (s : State) : State :=
  s.each ((List.range 22).filter (· != 7)) fun s g =>
    let (b, n) := gkTarget g
    let all := leBytes 8 0xFFFFFFFFFFFFFFFF
    s.gkLoad g 0 (leBytes 4 b ++ leBytes 4 n ++ all ++ all ++ leBytes 4 (if g = 18 then 0x27 else 0x3F))

/-- The first candidate set that verifies and can be applied, applied in DEFAULT_MODE. -/
def State.cfgChoice (s : State) : Option (Nat × State) :=
  (s.candidates 0).findSome? fun h =>
    match s.commitOf 0 h with
    | none => none
    | some c =>
      match readSet s.cfg.key s.sec.otp.cfgSvn (s.imageOf 0 h c.len) with
      | .error _ => none
      | .ok x => match s.cfgSetApply x x.base.defMode with
        | .ok t => some (h, t)
        | .error _ => none

/-- The configuration of the boot: a set, or NO_CFG (DEDUCED, log entry 89). -/
def State.bootConfig (s : State) : State :=
  match s.cfgChoice with
  | some (h, s) =>
    let (trial, s) := s.selectArea 0 h
    { s with cfg := { s.cfg with cfgHalf := some h, cfgTrial := trial }, pda := { s.pda with loaded := true } }
  | none => (s.setFlag SF_MODE_NO_CFG true).gkOpen

/-! ### Release of the core-die reset (R495, R501, R503, R538–R540) -/

/-- `PCS_WAKE` records the start, unless it is the first since VBAT, which the register's default records (R508, R517). -/
def State.recordWake (s : State) : State :=
  match s.pcs.wake with
  | none => s
  | some (r, i) =>
    let s := ((s.set PCS_WAKE_REASON r).set PCS_WAKE_INDEX i).inc PCS_WAKE_COUNT
    { s with pcs := { s.pcs with wake := none } }

/-- TD0 starts anew at zero: a PWM sequence that the field die kept in HELD goes on in its phase (R62). -/
def State.pwmRebase (s : State) : State :=
  { s with pda := { s.pda with ch := nmap (fun _ (c : Ch) =>
      { c with pwm := c.pwm.map fun w =>
          { w with start := (w.startAt : Int) - s.now
                   phase := if w.period = 0 then 0 else (((w.startAt : Int) - s.now) % w.period).toNat } }) s.pda.ch } }

/-- Every supply monitor that counts reports good (R495, R540): VDD_PCIE only where BOOT1 and BOOT0 give the partner link a
role; the two of LPDDR5 are absent where both read below 0.1 V. -/
def suppliesGood (pins rails : Nat) : Bool :=
  rails % 32 == 31 && (bitOf rails 5 || !(pins % 4 == 1 || pins % 4 == 2)) &&
    ((bitOf rails 6 && bitOf rails 7) || (bitOf rails 8 && bitOf rails 9))

/-- The core-die reset is released, which draws a challenge (R467), and the boot ROM runs up to the configuration
(DEDUCED, log entry 89). -/
def State.coreBoot (s : State) (pins : Nat) (testen : Bool) (rails : Nat) : State :=
  let scan := testen && s.sec.otp.lifecycle == lcManufacture
  let s := { s with
    cc := { s.cc with mtime0 := s.now }
    pcs := { s.pcs with boot := .configured, porst := true, rails := rails, bootAt := s.now, bootPins := pins % 4,
                        ddrFitted := !(bitOf rails 8 && bitOf rails 9), scan := scan,
                        scanHold := s.pcs.scanHold || scan, noEarlier := 0 } }
  let s := ((s.pwmRebase.recordWake).set SEC_STATUS_LC s.sec.otp.lifecycle).newChallenge
  let s := s.setFlag PLB_STATUS_ROLE (s.pcs.bootPins == 2)
  if scan then { s with pcs := { s.pcs with boot := .bootFail } }
  else match s.bootChoice with
    | none => s.bootFails
    | some (h, b, im, seq) => (s.bootTake h b im seq).bootConfig.sdLoad

/-- The core die waits for its release: powered, in reset, and not kept there (R485, R495). In END it stays in reset. -/
def State.releaseWaits (s : State) : Bool :=
  s.pcs.vbat && s.pcs.inh && s.pcs.power == .waking && s.pcs.boot == .held && !s.fcu.lockedReset &&
    decide (s.sec.otp.lifecycle < lcEnd)

/-- CORE_RESET_RELEASE: PORST_N is high and every supply monitor that counts has reported good for 1 ms. -/
def State.coreRelease (s : State) (pins : Nat) (testen : Bool) (rails : Nat) : State :=
  if !s.releaseWaits ∨ s.fcu.fatalDue.isSome ∨ !(suppliesGood pins rails) then s
  else (s.until s.pcs.noEarlier).coreBoot pins testen rails

/-- FATAL_REBOOT: the fatal reset is released after REBOOT_DELAY (R485). -/
def State.fatalReboot (s : State) (pins : Nat) (testen : Bool) (rails : Nat) : State :=
  match s.fcu.fatalDue with
  | none => s
  | some t =>
    if !s.releaseWaits ∨ !(suppliesGood pins rails) then s
    else
      let s := s.until t
      let s := { s with fcu := { s.fcu with fatalDue := none, fatalReleased := some s.now } }
      s.coreBoot pins testen rails

/-! ### Protection active (R57, R58, R60, R65, R70, R108, R504) -/

/-- What protection active means for channel `n`. -/
def State.channelBack (s : State) (n : Nat) : State :=
  let c := s.chan n
  let p := s.prof n
  -- a sequence of HELD, limp or a park slot conducts in its off-times too: its clock starts at the end of the window (R108)
  let live := c.driven || c.pwm.isSome || c.edge.isSome
  let s := s.setChan n
    { c with first := c.driven, clock := if live then pWindow p else 0, clockNew := false, clockRuns := live, b := 0,
             thermal := false, ntr := 0, unseen := 0,
             left := pRetries p, used := 0, refill := 0, holdEnd := none }
  let s := s.set PDA_CHn_FAULT_FAULT c.kept n
  let s := if c.kept = 0 then s else if n < 32 then s.setBitOf PDA_CH_EVT_LO_EVT n else s.setBitOf PDA_CH_EVT_HI_EVT (n - 32)
  s.limpEval n

/-- PROTECTION_ACTIVE: Sheepdog stops, and park channels that conduct are HELD (R504) (DEDUCED, log entries 25 and 89). -/
def State.protectionActive (s : State) : State :=
  if s.pcs.boot ≠ .configured then s
  else
    let (v, s) := s.freeNat
    let s := { s with
      pcs := { s.pcs with boot := .protection, sdRunning := false, parks := nmap (fun _ (x : Park) => { raw := x.raw }) s.pcs.parks }
      pda := { s.pda with lost := false, sense := [] }
      cfg := { s.cfg with entered := v % (s.td0 + 1) }
      tbu := { s.tbu with kettleMs := s.td0 / 1000000 } }
    let s := (s.setFlag PCS_STATE_PROT true).set PCS_BOOT_TIME_PROT (min 65535 ((s.now - s.pcs.bootAt) / 10000))
    let s := (s.setFlag PDA_CP_STATUS_CP_OK (!s.pda.cpLow)).setFlag PDA_CP_STATUS_UV_DEFER s.pda.cpLow
    (s.each allCh State.channelBack).subRows

/-! ### Harts released (R432, R433, R451, R497, R503) -/

/-- LPDDR5 is trained from the memory record of the running boot image (DESIGN CHOICE, log entry 100). -/
def State.ddrTrain (s : State) (r : Option (List Byte)) : State :=
  match r with
  | none => s
  | some r =>
    if !(bitOf (byteAt r 0) 0) || !s.pcs.ddrFitted then s
    else
      let d := byteAt r 1 % 4
      let ecc := bitOf (byteAt r 4) 0 || decide (lcProduction ≤ s.lc)
      let size := (d + 1) * 0x40000000
      let s := ((s.setFlag MS_DDR_STATUS_UP true).setFlag MS_DDR_STATUS_ECC ecc).set MS_DDR_STATUS_DENSITY d
      { s with ms := { s.ms with ddrSize := size } }

/-- Components with a LOAD address are loaded. -/
def State.loadComps (s : State) (im : List Byte) (cs : List BootComp) : State :=
  s.each (cs.filter fun c => c.load != 0) fun s c => s.setBytes c.load ((im.drop c.ofs).take c.len)

/-- The running boot image's memory training and its components (R432, R433, R451). -/
def State.bootLoad (s : State) : State :=
  match s.cfg.bootHalf with
  | none => s
  | some h =>
    match s.commitOf 1 h with
    | none => s
    | some c =>
      let im := s.imageOf 1 h c.len
      match parseBoot im with
      | none => s
      | some b => (s.ddrTrain (memRecord im b.comps)).loadComps im b.comps

/-- HARTS_RELEASED: a0 at boot is 0 (log entry 62). -/
def State.hartsReleased (s : State) : State :=
  if s.pcs.boot ≠ .protection then s
  else
    let s := (s.bootLoad.each (List.range 7) fun s p => s.pairStart p p 0).appStart 0
    { s with pcs := { s.pcs with boot := .harts, rstout := true }, sf := { s.sf with running := true } }

/-! ### End of boot (R361, R460, R505) -/

/-- END_OF_BOOT: the FBC settings are in force and every enabled network is in NETWORK. -/
def State.endOfBoot (s : State) : State :=
  if s.pcs.boot ≠ .harts then s
  else
    let s := s.each (List.range 8) fun s c => s.canApply c [] []
    let s := s.netsBoot.linsBoot
    let s := (s.setFlag PCS_STATE_DONE true).set PCS_BOOT_TIME_DONE (min 65535 ((s.now - s.pcs.bootAt) / 10000))
    let s := s.setFlag FCU_STATUS_BOOT_HOLD false
    let s := { s with pcs := { s.pcs with boot := .done, power := .run } }
    if s.get SEC_WORLD_MAP_MAP == 0 || !(s.flag SEC_CALL_CFG_EN) then s.secureDown else s

/-! ### VBAT, PORST_N, loss of the core die (R61, R493, R496, R501, R502) -/

/-- POWER_ON: VBAT above 4.5 V for 1 ms. -/
def State.powerOn (s : State) : State :=
  if s.pcs.power ≠ .off then s
  else { now := s.now, free := s.free, pending := s.pending, mem := s.mramOnly, sec := { otp := s.sec.otp }
         fcu := { errnAt := s.now } }

/-- VBAT_LOSS. -/
def State.vbatLoss (s : State) : State := if s.pcs.power = .off then s else s.vbatOff

/-- PIN_RESET: ignored in STOWED and SENTINEL; of a core die still waiting for its first release it is no start. -/
def State.pinReset (s : State) : State :=
  if s.asleep ∨ s.pcs.power = .off then s
  else
    let kept := s.fcu.lockedReset || s.fcu.fatalDue.isSome
    let s := { s with fcu := { s.fcu with lockedReset := false, fatalDue := none } }
    let s :=
      if s.coreRuns then s.coreReset 2
      else if kept then { s with pcs := { s.pcs with boot := .held, wake := some (2, 0) } }
      else s
    { s with pcs := { s.pcs with porst := false, scanHold := false } }

/-- CORE_DIE_LOST: by link, after which the reset is not released for 1 ms (0.95 to 1.1 ms, R559), or by supply. -/
def State.coreDieLost (s : State) (supply : Bool) : State :=
  if !s.coreRuns then s
  else
    let (e, s) := s.freeIn (-50000) 100000
    let t := ((s.now : Int) + 1000000 + e).toNat
    let s := s.coreReset 8
    { s with pcs := { s.pcs with noEarlier := if supply then 0 else t, rails := if supply then 0 else s.pcs.rails } }

/-! ### Sleep (R494, R506–R508, R514) -/

/-- The sleep condition (R494). -/
def State.sleepCondition (s : State) : Bool :=
  s.flag PCS_SLEEP_CFG_EN && (List.range 16).all (fun n => !(s.netEn n) || s.netState n == 0) &&
    !(s.flag PCS_RUN_HOLD_S_HOLD) && !(s.flag PCS_RUN_HOLD_N_HOLD) && s.cfg.jobs.isEmpty && s.fcu.tests.isEmpty &&
    s.ms.copy.isNone && !s.dbgActive

/-- PREPARE_SLEEP. -/
def State.prepareSleep (s : State) : State :=
  if s.pcs.power ≠ .run ∨ !s.sleepCondition then s
  else
    let s := { s with pcs := { s.pcs with power := .prepareSleep, prepAt := some (s.now + s.pcs.tPrepMs * 1000000) } }
    s.setFlag PCS_EVT_PREP true

/-- SLEEP_ABORT: the condition has ended before T_PREP. -/
def State.sleepAbort (s : State) : State :=
  if s.pcs.power ≠ .prepareSleep ∨ s.sleepCondition then s
  else ({ s with pcs := { s.pcs with power := .run, prepAt := none } }).setFlag PCS_EVT_ABORT true

/-- What the commit point does to channel `n` (R507, R514) (DEDUCED, log entry 88). -/
def State.channelSleeps (s : State) (n : Nat) : State :=
  let c := s.chan n
  if c.state = chOff ∨ c.state = chLatched ∨ c.state = chLimp then s
  else match s.parkOf n, decide (c.state = chOn ∨ c.state = chPwm) with
    | some (k, x), true => (s.modChan n fun c => { c with pwm := none }).parkDrive k x
    | _, _ =>
      (s.modChan n fun c => { c.quiet with holdEnd := none, settle := none, orphanHold := false }).turnOff n false

/-- SLEEP_COMMIT: from the end of T_PREP the sequence runs to its end (R507). -/
def State.sleepCommit (s : State) : State :=
  match s.pcs.power, s.pcs.prepAt with
  | .prepareSleep, some t =>
    if !s.sleepCondition then s
    else
      let s := s.until t
      let mode := s.get SF_MODE_MODE
      let s := s.each ((List.range 16).filter fun n => !(s.netEn n)) fun s n => s.arm n false
      let s := { s with pcs := { s.pcs with power := .sentinel, sdMode := mode } }
      let s := s.each allCh State.channelSleeps
      let s := s.dieDown .held
      let s := { s with
        pda := { s.pda with limpTick := s.now }
        pcs := { s.pcs with sdRunning := true, cycle := 0, cycleAt := s.now, sleptAt := s.now, wake := none,
                            inhFall := some (s.now + 100000),
                            rules := nmap (fun _ (q : Rule) => { raw := q.raw }) s.pcs.rules } }
      s.sdPower
  | _, _ => s

/-- INH_FALL: 100 µs, between 90 and 110, after the commit point (R507, R559). -/
def State.inhFalls (s : State) : State :=
  match s.pcs.inhFall with
  | none => s
  | some t =>
    let (e, s) := s.freeIn (-10000) 10000
    let s := s.until ((t : Int) + e).toNat
    { s with pcs := { s.pcs with boot := .unpowered, inh := false, inhFall := none, inhFellAt := s.now, porst := false,
                                 rails := 0 } }

/-- INH_RISE: at most 50 µs after the later of the wake decision and the end of T_INH_MIN (R559); the RC measures the stay to
±5 % (R508, R517). -/
def State.inhRises (s : State) : State :=
  if !s.asleep ∨ s.pcs.wake.isNone ∨ s.pcs.inhFall.isSome then s
  else
    let (d, s) := s.freeIn 0 50000
    let s := s.until (max s.pcs.wakeAt (s.pcs.inhFellAt + s.pcs.inhMinMs * 1000000) + d.toNat)
    let (e, s) := s.freeIn (-50000) 50000
    let ms := ((s.now - s.pcs.sleptAt : Nat) * (1000000 + e)).toNat / 1000000000000
    let s := s.wr PCS_SLEEP_MS (w32 (min 4294967295 ms))
    { s with pcs := { s.pcs with power := .waking, inh := true, boot := .held } }

/-! ### What ends every command -/

/-- The LIMP overlay (R492) (DEDUCED, log entry 91). -/
def State.limpOverlay (s : State) : Bool := allCh.any fun n => (s.chan n).state == chLimp

/-- Events reported within the command are handled, gates, enables and waiting frames follow, the error pin, the overlay's event bit
and the wired interrupts are set (R408, R472, R482, R492, R500, R525) (DESIGN CHOICE, log entry 17; DEDUCED, log entry 91). -/
def State.settle (before s : State) : State :=
  let s := if s.coreRuns then (s.fcuLoop 1024) else s
  let s := if s.coreRuns then s.gatesDue.dbgSettle.streamsHand else { s with fcu := { s.fcu with todo := [] } }
  let s := if s.coreRuns && s.limpOverlay != before.limpOverlay then s.setFlag PCS_EVT_LIMP true else s
  (if s.coreRuns then s.aplicStep else s).sdPower.errnEval

/-- The outcome of a command that leads from one state to another (DESIGN CHOICE, log entry 17). -/
def State.ends (before after : State) : Out := .next (State.settle before after)

end Sys2Proof.Machine
end

