-- ==== Sys2Proof/Machine/PdaRows.lean ====
section
/-! DEFINITION. The timed and sensed events of the power distribution array (chapters 01–03), each as one operation. -/

namespace Sys2Proof.Machine

/-! ### The grid point (R36, R123, R148) -/

/-- GRID_POINT: the next TD0 grid point is reached; samples are taken and the checks made. -/
def State.gridPoint (s : State) (x : GridIn) : State :=
  if !s.coreRuns then s
  else
    let g := s.gridDue
    let s := s.untilTd 0 (gridNs g)
    let s := { s with tbu := { s.tbu with grid := g, gridNext := g + 1, gridAt := some s.now } }
    (s.pdaGrid x g (gridNs g)).peSample g

/-! ### Turn-on, desaturation, turn-off (R37–R39) -/

/-- BLANKING_EXPIRY (DEDUCED, log entry 21). -/
def State.blankingExpiry (s : State) (n : Nat) : State :=
  if s.atGrid && s.blankingOut n then s.trip n [fDesat] else s

/-- DESAT. -/
def State.desatTrip (s : State) (n : Nat) : State := if s.prot && (s.chan n).desatDue then s.trip n [fDesat] else s

/-- TURN_OFF_COMPLETE: the gate has fallen below 1 V. The 10 ms of R50 count from the gate's latest fall, also where that was
the fall of a PWM off-edge (DESIGN CHOICE, log entry 117). -/
def State.turnOffComplete (s : State) (n : Nat) : State :=
  let c := s.chan n
  if c.gate == .sink || c.gate == .fast then
    let s := s.setChan n { c with gate := .off, offAt := some s.now, ntr := c.ntr + 1 }
    if c.state = chTurningOff ∧ c.settle.isNone then s.setChState n chOff else s
  else s

/-! ### Ceiling comparator and charge pump (R35, R45, R46) -/

/-- CEILING_TRIP: a shunt voltage of `uv` µV on a channel whose gate is not held off. -/
def State.ceilingTrip (s : State) (n uv : Nat) : State :=
  if (s.chan n).gate == .off ∨ s.pcs.vbat = false then s
  else
    let (t, s) := s.ceilThreshold n
    if t < (uv * 1000 : Nat) then (s.trip n [fShort]).parkTripped n else s

/-- The core die's registers are as before while it does not run. -/
def State.keepRegs (before after : State) : State := if before.coreRuns then after else { after with regs := before.regs }

/-- The supply against which the pump regulates: the highest group supply, a group at 0 V not counting; VBAT where every group
is at 0 V (R35, R537). -/
def pumpRef (x : PumpIn) : Nat :=
  let top := (x.grp.map Prod.snd).foldl max 0
  if top = 0 then x.vbat else top

/-- The pump's output lies below a level above that supply. -/
def pumpBelow (x : PumpIn) (mv : Nat) : Bool := decide (x.cp < pumpRef x + mv)

/-- UV_DEFER: the pump falls below 8 V above the highest group. -/
def State.uvDefer (s : State) (x : PumpIn) : State :=
  if !(pumpBelow x 8000) then s else
  let t := { s with pda := { s.pda with cpLow := true } }
  s.keepRegs ((t.setFlag PDA_CP_STATUS_UV_DEFER true).setFlag PDA_CP_STATUS_CP_OK false)

/-- CP_RECOVER: it rises above that level again, where UV_OFF clears too (DESIGN CHOICE, log entry 104). Deferred turn-ons
follow at the next grid point, or at the next tick of the field die's 10 µs timing where it works alone (DEDUCED, log
entry 104). -/
def State.cpRecover (s : State) (x : PumpIn) : State :=
  if pumpBelow x 8000 then s else
  let t := { s with pda := { s.pda with cpLow := false } }
  let t := s.keepRegs (((t.setFlag PDA_CP_STATUS_UV_DEFER false).setFlag PDA_CP_STATUS_UV_OFF false).setFlag PDA_CP_STATUS_CP_OK true)
  if s.coreRuns then t else (t.until ((s.now / 10000 + 1) * 10000)).each allCh State.pumpResume

/-- CP_UV: 50 µs below 6 V. -/
def State.pumpFails (s : State) (x : PumpIn) : State :=
  if !(pumpBelow x 6000) then s else
  let t := s.keepRegs s.cpUv
  t.each ((t.pcs.parks.filter fun e => e.2.on).map fun e => pkChannel e.2.raw) fun s n =>
    if (s.chan n).driven then s else s.parkTripped n

/-! ### Supply-voltage compensation (R42, R43) -/

/-- DUTY_RECOMPUTE: every 100 µs of TD0, at the grid points whose index is a multiple of 10 (DESIGN CHOICE, log entry 104). -/
def State.dutyRecomputes (s : State) : State :=
  if s.prot && s.atGrid && s.tbu.grid % 10 == 0 then s.each allCh State.dutyRecompute else s

/-- COMP_HOLD_EXPIRY: 10 ms without a usable V_group. -/
def State.compHoldExpiry (s : State) (n : Nat) : State :=
  match (s.chan n).holdSince with
  | none => s
  | some t =>
    if !s.prot ∨ s.get PDA_CHn_PWM_CFG_VNOM n = 0 ∨ (s.chan n).state = chHeld then s
    else
      let s := s.until (t + 10000000)
      s.set PDA_CHn_PWM_APPLIED_DUTY_APPLIED (s.get PDA_CHn_PWM_DUTY_DUTY_SET n) n

/-! ### Diagnoses (R52–R55, R97) -/

/-- OPEN_LOAD_ON. -/
def State.openLoadOn (s : State) (n : Nat) : State := if s.prot && (s.chan n).olonDue then s.setFault n fOpenOn else s

/-- STUCK_ON: the error source reports once for a run of samples. -/
def State.stuckOn (s : State) (n : Nat) : State :=
  let c := s.chan n
  if !s.prot ∨ c.stuck < 3 then s
  else
    let s := s.setFault n fStuck
    if c.stuck = 3 then (s.modChan n fun c => { c with stuck := 4 }).report (0x180 + n) else s

/-- REVERSE: a trip where a back-to-back channel is driven and the core die checks it; in the off-time of a PWM period the
run is only recorded (DESIGN CHOICE, log entry 104). -/
def State.reverseRun (s : State) (n : Nat) : State :=
  let c := s.chan n
  if !s.prot ∨ c.rev < 10 then s
  else
    if s.reverseDue n then s.trip n [fReverse] else s.setFault n fReverse

/-- GROUP_UV_BEGIN. -/
def State.groupUvBegin (s : State) (k : Nat) : State :=
  let g := s.grp k
  if !s.prot ∨ g.uv ∨ !g.runDone then s
  else (s.setGrp k { g with uv := true, run := none }).each (grpChans k) fun s n => s.setFault n fGroupUv

/-- GROUP_UV_END. -/
def State.groupUvEnd (s : State) (k : Nat) : State :=
  let g := s.grp k
  if !s.prot ∨ !g.uv ∨ !g.runDone then s else s.setGrp k { g with uv := false, run := none }

/-- PAUSE_MAX_EXPIRY. -/
def State.pauseMaxExpiry (s : State) (k : Nat) : State :=
  match (s.grp k).event with
  | none => s
  | some (_, _, start) => if s.prot && decide (start + s.pauseMax k ≤ s.tbu.grid) then s.endDroop k true else s

/-! ### Kettle (R100, R319) -/

/-- KETTLE_UPDATE: at the first grid point that is not before a whole millisecond not yet updated (DEDUCED, log entry 24). -/
def State.kettleTick (s : State) : State :=
  let m := s.tbu.grid / 100
  if s.prot && s.atGrid && decide (s.tbu.kettleMs < m) then
    ({ s with tbu := { s.tbu with kettleMs := m } }).kettleUpdate
  else s

/-! ### Hold and limp (R62, R63, R68–R73) -/

/-- T_HOLD_EXPIRY. -/
def State.tHoldExpiry (s : State) (n : Nat) : State :=
  match (s.chan n).holdEnd with
  | none => s
  | some t => if s.pda.lost then (s.until t).takeOrphan n else s

/-- Park slots whose channel limp has taken conduct for the park slot no more (R514). -/
def State.parksUnderLimp (s : State) : State :=
  s.each (s.pcs.parks.filter fun e => e.2.on && (s.chan (pkChannel e.2.raw)).state == chLimp) fun s e =>
    s.setPark e.1 { e.2 with on := false }

/-- LIMP_CHANGE: the filtered LIMP input. -/
def State.limpChange (s : State) (level : Bool) : State :=
  if !s.pcs.vbat then s
  else (({ s with pcs := { s.pcs with limpPin := level } }).each allCh State.limpEval).parksUnderLimp

/-- LH_CHANGE: the filtered LH inputs. -/
def State.lhChange (s : State) (levels : Nat) : State :=
  if !s.pcs.vbat then s
  else (({ s with pcs := { s.pcs with lhPins := levels % 256 } }).each allCh State.limpEval).parksUnderLimp

/-- LIMP_I2T_UPDATE: every 100 µs, for the channels in HELD and LIMP; `est` are their coarse currents, Q16.16 A. -/
def State.limpI2tUpdate (s : State) (est : List (Nat × Int)) : State :=
  if !s.pcs.vbat then s
  else
    let s := s.until (s.pda.limpTick + 100000)
    let s := { s with pda := { s.pda with limpTick := s.now } }
    s.each (allCh.filter fun n => (s.chan n).state == chHeld || (s.chan n).state == chLimp) fun s n =>
      let (c, hit) := limpI2t (s.chan n) (codeOf est n 0)
      let s := s.setChan n c
      if hit then (s.trip n [fLimpI2t]).parkTripped n else s

/-! ### The inter-die link and the trims (R122, R133) -/

/-- LINK_FRAME_ERROR: the channels whose bits were lost. -/
def State.linkFrameError (s : State) (chs : List Nat) : State :=
  if !s.coreRuns then s
  else ({ s with pda := { s.pda with lostBits := (s.pda.lostBits ++ chs.filter (· < 64)).eraseDups } }).report 0x1C0

/-- TRIM_REAPPLY: the factory trims keep every chain within the accuracy of R122, which the codes of a sample already have
(DEDUCED, log entry 22). -/
def State.trimReapply (s : State) : State := s

end Sys2Proof.Machine
end

