-- ==== Sys2Proof/Machine/Wire.lean ====
section
/-! DEFINITION. Events that act on more than one part: frames and links of networks that sleep, wakes, frames at port M, the
partner link's pins, the lifecycle register; and a field of a written word. -/

namespace Sys2Proof.Machine

/-- A written word with one field set (DESIGN CHOICE, log entry 15). -/
def putBits (v : Word) (hi lo x : Nat) : Word := w32 (setBits v.toNat hi lo x)

/-! ### Ethernet ports and their networks (R279, R361–R363) -/

/-- FRAME_RX: a frame is activity on the port's network; a network's port receives nothing from
the commit to sleep on (R362). -/
def State.portRx (s : State) (p : Nat) (b : List Byte) (fcsOk : Bool) (q : Nat) : State :=
  match s.portNet p with
  | none => s.frameRx p b fcsOk q
  | some n =>
    let s := if s.fbcUp then s.netActivity n s.now else s
    if s.netState n = 0 ∨ (s.net n).commit.isSome then s else s.frameRx p b fcsOk q

/-- FRAME_TX_START: no frame starts on a network in PREPARE_SLEEP or BUS_SLEEP. -/
def State.portTx (s : State) (p q : Nat) : State :=
  match s.portNet p with
  | none => s.frameTxStart p q
  | some n => if s.netState n = 0 ∨ s.netState n = 2 then s else s.frameTxStart p q

/-- LINK_STATE_CHANGE: no link comes up on a sleeping network or on a port under test. -/
def State.portLink (s : State) (p : Nat) (up : Bool) : State :=
  let asleep := match s.portNet p with | some n => s.netState n == 0 | none => false
  if up && (asleep || (nfind s.fcu.tests (0x500 + p)).isSome) then s else s.linkChange p up

/-- WAKE_DETECTED: a network's wake, or a wake decision while the device sleeps (R365, R508). -/
def State.netWakes (s : State) (n : Nat) : State :=
  if s.asleep then (if bitOf s.fbc.armed n then s.wakeDecide 5 n else s) else s.wakeDetected n

/-- VCAN_UV: VCAN crosses its threshold; below it, the attempts in progress cannot succeed (R333). -/
def State.vcanChange (s : State) (below : Bool) : State :=
  if ¬ s.pcs.vbat then s
  else
    let s := { s with pcs := { s.pcs with vcanUv := below } }
    if below then s.each (List.range 8) fun s c => s.modCan c fun x => { x with cur := x.cur.map fun t => { t with uv := true } }
    else s

/-! ### Port M and the partner link -/

/-- INGEST_FOREIGN_FRAME: the frame goes to the protection engine, and a copy to the gateway (R157, R370). -/
def State.foreignFrame (s : State) : State :=
  match (s.mTake fun f => f.etype != s.esw.etype).1 with
  | none => s
  | some f => s.ingestForeign.gwEth f

/-! ### Lifecycle (R456) -/

/-- LC_CTRL_WRITE: a write of `SEC_LC_CTRL`; `ok` says that the programmed fuses read back right (DEDUCED, log entry 37). -/
def State.lcWrite (s : State) (a : Init) (v : Word) (ok : Bool) : State :=
  let at_ := SEC_LC_CTRL.addr 0 0
  if !s.coreRuns || s.stalled a then s
  else match s.accessOk a at_ 4 true with
    | (false, s) => s.answer none
    | (true, s) => ((if a.secure then s.writeLcCtrl v ok else s.slotEvent a at_ 1 true).answer (some []))

end Sys2Proof.Machine
end

