-- ==== Sys2Proof/Machine/ExecCc.lean ====
section
/-! DEFINITION. Cores and memories (chapter 12). -/

namespace Sys2Proof.Machine

/-- LOCKSTEP_MISMATCH (R414). -/
def execLockstepMismatch (u : Nat) (s : State) : Out := s.ends (s.lockstepMismatch u)

/-- REGISTER_FOLD (R416). -/
def execRegisterFold (u : Nat) (main : List Byte) (check : List Byte) (s : State) : Out := s.ends (s.registerFold u main check)

/-- HANDOVER (R421). -/
def execHandover (a : Init) (p : Nat) (v : Word) (s : State) : Out :=
  s.ends (s.rowWrite a CC_PAIRp_CTRL (putBits v 0 0 1) p)

/-- HANDOVER_EXECUTE (R421). -/
def execHandoverExecute (p : Nat) (s : State) : Out := s.ends (if p < 7 then s.handoverExecute p else s)

/-- PAIR_RESTART (R422). -/
def execPairRestart (a : Init) (p : Nat) (v : Word) (s : State) : Out :=
  s.ends (s.rowWrite a CC_PAIRp_CTRL (putBits v 1 1 1) p)

/-- CACHE_PARITY_ERROR (R410). -/
def execCacheParityError (u : Nat) (kind : Nat) (addr : Nat) (s : State) : Out := s.ends (s.cacheError u kind addr)

/-- SPARE_MIGRATE (R428). -/
def execSpareMigrate (a : Init) (v : Word) (s : State) : Out := s.ends (s.rowWrite a MS_SPARE_CTRL (putBits v 4 4 1))

/-- SPARE_RETURN (R429). -/
def execSpareReturn (a : Init) (v : Word) (s : State) : Out := s.ends (s.rowWrite a MS_SPARE_CTRL (putBits v 5 5 1))

/-- MIGRATION_DONE (R428). -/
def execMigrationDone (s : State) : Out := s.ends (s.migrationDone)

/-- SCRUB_STEP (R435). -/
def execScrubStep (m : Nat) (addr : Nat) (kind : Option Nat) (s : State) : Out := s.ends (s.scrubStep m addr kind)

/-- MEMORY_ERROR (R436). -/
def execMemoryError (addr : Nat) (init : Nat) (kind : Nat) (s : State) : Out := s.ends (s.memoryError addr init kind)

/-- ERR_INFO_READ (R437). -/
def execErrInfoRead (a : Init) (s : State) : Out := s.ends (s.rowRead a MS_ERR_INFO)

/-- MACHINE_TIMER_COMPARE (R405). -/
def execMachineTimerCompare (h : Nat) (s : State) : Out := s.ends (s.timerCompare h)

end Sys2Proof.Machine
end

