-- ==== Sys2Proof/Machine/ExecCmd.lean ====
section
/-! DEFINITION. The commands of the command service (chapters 01–07, 09–11, 13, 14): a descriptor handed over by its issuer. -/

namespace Sys2Proof.Machine

/-- CH_SET (R76). -/
def execChSet (r : Req) (s : State) : Out := s.ends (s.request 0x0101 r)

/-- CH_PWM_CONFIG (R76). -/
def execChPwmConfig (r : Req) (s : State) : Out := s.ends (s.request 0x0102 r)

/-- CH_CLEAR_LATCH (R116). -/
def execChClearLatch (r : Req) (s : State) : Out := s.ends (s.request 0x0103 r)

/-- CH_DIAG_READ (R78). -/
def execChDiagRead (r : Req) (s : State) : Out := s.ends (s.request 0x0104 r)

/-- CH_ASSIGN_PROFILE (R87). -/
def execChAssignProfile (r : Req) (s : State) : Out := s.ends (s.request 0x0105 r)

/-- CH_SENSEOUT_SELECT (R76). -/
def execChSenseoutSelect (r : Req) (s : State) : Out := s.ends (s.request 0x0106 r)

/-- PROFILE_WRITE (R119). -/
def execProfileWrite (r : Req) (s : State) : Out := s.ends (s.request 0x0201 r)

/-- PROFILE_READ (R119). -/
def execProfileRead (r : Req) (s : State) : Out := s.ends (s.request 0x0202 r)

/-- MEAS_STREAM_OPEN (R139). -/
def execMeasStreamOpen (r : Req) (s : State) : Out := s.ends (s.request 0x0301 r)

/-- MEAS_READ (R138). -/
def execMeasRead (r : Req) (s : State) : Out := s.ends (s.request 0x0302 r)

/-- MEAS_CALIBRATE (R134). -/
def execMeasCalibrate (r : Req) (s : State) : Out := s.ends (s.request 0x0303 r)

/-- MEAS_STREAM_CLOSE (R144). -/
def execMeasStreamClose (r : Req) (s : State) : Out := s.ends (s.request 0x0304 r)

/-- ELEM_CREATE (R183). -/
def execElemCreate (r : Req) (s : State) : Out := s.ends (s.request 0x0401 r)

/-- ELEM_PARAM (R184). -/
def execElemParam (r : Req) (s : State) : Out := s.ends (s.request 0x0402 r)

/-- ELEM_DELETE (R184). -/
def execElemDelete (r : Req) (s : State) : Out := s.ends (s.request 0x0403 r)

/-- ELEM_STATUS (R184). -/
def execElemStatus (r : Req) (s : State) : Out := s.ends (s.request 0x0404 r)

/-- PLACEMENT_READ (R186). -/
def execPlacementRead (r : Req) (s : State) : Out := s.ends (s.request 0x0405 r)

/-- TRIP_RESET (R178). -/
def execTripReset (r : Req) (s : State) : Out := s.ends (s.request 0x0406 r)

/-- INGEST_OPEN (R185). -/
def execIngestOpen (r : Req) (s : State) : Out := s.ends (s.request 0x0407 r)

/-- INGEST_CLOSE (R184). -/
def execIngestClose (r : Req) (s : State) : Out := s.ends (s.request 0x0408 r)

/-- PLACEMENT_REBALANCE (R184). -/
def execPlacementRebalance (r : Req) (s : State) : Out := s.ends (s.request 0x0409 r)

/-- ELEM_LOAD (R216). -/
def execElemLoad (r : Req) (s : State) : Out := s.ends (s.request 0x040A r)

/-- SIGNAL_DEFINE (R383). -/
def execSignalDefine (r : Req) (s : State) : Out := s.ends (s.request 0x0501 r)

/-- ROUTE_CREATE (R384). -/
def execRouteCreate (r : Req) (s : State) : Out := s.ends (s.request 0x0502 r)

/-- ROUTE_DELETE (R384). -/
def execRouteDelete (r : Req) (s : State) : Out := s.ends (s.request 0x0503 r)

/-- ROUTE_STATUS (R384). -/
def execRouteStatus (r : Req) (s : State) : Out := s.ends (s.request 0x0504 r)

/-- NM_NEED (R366). -/
def execNmNeed (r : Req) (s : State) : Out := s.ends (s.request 0x0601 r)

/-- NM_RELEASE (R366). -/
def execNmRelease (r : Req) (s : State) : Out := s.ends (s.request 0x0602 r)

/-- NM_STATUS (R366). -/
def execNmStatus (r : Req) (s : State) : Out := s.ends (s.request 0x0603 r)

/-- MODE_SELECT (R267). -/
def execModeSelect (r : Req) (s : State) : Out := s.ends (s.request 0x0701 r)

/-- IMAGE_STAGE (R273). -/
def execImageStage (r : Req) (s : State) : Out := s.ends (s.request 0x0702 r)

/-- IMAGE_COMMIT (R274). -/
def execImageCommit (r : Req) (s : State) : Out := s.ends (s.request 0x0703 r)

/-- MODE_READ (R277). -/
def execModeRead (r : Req) (s : State) : Out := s.ends (s.request 0x0704 r)

/-- TEST_RUN (R488). -/
def execTestRun (r : Req) (s : State) : Out := s.ends (s.request 0x0801 r)

/-- TEST_RESULT (R488). -/
def execTestResult (r : Req) (s : State) : Out := s.ends (s.request 0x0802 r)

/-- TIME_READ (R328). -/
def execTimeRead (r : Req) (s : State) : Out := s.ends (s.request 0x0901 r)

/-- ATTEST (R458). -/
def execAttest (r : Req) (s : State) : Out := s.ends (s.request 0x0A01 r)

/-- KEY_USE (R463). -/
def execKeyUse (r : Req) (s : State) : Out := s.ends (s.request 0x0A02 r)

/-- FN_QUIESCE (R250). -/
def execFnQuiesce (r : Req) (s : State) : Out := s.ends (s.request 0x0F01 r)

/-- FN_RESUME (R251). -/
def execFnResume (r : Req) (s : State) : Out := s.ends (s.request 0x0F02 r)

/-- OWNERSHIP_SET (R246). -/
def execOwnershipSet (r : Req) (s : State) : Out := s.ends (s.request 0x0F03 r)

/-- VF_ENABLE (R249). -/
def execVfEnable (r : Req) (s : State) : Out := s.ends (s.request 0x0F04 r)

/-- VF_DISABLE (R253). -/
def execVfDisable (r : Req) (s : State) : Out := s.ends (s.request 0x0F05 r)

end Sys2Proof.Machine
end

