-- ==== Sys2Proof/Machine/ExecDbg.lean ====
section
/-! DEFINITION. Debug, samplers, and writes of registers without behaviour of their own (chapters 00, 16). -/

namespace Sys2Proof.Machine

/-- HALT_REQUEST (R521). -/
def execHaltRequest (h : Nat) (s : State) : Out := s.ends (s.haltRequest h)

/-- HALT_EFFECT (R524). -/
def execHaltEffect (h : Nat) (s : State) : Out := s.ends (s.haltEffect h)

/-- RESUME_REQUEST (R520). -/
def execResumeRequest (h : Nat) (s : State) : Out := s.ends (s.resumeRequest h)

/-- ABSTRACT_COMMAND (R520). -/
def execAbstractCommand (h : Nat) (mem : Bool) (at_ : Nat) (write : Bool) (size : Nat) (v : Nat) (s : State)
    (post : Bool := false) : Out :=
  s.ends (s.abstractCommand h mem at_ write size v post)

/-- SYSTEM_BUS_ACCESS (R521). -/
def execSystemBusAccess (write : Bool) (addr : Nat) (size : Nat) (v : Nat) (s : State) : Out :=
  s.ends (s.systemBus write addr size v)

/-- NDMRESET (R522). -/
def execNdmreset (s : State) : Out := s.ends (s.ndmReset)

/-- HARTRESET (R522). -/
def execHartreset (h : Nat) (s : State) : Out := s.ends (s.hartResetOf h)

/-- DEBUG_TRIGGER (R521). -/
def execDebugTrigger (h : Nat) (dmode : Bool) (s : State) : Out := s.ends (s.debugTrigger h dmode)

/-- TAP_RESET (R518). -/
def execTapReset (s : State) : Out := s.ends (s.tapReset)

/-- LOADER_SHIFT (R526). -/
def execLoaderShift (w : Word) (s : State) : Out := s.ends (s.loaderShift w)

/-- LOADER_IMAGE_DONE (R526). -/
def execLoaderImageDone (s : State) : Out := s.ends (s.loaderDone)

/-- SAMPLER_SAMPLE (R531). -/
def execSamplerSample (k : Nat) (pc : Nat) (mode : Nat) (s : State) : Out := s.ends (s.samplerSample k pc mode)

/-- SMP_INFO_READ (R531). -/
def execSmpInfoRead (a : Init) (s : State) : Out := s.ends (s.rowRead a DBG_SMP_INFO)

/-- REGISTER_WRITE (R15). -/
def execRegisterWrite (a : Init) (addr : Nat) (v : Word) (s : State) : Out :=
  s.ends (s.answerWrite a addr (leBytes 4 v.toNat))

end Sys2Proof.Machine
end

