-- ==== Sys2Proof/Machine/ExecEsw.lean ====
section
/-! DEFINITION. The Ethernet switch: frames, links, gates, guest queues, counters (chapter 08). -/

namespace Sys2Proof.Machine

/-- FRAME_RX (R284). -/
def execFrameRx (p : Nat) (b : List Byte) (fcsOk : Bool) (q : Nat) (s : State) : Out := s.ends (s.portRx p b fcsOk q)

/-- FRAME_TX_START (R289). -/
def execFrameTxStart (p : Nat) (q : Nat) (s : State) : Out := s.ends (s.portTx p q)

/-- LINK_STATE_CHANGE (R279). -/
def execLinkStateChange (p : Nat) (up : Bool) (s : State) : Out := s.ends (s.portLink p up)

/-- PLCA_FALLBACK (R281). -/
def execPlcaFallback (p : Nat) (s : State) : Out := s.ends (s.plcaFallback p)

/-- BEACON_RX (R281). -/
def execBeaconRx (p : Nat) (s : State) : Out := s.ends (s.beaconRx p)

/-- GATE_ENTRY_EXPIRY (R288). -/
def execGateEntryExpiry (p : Nat) (s : State) : Out := s.ends (s.gateExpiry p)

/-- GATE_LIST_SWITCH (R290). -/
def execGateListSwitch (p : Nat) (s : State) : Out := s.ends (s.gateSwitch p)

/-- ADDRESS_AGE_OUT (R284). -/
def execAddressAgeOut (vid : Nat) (mac : Nat) (s : State) : Out := s.ends (s.ageOut vid mac)

/-- FRER_RESET_TIMEOUT (R295). -/
def execFrerResetTimeout (h : Nat) (s : State) : Out := s.ends (s.frerTimeout h)

/-- DEV_ETYPE_WRITE (R298). -/
def execDevEtypeWrite (a : Init) (v : Word) (s : State) : Out := s.ends (s.rowWrite a ESW_DEV_ETYPE v)

/-- DEV_ETYPE_EFFECT (R298). -/
def execDevEtypeEffect (s : State) : Out := s.ends (s.etypeEffect)

/-- SF_BLOCKED_CLEAR (R294). -/
def execSfBlockedClear (a : Init) (w : Nat) (v : Word) (s : State) : Out := s.ends (s.rowWrite a ESW_SF_BLOCKEDw v w)

/-- QUEUE_CFG_WRITE (R299). -/
def execQueueCfgWrite (a : Init) (fn : Nat) (q : Nat) (v : Word) (s : State) : Out :=
  s.ends (s.rowWrite a ESW_Qq_CFG v fn q)

/-- QUEUE_TX_TAIL (R300). -/
def execQueueTxTail (a : Init) (fn : Nat) (q : Nat) (v : Word) (s : State) : Out :=
  s.ends (s.rowWrite a ESW_Qq_TX_TAIL v fn q)

/-- QUEUE_RX_TAIL (R300). -/
def execQueueRxTail (a : Init) (fn : Nat) (q : Nat) (v : Word) (s : State) : Out :=
  s.ends (s.rowWrite a ESW_Qq_RX_TAIL v fn q)

/-- QUEUE_TX_DESCRIPTOR (R301). -/
def execQueueTxDescriptor (q : Nat) (s : State) : Out := s.ends (s.queueTx q)

/-- QUEUE_INTERRUPT (R303). -/
def execQueueInterrupt (q : Nat) (s : State) : Out := s.ends (s.queueIrq q)

/-- PORT_COUNTER_READ (R305). -/
def execPortCounterRead (a : Init) (p : Nat) (c : Nat) (s : State) : Out := s.ends (s.rowRead a ESW_PORTp_CNTc_LO p c)

end Sys2Proof.Machine
end

