-- ==== Sys2Proof/Machine/ExecFbc.lean ====
section
/-! DEFINITION. CAN, LIN and network sleep (chapter 10). -/

namespace Sys2Proof.Machine

/-- CAN_TXREQ_WRITE (R337). -/
def execCanTxreqWrite (a : Init) (c : Nat) (w : Nat) (v : Word) (s : State) : Out :=
  s.ends (if w = 0 then s.rowWrite a FBC_CANc_TXREQ_LO v c else if w = 1 then s.rowWrite a FBC_CANc_TXREQ_HI v c else s)

/-- CAN_TXABORT_WRITE (R340). -/
def execCanTxabortWrite (a : Init) (c : Nat) (w : Nat) (v : Word) (s : State) : Out :=
  s.ends (if w = 0 then s.rowWrite a FBC_CANc_TXABORT_LO v c else if w = 1 then s.rowWrite a FBC_CANc_TXABORT_HI v c else s)

/-- CAN_RECOVER_WRITE (R346). -/
def execCanRecoverWrite (a : Init) (c : Nat) (v : Word) (s : State) : Out :=
  s.ends (s.rowWrite a FBC_CANc_CTRL (putBits v 0 0 1) c)

/-- RXF_RIDX_WRITE (R351). -/
def execRxfRidxWrite (a : Init) (c : Nat) (v : Word) (s : State) : Out := s.ends (s.rowWrite a FBC_CANc_RXF_RIDX v c)

/-- CAN_ARBITRATION (R338). -/
def execCanArbitration (c : Nat) (s : State) : Out := s.ends (if c < 8 then s.canArbitrate c else s)

/-- CAN_ATTEMPT_END (R341). -/
def execCanAttemptEnd (c : Nat) (e : CanEnd) (s : State) : Out := s.ends (if c < 8 then s.canAttemptEnd c e else s)

/-- VALIDITY_EXPIRY (R340). -/
def execValidityExpiry (c : Nat) (b : Nat) (s : State) : Out := s.ends (if c < 8 then s.validityExpiry c b else s)

/-- BUS_OFF_END (R346). -/
def execBusOffEnd (c : Nat) (s : State) : Out := s.ends (if c < 8 then s.busOffEnd c else s)

/-- SCHED_MISS (R343). -/
def execSchedMiss (c : Nat) (s : State) : Out := s.ends (if c < 8 then s.schedMiss c else s)

/-- CAN_FRAME_RX (R348). -/
def execCanFrameRx (c : Nat) (f : CanRx) (s : State) : Out := s.ends (if c < 8 then s.canFrameRx c f else s)

/-- LIN_HEADER_SLOT (R353). -/
def execLinHeaderSlot (l : Nat) (s : State) : Out := s.ends (if l < 4 then s.linSlot l else s)

/-- LIN_RESPONSE (R352). -/
def execLinResponse (l : Nat) (id : Nat) (st : Nat) (data : List Byte) (ago : Nat) (s : State) : Out :=
  s.ends (if l < 4 then s.linResponse l id st data ago else s)

/-- LIN_GO_TO_SLEEP (R361). -/
def execLinGoToSleep (l : Nat) (s : State) : Out := s.ends (if l < 4 then s.linGoToSleep l else s)

/-- LIN_BUS_IDLE_TIMEOUT (R361). -/
def execLinBusIdleTimeout (l : Nat) (s : State) : Out := s.ends (if l < 4 then s.linIdle l else s)

/-- BELLWETHER_DUE (R356). -/
def execBellwetherDue (n : Nat) (s : State) : Out := s.ends (if n < 16 then s.bellDue n else s)

/-- BELLWETHER_RX (R359). -/
def execBellwetherRx (s : State) : Out := s.ends (s.bellRx)

/-- IDLE_TIMER_EXPIRY (R361). -/
def execIdleTimerExpiry (n : Nat) (s : State) : Out := s.ends (if n < 16 then s.idleExpiry n else s)

/-- T_PREP_EXPIRY (R362). -/
def execTPrepExpiry (n : Nat) (s : State) : Out := s.ends (if n < 16 then s.tPrepExpiry n else s)

/-- BUS_RELEASE (R362). -/
def execBusRelease (n : Nat) (s : State) : Out := s.ends (if n < 16 then s.busRelease n else s)

/-- WAKE_DETECTED (R365). -/
def execWakeDetected (n : Nat) (s : State) : Out := s.ends (if n < 16 then s.netWakes n else s)

/-- TRANSCEIVER_REFRESH (R364). -/
def execTransceiverRefresh (s : State) : Out := s.ends (s.xcvrRefresh)

/-- TRANSCEIVER_FAILSAFE (R364). -/
def execTransceiverFailsafe (x : Nat) (s : State) : Out := s.ends (s.xcvrFailsafe x)

/-- VCAN_UV (R333). -/
def execVcanUv (below : Bool) (s : State) : Out := s.ends (s.vcanChange below)

/-- SCHEDULE_COLUMN_START (R343). -/
def execScheduleColumnStart (c : Nat) (s : State) : Out := s.ends (if c < 8 then s.columnStart c else s)

/-- CAN_BUS_JOIN (R365). -/
def execCanBusJoin (c : Nat) (s : State) : Out := s.ends (if c < 8 then s.canJoin c else s)

end Sys2Proof.Machine
end

