-- ==== Sys2Proof/Machine/ExecFcu.lean ====
section
/-! DEFINITION. The fault collector (chapter 14). -/

namespace Sys2Proof.Machine

/-- FCU_ERROR_EVENT (R472). -/
def execFcuErrorEvent (i : Nat) (s : State) : Out := s.ends (s.errorEvent i)

/-- BROKEN_PAIR (R471). -/
def execBrokenPair (i : Nat) (s : State) : Out := s.ends (s.brokenPair i)

/-- SRC_CFG_WRITE (R474). -/
def execSrcCfgWrite (a : Init) (i : Nat) (v : Word) (s : State) : Out := s.ends (s.rowWrite a FCU_SRCi_CFG v i)

/-- SRC_STATE_CLEAR (R481). -/
def execSrcStateClear (a : Init) (i : Nat) (v : Word) (s : State) : Out := s.ends (s.rowWrite a FCU_SRCi_STATE v i)

/-- PEN_RELEASE (R477). -/
def execPenRelease (a : Init) (n : Nat) (v : Word) (s : State) : Out :=
  s.ends (s.rowWrite a FCU_PENn_CTRL (putBits v 0 0 1) n)

/-- FATAL_SRC_CLEAR (R485). -/
def execFatalSrcClear (a : Init) (v : Word) (s : State) : Out := s.ends (s.rowWrite a FCU_FATAL_SRC (putBits v 31 31 1))

/-- FATAL_REBOOT (R485). -/
def execFatalReboot (pins : Nat) (testen : Bool) (rails : Nat) (s : State) : Out := s.ends (s.fatalReboot pins testen rails)

/-- ERRN_PULSE_END (R483). -/
def execErrnPulseEnd (s : State) : Out := s.ends (s.errnPulseEnd)

/-- LOG_INFO_READ (R490). -/
def execLogInfoRead (a : Init) (s : State) : Out := s.ends (s.rowRead a FCU_LOG_INFO)

/-- SVP_RESUME (R480). -/
def execSvpResume (s : State) : Out := s.ends (s.svpResume)

/-- ERROR_SOURCE_IDLE (R481). -/
def execErrorSourceIdle (i : Nat) (s : State) : Out := s.ends (s.sourceIdle i)

end Sys2Proof.Machine
end

