-- ==== Sys2Proof/Machine/ExecPcs.lean ====
section
/-! DEFINITION. Power states, resets, boot, sleep, Sheepdog (chapter 15). -/

namespace Sys2Proof.Machine

/-- POWER_ON (R493). -/
def execPowerOn (s : State) : Out := s.ends (s.powerOn)

/-- VBAT_LOSS (R493). -/
def execVbatLoss (s : State) : Out := s.ends (s.vbatLoss)

/-- PIN_RESET (R496). -/
def execPinReset (s : State) : Out := s.ends (s.pinReset)

/-- SOFTWARE_RESET (R501). -/
def execSoftwareReset (a : Init) (v : Word) (s : State) : Out := s.ends (s.rowWrite a PCS_RESET_CTRL (putBits v 0 0 1))

/-- CORE_RESET_RELEASE (R495). -/
def execCoreResetRelease (pins : Nat) (testen : Bool) (rails : Nat) (s : State) : Out :=
  s.ends (s.coreRelease pins testen rails)

/-- PROTECTION_ACTIVE (R504). -/
def execProtectionActive (s : State) : Out := s.ends (s.protectionActive)

/-- END_OF_BOOT (R505). -/
def execEndOfBoot (s : State) : Out := s.ends (s.endOfBoot)

/-- PREPARE_SLEEP (R506). -/
def execPrepareSleep (s : State) : Out := s.ends (s.prepareSleep)

/-- SLEEP_ABORT (R506). -/
def execSleepAbort (s : State) : Out := s.ends (s.sleepAbort)

/-- SLEEP_COMMIT (R507). -/
def execSleepCommit (s : State) : Out := s.ends (s.sleepCommit)

/-- INH_FALL (R507). -/
def execInhFall (s : State) : Out := s.ends (s.inhFalls)

/-- INH_RISE (R508). -/
def execInhRise (s : State) : Out := s.ends (s.inhRises)

/-- SHEEPDOG_CYCLE (R509). -/
def execSheepdogCycle (x : SdIn) (s : State) : Out := s.ends (s.sdCycle x)

/-- WK_STATIC_EDGE (R511). -/
def execWkStaticEdge (r : Nat) (up : Bool) (s : State) : Out := s.ends (s.wkEdge r up)

/-- HARTS_RELEASED (R503). -/
def execHartsReleased (s : State) : Out := s.ends (s.hartsReleased)

end Sys2Proof.Machine
end

