-- ==== Sys2Proof/Machine/ExecPda.lean ====
section
/-! DEFINITION. The power distribution array: channel registers, grid points, trips, PWM, diagnoses, estimators, hold and limp (chapters 01–03). -/

namespace Sys2Proof.Machine

/-- CH_CTRL_REQ_WRITE (R36). -/
def execChCtrlReqWrite (a : Init) (n : Nat) (v : Word) (s : State) : Out := s.ends (s.rowWrite a PDA_CHn_CTRL v n)

/-- CH_FAULT_CLEAR (R57). -/
def execChFaultClear (a : Init) (n : Nat) (v : Word) (s : State) : Out := s.ends (s.rowWrite a PDA_CHn_FAULT v n)

/-- CHANNEL_REQUEST_EFFECT (R36). -/
def execChannelRequestEffect (n : Nat) (s : State) : Out := s.ends (if n < 64 then s.requestDue n else s)

/-- GRID_POINT (R123). -/
def execGridPoint (x : GridIn) (s : State) : Out := s.ends (s.gridPoint x)

/-- BLANKING_EXPIRY (R37). -/
def execBlankingExpiry (n : Nat) (s : State) : Out := s.ends (if n < 64 then s.blankingExpiry n else s)

/-- DESAT (R38). -/
def execDesat (n : Nat) (s : State) : Out := s.ends (if n < 64 then s.desatTrip n else s)

/-- TURN_OFF_COMPLETE (R39). -/
def execTurnOffComplete (n : Nat) (s : State) : Out := s.ends (if n < 64 then s.turnOffComplete n else s)

/-- CEILING_TRIP (R46). -/
def execCeilingTrip (n : Nat) (uv : Nat) (s : State) : Out := s.ends (if n < 64 then s.ceilingTrip n uv else s)

/-- UV_DEFER (R35). -/
def execUvDefer (s : State) (x : PumpIn := {}) : Out := s.ends (s.uvDefer x)

/-- CP_RECOVER (R35). -/
def execCpRecover (s : State) (x : PumpIn := { cp := 8000 }) : Out := s.ends (s.cpRecover x)

/-- CP_UV (R35). -/
def execCpUv (s : State) (x : PumpIn := {}) : Out := s.ends (s.pumpFails x)

/-- PWM_PERIOD_START (R40). -/
def execPwmPeriodStart (n : Nat) (s : State) : Out := s.ends (if n < 64 then s.pwmPeriodStart n else s)

/-- PWM_OFF_EDGE (R40). -/
def execPwmOffEdge (n : Nat) (s : State) : Out := s.ends (if n < 64 then s.pwmOff n else s)

/-- DUTY_RECOMPUTE (R42). -/
def execDutyRecompute (s : State) : Out := s.ends (s.dutyRecomputes)

/-- COMP_HOLD_EXPIRY (R43). -/
def execCompHoldExpiry (n : Nat) (s : State) : Out := s.ends (if n < 64 then s.compHoldExpiry n else s)

/-- OFF_STATE_TEST_START (R48). -/
def execOffStateTestStart (n : Nat) (vout : Int) (vgrp : Int) (s : State) : Out :=
  s.ends (if n < 64 then s.offTestStart n vout vgrp else s)

/-- OFF_STATE_TEST_SAMPLE (R48). -/
def execOffStateTestSample (n : Nat) (vout : Int) (s : State) : Out :=
  s.ends (if n < 64 then s.offTestSample n vout else s)

/-- OPEN_LOAD_ON (R52). -/
def execOpenLoadOn (n : Nat) (s : State) : Out := s.ends (if n < 64 then s.openLoadOn n else s)

/-- STUCK_ON (R53). -/
def execStuckOn (n : Nat) (s : State) : Out := s.ends (if n < 64 then s.stuckOn n else s)

/-- REVERSE (R54). -/
def execReverse (n : Nat) (s : State) : Out := s.ends (if n < 64 then s.reverseRun n else s)

/-- GROUP_UV_BEGIN (R55). -/
def execGroupUvBegin (k : Nat) (s : State) : Out := s.ends (if k < 8 then s.groupUvBegin k else s)

/-- GROUP_UV_END (R55). -/
def execGroupUvEnd (k : Nat) (s : State) : Out := s.ends (if k < 8 then s.groupUvEnd k else s)

/-- PAUSE_MAX_EXPIRY (R97). -/
def execPauseMaxExpiry (k : Nat) (s : State) : Out := s.ends (if k < 8 then s.pauseMaxExpiry k else s)

/-- CHANNEL_RESTART (R114). -/
def execChannelRestart (n : Nat) (s : State) : Out := s.ends (if n < 64 then s.channelRestart n else s)

/-- BUDGET_REFILL (R117). -/
def execBudgetRefill (n : Nat) (s : State) : Out := s.ends (if n < 64 then s.budgetRefill n else s)

/-- KETTLE_UPDATE (R100). -/
def execKettleUpdate (s : State) : Out := s.ends (s.kettleTick)

/-- CORE_DIE_LOST (R61). -/
def execCoreDieLost (supply : Bool) (s : State) : Out := s.ends (s.coreDieLost supply)

/-- T_HOLD_EXPIRY (R63). -/
def execTHoldExpiry (n : Nat) (s : State) : Out := s.ends (if n < 64 then s.tHoldExpiry n else s)

/-- LIMP_CHANGE (R69). -/
def execLimpChange (level : Bool) (s : State) : Out := s.ends (s.limpChange level)

/-- LH_CHANGE (R69). -/
def execLhChange (levels : Nat) (s : State) : Out := s.ends (s.lhChange levels)

/-- LIMP_RELEASE (R73). -/
def execLimpRelease (n : Nat) (s : State) : Out := s.ends (if n < 64 then s.limpReleases n else s)

/-- LIMP_I2T_UPDATE (R71). -/
def execLimpI2tUpdate (est : List (Nat × Int)) (s : State) : Out := s.ends (s.limpI2tUpdate est)

/-- LIMP_PWM_EDGE (R69). -/
def execLimpPwmEdge (n : Nat) (s : State) : Out := s.ends (if n < 64 then s.limpEdge n else s)

/-- STREAM_PUBLISH (R141). -/
def execStreamPublish (h : Nat) (s : State) : Out := s.ends (s.streamPublish h)

/-- OFFSET_CALIBRATION_DONE (R134). -/
def execOffsetCalibrationDone (sid : Nat) (ofs : Int) (s : State) : Out := s.ends (s.calDone sid ofs)

/-- LINK_FRAME_ERROR (R133). -/
def execLinkFrameError (chs : List Nat) (s : State) : Out := s.ends (s.linkFrameError chs)

/-- TRIM_REAPPLY (R122). -/
def execTrimReapply (s : State) : Out := s.ends (s.trimReapply)

end Sys2Proof.Machine
end

