-- ==== Sys2Proof/Machine/ExecPe.lean ====
section
/-! DEFINITION. The protection engine: fast ticks, ingest, placement, bulletins (chapters 04, 05). -/

namespace Sys2Proof.Machine

/-- FAST_TICK (R148). -/
def execFastTick (s : State) : Out := s.ends (s.fastTick)

/-- USER_ELEMENT_DISABLED (R151). -/
def execUserElementDisabled (h : Nat) (s : State) : Out := s.ends (s.userDisabled h)

/-- INGEST_NATIVE_FRAME (R155). -/
def execIngestNativeFrame (s : State) : Out := s.ends (s.ingestNative)

/-- INGEST_FOREIGN_FRAME (R157). -/
def execIngestForeignFrame (s : State) : Out := s.ends (s.foreignFrame)

/-- INGEST_STALE (R164). -/
def execIngestStale (h : Nat) (s : State) : Out := s.ends (s.ingestStale h)

/-- REFLOW_DONE (R172). -/
def execReflowDone (s : State) : Out := s.ends (s.reflowDone)

/-- PAIR_RETURN_TO_SERVICE (R173). -/
def execPairReturnToService (p : Nat) (s : State) : Out := s.ends (s.pairReturns p)

/-- BULLETIN_FRAME_DUE (R181). -/
def execBulletinFrameDue (b : Nat) (s : State) : Out := s.ends (s.bulletinDue b)

/-- BULLETIN_FRAME_RX (R182). -/
def execBulletinFrameRx (s : State) : Out := s.ends (s.bulletinRx)

/-- SUBSCRIPTION_STALE (R182). -/
def execSubscriptionStale (j : Nat) (s : State) : Out := s.ends (s.subStale j)

end Sys2Proof.Machine
end

