-- ==== Sys2Proof/Machine/ExecPlb.lean ====
section
/-! DEFINITION. The partner link bridge (chapter 11). -/

namespace Sys2Proof.Machine

/-- OUTBOUND_WRITE (R391). -/
def execOutboundWrite (a : Init) (addr : Nat) (d : List Byte) (s : State) : Out := s.ends (s.outboundWrite a addr d)

/-- SPLIT_READ (R392). -/
def execSplitRead (a : Init) (addr : Nat) (n : Nat) (s : State) : Out := s.ends (s.splitRead a addr n)

/-- HELD_READ (R393). -/
def execHeldRead (a : Init) (addr : Nat) (n : Nat) (s : State) : Out := s.ends (s.heldRead a addr n)

/-- READ_COMPLETION_RX (R392). -/
def execReadCompletionRx (t : Nat) (d : Option (List Byte)) (s : State) : Out := s.ends (s.readCompletion t d)

/-- CPL_TO (R392). -/
def execCplTo (t : Nat) (s : State) : Out := s.ends (s.cplTimeout t)

/-- HELD_READ_TIMEOUT (R393). -/
def execHeldReadTimeout (i : Nat) (s : State) : Out := s.ends (s.heldTimeout i)

/-- INBOUND_REQUEST (R394). -/
def execInboundRequest (bar : Nat) (w : Bool) (addr : Nat) (n : Nat) (d : List Byte) (s : State) : Out :=
  s.ends (s.inboundRequest bar w addr n d)

/-- PLB_LINK_CHANGE (R398). -/
def execPlbLinkChange (up : Bool) (speed : Nat) (width : Nat) (s : State) : Out := s.ends (s.plbLinkChange up speed width)

/-- PERST_N_LINK_RESET (R387). -/
def execPerstNLinkReset (s : State) : Out := s.ends (s.perstReset)

/-- PREFETCH_AGE_EXPIRY (R396). -/
def execPrefetchAgeExpiry (k : Nat) (s : State) : Out := s.ends (s.pfExpiry k)

/-- DISC_INFO_READ (R397). -/
def execDiscInfoRead (a : Init) (s : State) : Out := s.ends (s.rowRead a PLB_DISC_INFO)

/-- HEARTBEAT_SEND (R399). -/
def execHeartbeatSend (s : State) : Out := s.ends (s.hbSend)

/-- HEARTBEAT_RX (R399). -/
def execHeartbeatRx (d : List Byte) (s : State) : Out := s.ends (s.hbRx d)

/-- PEER_LOST (R399). -/
def execPeerLost (s : State) : Out := s.ends (s.peerLost)

/-- MSIX_SEND (R388). -/
def execMsixSend (a : Init) (v : Word) (s : State) : Out := s.ends (s.rowWrite a PLB_MSIX_SEND v)

end Sys2Proof.Machine
end

