-- ==== Sys2Proof/Machine/ExecSec.lean ====
section
/-! DEFINITION. Gatekeepers, islands, lifecycle, OTP, keys, secure calls, random numbers, debug tokens (chapter 13). -/

namespace Sys2Proof.Machine

/-- GATEKEEPER_REGION_WRITE (R445). -/
def execGatekeeperRegionWrite (a : Init) (g : Nat) (r : Nat) (w : Nat) (v : Word) (s : State) : Out :=
  s.ends (if g < 22 ∧ r < gkRegions g ∧ w < 8 then s.answerWrite a (SEC_GKg_REGr_BASE.addr g r + 4 * w) (leBytes 4 v.toNat) else s)

/-- GK_INFO_READ (R447). -/
def execGkInfoRead (a : Init) (s : State) : Out := s.ends (s.rowRead a SEC_GK_INFO)

/-- ISLAND_VOTE_WRITE (R448). -/
def execIslandVoteWrite (a : Init) (i : Nat) (v : Word) (s : State) : Out := s.ends (s.rowWrite a PCS_ISLi_VOTE v i)

/-- ISLAND_RETURN (R499). -/
def execIslandReturn (i : Nat) (s : State) : Out := s.ends (s.islandReturn i)

/-- LC_CTRL_WRITE (R456). -/
def execLcCtrlWrite (a : Init) (v : Word) (ok : Bool) (s : State) : Out := s.ends (s.lcWrite a v ok)

/-- OTP_READ (R454). -/
def execOtpRead (a : Init) (v : Word) (s : State) : Out := s.ends (s.rowWrite a SEC_OTP_CTRL (putBits v 9 8 1))

/-- OTP_PROGRAM (R454). -/
def execOtpProgram (a : Init) (v : Word) (s : State) : Out := s.ends (s.rowWrite a SEC_OTP_CTRL (putBits v 9 8 2))

/-- KEY_LOAD (R462). -/
def execKeyLoad (a : Init) (v : Word) (s : State) : Out := s.ends (s.rowWrite a SEC_KEY_CTRL (putBits v 9 8 1))

/-- KEY_DERIVE (R462). -/
def execKeyDerive (a : Init) (v : Word) (s : State) : Out := s.ends (s.rowWrite a SEC_KEY_CTRL (putBits v 9 8 2))

/-- KEY_CLEAR (R462). -/
def execKeyClear (a : Init) (v : Word) (s : State) : Out := s.ends (s.rowWrite a SEC_KEY_CTRL (putBits v 9 8 3))

/-- JOB_GO (R464). -/
def execJobGo (a : Init) (v : Word) (s : State) : Out := s.ends (s.rowWrite a SEC_JOB_CTRL (putBits v 0 0 1))

/-- JOB_DONE (R464). -/
def execJobDone (s : State) : Out := s.ends (s.jobDone)

/-- CALL_ANSWER (R459). -/
def execCallAnswer (a : Init) (v : Word) (s : State) : Out := s.ends (s.rowWrite a SEC_CALL_ANSw v 3)

/-- CALL_TIMEOUT (R460). -/
def execCallTimeout (s : State) : Out := s.ends (s.callTimeout)

/-- RNG_HEALTH_FAIL (R465). -/
def execRngHealthFail (s : State) : Out := s.ends (s.rngHealthFail)

/-- RNG_DATA_READ (R465). -/
def execRngDataRead (a : Init) (s : State) : Out := s.ends (s.rowRead a SEC_RNG_DATA)

/-- DEBUG_TOKEN (R467). -/
def execDebugToken (tok : List Byte) (ok : Bool) (s : State) : Out := s.ends (s.debugToken tok ok)

/-- REVOKE (R468). -/
def execRevoke (a : Init) (v : Word) (s : State) : Out := s.ends (s.rowWrite a SEC_DBG_CTRL (putBits v 0 0 1))

/-- OTP_OPERATION_DONE (R454). -/
def execOtpOperationDone (s : State) : Out := s.ends (s.otpDone)

end Sys2Proof.Machine
end

