-- ==== Sys2Proof/Machine/ExecSf.lean ====
section
/-! DEFINITION. The command service: doorbells, mailboxes, fetching, starting, grouped and long commands (chapters 06, 07). -/

namespace Sys2Proof.Machine

/-- SQ_TAIL_DOORBELL (R224). -/
def execSqTailDoorbell (a : Init) (fn : Nat) (q : Nat) (v : Word) (s : State) : Out :=
  s.ends (s.rowWrite a SF_QPq_SQ_TAIL v fn q)

/-- CQ_HEAD_WRITE (R227). -/
def execCqHeadWrite (a : Init) (fn : Nat) (q : Nat) (v : Word) (s : State) : Out :=
  s.ends (s.rowWrite a SF_QPq_CQ_HEAD v fn q)

/-- QP_CFG_WRITE (R222). -/
def execQpCfgWrite (a : Init) (fn : Nat) (q : Nat) (v : Word) (s : State) : Out := s.ends (s.rowWrite a SF_QPq_CFG v fn q)

/-- MBX_SUBMIT (R230). -/
def execMbxSubmit (a : Init) (fn : Nat) (v : Word) (s : State) : Out := s.ends (s.rowWrite a SF_MBX_CMDw v fn 15)

/-- MBX_RESULT_READ (R231). -/
def execMbxResultRead (a : Init) (fn : Nat) (s : State) : Out := s.ends (s.rowRead a SF_MBX_RESULTw fn 0)

/-- DESCRIPTOR_FETCH (R225). -/
def execDescriptorFetch (s : State) : Out := s.ends (s.fetch)

/-- COMMAND_START (R228). -/
def execCommandStart (seq : Nat) (s : State) : Out := s.ends (s.commandStart seq)

/-- ATOMIC_GROUP_EFFECT (R235). -/
def execAtomicGroupEffect (fn : Nat) (q : Nat) (s : State) : Out := s.ends (s.after (s.groupEffectOf fn q))

/-- ATOMIC_GROUP_TIMEOUT (R236). -/
def execAtomicGroupTimeout (fn : Nat) (q : Nat) (s : State) : Out := s.ends (s.groupTimeout fn q)

/-- DEADLINE_MISSED (R239). -/
def execDeadlineMissed (seq : Nat) (s : State) : Out := s.ends (s.deadlineMissed seq)

/-- WITHHELD_READ_RELEASE (R78). -/
def execWithheldReadRelease (n : Nat) (fn : Nat) (s : State) : Out := s.ends (s.withheldRelease n fn)

/-- QUIESCE_DRAINED (R250). -/
def execQuiesceDrained (fn : Nat) (s : State) : Out := s.ends (s.quiesceDrained fn)

/-- DIRTY_DISABLE_DONE (R253). -/
def execDirtyDisableDone (fn : Nat) (s : State) : Out := s.ends (s.dirtyDone fn)

/-- OWNERSHIP_CHANGE (R247). -/
def execOwnershipChange (s : State) : Out := s.ends (s.after (s.ownershipDue s.modeHolds))

/-- IMAGE_STAGE_DONE (R273). -/
def execImageStageDone (kind : Nat) (ok : Bool) (s : State) : Out := s.ends (s.imageStageDone kind ok)

/-- IMAGE_COMMIT_DONE (R274). -/
def execImageCommitDone (kind : Nat) (s : State) : Out := s.ends (s.imageCommitDone kind)

/-- REBALANCE_DONE (R168). -/
def execRebalanceDone (s : State) : Out := s.ends (s.rebalanced)

/-- TEST_DONE (R487). -/
def execTestDone (id : Nat) (code : Nat) (us : Nat) (s : State) : Out := s.ends (s.testDone id code us)

/-- ATTEST_DONE (R458). -/
def execAttestDone (seq : Nat) (s : State) : Out := s.ends (s.attestDone seq)

/-- MODE_APPLY (R267). -/
def execModeApply (s : State) : Out := s.ends (s.modeApplied)

/-- PROFILE_INDEX_APPLY (R268). -/
def execProfileIndexApply (n : Nat) (s : State) : Out := s.ends (if n < 64 then s.profileIndexApply n else s)

end Sys2Proof.Machine
end

