-- ==== Sys2Proof/Machine/ExecSgw.lean ====
section
/-! DEFINITION. The signal gateway (chapter 11). -/

namespace Sys2Proof.Machine

/-- GW_PERIODIC_TX (R374). -/
def execGwPeriodicTx (p : Nat) (s : State) : Out := s.ends (s.periodicTx p)

/-- GW_GAP_END (R374). -/
def execGwGapEnd (p : Nat) (s : State) : Out := s.ends (s.gapEnd p)

/-- GW_RX_TIMEOUT (R377). -/
def execGwRxTimeout (p : Nat) (s : State) : Out := s.ends (s.gwTimeout p)

/-- CONTAINER_HOLD_EXPIRY (R380). -/
def execContainerHoldExpiry (k : Nat) (s : State) : Out := s.ends (s.holdExpiry k)

/-- CONTAINER_RX (R380). -/
def execContainerRx (s : State) : Out := s.ends (s.containerRx)

/-- ROUTE_CHANGE_EFFECT (R378). -/
def execRouteChangeEffect (s : State) : Out := s.ends (s.after (s.routesDue s.modeHolds))

end Sys2Proof.Machine
end

