-- ==== Sys2Proof/Machine/ExecTbu.lean ====
section
/-! DEFINITION. The time bases (chapter 09). -/

namespace Sys2Proof.Machine

/-- TIME_SET_WRITE (R315). -/
def execTimeSetWrite (a : Init) (d : Nat) (v : Word) (s : State) : Out := s.ends (s.rowWrite a TBU_TDd_TIME_SEC_HI v d)

/-- TIME_SET_APPLY (R315). -/
def execTimeSetApply (d : Nat) (s : State) : Out := s.ends (if d < 4 then s.timeSetApply d else s)

/-- STEP_WRITE (R316). -/
def execStepWrite (a : Init) (d : Nat) (v : Word) (s : State) : Out := s.ends (s.rowWrite a TBU_TDd_STEP_HI v d)

/-- STEP_APPLY (R318). -/
def execStepApply (d : Nat) (s : State) : Out := s.ends (if d < 4 then s.stepApply d else s)

/-- INC_WRITE (R309). -/
def execIncWrite (a : Init) (d : Nat) (v : Word) (s : State) : Out := s.ends (s.rowWrite a TBU_TDd_INC_NS v d)

/-- LOCK (R313). -/
def execLock (a : Init) (d : Nat) (v : Word) (s : State) : Out := s.ends (s.rowWrite a TBU_TDd_CTRL (putBits v 0 0 1) d)

/-- UNLOCK (R313). -/
def execUnlock (a : Init) (d : Nat) (v : Word) (s : State) : Out := s.ends (s.rowWrite a TBU_TDd_CTRL (putBits v 1 1 1) d)

/-- REFRESH (R313). -/
def execRefresh (a : Init) (d : Nat) (v : Word) (s : State) : Out :=
  s.ends (s.rowWrite a TBU_TDd_CTRL (putBits v 2 2 1) d)

/-- SNAP_CAPTURE (R330). -/
def execSnapCapture (a : Init) (v : Word) (s : State) : Out := s.ends (s.rowWrite a TBU_SNAP (putBits v 0 0 1))

/-- HOLDOVER_ENTRY (R313). -/
def execHoldoverEntry (d : Nat) (s : State) : Out := s.ends (if d < 4 then s.holdoverEntry d else s)

/-- HOLDOVER_EXPIRY (R313). -/
def execHoldoverExpiry (d : Nat) (s : State) : Out := s.ends (if d < 4 then s.holdoverExpiry d else s)

/-- TSQ_INFO_READ (R324). -/
def execTsqInfoRead (a : Init) (s : State) : Out := s.ends (s.rowRead a TBU_TSQ_INFO)

end Sys2Proof.Machine
end

