-- ==== Sys2Proof/Machine/Dispatch.lean ====
section
/-! DEFINITION. One arm a command: each a direct call of its meaning. -/

namespace Sys2Proof.Machine

/-- The effect of a command on everything but the queue. -/
def exec (i : Instr) (s : State) : Host.Outcome State Fault Refusal :=
  match i with
  | .chSet r => Sys2Proof.Machine.execChSet r s
  | .chPwmConfig r => Sys2Proof.Machine.execChPwmConfig r s
  | .chClearLatch r => Sys2Proof.Machine.execChClearLatch r s
  | .chDiagRead r => Sys2Proof.Machine.execChDiagRead r s
  | .chAssignProfile r => Sys2Proof.Machine.execChAssignProfile r s
  | .chSenseoutSelect r => Sys2Proof.Machine.execChSenseoutSelect r s
  | .profileWrite r => Sys2Proof.Machine.execProfileWrite r s
  | .profileRead r => Sys2Proof.Machine.execProfileRead r s
  | .measStreamOpen r => Sys2Proof.Machine.execMeasStreamOpen r s
  | .measRead r => Sys2Proof.Machine.execMeasRead r s
  | .measCalibrate r => Sys2Proof.Machine.execMeasCalibrate r s
  | .measStreamClose r => Sys2Proof.Machine.execMeasStreamClose r s
  | .elemCreate r => Sys2Proof.Machine.execElemCreate r s
  | .elemParam r => Sys2Proof.Machine.execElemParam r s
  | .elemDelete r => Sys2Proof.Machine.execElemDelete r s
  | .elemStatus r => Sys2Proof.Machine.execElemStatus r s
  | .placementRead r => Sys2Proof.Machine.execPlacementRead r s
  | .tripReset r => Sys2Proof.Machine.execTripReset r s
  | .ingestOpen r => Sys2Proof.Machine.execIngestOpen r s
  | .ingestClose r => Sys2Proof.Machine.execIngestClose r s
  | .placementRebalance r => Sys2Proof.Machine.execPlacementRebalance r s
  | .elemLoad r => Sys2Proof.Machine.execElemLoad r s
  | .signalDefine r => Sys2Proof.Machine.execSignalDefine r s
  | .routeCreate r => Sys2Proof.Machine.execRouteCreate r s
  | .routeDelete r => Sys2Proof.Machine.execRouteDelete r s
  | .routeStatus r => Sys2Proof.Machine.execRouteStatus r s
  | .nmNeed r => Sys2Proof.Machine.execNmNeed r s
  | .nmRelease r => Sys2Proof.Machine.execNmRelease r s
  | .nmStatus r => Sys2Proof.Machine.execNmStatus r s
  | .modeSelect r => Sys2Proof.Machine.execModeSelect r s
  | .imageStage r => Sys2Proof.Machine.execImageStage r s
  | .imageCommit r => Sys2Proof.Machine.execImageCommit r s
  | .modeRead r => Sys2Proof.Machine.execModeRead r s
  | .testRun r => Sys2Proof.Machine.execTestRun r s
  | .testResult r => Sys2Proof.Machine.execTestResult r s
  | .timeRead r => Sys2Proof.Machine.execTimeRead r s
  | .attest r => Sys2Proof.Machine.execAttest r s
  | .keyUse r => Sys2Proof.Machine.execKeyUse r s
  | .fnQuiesce r => Sys2Proof.Machine.execFnQuiesce r s
  | .fnResume r => Sys2Proof.Machine.execFnResume r s
  | .ownershipSet r => Sys2Proof.Machine.execOwnershipSet r s
  | .vfEnable r => Sys2Proof.Machine.execVfEnable r s
  | .vfDisable r => Sys2Proof.Machine.execVfDisable r s
  | .sqTailDoorbell a fn q v => Sys2Proof.Machine.execSqTailDoorbell a fn q v s
  | .cqHeadWrite a fn q v => Sys2Proof.Machine.execCqHeadWrite a fn q v s
  | .qpCfgWrite a fn q v => Sys2Proof.Machine.execQpCfgWrite a fn q v s
  | .mbxSubmit a fn v => Sys2Proof.Machine.execMbxSubmit a fn v s
  | .mbxResultRead a fn => Sys2Proof.Machine.execMbxResultRead a fn s
  | .descriptorFetch => Sys2Proof.Machine.execDescriptorFetch s
  | .commandStart seq => Sys2Proof.Machine.execCommandStart seq s
  | .atomicGroupEffect fn q => Sys2Proof.Machine.execAtomicGroupEffect fn q s
  | .atomicGroupTimeout fn q => Sys2Proof.Machine.execAtomicGroupTimeout fn q s
  | .deadlineMissed seq => Sys2Proof.Machine.execDeadlineMissed seq s
  | .withheldReadRelease n fn => Sys2Proof.Machine.execWithheldReadRelease n fn s
  | .quiesceDrained fn => Sys2Proof.Machine.execQuiesceDrained fn s
  | .dirtyDisableDone fn => Sys2Proof.Machine.execDirtyDisableDone fn s
  | .ownershipChange => Sys2Proof.Machine.execOwnershipChange s
  | .imageStageDone kind ok => Sys2Proof.Machine.execImageStageDone kind ok s
  | .imageCommitDone kind => Sys2Proof.Machine.execImageCommitDone kind s
  | .rebalanceDone => Sys2Proof.Machine.execRebalanceDone s
  | .testDone id code us => Sys2Proof.Machine.execTestDone id code us s
  | .attestDone seq => Sys2Proof.Machine.execAttestDone seq s
  | .modeApply => Sys2Proof.Machine.execModeApply s
  | .profileIndexApply n => Sys2Proof.Machine.execProfileIndexApply n s
  | .chCtrlReqWrite a n v => Sys2Proof.Machine.execChCtrlReqWrite a n v s
  | .chFaultClear a n v => Sys2Proof.Machine.execChFaultClear a n v s
  | .channelRequestEffect n => Sys2Proof.Machine.execChannelRequestEffect n s
  | .gridPoint x => Sys2Proof.Machine.execGridPoint x s
  | .blankingExpiry n => Sys2Proof.Machine.execBlankingExpiry n s
  | .desat n => Sys2Proof.Machine.execDesat n s
  | .turnOffComplete n => Sys2Proof.Machine.execTurnOffComplete n s
  | .ceilingTrip n uv => Sys2Proof.Machine.execCeilingTrip n uv s
  | .uvDefer x => Sys2Proof.Machine.execUvDefer s x
  | .cpRecover x => Sys2Proof.Machine.execCpRecover s x
  | .cpUv x => Sys2Proof.Machine.execCpUv s x
  | .pwmPeriodStart n => Sys2Proof.Machine.execPwmPeriodStart n s
  | .pwmOffEdge n => Sys2Proof.Machine.execPwmOffEdge n s
  | .dutyRecompute => Sys2Proof.Machine.execDutyRecompute s
  | .compHoldExpiry n => Sys2Proof.Machine.execCompHoldExpiry n s
  | .offStateTestStart n vout vgrp => Sys2Proof.Machine.execOffStateTestStart n vout vgrp s
  | .offStateTestSample n vout => Sys2Proof.Machine.execOffStateTestSample n vout s
  | .openLoadOn n => Sys2Proof.Machine.execOpenLoadOn n s
  | .stuckOn n => Sys2Proof.Machine.execStuckOn n s
  | .reverse n => Sys2Proof.Machine.execReverse n s
  | .groupUvBegin k => Sys2Proof.Machine.execGroupUvBegin k s
  | .groupUvEnd k => Sys2Proof.Machine.execGroupUvEnd k s
  | .pauseMaxExpiry k => Sys2Proof.Machine.execPauseMaxExpiry k s
  | .channelRestart n => Sys2Proof.Machine.execChannelRestart n s
  | .budgetRefill n => Sys2Proof.Machine.execBudgetRefill n s
  | .kettleUpdate => Sys2Proof.Machine.execKettleUpdate s
  | .coreDieLost supply => Sys2Proof.Machine.execCoreDieLost supply s
  | .tHoldExpiry n => Sys2Proof.Machine.execTHoldExpiry n s
  | .limpChange level => Sys2Proof.Machine.execLimpChange level s
  | .lhChange levels => Sys2Proof.Machine.execLhChange levels s
  | .limpRelease n => Sys2Proof.Machine.execLimpRelease n s
  | .limpI2tUpdate est => Sys2Proof.Machine.execLimpI2tUpdate est s
  | .limpPwmEdge n => Sys2Proof.Machine.execLimpPwmEdge n s
  | .streamPublish h => Sys2Proof.Machine.execStreamPublish h s
  | .offsetCalibrationDone sid ofs => Sys2Proof.Machine.execOffsetCalibrationDone sid ofs s
  | .linkFrameError chs => Sys2Proof.Machine.execLinkFrameError chs s
  | .trimReapply => Sys2Proof.Machine.execTrimReapply s
  | .fastTick => Sys2Proof.Machine.execFastTick s
  | .userElementDisabled h => Sys2Proof.Machine.execUserElementDisabled h s
  | .ingestNativeFrame => Sys2Proof.Machine.execIngestNativeFrame s
  | .ingestForeignFrame => Sys2Proof.Machine.execIngestForeignFrame s
  | .ingestStale h => Sys2Proof.Machine.execIngestStale h s
  | .reflowDone => Sys2Proof.Machine.execReflowDone s
  | .pairReturnToService p => Sys2Proof.Machine.execPairReturnToService p s
  | .bulletinFrameDue b => Sys2Proof.Machine.execBulletinFrameDue b s
  | .bulletinFrameRx => Sys2Proof.Machine.execBulletinFrameRx s
  | .subscriptionStale j => Sys2Proof.Machine.execSubscriptionStale j s
  | .frameRx p b fcsOk q => Sys2Proof.Machine.execFrameRx p b fcsOk q s
  | .frameTxStart p q => Sys2Proof.Machine.execFrameTxStart p q s
  | .linkStateChange p up => Sys2Proof.Machine.execLinkStateChange p up s
  | .plcaFallback p => Sys2Proof.Machine.execPlcaFallback p s
  | .beaconRx p => Sys2Proof.Machine.execBeaconRx p s
  | .gateEntryExpiry p => Sys2Proof.Machine.execGateEntryExpiry p s
  | .gateListSwitch p => Sys2Proof.Machine.execGateListSwitch p s
  | .addressAgeOut vid mac => Sys2Proof.Machine.execAddressAgeOut vid mac s
  | .frerResetTimeout h => Sys2Proof.Machine.execFrerResetTimeout h s
  | .devEtypeWrite a v => Sys2Proof.Machine.execDevEtypeWrite a v s
  | .devEtypeEffect => Sys2Proof.Machine.execDevEtypeEffect s
  | .sfBlockedClear a w v => Sys2Proof.Machine.execSfBlockedClear a w v s
  | .queueCfgWrite a fn q v => Sys2Proof.Machine.execQueueCfgWrite a fn q v s
  | .queueTxTail a fn q v => Sys2Proof.Machine.execQueueTxTail a fn q v s
  | .queueRxTail a fn q v => Sys2Proof.Machine.execQueueRxTail a fn q v s
  | .queueTxDescriptor q => Sys2Proof.Machine.execQueueTxDescriptor q s
  | .queueInterrupt q => Sys2Proof.Machine.execQueueInterrupt q s
  | .portCounterRead a p c => Sys2Proof.Machine.execPortCounterRead a p c s
  | .timeSetWrite a d v => Sys2Proof.Machine.execTimeSetWrite a d v s
  | .timeSetApply d => Sys2Proof.Machine.execTimeSetApply d s
  | .stepWrite a d v => Sys2Proof.Machine.execStepWrite a d v s
  | .stepApply d => Sys2Proof.Machine.execStepApply d s
  | .incWrite a d v => Sys2Proof.Machine.execIncWrite a d v s
  | .lock a d v => Sys2Proof.Machine.execLock a d v s
  | .unlock a d v => Sys2Proof.Machine.execUnlock a d v s
  | .refresh a d v => Sys2Proof.Machine.execRefresh a d v s
  | .snapCapture a v => Sys2Proof.Machine.execSnapCapture a v s
  | .holdoverEntry d => Sys2Proof.Machine.execHoldoverEntry d s
  | .holdoverExpiry d => Sys2Proof.Machine.execHoldoverExpiry d s
  | .tsqInfoRead a => Sys2Proof.Machine.execTsqInfoRead a s
  | .canTxreqWrite a c w v => Sys2Proof.Machine.execCanTxreqWrite a c w v s
  | .canTxabortWrite a c w v => Sys2Proof.Machine.execCanTxabortWrite a c w v s
  | .canRecoverWrite a c v => Sys2Proof.Machine.execCanRecoverWrite a c v s
  | .rxfRidxWrite a c v => Sys2Proof.Machine.execRxfRidxWrite a c v s
  | .canArbitration c => Sys2Proof.Machine.execCanArbitration c s
  | .canAttemptEnd c e => Sys2Proof.Machine.execCanAttemptEnd c e s
  | .validityExpiry c b => Sys2Proof.Machine.execValidityExpiry c b s
  | .busOffEnd c => Sys2Proof.Machine.execBusOffEnd c s
  | .schedMiss c => Sys2Proof.Machine.execSchedMiss c s
  | .canFrameRx c f => Sys2Proof.Machine.execCanFrameRx c f s
  | .linHeaderSlot l => Sys2Proof.Machine.execLinHeaderSlot l s
  | .linResponse l id st data ago => Sys2Proof.Machine.execLinResponse l id st data ago s
  | .linGoToSleep l => Sys2Proof.Machine.execLinGoToSleep l s
  | .linBusIdleTimeout l => Sys2Proof.Machine.execLinBusIdleTimeout l s
  | .bellwetherDue n => Sys2Proof.Machine.execBellwetherDue n s
  | .bellwetherRx => Sys2Proof.Machine.execBellwetherRx s
  | .idleTimerExpiry n => Sys2Proof.Machine.execIdleTimerExpiry n s
  | .tPrepExpiry n => Sys2Proof.Machine.execTPrepExpiry n s
  | .busRelease n => Sys2Proof.Machine.execBusRelease n s
  | .wakeDetected n => Sys2Proof.Machine.execWakeDetected n s
  | .transceiverRefresh => Sys2Proof.Machine.execTransceiverRefresh s
  | .transceiverFailsafe x => Sys2Proof.Machine.execTransceiverFailsafe x s
  | .vcanUv below => Sys2Proof.Machine.execVcanUv below s
  | .gwPeriodicTx p => Sys2Proof.Machine.execGwPeriodicTx p s
  | .gwGapEnd p => Sys2Proof.Machine.execGwGapEnd p s
  | .gwRxTimeout p => Sys2Proof.Machine.execGwRxTimeout p s
  | .containerHoldExpiry k => Sys2Proof.Machine.execContainerHoldExpiry k s
  | .containerRx => Sys2Proof.Machine.execContainerRx s
  | .routeChangeEffect => Sys2Proof.Machine.execRouteChangeEffect s
  | .outboundWrite a addr d => Sys2Proof.Machine.execOutboundWrite a addr d s
  | .splitRead a addr n => Sys2Proof.Machine.execSplitRead a addr n s
  | .heldRead a addr n => Sys2Proof.Machine.execHeldRead a addr n s
  | .readCompletionRx t d => Sys2Proof.Machine.execReadCompletionRx t d s
  | .cplTo t => Sys2Proof.Machine.execCplTo t s
  | .heldReadTimeout n => Sys2Proof.Machine.execHeldReadTimeout n s
  | .inboundRequest bar w addr n d => Sys2Proof.Machine.execInboundRequest bar w addr n d s
  | .plbLinkChange up speed width => Sys2Proof.Machine.execPlbLinkChange up speed width s
  | .perstNLinkReset => Sys2Proof.Machine.execPerstNLinkReset s
  | .prefetchAgeExpiry k => Sys2Proof.Machine.execPrefetchAgeExpiry k s
  | .discInfoRead a => Sys2Proof.Machine.execDiscInfoRead a s
  | .heartbeatSend => Sys2Proof.Machine.execHeartbeatSend s
  | .heartbeatRx d => Sys2Proof.Machine.execHeartbeatRx d s
  | .peerLost => Sys2Proof.Machine.execPeerLost s
  | .msixSend a v => Sys2Proof.Machine.execMsixSend a v s
  | .lockstepMismatch u => Sys2Proof.Machine.execLockstepMismatch u s
  | .registerFold u main check => Sys2Proof.Machine.execRegisterFold u main check s
  | .handover a p v => Sys2Proof.Machine.execHandover a p v s
  | .handoverExecute p => Sys2Proof.Machine.execHandoverExecute p s
  | .pairRestart a p v => Sys2Proof.Machine.execPairRestart a p v s
  | .cacheParityError u kind addr => Sys2Proof.Machine.execCacheParityError u kind addr s
  | .spareMigrate a v => Sys2Proof.Machine.execSpareMigrate a v s
  | .spareReturn a v => Sys2Proof.Machine.execSpareReturn a v s
  | .migrationDone => Sys2Proof.Machine.execMigrationDone s
  | .scrubStep m addr kind => Sys2Proof.Machine.execScrubStep m addr kind s
  | .memoryError addr init kind => Sys2Proof.Machine.execMemoryError addr init kind s
  | .errInfoRead a => Sys2Proof.Machine.execErrInfoRead a s
  | .gatekeeperRegionWrite a g r w v => Sys2Proof.Machine.execGatekeeperRegionWrite a g r w v s
  | .gkInfoRead a => Sys2Proof.Machine.execGkInfoRead a s
  | .islandVoteWrite a n v => Sys2Proof.Machine.execIslandVoteWrite a n v s
  | .islandReturn n => Sys2Proof.Machine.execIslandReturn n s
  | .lcCtrlWrite a v ok => Sys2Proof.Machine.execLcCtrlWrite a v ok s
  | .otpRead a v => Sys2Proof.Machine.execOtpRead a v s
  | .otpProgram a v => Sys2Proof.Machine.execOtpProgram a v s
  | .keyLoad a v => Sys2Proof.Machine.execKeyLoad a v s
  | .keyDerive a v => Sys2Proof.Machine.execKeyDerive a v s
  | .keyClear a v => Sys2Proof.Machine.execKeyClear a v s
  | .jobGo a v => Sys2Proof.Machine.execJobGo a v s
  | .jobDone => Sys2Proof.Machine.execJobDone s
  | .callAnswer a v => Sys2Proof.Machine.execCallAnswer a v s
  | .callTimeout => Sys2Proof.Machine.execCallTimeout s
  | .rngHealthFail => Sys2Proof.Machine.execRngHealthFail s
  | .rngDataRead a => Sys2Proof.Machine.execRngDataRead a s
  | .debugToken tok ok => Sys2Proof.Machine.execDebugToken tok ok s
  | .revoke a v => Sys2Proof.Machine.execRevoke a v s
  | .fcuErrorEvent n => Sys2Proof.Machine.execFcuErrorEvent n s
  | .brokenPair n => Sys2Proof.Machine.execBrokenPair n s
  | .srcCfgWrite a n v => Sys2Proof.Machine.execSrcCfgWrite a n v s
  | .srcStateClear a n v => Sys2Proof.Machine.execSrcStateClear a n v s
  | .penRelease a n v => Sys2Proof.Machine.execPenRelease a n v s
  | .fatalSrcClear a v => Sys2Proof.Machine.execFatalSrcClear a v s
  | .fatalReboot pins testen rails => Sys2Proof.Machine.execFatalReboot pins testen rails s
  | .errnPulseEnd => Sys2Proof.Machine.execErrnPulseEnd s
  | .logInfoRead a => Sys2Proof.Machine.execLogInfoRead a s
  | .svpResume => Sys2Proof.Machine.execSvpResume s
  | .powerOn => Sys2Proof.Machine.execPowerOn s
  | .vbatLoss => Sys2Proof.Machine.execVbatLoss s
  | .pinReset => Sys2Proof.Machine.execPinReset s
  | .softwareReset a v => Sys2Proof.Machine.execSoftwareReset a v s
  | .coreResetRelease pins testen rails => Sys2Proof.Machine.execCoreResetRelease pins testen rails s
  | .protectionActive => Sys2Proof.Machine.execProtectionActive s
  | .endOfBoot => Sys2Proof.Machine.execEndOfBoot s
  | .prepareSleep => Sys2Proof.Machine.execPrepareSleep s
  | .sleepAbort => Sys2Proof.Machine.execSleepAbort s
  | .sleepCommit => Sys2Proof.Machine.execSleepCommit s
  | .inhFall => Sys2Proof.Machine.execInhFall s
  | .inhRise => Sys2Proof.Machine.execInhRise s
  | .sheepdogCycle x => Sys2Proof.Machine.execSheepdogCycle x s
  | .wkStaticEdge r up => Sys2Proof.Machine.execWkStaticEdge r up s
  | .haltRequest h => Sys2Proof.Machine.execHaltRequest h s
  | .haltEffect h => Sys2Proof.Machine.execHaltEffect h s
  | .resumeRequest h => Sys2Proof.Machine.execResumeRequest h s
  | .abstractCommand h mem at_ write size v post => Sys2Proof.Machine.execAbstractCommand h mem at_ write size v s post
  | .systemBusAccess write addr size v => Sys2Proof.Machine.execSystemBusAccess write addr size v s
  | .ndmreset => Sys2Proof.Machine.execNdmreset s
  | .hartreset h => Sys2Proof.Machine.execHartreset h s
  | .debugTrigger h dmode => Sys2Proof.Machine.execDebugTrigger h dmode s
  | .tapReset => Sys2Proof.Machine.execTapReset s
  | .loaderShift w => Sys2Proof.Machine.execLoaderShift w s
  | .loaderImageDone => Sys2Proof.Machine.execLoaderImageDone s
  | .samplerSample k pc mode => Sys2Proof.Machine.execSamplerSample k pc mode s
  | .smpInfoRead a => Sys2Proof.Machine.execSmpInfoRead a s
  | .registerWrite a addr v => Sys2Proof.Machine.execRegisterWrite a addr v s
  | .hartsReleased => Sys2Proof.Machine.execHartsReleased s
  | .otpOperationDone => Sys2Proof.Machine.execOtpOperationDone s
  | .scheduleColumnStart c => Sys2Proof.Machine.execScheduleColumnStart c s
  | .canBusJoin c => Sys2Proof.Machine.execCanBusJoin c s
  | .machineTimerCompare h => Sys2Proof.Machine.execMachineTimerCompare h s
  | .errorSourceIdle n => Sys2Proof.Machine.execErrorSourceIdle n s

end Sys2Proof.Machine
end

