-- ==== Sys2Proof/Machine/Step.lean ====
section
/-! DEFINITION. One step: the command at the front of the queue runs; with no command waiting one 2 ns tick passes. -/

namespace Sys2Proof.Machine

/-- The block's step. On an empty queue the device idles for one tick of R308 (DESIGN CHOICE, log entry 4). -/
def step (s : State) : Host.Outcome State Fault Refusal :=
  match s.pending with
  | [] => .next (s.ticks 1)
  | c :: rest => exec c { s with pending := rest }

/-- The state with the command that a table word spells in front; no row of the table gives bits, so no word spells one
(DESIGN CHOICE, log entry 16). -/
def State.withFetchWord (s : State) (_nbits _w : Nat) : State := s

end Sys2Proof.Machine
end

