-- ==== Sys2Proof/Machine/Pins.lean ====
section
/-! DEFINITION. What the device drives on the balls of chapter 17 whose state no register or other field of the model shows:
their reset states (R535), the partner link's by role (R538), the test port's (R519) and the regulator's (R541). -/

namespace Sys2Proof.Machine

/-- What the device does with a ball: low, high impedance, electrical idle, an input, or driven by the unit behind it. -/
inductive Ball where
  | low
  | highZ
  | idle
  | input
  | driven
  deriving DecidableEq, Repr

/-- The PCI Express balls are out of their reset state (R535, R538). -/
def State.linkOn (s : State) : Bool := s.coreRuns && s.plbRole

/-- PERST_N: low as root port while the core die is in reset, driven afterwards; an input otherwise. -/
def State.ballPerst (s : State) : Ball := if s.pcs.bootPins ≠ 2 then .input else if s.coreRuns then .driven else .low

/-- P_REFCLK: output as root port, input as endpoint. -/
def State.ballRefclk (s : State) : Ball := if !s.linkOn then .highZ else if s.pcs.bootPins = 2 then .driven else .input

/-- CLKREQ_N. -/
def State.ballClkreq (s : State) : Ball := if s.linkOn then .driven else .highZ

/-- P_TXP0 to P_TXN1. -/
def State.ballTx (s : State) : Ball := if s.linkOn && s.plbLink then .driven else .idle

/-- D_RESET_N and the command and clock balls of LPDDR5. -/
def State.ballDdrCmd (s : State) : Ball := if s.coreRuns && s.flag MS_DDR_STATUS_UP then .driven else .low

/-- The data balls of LPDDR5. -/
def State.ballDdrData (s : State) : Ball := if s.coreRuns && s.flag MS_DDR_STATUS_UP then .driven else .highZ

/-- TDO (R519). -/
def State.ballTdo (s : State) : Ball := if s.tdoDriven then .driven else .highZ

/-- The MDI balls of port `p`: high impedance until the link trains. -/
def State.ballMdi (s : State) (p : Nat) : Ball := if s.coreRuns && s.linkUp p then .driven else .highZ

/-- WK0 to WK15: wetted only within a Sheepdog sample, so high impedance between commands. -/
def State.ballWk (_ : State) (_ : Nat) : Ball := .highZ

/-- VAON regulates whenever VBAT is present (R541). -/
def State.ballVaon (s : State) : Ball := if s.pcs.vbat then .driven else .highZ

end Sys2Proof.Machine
end

