-- ==== Sys2Proof/Safety.lean ====
section
/-! DEFINITION. The conditions in which statements about the device are written: the device at rest, an access that reaches
its register, a command that the service takes at once. -/

namespace Sys2Proof.Machine

/-- Nothing in `e`, reached from `b`, waits for the end of the command: no error report is unhandled, no island waits for its
gate, no hart is halted or about to be and no trigger is set up, no stream waits for its ring, no wired source of the APLIC is
active, the LIMP overlay is as before, the device is awake, and ERR_N is asserted if any condition of R482 holds. -/
def State.Calm (b e : State) : Prop :=
  e.fcu.todo = [] ∧ e.pcs.draining = [] ∧ (∀ h ∈ e.cc.harts, h.2.halted = false ∧ h.2.haltReq = false) ∧
    e.dbg.trig = [] ∧ (∀ x ∈ e.pda.streams, x.2.wait = none) ∧ e.cc.aplicM.cfg = [] ∧ e.cc.aplicS.cfg = [] ∧ e.limpOverlay = b.limpOverlay ∧ e.asleep = false ∧ (e.errnWanted = true → e.fcu.errn = true)

/-- What every step leaves: ERR_N is asserted while a condition of R482 holds; while the core die runs, no hart of a world
without its invasive enable is halted or about to be, and none has a trigger reserved for the debugger (R525); a device
asleep is in SENTINEL exactly while R513 says so. -/
def State.Safe (s : State) : Prop :=
  (s.errnWanted = true → s.fcu.errn = true) ∧
  (s.coreRuns = true → ∀ h, ((s.hart h).halted || (s.hart h).haltReq) = true → s.invasive (s.hartSecure h) = true) ∧
  (s.coreRuns = true → ∀ e ∈ s.dbg.trig, bitOf e.2.1 59 = true → s.invasive (s.hartSecure (e.1 / 16)) = true) ∧
  (s.asleep = true → s.pcs.power = if s.sentinelNeeded then .sentinel else .stowed)

/-- An access of initiator `i` to one register is carried out: the core die runs, hardware gives the initiator that tag
(R440) and no held read stalls its port (R393), a gatekeeper region admits the access (R444), the island is powered (R499) and its pen runs (R477), the line permits the initiator's world (R17), a write finds
the register window open (R248), and the register exists on this page (R218, R222, R299, R442). -/
def State.reaches (s : State) (i : Init) (r : Reg) (x j : Nat) (write : Bool) : Bool :=
  let a := r.addr x j
  s.coreRuns && !(s.stalled i) && s.gkAdmits i.id.toNat i.secure a 4 write && s.powered (s.islandOf a) && s.penRuns (penOf a) &&
    (r.world == .SN || i.secure) && (!write || !(s.windowShut i a r)) && s.regLive r a x j

/-- The state without the words held for an initiator's value at `low` (R13). -/
def State.dropHold (s : State) (i : Init) (low : Nat) : State :=
  { s with bus := { s.bus with holds := mwDrop s.bus.holds i.id.toNat low } }

/-- The state in which the words of a value stay latched for an initiator (R13). -/
def State.latchFor (s : State) (i : Init) (low : Nat) (ws : List Word) : State :=
  { s with bus := { s.bus with latches := mwPut s.bus.latches i.id.toNat low (ws.zipIdx.map fun e => (e.2, e.1)) } }

/-- The descriptor that a request with an opcode carries (R22). -/
def descWith (opcode : Nat) (r : Req) : Desc :=
  { opcode := BitVec.ofNat 16 opcode, tag := r.tag, fence := r.fence, atomic := r.atomic, notify := r.notify,
    expert := r.expert, rsvd := r.rsvd, group := r.group, target := r.target, deadline := r.deadline, params := r.params }

/-- The command in flight that a request with an opcode becomes (R233); FN_QUIESCE notes the count it starts from (R250). -/
def State.cmdOf (s : State) (opcode : Nat) (r : Req) : Cmd :=
  { seq := s.sf.nextSeq, fn := r.fn, src := r.src, desc := descWith opcode r, at_ := (s.count 422).now,
    aux := if opcode = 0x0F01 then ((s.count 422).fn r.target.toNat).done else 0 }

/-- The state in which that command has entered flight and nothing of it has happened yet. -/
def State.fetched (s : State) (opcode : Nat) (r : Req) : State :=
  let t := s.count 422
  { t with sf := { t.sf with nextSeq := s.sf.nextSeq + 1, cmds := s.sf.cmds ++ [s.cmdOf opcode r] } }

/-- The service takes a request of queue `r.src` and starts it at once: the service runs, the function is enabled and below
its limits (R233), the pair exists, is enabled and has not stopped (R222, R224), completion room and order let the command
start (R228, R234), it is no member of an atomic group, its deadline has not passed (R239), it sets no reserved bit (R24), it
sets EXPERT only where its opcode has an expert form, and no mode being prepared holds it (R269). -/
def State.takes (s : State) (opcode : Nat) (r : Req) : Bool :=
  let t := s.fetched opcode r
  let c := s.cmdOf opcode r
  s.fnTakes r.fn && decide (r.src < 8) && decide (r.src < s.get SF_FNn_STATE_NQP r.fn) && s.flag SF_QPq_CFG_EN r.fn r.src &&
    decide (s.get SF_QPq_STATUS_ERR r.fn r.src < 2) && s.sf.cmds.all (fun k => decide (k.seq < s.sf.nextSeq)) &&
    t.canStart c && !(t.modeHolds c) && !(c.late t.td0) && !r.atomic && r.rsvd.toNat == 0 &&
    (!r.expert || (match specOf opcode with | some o => o.expert | none => false))

end Sys2Proof.Machine
end

