-- ==== Sys2Proof/Certificates/Slice0/Obligations.lean ====
section
/-! DEFINITION. The statements for the provers. Commands end in `State.settle`, which handles what a command reported; `QuietEnd` says
when it changes nothing. -/

section
open Sys2Proof Sys2Proof.Machine

/-! ### The block as a whole -/

/-- A step with a command in front of the queue is `exec` of that command on the state with the queue's rest. -/
def Obligations.StepRunsFront : Prop :=
  ∀ (s : State) (c : Instr), step { s with pending := c :: s.pending } = exec c s

/-- Every step answers a next state, and so does every command by itself, in every state and with every operand: no command
ends in a fault or a refusal, and what it has done is settled. With no command waiting one 2 ns tick of real time passes (the model's choice, log entry
4): while the core die runs each domain's time advances by its increment (R308, R309), and nothing else changes. -/
def Obligations.EveryStepCompletes : Prop :=
  (∀ s : State, ∃ t, step s = .next t) ∧
  (∀ (c : Instr) (s : State), ∃ t, exec c s = .next (State.settle s t)) ∧
  (∀ s : State, s.pending = [] →
    let td := s.tbu.td.map fun d => { d with val := (d.val + d.inc) % tdWrap }
    step s = .next { s with now := s.now + 2
                            tbu := if s.coreRuns = true then { s.tbu with td := td } else s.tbu })

/-- A command whose effect leaves nothing to be handled ends exactly with its effect: no error report waits, no island drains,
no hart is halted or about to be, no trigger is set up, no stream waits for its ring, no wired interrupt source is configured,
the device is awake, the overlay of LIMP is as it was, and ERR_N stands if a condition of R482 holds. -/
def Obligations.QuietEnd : Prop := ∀ b e : State, State.Calm b e → State.settle b e = e

/-- R11, R14, R310, R493–R495, R535: the state after reset. No byte of memory is listed, no command waits, every register reads the
reset value of its line, the core die is held and no hart runs, each domain is UNSET at time 0 with an increment of
2.0 ns, and the balls are in their reset states. (That the device stands just after the arrival of VBAT is the model's choice, log entry 6.) -/
def Obligations.ResetState : Prop :=
  State.reset.mem = [] ∧ State.reset.pending = [] ∧ State.reset.sf.cmds = [] ∧ State.reset.coreRuns = false ∧
    State.reset.asleep = false ∧ State.reset.cc.harts = [] ∧ State.reset.pcs.boot = .held ∧
    (∀ (r : Reg) (i j : Nat), State.reset.rd r i j = r.resetAt i) ∧
    (∀ d < 4, (State.reset.td d).val = 0 ∧ (State.reset.td d).inc = 2 * fracOne ∧ (State.reset.td d).st = .unset) ∧
    (∀ n < 64, (State.reset.chan n).state = chOff ∧ (State.reset.chan n).gate = .off) ∧
    (State.reset.ballRefclk = .highZ ∧ State.reset.ballClkreq = .highZ ∧ State.reset.ballTx = .idle ∧
      State.reset.ballDdrCmd = .low ∧ State.reset.ballDdrData = .highZ ∧ State.reset.ballTdo = .highZ ∧
      (∀ p < 10, State.reset.ballMdi p = .highZ) ∧ (∀ k < 16, State.reset.ballWk k = .highZ)) ∧
    (∀ s : State, s.pcs.bootPins = 2 → s.coreRuns = false → s.ballPerst = .low)

/-- R8, R12: every register of every slot decodes, by its address alone, to its own line and indices; no two registers share
an address. -/
def Obligations.RegisterMap : Prop :=
  ∀ k < 14, ∀ r ∈ slotRegs k, ∀ i < r.n1, ∀ j < r.n2, regAt (r.addr i j) = some (r, i, j)

/-- R15: what a write makes of each bit of a register. A bit that is RW takes the bit written; a W1C bit is cleared by a one
and a W1S bit set by one; every other bit stays. -/
def Obligations.WrittenBits : Prop :=
  ∀ (r : Reg) (old v : Word) (b : Nat), b < 32 → bitOf r.rw b = false ∨ (bitOf r.w1c b = false ∧ bitOf r.w1s b = false) →
    bitOf r.w1c b = false ∨ bitOf r.w1s b = false →
    let x := bitOf (r.written old v).toNat b
    (bitOf r.rw b = true → x = bitOf v.toNat b) ∧
    (bitOf r.w1c b = true → x = (bitOf old.toNat b && !(bitOf v.toNat b))) ∧
    (bitOf r.w1s b = true → x = (bitOf old.toNat b || bitOf v.toNat b)) ∧
    (bitOf r.rw b = false → bitOf r.w1c b = false → bitOf r.w1s b = false → x = bitOf old.toNat b)

/-- R14, R15, R17, R248, R444: the outcomes of REGISTER_WRITE at an aligned register. Carried out at a plain register, it sets
the bits that a write sets; outside the register window, or from a world that the line does not permit, it changes nothing
and is recorded; refused by the gatekeeper it ends with a bus error and is recorded; while the core die does not run, or the
initiator's port is stalled (by a held read, R393, or because hardware gives no request this identifier and world, R440), it
does nothing. -/
def Obligations.RegisterWrites : Prop :=
  ∀ (s : State) (a : Init) (v : Word),
    (∀ r ∈ [PDA_CHn_THRESH, PDA_CHn_DIAG_ON, PDA_CHn_DIAG_OFF, PE_TRIP_IRQ_EN_LO, TBU_TS_EN, ESW_NODE_ID, SGW_EVT_EN, PLB_HB_CTRL,
        CC_SPX_CFG, MS_EVT_EN], ∀ n < r.n1, s.reaches a r n 0 true = true →
      exec (.registerWrite a (r.addr n 0) v) s = .next (State.settle s
        ((s.wr r (r.written (s.rd r n) v) n).answer (some [])))) ∧
    (∀ k < 14, ∀ r ∈ slotRegs k, ∀ i < r.n1, ∀ j < r.n2, isBuffer (r.addr i j) = false → s.coreRuns = true →
      s.stalled a = false →
      let p := r.addr i j
      (s.gkAdmits a.id.toNat a.secure p 4 true = true → s.powered (s.islandOf p) = true → s.penRuns (penOf p) = true →
        (r.world = .S → a.secure = false →
          exec (.registerWrite a p v) s = .next (State.settle s ((s.slotEvent a p 1 true).answer (some [])))) ∧
        ((r.world = .SN ∨ a.secure = true) → s.windowShut a p r = true →
          exec (.registerWrite a p v) s = .next (State.settle s ((s.slotEvent a p 2 true).answer (some []))))) ∧
      (s.gkAdmits a.id.toNat a.secure p 4 true = false →
        exec (.registerWrite a p v) s = .next (State.settle s ((s.slotEvent a p 0 true).answer none)))) ∧
    (∀ p, s.coreRuns = false ∨ s.stalled a = true → exec (.registerWrite a p v) s = .next (State.settle s s))

/-- R13: values wider than a word. A write of a lower register is held for its initiator and changes no register; a read of a
higher register answers what the same initiator's read of the lowest latched; what is held for one initiator is not
touched by another; a core-die reset discards all of it. -/
def Obligations.MultiWordValues : Prop :=
  (∀ (s : State) (a : Init) (d : Nat) (v : Word), d < 4 → s.reaches a TBU_TDd_TIME_FRAC d 0 true = true →
    let low := TBU_TDd_TIME_FRAC.addr d 0
    let h := mwPut s.bus.holds a.id.toNat low (nset ((mwGet s.bus.holds a.id.toNat low).getD []) 0 v)
    exec (.registerWrite a low v) s = .next (State.settle s
      (({ s with bus := { s.bus with holds := h } } : State).answer (some [])))) ∧
  (∀ (s : State) (a : Init) (n k : Nat) (m : NMap Word), n < 64 → 1 ≤ k → k < 4 →
    s.reaches a PDA_MEAS_CURn n k false = true →
    mwGet s.bus.latches a.id.toNat (PDA_MEAS_CURn.addr n 0) = some m →
    s.readReg a (PDA_MEAS_CURn.addr n k) = (ngetD m k 0, s)) ∧
  (∀ (l : List MwHold) (i j low low' : Nat) (ws : NMap Word), ¬ (i = j ∧ low = low') →
    mwGet (mwPut l i low ws) j low' = mwGet l j low') ∧
  (∀ (s : State) (k : Nat), (s.coreReset k).bus.holds = [] ∧ (s.coreReset k).bus.latches = [])

/-- R8, R425: memory holds bytes. A write of bytes is read back byte for byte, leaves every other byte, and keeps the one form
in which equal memories are equal data. -/
def Obligations.MemoryBytes : Prop :=
  ∀ (s : State) (a : Nat) (d : List Byte),
    (∀ k (h : k < d.length), (s.setBytes a d).byte (a + k) = d[k]) ∧
    (∀ x, x < a ∨ a + d.length ≤ x → (s.setBytes a d).byte x = s.byte x) ∧
    (Memory.wf s.mem = true → Memory.wf (s.setBytes a d).mem = true) ∧
    (s.setBytes a d).regs = s.regs

/-- R482, R513, R525: what every step keeps, whatever command it runs: ERR_N is asserted while a condition calls for it; no
hart is held by a debugger that may not hold it; a sleeping device is in the power state that its work calls for. -/
def Obligations.StepKeepsSafe : Prop := ∀ s t : State, s.Safe → step s = .next t → t.Safe

/-- That invariant holds after reset. -/
def Obligations.ResetIsSafe : Prop := State.reset.Safe

/-! ### Rules stated whole -/

/-- R22: a command descriptor is 64 bytes: opcode, tag, flags, group, target and deadline lie where the table says, 48 bytes
of parameters follow, and a descriptor read back from its bytes is itself. -/
def Obligations.DescriptorLayout : Prop :=
  ∀ d : Desc, d.params.length = 48 →
    let b := descBytes d
    b.length = 64 ∧ descOf b = d ∧ leAt b 0 2 = d.opcode.toNat ∧ leAt b 2 2 = d.tag.toNat ∧ bitOf (byteAt b 4) 0 = d.fence ∧
      bitOf (byteAt b 4) 1 = d.atomic ∧ bitOf (byteAt b 4) 2 = d.notify ∧ bitOf (byteAt b 4) 3 = d.expert ∧
      byteAt b 4 / 16 = d.rsvd.toNat ∧ byteAt b 5 = d.group.toNat ∧ leAt b 6 2 = d.target.toNat ∧
      leAt b 8 8 = d.deadline.toNat ∧ b.drop 16 = d.params

/-- R23: a completion is 16 bytes: tag, status, phase, REPEAT, zero, function and result lie where the table says. REPEAT is
clear at the first read of a mailbox result and set at every later one. -/
def Obligations.CompletionLayout : Prop :=
  (∀ (tag status fn result : Nat) (phase rep : Bool), tag < 65536 → status < 65536 → fn < 64 → result < 2 ^ 64 →
    let b := completionBytes tag status phase rep fn result
    let v := leNat b
    b.length = 16 ∧ bitsOf v 15 0 = tag ∧ bitsOf v 31 16 = status ∧ bitOf v 32 = phase ∧ bitOf v 33 = rep ∧ bitsOf v 47 34 = 0 ∧
      bitsOf v 63 48 = fn ∧ bitsOf v 127 64 = result) ∧
  (∀ (s : State) (fn tag status result : Nat) (phase : Bool), s.fcu.svpFence = none → tag < 65536 → status < 65536 → fn < 64 →
    result < 2 ^ 64 → (s.fn fn).mbx.result = completionBytes tag status phase false fn result →
    ((s.fn fn).mbx.st = .fresh → bitOf (leNat (s.readMbx fn).1) 33 = false ∧ ((s.readMbx fn).2.fn fn).mbx.st = .seen) ∧
    ((s.fn fn).mbx.st = .seen →
      (s.readMbx fn).1 = completionBytes tag status phase true fn result ∧ ((s.readMbx fn).2.fn fn).mbx.st = .seen))

/-- R26: queue depths are powers of two from 16 to 4096 entries. -/
def Obligations.QueueDepths : Prop :=
  ∀ (s : State) (fn q : Nat),
    (∃ k, 4 ≤ k ∧ k ≤ 12 ∧ s.sqDepth fn q = 2 ^ k) ∧ (∃ k, 4 ≤ k ∧ k ≤ 12 ∧ s.cqDepth fn q = 2 ^ k)

/-- R41: an on-time shorter than MINON becomes none, and the channel stays off for the period; an off-time shorter than MINON
becomes none, and the channel stays on for the period; with MINON 0 neither changes. Where both are shorter the rule of the
on-time comes first, and a fraction of a nanosecond of R40's on-time is dropped: the model's readings, log entry 34. -/
def Obligations.MinimumOnTime : Prop :=
  (∀ period duty minon : Nat,
    let on := if 65535 ≤ duty then period else period * duty / 65535
    (minon = 0 → onTime period duty minon = on) ∧
    (on < minon * 1000 → onTime period duty minon = 0) ∧
    (minon * 1000 ≤ on → period - on < minon * 1000 → onTime period duty minon = period) ∧
    (minon * 1000 ≤ on → minon * 1000 ≤ period - on → onTime period duty minon = on)) ∧
  (∀ (s : State) (n : Nat) (w : PwmRun), n < 64 → (s.chan n).pwm = some w →
    (s.coreRuns = true → (s.chan n).state = chPwm → w.begun = false → (s.chan n).pwmCmds = [] →
      let t := s.pwmStart n w.from_
      t ≤ (s.untilTd 0 t).td0 →
      onTime (s.pwmPeriod n) (s.dutyApplied n) (s.get PDA_CHn_PWM_CFG_MINON n) = 0 →
      exec (.pwmPeriodStart n) s = .next (State.settle s
        (((s.untilTd 0 t).modChan n fun c => { c with pwm := some { w with
            begun := true, period := s.pwmPeriod n, duty := s.dutyApplied n, start := t, phase := t % s.pwmPeriod n,
            startAt := (s.untilTd 0 t).now, minon := s.get PDA_CHn_PWM_CFG_MINON n, onFor := 0 } }).pwmOffEdge n))) ∧
    (w.begun = true → w.on = true → w.onFor = w.period → (s.chan n).pwmCmds = [] → (s.chan n).state ≠ chHeld →
      ((s.pwmStart n (w.start + w.period).toNat : Nat) : Int) = w.start + w.period →
      exec (.pwmOffEdge n) s = .next (State.settle s s)))

/-- R120: PROFILE_WRITE of a virtual function completes NOT_OWNER; PROFILE_READ is carried out for any function, and
CH_ASSIGN_PROFILE for any function that owns the channel, with any defined profile. -/
def Obligations.ProfileRights : Prop :=
  ∀ (s : State) (r : Req), r.expert = false →
    let n := r.target.toNat
    let p := leAt r.params
    (s.takes 0x0201 r = true → r.fn ≠ 0 →
      exec (.profileWrite r) s = .next (State.settle s ((s.fetched 0x0201 r).finish s.sf.nextSeq (bad stNotOwner)))) ∧
    (s.takes 0x0202 r = true → n < 128 → strayByte [(0, 8)] r.params = none →
      ∀ rec v, s.profile n = some rec → (s.fetched 0x0202 r).fnOk r.fn (p 0 8) 128 true = (true, s.fetched 0x0202 r) →
        (s.fetched 0x0202 r).fnWrite r.fn (p 0 8) rec = (.ok (), v) →
        exec (.profileRead r) s = .next (State.settle s (v.finish s.sf.nextSeq (stOk, none)))) ∧
    (s.takes 0x0105 r = true → n < 64 → s.owner 0 n = r.fn → (s.chan n).state = chOff ∨ (s.chan n).state = chLatched →
      strayByte [(0, 2)] r.params = none → (s.profile (p 0 2)).isSome = true →
      exec (.chAssignProfile r) s = .next (State.settle s
        (((s.fetched 0x0105 r).assignProfile n (p 0 2)).finish s.sf.nextSeq (stOk, none))))

/-- R164: a handle that has accepted no sample for 64 fast ticks is STALE; its next accepted sample clears STALE. A fast tick
counts one more tick without a sample, and an accepted sample starts the count anew. -/
def Obligations.IngestStale : Prop :=
  ∀ (s : State) (h : Nat) (x : Ing), nfind s.pe.ings h = some x →
    (64 ≤ x.idle → exec (.ingestStale h) s = .next (State.settle s (s.setFlag PE_INGh_STATUS_STALE true h))) ∧
    (x.idle < 64 → exec (.ingestStale h) s = .next (State.settle s s)) ∧
    (∀ (i t w q : Nat) (v : Int) (ok : Bool), s.td0 / 10000 * 10000 ≤ t + 640000 → t ≤ s.td0 + 1000 →
      (s.ingSample h i t w v q ok).flag PE_INGh_STATUS_STALE h = false ∧
        (nfind (s.ingSample h i t w v q ok).pe.ings h).map Ing.idle = some 0) ∧
    (∀ k, (nfind (s.pruneWindows k).pe.ings h).map Ing.idle = some (min 64 (x.idle + 1))) ∧
    (s.atGrid = true → s.peTickNo ≠ s.tbu.grid → s.prot = false →
      let k := s.tbu.grid
      exec .fastTick s = .next (State.settle s
        (((s.wr PE_TICK_LO (w32 k)).wr PE_TICK_HI (w32 (k / 4294967296))).pruneWindows k).deletesDue))

/-- R232: a write of a mailbox word while the mailbox is BUSY is ignored and sets OVERWRITE. Otherwise words 0 to 14 are held,
the write of word 15 submits, and the command is formed from the words as they then stand. -/
def Obligations.MailboxWords : Prop :=
  ∀ (s : State) (a : Init) (fn w : Nat) (v : Word), fn < 64 → w < 16 → s.reaches a SF_MBX_CMDw fn w true = true →
    let f := s.fn fn
    (s.flag SF_MBX_STATUS_BUSY fn = true →
      exec (.registerWrite a (SF_MBX_CMDw.addr fn w) v) s = .next (State.settle s
        ((s.setFlag SF_MBX_STATUS_OVERWRITE true fn).answer (some [])))) ∧
    (s.flag SF_MBX_STATUS_BUSY fn = false → w < 15 →
      exec (.registerWrite a (SF_MBX_CMDw.addr fn w) v) s = .next (State.settle s
        ((s.setFn fn { f with mbx := { f.mbx with words := f.mbx.words.set w v } }).answer (some [])))) ∧
    (s.flag SF_MBX_STATUS_BUSY fn = false → w = 15 →
      exec (.mbxSubmit a fn v) s = .next (State.settle s
        (((s.setFn fn { f with mbx := { f.mbx with words := f.mbx.words.set 15 v, st := .busy, sent := true } }).setFlag
          SF_MBX_STATUS_BUSY true fn).answer (some [])))) ∧
    (∀ hi, s.nextFn = some (fn, 8, hi) →
      let u := ({ s with sf := { s.sf with rrFn := fn } } : State).setFn fn
        { (if hi then { f with rrHi := 8 } else { f with rrLo := 8 } : Fn) with mbx := { f.mbx with sent := false } }
      exec .descriptorFetch s = .next (State.settle s
        (u.enter fn 8 (descOf (f.mbx.words.flatMap fun x => leBytes 4 x.toNat)))))

/-- R303: a queue whose IDENTITY is not zero sends one message interrupt, IDENTITY to its owner's file, at the first grid
point after a write-back; further write-backs before it share it; a queue whose IDENTITY is zero notes none. -/
def Obligations.QueueInterrupts : Prop :=
  ∀ (s : State) (q : Nat),
    (s.get ESW_Qq_CFG_IDENTITY 0 q = 0 → s.qWroteBack q = s) ∧
    (s.get ESW_Qq_CFG_IDENTITY 0 q ≠ 0 → (s.ethq q).irq = none → ((s.qWroteBack q).ethq q).irq = some s.now) ∧
    (∀ t, s.get ESW_Qq_CFG_IDENTITY 0 q ≠ 0 → (s.ethq q).irq = some t → ((s.qWroteBack q).ethq q).irq = some t) ∧
    (∀ t, (s.ethq q).irq = some t → s.atGrid = true → t < s.now →
      exec (.queueInterrupt q) s = .next (State.settle s
        ((s.modEthq q fun x => { x with irq := none }).msi (s.fnFile (s.qOwner q)) (s.get ESW_Qq_CFG_IDENTITY 0 q)))) ∧
    (∀ t, (s.ethq q).irq = some t → s.atGrid = false ∨ s.now ≤ t →
      exec (.queueInterrupt q) s = .next (State.settle s s)) ∧
    ((s.ethq q).irq = none → exec (.queueInterrupt q) s = .next (State.settle s s))

/-- R309: INC holds nanoseconds in its upper and the fraction in its lower 32 bits, and is 2.0 ns nominally. A written value
from 1.998 to 2.002 ns is what the next tick adds; another is ignored, INC stays and INC_REFUSED is set. -/
def Obligations.TimeIncrement : Prop :=
  (∀ d < 4, (State.reset.td d).inc = 2 * 4294967296) ∧
  (∀ (s : State) (a : Init) (d : Nat) (v f : Word), d < 4 → s.reaches a TBU_TDd_INC_NS d 0 true = true →
    s.heldWords a.id.toNat (TBU_TDd_INC_FRAC.addr d 0) [0] = [f] →
    let inc := f.toNat + v.toNat % 16 * 4294967296
    let u := s.dropHold a (TBU_TDd_INC_FRAC.addr d 0)
    (1998 * 4294967296 ≤ inc * 1000 ∧ inc * 1000 ≤ 2002 * 4294967296 →
      exec (.incWrite a d v) s = .next (State.settle s (((u.setTd d { s.td d with inc := inc }).refresh d).answer (some [])))) ∧
    (¬ (1998 * 4294967296 ≤ inc * 1000 ∧ inc * 1000 ≤ 2002 * 4294967296) →
      exec (.incWrite a d v) s = .next (State.settle s ((u.setBitOf TBU_EVT_INC_REFUSED d).answer (some []))) ∧
        (u.setBitOf TBU_EVT_INC_REFUSED d).td d = s.td d)) ∧
  (∀ (s : State) (d : Nat), d < 4 → s.tbu.td.length = 4 → s.coreRuns = true →
    ((s.ticks 1).td d).val = ((s.td d).val + (s.td d).inc) % tdWrap)

/-- R324: a read of `TBU_TSQ_INFO` answers the oldest entry's INFO word, removes the entry and latches its other words; of an
empty queue it answers zero, VALID clear, and leaves the latched words as they are. -/
def Obligations.StampQueueRead : Prop :=
  ∀ (s : State) (a : Init), s.reaches a TBU_TSQ_INFO 0 0 false = true →
    (∀ (e : TsqEntry) (l : List TsqEntry), s.tbu.tsq = e :: l → w32 e.info ≠ 0 →
      exec (.tsqInfoRead a) s = .next (State.settle s
        ((({ s with tbu := { s.tbu with tsq := l } }).latchFor a 0x45000040 (tsqWords e)).answer
          (some (leBytes 4 (w32 e.info).toNat))))) ∧
    (s.tbu.tsq = [] → exec (.tsqInfoRead a) s = .next (State.settle s (s.answer (some (leBytes 4 0)))))

/-- R523: the debug module is active while dmactive is set or any hart is halted, and while it is active the sleep condition
does not hold: a device in RUN does not prepare to sleep. -/
def Obligations.DebugKeepsAwake : Prop :=
  ∀ s : State,
    (s.dbgActive = true ↔ s.dbg.dmactive = true ∨ ∃ e ∈ s.cc.harts, e.2.halted = true) ∧
    (s.dbgActive = true → s.sleepCondition = false) ∧
    (s.dbgActive = true → exec .prepareSleep s = .next (State.settle s s))

/-! ### Switch channels, profiles, measurement (chapters 01 to 03) -/

/-- R36, R57, R81: a write of `PDA_CHn_CTRL` that reaches the PDA makes a request, which waits for the next grid point, and
sets the other writable bits (B2B only while the channel is OFF); a write of `PDA_CHn_FAULT` clears the bits written as
one.

R36, R37, R89, R92: a request to turn an OFF channel on takes effect at a grid point after it was made: the channel is
TURNING_ON, its gate charges, the blanking time runs, the inrush clock and the I²t accumulator start from zero; no other
channel, no memory byte, no command and no time base changes.

R36, R39: a request to turn an ON channel off takes effect at a grid point after it was made: the gate discharges, with
the fast sink where FAST asks for it, and the channel is TURNING_OFF; once the gate is below 1 V (TURN_OFF_COMPLETE) it is
OFF. -/
def Obligations.ChannelRequests : Prop :=
  (∀ (s : State) (a : Init) (n : Nat) (v : Word), n < 64 →
      (s.reaches a PDA_CHn_CTRL n 0 true = true → v.toNat % 4 ≠ 3 → (s.chan n).state ≠ chLimp →
        (v.toNat % 4 ≠ 0 → s.profIdx n ≠ 0 ∧ s.peLatched n = false) →
        (∀ r, (s.chan n).pend = some r → r.cmd = none) →
        exec (.chCtrlReqWrite a n v) s = .next (State.settle s
          ((((s.wr PDA_CHn_CTRL (w32 (setBits (setBit (v.toNat % 262144) 3
                (if (s.chan n).state = chOff then bitOf v.toNat 3 else bitOf (s.rd PDA_CHn_CTRL n).toNat 3)) 1 0
                (bitsOf (s.rd PDA_CHn_CTRL n).toNat 1 0))) n).set PDA_CHn_CTRL_REQ (v.toNat % 4) n).modChan n fun c =>
              { c with pend := some { req := v.toNat % 4, fast := bitOf v.toNat 2, at_ := s.now } }).answer (some [])))) ∧
      (s.reaches a PDA_CHn_FAULT n 0 true = true →
        exec (.chFaultClear a n v) s = .next (State.settle s
          (((s.set PDA_CHn_FAULT_FAULT (s.faults n &&& (0x7FFFF ^^^ (v.toNat &&& 0x7FFFF))) n).modChan n fun c =>
              { c with kept := c.kept &&& (0x7FFFF ^^^ (v.toNat &&& 0x7FFFF)) }).answer (some []))))) ∧
  (∀ (s : State) (n at_ : Nat) (f : Bool), n < 64 → s.atGrid = true → at_ < s.now →
      (s.chan n).pend = some { req := 1, fast := f, at_ := at_ } → (s.chan n).state = chOff → (s.chan n).gate = .off →
      (s.chan n).waitOn = [] → (s.chan n).act = none → s.profIdx n ≠ 0 → (s.chan n).thermal = false →
      s.peLatched n = false → s.pda.cpLow = false → nfind s.pda.cal n = none →
      ∃ e, exec (.channelRequestEffect n) s = .next (State.settle s e) ∧
        (e.chan n).state = chTurningOn ∧ (e.chan n).gate = .charging ∧ (e.chan n).req = 1 ∧ (e.chan n).pend = none ∧
        (e.chan n).clock = 0 ∧ (e.chan n).b = 0 ∧ (e.chan n).blank = max 1 (s.get PDA_CHn_DIAG_ON_BLANK n) ∧
        (e.chan n).reqAt = some s.now ∧
        (∀ m, m ≠ n → e.chan m = s.chan m) ∧ e.mem = s.mem ∧ e.sf = s.sf ∧ e.tbu = s.tbu ∧ e.pcs = s.pcs ∧ e.now = s.now) ∧
  (∀ (s : State) (n at_ : Nat) (f : Bool), n < 64 →
      (s.atGrid = true → at_ < s.now → (s.chan n).pend = some { req := 0, fast := f, at_ := at_ } →
        (s.chan n).state = chOn → (s.chan n).gate = .on → (s.chan n).waitOn = [] → (s.chan n).act = none →
        ∃ e, exec (.channelRequestEffect n) s = .next (State.settle s e) ∧
          (e.chan n).state = chTurningOff ∧ (e.chan n).gate = (if f then .fast else .sink) ∧ (e.chan n).req = 0 ∧
          (e.chan n).pend = none ∧ (∀ m, m ≠ n → e.chan m = s.chan m) ∧ e.mem = s.mem ∧ e.sf = s.sf) ∧
      ((s.chan n).gate = .sink ∨ (s.chan n).gate = .fast → (s.chan n).state = chTurningOff → (s.chan n).settle = none →
        ∃ e, exec (.turnOffComplete n) s = .next (State.settle s e) ∧
          (e.chan n).state = chOff ∧ (e.chan n).gate = .off ∧ (e.chan n).offAt = some s.now ∧
          (∀ m, m ≠ n → e.chan m = s.chan m) ∧ e.regs = s.regs ∧ e.mem = s.mem ∧ e.sf = s.sf))

/-- R37, R38, R46, R53, R54: where blanking has run out without turn-on, where three headroom samples in a row are too large,
where the shunt voltage exceeds the ceiling, and where a reverse run is complete on a driven back-to-back channel, the
channel trips with the cause the rule names; a stuck-on run of three samples is recorded and reported to the fault
collector once.

R39, R56, R112, R118: a trip of a channel that is ON, between grid points: the gate discharges with the fast sink, the
channel is TURNING_OFF until the next grid point settles the outcome, the diagnosis record keeps time, cause and count,
and the cause's fault bit reads one while protection is active. No other channel changes and no memory byte does. -/
def Obligations.ChannelTrips : Prop :=
  (∀ (s : State) (n uv : Nat), n < 64 →
      (s.atGrid = true → (s.chan n).state = chTurningOn → (s.chan n).blank = 0 → (s.grp (n / 8)).uv = false →
        (s.chan n).paused = false →
        exec (.blankingExpiry n) s = .next (State.settle s (s.trip n [fDesat]))) ∧
      (s.prot = true → 3 ≤ (s.chan n).desat → exec (.desat n) s = .next (State.settle s (s.trip n [fDesat]))) ∧
      ((s.chan n).gate ≠ .off → s.pcs.vbat = true →
        ceilNv (bitsOf (s.chan n).copy.ctrl.toNat 9 4) * 103 / 100 + 500000 < uv * 1000 →
        exec (.ceilingTrip n uv) s =
          .next (State.settle s (((s.ceilThreshold n).2.trip n [fShort]).parkTripped n))) ∧
      (s.prot = true → 10 ≤ (s.chan n).rev → s.flag PDA_CHn_CTRL_B2B n = true → (s.chan n).state = chOn →
        (s.chan n).driven = true →
        exec (.reverse n) s = .next (State.settle s (s.trip n [fReverse]))) ∧
      (s.prot = true → (s.chan n).stuck = 3 →
        exec (.stuckOn n) s = .next (State.settle s
          (((s.setFault n fStuck).modChan n fun c => { c with stuck := 4 }).report (0x180 + n)))) ∧
      (s.prot = true → (s.chan n).olonDue = true →
        exec (.openLoadOn n) s = .next (State.settle s (s.setFault n fOpenOn)))) ∧
  (∀ (s : State) (n k : Nat), n < 64 → k < 19 → k ≠ fThermal → k ≠ fWire → bitOf keptMask k = false →
      (s.chan n).state = chOn → (s.chan n).gate = .on → (s.chan n).settle = none → (s.chan n).waitOn = [] →
      s.pda.lost = false → s.prot = true → s.atGrid = false →
      let e := s.trip n [k]
      (e.chan n).state = chTurningOff ∧ (e.chan n).gate = .fast ∧ (e.chan n).settle = some false ∧
        (e.chan n).cause = min 31 k ∧ (e.chan n).tripTd = s.td0 ∧ (e.chan n).trips = satAdd 65535 (s.chan n).trips 1 ∧
        (e.chan n).refill = 0 ∧ bitOf (e.faults n) k = true ∧
        (∀ m, m ≠ n → e.chan m = s.chan m) ∧ e.mem = s.mem ∧ e.sf = s.sf ∧ e.tbu = s.tbu ∧ e.fcu = s.fcu)

/-- R35, R537: the charge pump's three events. Below 8 V above the highest group supply turn-ons are deferred and CP_OK
clears; below 6 V for 50 µs every channel that is driven trips with CP_UV; at or above 8 V UV_DEFER clears and CP_OK is set,
and UV_OFF clears with them (the model's choice, log entry 104). A group at 0 V does not count, and with every group at 0 V the
pump is compared with VBAT.

R55, R95–R97: a group whose run of low samples lasts 100 µs is under undervoltage, and each of its channels records it; a
run above the upper level ends it; a droop event that has lasted PAUSE_MAX ends.

R40, R41: the first period of a PWM sequence starts at its start instant, latches the period and DUTY_APPLIED, and turns
the gate on unless the on-time is zero; at the end of an on-time shorter than the period the gate turns off with the
SINK_CODE current. (`t` is the instant the time base reaches.)

R42, R43: the 100 µs recomputation, at every tenth grid point (the model's choice, log entry 104), goes through every channel; with a usable group voltage V a compensating channel gets
DUTY_SET × VNOM² / V², rounded down and at most 65535, and COMP_HOLD clear; 10 ms without one it runs with DUTY_SET. -/
def Obligations.PumpGroupsAndPwm : Prop :=
  (∀ (s : State) (x : PumpIn), s.coreRuns = true →
      let top := (x.grp.map Prod.snd).foldl max 0
      let ref := if top = 0 then x.vbat else top
      (x.cp < ref + 8000 → exec (.uvDefer x) s = .next (State.settle s
        ((({ s with pda := { s.pda with cpLow := true } }).setFlag PDA_CP_STATUS_UV_DEFER true).setFlag
          PDA_CP_STATUS_CP_OK false))) ∧
      (ref + 8000 ≤ x.cp → exec (.cpRecover x) s = .next (State.settle s
        (((({ s with pda := { s.pda with cpLow := false } }).setFlag PDA_CP_STATUS_UV_DEFER false).setFlag
          PDA_CP_STATUS_UV_OFF false).setFlag PDA_CP_STATUS_CP_OK true))) ∧
      (x.cp < ref + 6000 →
        let t := allCh.foldl (fun u n => if (u.chan n).driven then u.trip n [fCpUv] else u)
          (((({ s with pda := { s.pda with cpLow := true } }).setFlag PDA_CP_STATUS_UV_DEFER true).setFlag
            PDA_CP_STATUS_UV_OFF true).setFlag PDA_CP_STATUS_CP_OK false)
        exec (.cpUv x) s = .next (State.settle s
          (((t.pcs.parks.filter fun e => e.2.on).map fun e => pkChannel e.2.raw).foldl
            (fun u n => if (u.chan n).driven then u else u.parkTripped n) t)))) ∧
  (∀ (s : State) (k : Nat), k < 8 → s.prot = true →
      ((s.grp k).uv = false → (s.grp k).runDone = true →
        exec (.groupUvBegin k) s = .next (State.settle s
          ((grpChans k).foldl (fun s n => s.setFault n fGroupUv)
            (s.setGrp k { s.grp k with uv := true, run := none })))) ∧
      ((s.grp k).uv = true → (s.grp k).runDone = true →
        exec (.groupUvEnd k) s = .next (State.settle s (s.setGrp k { s.grp k with uv := false, run := none }))) ∧
      (∀ (sum : Int) (cnt start : Nat), (s.grp k).event = some (sum, cnt, start) → start + s.pauseMax k ≤ s.tbu.grid →
        exec (.pauseMaxExpiry k) s = .next (State.settle s (s.endDroop k true)))) ∧
  (∀ (s : State) (n : Nat) (w : PwmRun), n < 64 → s.coreRuns = true → (s.chan n).pwm = some w → (s.chan n).state = chPwm →
      (w.begun = false → (s.chan n).pwmCmds = [] →
        let t := s.pwmStart n w.from_
        t ≤ (s.untilTd 0 t).td0 →
        onTime (s.pwmPeriod n) (s.dutyApplied n) (s.get PDA_CHn_PWM_CFG_MINON n) ≠ 0 →
        exec (.pwmPeriodStart n) s = .next (State.settle s
          (((s.untilTd 0 t).modChan n fun c => { c with pwm := some { w with
              begun := true, period := s.pwmPeriod n, duty := s.dutyApplied n, start := t, phase := t % s.pwmPeriod n,
              startAt := (s.untilTd 0 t).now, minon := s.get PDA_CHn_PWM_CFG_MINON n,
              onFor := onTime (s.pwmPeriod n) (s.dutyApplied n) (s.get PDA_CHn_PWM_CFG_MINON n) } }).pwmOnEdge n))) ∧
      (w.begun = true → w.on = true → w.onFor < w.period →
        w.start + w.onFor ≤ (s.untilTd 0 (w.start + w.onFor).toNat).td0 →
        exec (.pwmOffEdge n) s = .next (State.settle s ((s.untilTd 0 (w.start + w.onFor).toNat).pwmOffEdge n)))) ∧
  ((∀ s : State, s.prot = true → s.atGrid = true → s.tbu.grid % 10 = 0 →
      exec .dutyRecompute s = .next (State.settle s (allCh.foldl State.dutyRecompute s))) ∧
    (∀ (s : State) (n sum cnt : Nat), s.get PDA_CHn_PWM_CFG_VNOM n ≠ 0 → (s.chan n).state ≠ chHeld → cnt ≠ 0 → 0 < sum →
      histSum ((s.grp (n / 8)).hist.filter fun e => decide (s.tbu.grid < e.1 + 10)) = ((sum : Int), cnt) →
      s.dutyRecompute n =
        ((s.modChan n fun c => { c with holdSince := none }).set PDA_CHn_PWM_APPLIED_DUTY_APPLIED
          (min 65535 (s.get PDA_CHn_PWM_DUTY_DUTY_SET n * (s.get PDA_CHn_PWM_CFG_VNOM n * 65536 * cnt) *
            (s.get PDA_CHn_PWM_CFG_VNOM n * 65536 * cnt) / ((sum * 100) * (sum * 100)))) n).setFlag
          PDA_CHn_PWM_APPLIED_COMP_HOLD false n) ∧
    (∀ (s : State) (n t : Nat), n < 64 → s.prot = true → (s.chan n).holdSince = some t → s.get PDA_CHn_PWM_CFG_VNOM n ≠ 0 →
      (s.chan n).state ≠ chHeld →
      exec (.compHoldExpiry n) s = .next (State.settle s
        ((s.until (t + 10000000)).set PDA_CHn_PWM_APPLIED_DUTY_APPLIED
          ((s.until (t + 10000000)).get PDA_CHn_PWM_DUTY_DUTY_SET n) n))))

/-- R48–R51, R555: an off-state test that is due on a channel without back-to-back switch first looks for a short to supply,
which an output within 0.8 V of the group supply is and one more than 1.2 V below it is not, then waits for SETTLE; the sample
after SETTLE decides between open load, above 2.1 V, and normal, up to 1.9 V. (Between the bounds the threshold of the chip is a
free value.)

R113–R117: a TRIPPED channel whose delay has run out restarts at a grid point, using up one retry of its budget; trip-free
on-time of REFILL restores the budget to the profile's RETRIES.

R61–R66: with the core die declared lost, a channel in its hold time ends there and takes its orphan state; where its
orphan setting is OFF it turns off. Where the core die's link is lost the channels are held at once and the core die is
reset; after a loss by link the reset is kept for 0.95 to 1.1 ms (R559).

R69–R73: the filtered LIMP and LH inputs are judged for every channel; a limp PWM edge that is due drives the gate; a
requested release takes effect at a grid point. -/
def Obligations.TestsRestartsAndLimp : Prop :=
  (∀ (s : State) (n t : Nat) (vout vgrp : Int), n < 64 → s.prot = true → s.offTestOk n = true →
      (s.flag PDA_CHn_CTRL_B2B n = false → (s.chan n).offBusy = none → (s.chan n).offNext = none →
        s.atGrid = true →
        let u : State := { s.modChan n fun c =>
          { c with offNext := some (s.td0 + clampN 1 1000 (s.get PDA_CHn_DIAG_OFF_INTERVAL n) * 1000000) } with free := s.free + 1 }
        (vout ≤ vgrp - 1200000 → exec (.offStateTestStart n vout vgrp) s = .next (State.settle s
          (u.modChan n fun c => { c with offBusy := some (s.td0 + (s.get PDA_CHn_DIAG_OFF_SETTLE n + 1) * 100000) }))) ∧
        (vgrp - 800000 < vout → exec (.offStateTestStart n vout vgrp) s = .next (State.settle s (u.offResult n (some 1))))) ∧
      ((s.chan n).offBusy = some t → t * fracOne ≤ (s.td 0).val → t ≤ s.td0 →
        let u : State := { s.modChan n fun c => { c with offBusy := none } with free := s.free + 1 }
        (2100000 < vout → exec (.offStateTestSample n vout) s = .next (State.settle s (u.offResult n (some 0)))) ∧
        (vout ≤ 1900000 → exec (.offStateTestSample n vout) s = .next (State.settle s (u.offResult n none))))) ∧
  (∀ (s : State) (n : Nat), n < 64 →
      (s.atGrid = true → (s.chan n).state = chTripped → (s.chan n).restart = true → (s.chan n).delay = 0 →
        (s.chan n).thermal = false → s.peLatched n = false → (s.chan n).cause = fOvercurrent → (s.chan n).req = 1 →
        s.pda.cpLow = false →
        exec (.channelRestart n) s = .next (State.settle s
          ((s.modChan n fun c => { c with restart := false, left := c.left - 1, used := min 15 (c.used + 1) }).turnOn n))) ∧
      (s.profIdx n ≠ 0 → (s.chan n).state = chOn ∨ (s.chan n).state = chPwm → pU16 (s.prof n) 12 * 10000 ≤ (s.chan n).refill →
        exec (.budgetRefill n) s = .next (State.settle s
          (s.modChan n fun c => { c with left := pRetries (s.prof n), used := 0, refill := 0 })))) ∧
  ((∀ (s : State) (n t : Nat), n < 64 → s.pda.lost = true → (s.chan n).holdEnd = some t → (s.chan n).orphan = 0 →
      (s.chan n).state = chHeld →
      exec (.tHoldExpiry n) s = .next (State.settle s
        ((((s.until t).modChan n fun c => { c with holdEnd := none }).modChan n fun c =>
          { c with req := 0, orphanHold := false }).turnOff n false))) ∧
    (∀ (s : State) (supply : Bool), s.coreRuns = true →
      let x := s.freeIn (-50000) 100000
      let u := x.2.coreReset 8
      exec (.coreDieLost supply) s = .next (State.settle s
        { u with pcs := { u.pcs with noEarlier := if supply then 0 else ((s.now : Int) + 1000000 + x.1).toNat
                                     rails := if supply then 0 else u.pcs.rails } }) ∧
      -50000 ≤ x.1 ∧ x.1 ≤ 100000)) ∧
  ((∀ (s : State) (level : Bool), s.pcs.vbat = true →
      exec (.limpChange level) s = .next (State.settle s
        ((allCh.foldl State.limpEval { s with pcs := { s.pcs with limpPin := level } }).parksUnderLimp))) ∧
    (∀ (s : State) (levels : Nat), s.pcs.vbat = true →
      exec (.lhChange levels) s = .next (State.settle s
        ((allCh.foldl State.limpEval { s with pcs := { s.pcs with lhPins := levels % 256 } }).parksUnderLimp))) ∧
    (∀ (s : State) (n : Nat), (s.chan n).limpEntry = true → s.pcs.limpPin = true → (s.chan n).state = chOff →
      (s.limpEval n) = s.limpTake n) ∧
    (∀ (s : State) (n t : Nat), n < 64 → (s.chan n).relAt = some t → s.limpWants n = false → s.prot = true →
      s.atGrid = true → t < s.now →
      exec (.limpRelease n) s = .next (State.settle s (s.limpRelease n))) ∧
    (∀ (s : State) (n t : Nat), n < 64 → (s.chan n).edge = some (t, false) →
      exec (.limpPwmEdge n) s = .next (State.settle s ((s.until t).modChan n fun c =>
        { (c.discharge false) with
          edge := some (t + (5000000 - 5000000 * (s.chan n).edgeDuty / 256), true), edgeOff := some (s.until t).now }))) ∧
    (∀ (s : State) (est : List (Nat × Int)), s.pcs.vbat = true →
      let t := { s.until (s.pda.limpTick + 100000) with
        pda := { (s.until (s.pda.limpTick + 100000)).pda with limpTick := (s.until (s.pda.limpTick + 100000)).now } }
      exec (.limpI2tUpdate est) s = .next (State.settle s
        ((allCh.filter fun n => (t.chan n).state == chHeld || (t.chan n).state == chLimp).foldl
          (fun u n =>
            if (limpI2t (u.chan n) (codeOf est n 0)).2 then
              ((u.setChan n (limpI2t (u.chan n) (codeOf est n 0)).1).trip n [fLimpI2t]).parkTripped n
            else u.setChan n (limpI2t (u.chan n) (codeOf est n 0)).1) t))) ∧
    (∀ (c : Ch) (i : Int),
      (limpI2t c i).1 = { c with limpA := ((c.limpA : Int) + (10 * i) * (10 * i) -
        ((c.copy.i2t.toNat % 65536 : Nat) * 65536 : Int) * ((c.copy.i2t.toNat % 65536 : Nat) * 65536 : Int)).toNat }))

/-- R36, R123, R148: at the next TD0 grid point `g` the time base reads g × 10 µs, every due source is sampled with that time,
the checks of the power distribution array follow, and the protection engine takes the samples. Before protection is
active only the samples are taken.

R18, R125: the current sample of a configured channel, with TD0 synchronised and nothing to exclude the sample, is a VALID
word whose value is code / 2¹⁷ × V_FS / SHUNT with the user terms, and whose time is the grid point's; every other source
keeps its word.

R126: a supply or output voltage word holds code × 320 − 8 V in units of 2⁻¹⁶ V before the user terms. -/
def Obligations.SamplesAndWords : Prop :=
  (∀ (s : State) (x : GridIn), s.coreRuns = true →
      let g := s.gridDue
      let u := s.untilTd 0 (gridNs g)
      let t := { u with tbu := { u.tbu with grid := g, gridNext := g + 1, gridAt := some u.now } }
      exec (.gridPoint x) s = .next (State.settle s ((t.pdaGrid x g (gridNs g)).peSample g)) ∧
        (((t.sampleAll x g (gridNs g)).prot = false) →
          exec (.gridPoint x) s = .next (State.settle s ((t.sampleAll x g (gridNs g)).peSample g)))) ∧
  (∀ (s : State) (n td : Nat) (code : Int), n < 64 → s.profIdx n ≠ 0 → pShunt (s.prof n) ≠ 0 → -131072 < code → code < 131071 →
      s.pda.lostBits.contains n = false → nfind s.pda.skip n = none → nfind s.pda.step n = none →
      nfind s.pda.cal n = none → s.synced 0 = true →
      (s.sampleCur n td code).word n = some (mword td n 1
        (withTerms (s.userTerms n) (code * pVfs (s.prof n) * 65536) (131072 * pShunt (s.prof n)))) ∧
      (∀ m, m ≠ n → (s.sampleCur n td code).word m = s.word m) ∧ (s.sampleCur n td code).regs = s.regs ∧
      (s.sampleCur n td code).mem = s.mem) ∧
  (∀ (s : State) (sid td code : Nat), 0 < code → code < 16383 → s.userTerms sid = {} → nfind s.pda.skip sid = none →
      nfind s.pda.step sid = none → nfind s.pda.cal sid = none → s.synced 0 = true →
      (s.sampleVolt sid td code).word sid = some (mword td sid 1 (sat32 (roundDivI (65536 * ((code : Int) * 320 - 524288)) 65536))) ∧
      (∀ m, m ≠ sid → (s.sampleVolt sid td code).word m = s.word m))

/-- R100, R319: at the first grid point that is not before a whole millisecond of TD0 the update of that millisecond is made,
once, for every channel.

R122, R133, R134: a frame error of the inter-die link marks the channels that lost bits and is reported to the fault
collector; trims are re-applied without a change of state (the model's reading, log entry 22); the end of an offset calibration adds the measured offset to
the trim and completes the command that started it.

R141–R143: at a grid point that is a multiple of its period a stream takes one set of the latest words: into its ring, or
towards a frame, which leaves when BATCH sets are collected. -/
def Obligations.EstimatesAndStreams : Prop :=
  (∀ s : State, s.prot = true → s.atGrid = true →
      (s.tbu.kettleMs < s.tbu.grid / 100 →
        exec .kettleUpdate s = .next (State.settle s
          ((List.range 8).foldl (fun u k => u.setGrp k { u.grp k with sumV := 0, nV := 0 })
            (allCh.foldl State.kettleChannel { s with tbu := { s.tbu with kettleMs := s.tbu.grid / 100 } })))) ∧
      (s.tbu.grid / 100 ≤ s.tbu.kettleMs → exec .kettleUpdate s = .next (State.settle s s))) ∧
  (∀ s : State,
      (∀ chs : List Nat, s.coreRuns = true →
        exec (.linkFrameError chs) s = .next (State.settle s
          (({ s with pda := { s.pda with lostBits := (s.pda.lostBits ++ chs.filter (· < 64)).eraseDups } }).report 0x1C0))) ∧
      exec .trimReapply s = .next (State.settle s s) ∧
      (∀ (sid t seq : Nat) (ofs : Int), nfind s.pda.cal sid = some (t, seq) →
        let u := s.until t
        exec (.offsetCalibrationDone sid ofs) s = .next (State.settle s
          (({ u with pda := { u.pda with
              cal := nerase u.pda.cal sid
              trim := nput 0 u.pda.trim sid (ngetD u.pda.trim sid 0 + sat32 ofs) } }).complete seq stOk
            (unsignedOf 32 (sat32 ofs)))))) ∧
  (∀ (s : State) (h : Nat) (x : Stream), nfind s.pda.streams h = some x → s.atGrid = true → s.tbu.grid % x.period = 0 →
      x.last ≠ some s.tbu.grid →
      (x.ring = false → x.sets.length + 1 < x.batch →
        exec (.streamPublish h) s = .next (State.settle s (s.setStream h
          { x with last := some s.tbu.grid, sets := x.sets ++ [x.srcs.map (s.streamWord x)] }))) ∧
      (x.ring = false → x.batch ≤ x.sets.length + 1 →
        exec (.streamPublish h) s = .next (State.settle s (s.streamFrame h
          { x with last := some s.tbu.grid, sets := x.sets ++ [x.srcs.map (s.streamWord x)] }))) ∧
      (x.ring = true →
        exec (.streamPublish h) s = .next (State.settle s
          (((s.ringWords { x with last := some s.tbu.grid } (x.srcs.map (s.streamWord x)) x.widx).wr PDA_STREAMs_WIDX
              (w32 ((x.widx + x.srcs.length) % 4294967296)) h).setStream h
            { x with last := some s.tbu.grid, widx := (x.widx + x.srcs.length) % 4294967296 }))))

/-! ### Time, protection engine (chapters 04, 05, 09) -/

/-- R313, R314, R330: writes of a domain's control register and of the snapshot register that reach the TBU. LOCK takes FREE
to LOCKED; UNLOCK takes LOCKED and HOLDOVER to FREE; REFRESH renews the refresh time; CAPTURE copies all four domains.

R313, R314: a LOCKED domain that has not been refreshed for REFRESH_T enters HOLDOVER with its event; after HOLD_T more it is
FREE, with its event and an error report; each acts one tick after its instant, so that a refresh on that tick prevails (the
model's choice, log entry 114).

R315: a SET requested on a domain that is neither LOCKED nor in HOLDOVER, with a fraction below 10⁹ ns, waits to be
applied, and replaces a step that waits; a SET on a synchronised domain is refused with its event and an error report.

R316: a step within STEP_MAX that leaves the time at zero or more waits to be applied.

R315–R318: a waiting SET or step of TD1 to TD3 is applied at the next tick: the domain then reads the requested value, or
its own value moved by the step; a SET leaves the domain FREE. -/
def Obligations.TimeDomains : Prop :=
  (∀ (s : State) (a : Init) (d : Nat) (v : Word), d < 4 →
      (s.reaches a TBU_TDd_CTRL d 0 true = true → bitOf v.toNat 1 = false → bitOf v.toNat 2 = false → (s.td d).st = .free →
        exec (.lock a d v) s = .next (State.settle s
          ((s.setTd d { s.td d with st := .locked, refresh := s.now }).answer (some [])))) ∧
      (s.reaches a TBU_TDd_CTRL d 0 true = true → bitOf v.toNat 0 = false → bitOf v.toNat 2 = false →
        (s.td d).st = .locked ∨ (s.td d).st = .holdover →
        exec (.unlock a d v) s = .next (State.settle s ((s.setTd d { s.td d with st := .free }).answer (some [])))) ∧
      (s.reaches a TBU_TDd_CTRL d 0 true = true → bitOf v.toNat 0 = false → bitOf v.toNat 1 = false →
        exec (.refresh a d v) s = .next (State.settle s
          ((s.setTd d
            { s.td d with refresh := s.now, st := if (s.td d).st = .holdover then .locked else (s.td d).st }).answer (some [])))) ∧
      (s.reaches a TBU_SNAP 0 0 true = true →
        exec (.snapCapture a v) s = .next (State.settle s
          (((List.range 4).foldl (fun u e =>
              (((u.wr TBU_SNAPd_FRAC (w32 (u.td e).frac) e).wr TBU_SNAPd_NS (w32 (u.td e).nsec) e).wr TBU_SNAPd_SEC_LO
                (w32 ((u.td e).sec % 4294967296)) e).wr TBU_SNAPd_SEC_HI (w32 ((u.td e).sec / 4294967296 % 65536)) e) s).answer
            (some []))))) ∧
  (∀ (s : State) (d : Nat), d < 4 → s.coreRuns = true →
      ((s.td d).st = .locked → s.holdT d ≠ 0 →
        let t := max s.now ((s.td d).refresh + s.refreshT d)
        let u := s.until (t + 2)
        exec (.holdoverEntry d) s = .next (State.settle s
          ((u.setTd d { u.td d with st := .holdover, holdAt := t }).setBitOf TBU_EVT_HOLDOVER d))) ∧
      ((s.td d).st = .holdover →
        let u := s.until ((s.td d).holdAt + s.holdT d + 2)
        exec (.holdoverExpiry d) s = .next (State.settle s
          (((u.setTd d { u.td d with st := .free }).setBitOf TBU_EVT_FREE d).report (0x1D4 + d))))) ∧
  (∀ (s : State) (a : Init) (d : Nat) (v f n l : Word), d < 4 → s.reaches a TBU_TDd_TIME_SEC_HI d 0 true = true →
      s.heldWords a.id.toNat (TBU_TDd_TIME_FRAC.addr d 0) [0, 1, 2] = [f, n, l] →
      let t : State := s.dropHold a (TBU_TDd_TIME_FRAC.addr d 0)
      (s.synced d = false → n.toNat ≤ 999999999 →
        exec (.timeSetWrite a d v) s = .next (State.settle s
          ((t.setTd d
            { s.td d with pendSet := some (l.toNat + v.toNat % 65536 * 4294967296, n.toNat, f.toNat), pendStep := none,
                          reqAt := s.now }).answer (some [])))) ∧
      (s.synced d = true →
        exec (.timeSetWrite a d v) s = .next (State.settle s
          (((t.setBitOf TBU_EVT_SET_REFUSED d).report (0x1D0 + d)).answer (some []))))) ∧
  (∀ (s : State) (a : Init) (d : Nat) (v l : Word), d < 4 → s.reaches a TBU_TDd_STEP_HI d 0 true = true →
      s.heldWords a.id.toNat (TBU_TDd_STEP_LO.addr d 0) [0] = [l] → (s.td d).pendSet = none →
      s.stepBad d (signed 64 (l.toNat + v.toNat * 4294967296)) = false →
      exec (.stepWrite a d v) s = .next (State.settle s
        (((s.dropHold a (TBU_TDd_STEP_LO.addr d 0)).setTd d
          { s.td d with pendStep := some (signed 64 (l.toNat + v.toNat * 4294967296)), reqAt := s.now }).answer (some [])))) ∧
  (∀ (s : State) (d : Nat), 1 ≤ d → d < 4 → s.coreRuns = true →
      (∀ sec ns frac : Nat, (s.td d).pendSet = some (sec, ns, frac) → (s.td d).pendStep = none →
        exec (.timeSetApply d) s = .next (State.settle s
          ((((s.ticks 1).setTd d
            { (s.ticks 1).td d with val := ((sec * 1000000000 + ns) * fracOne + frac) % tdWrap, st := .free,
                                    pendSet := none }).stepped d ((s.ticks 1).td d).ns).applyStep d true))) ∧
      (∀ delta : Int, (s.td d).pendStep = some delta → (s.td d).pendSet = none → (s.td d).st ≠ .unset →
        exec (.stepApply d) s = .next (State.settle s
          ((((s.ticks 1).setTd d { (s.ticks 1).td d with pendStep := none }).setTd d
            { (s.ticks 1).td d with val := ((((s.ticks 1).td d).val + delta * (fracOne : Int)) % (tdWrap : Int)).toNat,
                                    pendStep := none }).refresh d |>.stepped d ((s.ticks 1).td d).ns))))

/-- R148, R149: the fast tick of a grid point, once: the tick number is shown, windows are pruned, deletions take effect, and
while protection is active every due instance runs and the trip rows are applied. A second fast tick of the same grid
point does nothing.

R151: an instance whose run was stopped in three consecutive ticks is disabled, and the rows of the trip matrix are judged
anew; before the third stop nothing happens.

R155, R157: the oldest frame waiting at port M that is a native measurement frame leaves the queue and is offered to every
native ingest handle with its stream and node; the oldest frame of another EtherType goes to the first foreign handle
whose template it matches, and a copy goes to the signal gateway. -/
def Obligations.EngineTicksAndIngest : Prop :=
  (∀ s : State, s.atGrid = true →
      (s.peTickNo ≠ s.tbu.grid →
        let u := ((((s.wr PE_TICK_LO (w32 s.tbu.grid)).wr PE_TICK_HI (w32 (s.tbu.grid / 4294967296))).pruneWindows
          s.tbu.grid).deletesDue)
        exec .fastTick s = .next (State.settle s
          (if u.prot = true then (u.peRuns s.tbu.grid).applyRows s.tbu.grid u.rowsOn else u))) ∧
      (s.peTickNo = s.tbu.grid → exec .fastTick s = .next (State.settle s s))) ∧
  (∀ (s : State) (h : Nat) (x : Inst), s.inst? h = some x → x.disabled = false →
      (3 ≤ x.stops →
        exec (.userElementDisabled h) s = .next (State.settle s ((s.setInst h { x with disabled := true }).rowsNow s.rowsOn))) ∧
      (x.stops < 3 → exec (.userElementDisabled h) s = .next (State.settle s s))) ∧
  (∀ (s : State) (f : EthFrame),
      (s.esw.mq.find? (fun f => f.etype == s.esw.etype && f.kind == 1) = some f →
        let u : State := { s with esw := { s.esw with mq := s.esw.mq.erase f } }
        exec .ingestNativeFrame s = .next (State.settle s
          (s.pe.ings.foldl (fun v e =>
            if !e.2.foreign && e.2.sid == f.streamId && e.2.node == f.node then v.ingNative e.1 e.2 f else v) u))) ∧
      (s.esw.mq.find? (fun f => f.etype != s.esw.etype) = some f →
        let u : State := { s with esw := { s.esw with mq := s.esw.mq.erase f } }
        (∀ e, s.pe.ings.find? (fun e => e.2.foreign && tmplMatches e.2.tmpl f) = some e →
          exec .ingestForeignFrame s = .next (State.settle s ((u.ingForeign e.1 e.2 f).gwEth f))) ∧
        (s.pe.ings.find? (fun e => e.2.foreign && tmplMatches e.2.tmpl f) = none →
          exec .ingestForeignFrame s = .next (State.settle s (u.gwEth f)))))

/-- R172–R175: a reflow ends with REFLOW_DONE, a full placement with REBALANCE_DONE; what waited for the placement goes on. When
a pair is in service again, the instances that are not placed or have one copy are tried again; the pair itself carries
instances from the next full placement on (R174, and the model's reading, log entry 108).

R180, R181: a bulletin frame that is due leaves for the bulletin group address with the bulletin's state, its count and
its sequence number; the tenth frame of a burst and every heartbeat are followed by the next frame 100 ms later.

R182: a bulletin frame that matches an enabled subscription sets the subscription's state, time and count and clears
STALE; 300 ms without a frame the subscription is STALE; after either its row follows: a row is
asserted where the subscription is enabled and its latest frame's state says so, or where it is STALE with STALE_TRIP set;
rows follow only while protection is active, and a frame with TEST asserts none (the model's readings, log entry 57). -/
def Obligations.PlacementAndBulletins : Prop :=
  (∀ (s : State) (j : Nat), j < 32 →
    (s.prot = false → s.subRow j = s) ∧
    (s.prot = true → s.subWants j = false → s.subRow j = s.setFlag PE_SUBj_STAT_ASSERTED false j) ∧
    (s.prot = true → s.subWants j = true →
      s.subRow j = (s.setFlag PE_SUBj_STAT_ASSERTED true j).rowLatch (4096 + j) (s.subMask j) s.td0) ∧
    (s.flag PE_SUBj_SRC_EN j = true → s.flag PE_SUBj_STAT_STALE j = false → s.subWants j = (ngetD s.pe.subs j {}).asserted)) ∧
  (∀ s : State,
      (s.pe.reflow = true → s.sf.running = true →
        exec .reflowDone s = .next (State.settle s
          (({ s with pe := { s.pe with reflow := false } }).epTests.releaseHeld))) ∧
      (∀ k, s.pe.rebal = some k → s.sf.running = true →
        exec .rebalanceDone s = .next (State.settle s (s.rebalanceDone.epTests.releaseHeld)) ∧
        (∀ u, ({ s with pe := { s.pe with rebal := none } } : State).fullPlace = .ok u →
          s.rebalanceDone = u.complete k stOk (u.get PE_PLACE_GEN_GEN))) ∧
      (∀ p, let u : State := { s with pe := { s.pe with draining := setBit s.pe.draining p false } }
        (u.epInService p = true → exec (.pairReturnToService p) s = .next (State.settle s u.placeRetry.peTrack)))) ∧
  (∀ (s : State) (b t : Nat) (x : Bul), s.coreRuns = true → nfind s.pe.buls b = some x → x.due = some t →
      let y : Bul :=
        { x with seq := (x.seq + 1) % 4294967296
                 idx := match x.idx with | some i => if i < 9 then some (i + 1) else none | none => none
                 due := match x.idx with
                        | some i => if i < 9 then some (x.at_ + burstDue.getD (i + 1) 0) else some (t + 100000000)
                        | none => some (t + 100000000) }
      ∃ (w : Nat) (dst : Nat) (tag : Option Nat) (mask : Nat),
        let u := (s.until t).mSend dst tag 2 b x.seq 0 [w, mask * 18446744073709551616]
        exec (.bulletinFrameDue b) s = .next (State.settle s { u with pe := { u.pe with buls := nset u.pe.buls b y } }) ∧
          dst = beNat (leBytes 4 (s.rd PE_BUL_DMAC_LO).toNat ++ leBytes 2 (s.rd PE_BUL_DMAC_HI).toNat) ∧
          w % 2 = b2n (bitOf (s.get PE_BUL_STATE_ASSERTED) b) ∧ bitsOf w 31 16 = x.count % 65536) ∧
  ((∀ (s : State) (f : EthFrame), s.esw.mq.find? (fun f => f.etype == s.esw.etype && f.kind == 2) = some f →
      let u : State := { s with esw := { s.esw with mq := s.esw.mq.erase f } }
      exec .bulletinFrameRx s = .next (State.settle s
        ((List.range 32).foldl (fun v j =>
          if bitOf (v.rd PE_SUBj_SRC j).toNat 31 ∧ (v.rd PE_SUBj_SRC j).toNat % 65536 = f.node ∧
              bitsOf (v.rd PE_SUBj_SRC j).toNat 20 16 = f.streamId ∧ 1 ≤ f.words then
            let on := bitOf (f.word 0 % 65536) 0 && !(bitOf (f.word 0 % 65536) 1)
            let w := ((({ v with pe := { v.pe with subs := nset v.pe.subs j { asserted := on, rx := v.now } } }).setFlag
              PE_SUBj_STAT_STALE false j).set PE_SUBj_STAT_COUNT (bitsOf (f.word 0) 31 16) j)
            w.subRow j
          else v) u))) ∧
    (∀ (s : State) (j : Nat), bitOf (s.rd PE_SUBj_SRC j).toNat 31 = true → s.coreRuns = true →
      s.flag PE_SUBj_STAT_STALE j = false →
      let u := (s.until ((ngetD s.pe.subs j {}).rx + 300000000)).setFlag PE_SUBj_STAT_STALE true j
      exec (.subscriptionStale j) s = .next (State.settle s
        (u.subRow j))))

/-! ### The command service (chapters 06, 07) -/

/-- R76–R80, R116: five channel commands, taken by the service for a channel that the issuer owns and that is in no special
state. CH_SET makes a request that waits for its grid point; CH_PWM_CONFIG writes period, duty, phase, VNOM and MINON;
CH_CLEAR_LATCH ends LATCHED; CH_DIAG_READ without a wait mask and without a record answers the summary and clears the
named fault bits; CH_SENSEOUT_SELECT selects an output's source. -/
def Obligations.ChannelCommands : Prop :=
  ∀ (s : State) (r : Req), r.expert = false →
    let n := r.target.toNat
    let p := leAt r.params
    (s.takes 0x0101 r = true → n < 64 → s.owner 0 n = r.fn → (s.chan n).state ≠ chLimp → (s.chan n).follow = false →
      strayByte ([(0, 2)] ++ if bitOf (p 1 1) 2 then [(2, 2)] else []) r.params = none → p 0 1 ≤ 2 → p 1 1 < 8 →
      s.reqRefused n (p 0 1) = false → (s.chan n).pend = none →
      exec (.chSet r) s = .next (State.settle s
        (((s.fetched 0x0101 r).modChan n fun k =>
          { k with pend := some { req := p 0 1, fast := bitOf (p 1 1) 0, wait := bitOf (p 1 1) 1, cmd := some s.sf.nextSeq,
                                  duty := if bitOf (p 1 1) 2 then some (p 2 2) else none, at_ := s.now } }).setStage
          s.sf.nextSeq .started))) ∧
    (s.takes 0x0102 r = true → n < 64 → s.owner 0 n = r.fn → (s.chan n).state ≠ chLimp → (s.chan n).state ≠ chPwm →
      strayByte [(0, 12)] r.params = none → 4000 ≤ p 0 4 → p 0 4 ≤ 100000000 → r.deadline = 0 →
      exec (.chPwmConfig r) s = .next (State.settle s
        ((((((s.fetched 0x0102 r).wr PDA_CHn_PWM_PERIOD (w32 (p 0 4)) n).wr PDA_CHn_PWM_DUTY
          (w32 (p 4 2 + p 6 2 * 65536)) n).wr PDA_CHn_PWM_CFG (w32 (p 8 2 + p 10 2 * 65536)) n).dutyFollow n).complete
            s.sf.nextSeq stOk 0))) ∧
    (s.takes 0x0103 r = true → n < 64 → s.owner 0 n = r.fn → strayByte [] r.params = none →
      exec (.chClearLatch r) s = .next (State.settle s
        (((s.fetched 0x0103 r).clearLatch n).complete s.sf.nextSeq stOk (((s.fetched 0x0103 r).clearLatch n).summary n)))) ∧
    (s.takes 0x0104 r = true → n < 64 → s.owner 0 n = r.fn → strayByte [(0, 16)] r.params = none → p 0 8 = 0 → p 12 4 = 0 →
      r.deadline = 0 →
      exec (.chDiagRead r) s = .next (State.settle s
        (((s.fetched 0x0104 r).clearFaults n (p 8 4)).complete s.sf.nextSeq stOk (s.summary n)))) ∧
    (s.takes 0x0106 r = true → n < 4 → s.owner 1 n = r.fn → p 0 1 < 64 → s.owner 0 (p 0 1) = r.fn →
      strayByte [(0, 2), (4, 4)] r.params = none → p 1 1 < 3 → 0 < signed 32 (p 4 4) →
      exec (.chSenseoutSelect r) s = .next (State.settle s
        ((((s.fetched 0x0106 r).wr PDA_SENSEOUTk_CFG (w32 (p 0 1 + p 1 1 * 64)) n).wr PDA_SENSEOUTk_FS
          (w32 (p 4 4)) n).finish s.sf.nextSeq (stOk, none))))

/-- R119, R134, R138–R145: profiles, calibration, measurement reads and streams, taken by the service. PROFILE_WRITE stores a
valid 128-byte record that no busy channel uses; MEAS_CALIBRATE sets the user gain; MEAS_READ without a record answers the
low half of the latest word; MEAS_STREAM_OPEN opens an unused network handle within the rate limit; MEAS_STREAM_CLOSE
closes a ring stream. -/
def Obligations.ProfileAndStreamCommands : Prop :=
  ∀ (s : State) (r : Req), r.expert = false →
    let n := r.target.toNat
    let p := leAt r.params
    (s.takes 0x0201 r = true → r.fn = 0 → 0 < n → n < 128 → strayByte [(0, 8)] r.params = none →
      ∀ rec, (s.fetched 0x0201 r).fnOk 0 (p 0 8) 128 false = (true, s.fetched 0x0201 r) →
        (s.fetched 0x0201 r).fnRead 0 (p 0 8) 128 = (.ok rec, s.fetched 0x0201 r) → profileBad rec = none →
        s.profileBusy n = none →
        let u := s.fetched 0x0201 r
        exec (.profileWrite r) s = .next (State.settle s
          (((s.profileUsers n).foldl (fun (v : State) k => v.rangeChange k (u.prof k))
            { u with pda := { u.pda with profiles := nset u.pda.profiles n rec } }).complete s.sf.nextSeq stOk
              (s.profileUsers n).length))) ∧
    (s.takes 0x0303 r = true → n < 64 → s.owner 0 n = r.fn → p 0 1 = 1 → strayByte [(0, 1), (4, 4)] r.params = none →
      9 * 65536 ≤ p 4 4 * 10 → p 4 4 * 10 ≤ 11 * 65536 → r.deadline = 0 →
      exec (.measCalibrate r) s = .next (State.settle s
        (((s.fetched 0x0303 r).setTerms n { s.userTerms n with gain := p 4 4 }).complete s.sf.nextSeq stOk
          (s.userTerms n).gain))) ∧
    (s.takes 0x0302 r = true → n < 64 → s.owner 0 n = r.fn → p 0 8 = 0 → strayByte [(0, 8)] r.params = none →
      ∀ w, s.word n = some w →
        exec (.measRead r) s = .next (State.settle s
          ((s.fetched 0x0302 r).finish s.sf.nextSeq (stOk, some (w % 18446744073709551616))))) ∧
    (s.takes 0x0301 r = true → n < 64 → nfind s.pda.streams n = none → r.deadline = 0 →
      (specMeasStreamOpen.check (s.fetched 0x0301 r) (s.cmdOf 0x0301 r)).2 = none → p 0 1 = 0 →
      let u := s.fetched 0x0301 r
      let v := ((u.setStream n
        { fn := r.fn, ring := false, order := 0, batch := p 1 1 / 16 % 8 + 1, period := p 2 2, id := p 4 4,
          mac := beAt r.params 8 6, tag := p 14 2, base := p 8 8, srcs := streamSources (s.cmdOf 0x0301 r) }).wr
            PDA_STREAMs_WIDX 0 n).wr PDA_STREAMs_STATUS (w32 1) n
      exec (.measStreamOpen r) s = .next (State.settle s
        (v.complete s.sf.nextSeq stOk (gridNs (ceilDiv s.gridDue (p 2 2) * p 2 2))))) ∧
    (s.takes 0x0304 r = true → n < 64 → s.owner 2 n = r.fn → strayByte [] r.params = none →
      ∀ x, nfind s.pda.streams n = some x → x.ring = true → s.atGrid = false →
        exec (.measStreamClose r) s = .next (State.settle s
          (((s.fetched 0x0304 r).streamGone n).complete s.sf.nextSeq stOk x.widx)))

/-- R178, R183–R186, R216: the commands of the protection engine, taken by the service with no placement running. ELEM_CREATE
installs a new instance; ELEM_PARAM replaces parameters where the instance still fits; ELEM_DELETE waits for the next fast
tick; ELEM_STATUS answers the instance's flags and analog output; PLACEMENT_READ answers its placement; TRIP_RESET clears
the latch of a channel and answers the rows that stay; PLACEMENT_REBALANCE is accepted and runs on; ELEM_LOAD loads a user
element that passes R212 to R216, and answers the check that fails for another.

R184, R185: INGEST_OPEN opens an unused native handle with its parameters, whose sources begin at 0x8000 + 16 × handle;
INGEST_CLOSE closes a handle that no instance reads. -/
def Obligations.ElementAndIngestCommands : Prop :=
  (∀ (s : State) (r : Req), r.expert = false →
      let n := r.target.toNat
      (s.takes 0x0401 r = true → s.peBusy = false → s.inst? n = none →
        (specElemCreate.check (s.fetched 0x0401 r) (s.cmdOf 0x0401 r)) = (s.fetched 0x0401 r, none) →
        ∀ x v, (s.fetched 0x0401 r).createInst (s.cmdOf 0x0401 r) = (.ok x, s.fetched 0x0401 r) →
          (s.fetched 0x0401 r).elemInstall n x = .ok v →
          exec (.elemCreate r) s = .next (State.settle s
            (v.complete s.sf.nextSeq stOk (match v.inst? n with | some y => y.summary | none => 0)))) ∧
      (s.takes 0x0402 r = true → s.peBusy = false →
        (specElemParam.check (s.fetched 0x0402 r) (s.cmdOf 0x0402 r)) = (s.fetched 0x0402 r, none) →
        ∀ x y z, s.inst? n = some x → (s.fetched 0x0402 r).paramInst (s.cmdOf 0x0402 r) x = (.ok y, s.fetched 0x0402 r) →
          (s.fetched 0x0402 r).refit n y = .ok z → z.a.map Copy.bank = x.a.map Copy.bank → z.b.map Copy.bank = x.b.map Copy.bank →
          exec (.elemParam r) s = .next (State.settle s
            ((((s.fetched 0x0402 r).setInst n z).peTrack).complete s.sf.nextSeq stOk z.summary))) ∧
      (s.takes 0x0403 r = true → n < 2048 → s.owner 3 n = r.fn → strayByte [] r.params = none → s.peBusy = false →
        (s.inst? n).isSome = true →
        exec (.elemDelete r) s = .next (State.settle s ((s.fetched 0x0403 r).setStage s.sf.nextSeq .started))) ∧
      (s.takes 0x0404 r = true → n < 2048 → s.owner 3 n = r.fn → strayByte [] r.params = none →
        ∀ x, s.inst? n = some x →
          exec (.elemStatus r) s = .next (State.settle s
            ((s.fetched 0x0404 r).complete s.sf.nextSeq stOk
              (b2n x.trip + 2 * b2n x.start + 4 * b2n x.degraded + 8 * b2n x.unplaced + 16 * b2n x.disabled +
                32 * b2n x.disagree + x.disCount * 65536 + unsignedOf 32 (mwValue x.aWord) * 4294967296)))) ∧
      (s.takes 0x0405 r = true → n < 2048 → s.owner 3 n = r.fn → strayByte [] r.params = none →
        ∀ x, s.inst? n = some x →
          exec (.placementRead r) s = .next (State.settle s
            ((s.fetched 0x0405 r).complete s.sf.nextSeq stOk x.summary))) ∧
      (s.takes 0x0406 r = true → n < 64 → s.owner 0 n = r.fn → strayByte [] r.params = none →
        exec (.tripReset r) s = .next (State.settle s
          (((s.fetched 0x0406 r).tripReset (2 ^ n)).2.complete s.sf.nextSeq stOk
            ((s.fetched 0x0406 r).tripReset (2 ^ n)).1))) ∧
      (s.takes 0x0409 r = true → r.fn = 0 → n = 0 → strayByte [] r.params = none → s.peBusy = false →
        let u := (s.fetched 0x0409 r).accept s.sf.nextSeq
        exec (.placementRebalance r) s = .next (State.settle s { u with pe := { u.pe with rebal := some s.sf.nextSeq } })) ∧
      (s.takes 0x040A r = true → r.fn = 0 → n = 0 → strayByte [(0, 12)] r.params = none → leAt r.params 8 4 ≤ 66131 →
        (s.fetched 0x040A r).fnOk 0 (leAt r.params 0 8) (leAt r.params 8 4) false = (true, s.fetched 0x040A r) →
        ∀ im, (s.fetched 0x040A r).fnRead 0 (leAt r.params 0 8) (leAt r.params 8 4) = (.ok im, s.fetched 0x040A r) →
          exec (.elemLoad r) s = .next (State.settle s
            (match (s.fetched 0x040A r).userLoad im with
             | .ok v => v.complete s.sf.nextSeq stOk (bU16 im 4)
             | .error e => (s.fetched 0x040A r).complete s.sf.nextSeq stBadParam e)))) ∧
  (∀ (s : State) (r : Req), r.expert = false →
      let n := r.target.toNat
      (s.takes 0x0407 r = true → n < 128 → s.owner 4 n = r.fn → strayByte (ingNamed r.params) r.params = none →
        ingFieldsOk r.params = true → bitOf (leAt r.params 0 1) 0 = false → nfind s.pe.ings n = none →
        exec (.ingestOpen r) s = .next (State.settle s
          (((s.fetched 0x0407 r).ingOpen n (ingOf r.params [])).complete s.sf.nextSeq stOk
            (0x8000 + 16 * n)))) ∧
      (s.takes 0x0408 r = true → n < 128 → s.owner 4 n = r.fn → strayByte [] r.params = none →
        (nfind s.pe.ings n).isSome = true → s.ingUser n = none →
        let u := s.fetched 0x0408 r
        exec (.ingestClose r) s = .next (State.settle s
          ((({ u with pe := { u.pe with ings := nerase u.pe.ings n } }).wr PE_INGh_STATUS 0 n).finish s.sf.nextSeq
            (stOk, none)))))

/-- R366, R383, R384: the commands of the signal gateway and of network management, taken by the service. SIGNAL_DEFINE of
a valid record that no route uses defines the signal; ROUTE_CREATE and ROUTE_DELETE start and take effect at the
ROUTE_INSTALL and ROUTE_REMOVE that follow; ROUTE_STATUS answers the route's forward count, saturation count and flags;
NM_NEED and NM_RELEASE declare and withdraw the need of a network that is not OFF and answer the time of day; NM_STATUS
answers the network's state. -/
def Obligations.NetworkCommands : Prop :=
  ∀ (s : State) (r : Req), r.expert = false →
    let n := r.target.toNat
    let p := leAt r.params
    (s.takes 0x0501 r = true → n < 4096 → s.owner 6 n = r.fn → sgPdu r.params < 512 → s.owner 8 (sgPdu r.params) = r.fn →
      strayByte [(0, 6), (8, 32)] r.params = none → s.signalOk r.params = true →
      (s.routeWhere fun x => x.src == n || x.dst == n) = none →
      exec (.signalDefine r) s = .next (State.settle s
        (((s.fetched 0x0501 r).sigDefine n r.params).finish s.sf.nextSeq (stOk, none)))) ∧
    (s.takes 0x0502 r = true → n < 1024 → s.owner 7 n = r.fn → p 0 2 < 4096 → p 2 2 < 4096 → s.owner 6 (p 0 2) = r.fn →
      s.owner 6 (p 2 2) = r.fn → strayByte [(0, 6)] r.params = none → s.routeOk r.params = true →
      exec (.routeCreate r) s = .next (State.settle s ((s.fetched 0x0502 r).setStage s.sf.nextSeq .started))) ∧
    (n < 1024 → s.owner 7 n = r.fn → strayByte [] r.params = none →
      (∀ x, s.route? n = some x → s.owner 6 x.src = r.fn ∧ s.owner 6 x.dst = r.fn) →
      (s.takes 0x0503 r = true →
        exec (.routeDelete r) s = .next (State.settle s ((s.fetched 0x0503 r).setStage s.sf.nextSeq .started))) ∧
      (s.takes 0x0504 r = true → ∀ x, s.route? n = some x →
        exec (.routeStatus r) s = .next (State.settle s
          ((s.fetched 0x0504 r).complete s.sf.nextSeq stOk
            (x.fwd + x.sat * 4294967296 + b2n x.timedOut * 281474976710656 + b2n x.seen * 562949953421312))))) ∧
    (n < 16 → s.owner 11 n = r.fn → s.netState n ≠ 3 → strayByte [] r.params = none →
      (s.takes 0x0601 r = true →
        exec (.nmNeed r) s = .next (State.settle s
          (let u := (s.fetched 0x0601 r).needSet n; u.complete s.sf.nextSeq stOk u.td0))) ∧
      (s.takes 0x0602 r = true → s.netNeed n = true →
        exec (.nmRelease r) s = .next (State.settle s
          (let u := (s.fetched 0x0602 r).needClear n; u.complete s.sf.nextSeq stOk u.td0)))) ∧
    (s.takes 0x0603 r = true → n < 16 → strayByte [] r.params = none →
      exec (.nmStatus r) s = .next (State.settle s
        ((s.fetched 0x0603 r).complete s.sf.nextSeq stOk
          (s.netState n + 4 * b2n (s.netNeed n) + 8 * b2n (s.netSending n) + s.get FBC_NETn_STATUS_WAKE n * 16 +
            s.get FBC_NETn_LAST_NODE n * 65536 +
            (if s.netState n = 1 then s.leftTo (s.net n).idleAt else 0) * 4294967296 +
            (s.net n).count * 281474976710656))))

/-- R267, R273, R274, R277, R486–R488: the commands of modes, images and self-tests, taken by the service for the physical
function. MODE_SELECT begins the preparation of another mode of the configuration; IMAGE_STAGE empties the inactive area
and stages in it; IMAGE_COMMIT with action 0, 1 or 2 runs on; MODE_READ answers the mode register and the build; TEST_RUN
accepts a test whose unit is ready and begins it; TEST_RESULT answers the last result with bit 63 set, or zero where there
is none. -/
def Obligations.ModeImageAndTestCommands : Prop :=
  ∀ (s : State) (r : Req), r.expert = false → r.fn = 0 →
    let n := r.target.toNat
    let p := leAt r.params
    let q := s.sf.nextSeq
    (s.takes 0x0701 r = true → s.flag SF_MODE_NO_CFG = false → s.modePresent n = true → strayByte [] r.params = none →
      s.cfg.preparing = none → n ≠ s.get SF_MODE_MODE →
      let u := ((s.fetched 0x0701 r).setStage q .started).setAux q s.now
      exec (.modeSelect r) s = .next (State.settle s
        (({ u with cfg := { u.cfg with preparing := some (n, q) } } : State).setFlag SF_MODE_PREPARING true))) ∧
    (s.takes 0x0702 r = true → n ≤ 1 → strayByte [(0, 12)] r.params = none →
      (s.fetched 0x0702 r).fnOk 0 (p 0 8) (p 8 4) false = (true, s.fetched 0x0702 r) → (s.imageJob? n).isNone = true →
      s.runsTrial n = false →
      let u := (s.fetched 0x0702 r).accept q
      exec (.imageStage r) s = .next (State.settle s
        ((u.markArea n (1 - u.runHalf n) icEmpty none).addJob { cmd := q, kind := n, op := 0, src := p 0 8, len := p 8 4 }))) ∧
    (s.takes 0x0703 r = true → n ≤ 1 → strayByte [(0, 2)] r.params = none → p 0 1 ≤ 2 → p 1 1 ≤ 1 →
      ¬ (p 0 1 = 1 ∧ p 1 1 = 1) → (s.imageJob? n).isNone = true →
      (if p 0 1 = 2 then s.runsTrial n = true else s.areaState n (1 - s.runHalf n) = icStaged) →
      exec (.imageCommit r) s = .next (State.settle s
        (((s.fetched 0x0703 r).accept q).addJob { cmd := q, kind := n, op := 1, action := p 0 1, advance := p 1 1 == 1 }))) ∧
    (s.takes 0x0704 r = true → n = 0 → strayByte [] r.params = none →
      exec (.modeRead r) s = .next (State.settle s
        ((s.fetched 0x0704 r).complete q stOk ((s.rd SF_MODE).toNat + s.cfg.build * 4294967296)))) ∧
    (s.takes 0x0801 r = true → testKnown n = true → strayByte [] r.params = none → s.testing n = false →
      s.testReady n = true →
      let u := (s.fetched 0x0801 r).accept q
      exec (.testRun r) s = .next (State.settle s
        (({ u with fcu := { u.fcu with tests := nset u.fcu.tests n q, testAt := nset u.fcu.testAt n u.now } } : State).testStart
          n))) ∧
    (s.takes 0x0802 r = true → testKnown n = true → strayByte [] r.params = none →
      exec (.testResult r) s = .next (State.settle s
        ((s.fetched 0x0802 r).complete q stOk
          (match nfind s.fcu.results n with | some x => x.value + 2 ^ 63 | none => 0))))

/-- R246, R249–R252, R328, R458, R459, R463: time, attestation, keys, functions and ownership, taken by the service. TIME_READ
without a record answers the time of the domain; ATTEST is accepted and KEY_USE handed to the Enclave, each by a call record;
FN_QUIESCE of a running function notes its count and completes its withheld reads ABORTED, whichever there are; FN_RESUME runs
the function and completes the quiesces that wait ABORTED, with the count of the quiesce; OWNERSHIP_SET is noted for the
OWNERSHIP_CHANGE that follows; VF_ENABLE installs the windows, limit, file and mode of a function that is off; VF_DISABLE of a
quiesced function switches it off and answers 0. -/
def Obligations.TimeKeyAndFunctionCommands : Prop :=
  ∀ (s : State) (r : Req), r.expert = false →
    let n := r.target.toNat
    let p := leAt r.params
    let q := s.sf.nextSeq
    (s.takes 0x0901 r = true → n < 4 → strayByte [(0, 8)] r.params = none → p 0 8 = 0 →
      exec (.timeRead r) s = .next (State.settle s ((s.fetched 0x0901 r).complete q stOk (s.td n).ns))) ∧
    (s.takes 0x0A01 r = true → s.lc ≠ lcReturn → n = 0 → strayByte [(0, 40)] r.params = none →
      (s.fetched 0x0A01 r).fnOk r.fn (p 32 8) 14710 true = (true, s.fetched 0x0A01 r) →
      exec (.attest r) s = .next (State.settle s
        (((s.fetched 0x0A01 r).accept q).secureCall (s.cmdOf 0x0A01 r)))) ∧
    (s.takes 0x0A02 r = true → (specKeyUse.check (s.fetched 0x0A02 r) (s.cmdOf 0x0A02 r)) = (s.fetched 0x0A02 r, none) →
      exec (.keyUse r) s = .next (State.settle s ((s.fetched 0x0A02 r).secureCall (s.cmdOf 0x0A02 r)))) ∧
    (r.fn = 0 → 0 < n → n ≤ 63 →
      (strayByte [] r.params = none →
        (s.takes 0x0F01 r = true → s.fnState n = 1 →
          let u := s.fetched 0x0F01 r
          let v := (((u.setFnState n 2).setFn n { u.fn n with quiesceAt := (u.fn n).done }).setStage q .started).setAux q
            (u.fn n).done
          exec (.fnQuiesce r) s = .next (State.settle s
            (v.each (v.sf.cmds.filter fun k => k.fn == n && k.stage == .withheld) fun w k => w.finish k.seq (bad stAborted)))) ∧
        (s.takes 0x0F02 r = true → s.fnState n ≠ 0 →
          let u := s.fetched 0x0F02 r
          exec (.fnResume r) s = .next (State.settle s
            (((u.setFnState n 1).each (u.quiescers n) fun v k =>
              v.complete k.seq stAborted ((v.fn n).done - (v.fn n).quiesceAt)).finish q (stOk, none)))) ∧
        (s.takes 0x0F05 r = true → s.fnState n = 3 →
          exec (.vfDisable r) s = .next (State.settle s
            ((((s.fetched 0x0F05 r).fnGone n).setFnState n 0).complete q stOk 0)))) ∧
      (s.takes 0x0F04 r = true → s.fnState n = 0 → strayByte [(0, 11), (12, 2), (16, 8)] r.params = none →
        (p 10 1 = 0 ∨ (p 10 1 = 1 ∧ s.fnSecure 0 = true)) → 1 ≤ p 8 1 → p 8 1 ≤ 16 → 1 ≤ p 9 1 → p 9 1 ≤ 8 → p 12 2 ≤ 256 →
        isImsicFile (p 16 8) = true →
        ∀ t, (s.fetched 0x0F04 r).fnOk 0 (p 0 8) (32 * p 8 1) false = (true, s.fetched 0x0F04 r) →
          (s.fetched 0x0F04 r).fnRead 0 (p 0 8) (32 * p 8 1) = (.ok t, s.fetched 0x0F04 r) →
          (∀ i < p 8 1, windowBad t i = false) →
          let u := s.fetched 0x0F04 r
          let v : State := { u with regs := u.regs.filter fun e =>
            !(decide (0x42000000 + 0x1000 * n ≤ e.1 ∧ e.1 < 0x42000000 + 0x1000 * n + 0x800)) }
          let w := (v.setFn n { secure := p 10 1 == 1, limit := if p 12 2 = 0 then 256 else p 12 2, imsic := p 16 8,
                                windows := (List.range (p 8 1)).map (windowAt t), done := (u.fn n).done,
                                dirty := (u.fn n).dirty }).wr SF_FNn_STATE
                     (w32 (1 + 4 * b2n (p 10 1 == 1) + 16 * p 9 1)) n
          exec (.vfEnable r) s = .next (State.settle s (w.complete q stOk w.td0)))) ∧
    (s.takes 0x0F03 r = true → r.fn = 0 → n = 0 → strayByte [(0, 2), (4, 8)] r.params = none → ownFieldsOk r.params = true →
      let u := ((s.fetched 0x0F03 r).setStage q .started).setAux q s.now
      exec (.ownershipSet r) s = .next (State.settle s
        { u with sf := { u.sf with ownPend := u.sf.ownPend ++
          [{ cmd := q, kind := p 0 1, owner := p 1 1, first := p 4 4, count := p 8 4 }] } }))

/-- R222–R224, R227, R231: the command interface's registers. A tail that leaves room for at most the depth less one new
descriptor is taken; a head that does not pass the completion tail is taken; QP_CFG of a disabled pair that is idle
enables it and clears its indices and its error; a read of a result's first word answers it and latches all four; the first
read of a fresh result finds the result, and a later read the same bytes but for REPEAT, bit 33, which it sets. -/
def Obligations.CommandInterface : Prop :=
  ∀ (s : State) (a : Init) (fn q : Nat) (v : Word), fn < 64 →
    let x := s.qp fn q
    let t := v.toNat % 4096
    let d := s.sqDepth fn q
    let e := s.cqDepth fn q
    (q < 8 → s.reaches a SF_QPq_SQ_TAIL fn q true = true → t < d →
      (x.tail + d - x.head) % d + (t + d - x.tail % d) % d ≤ d - 1 →
      exec (.sqTailDoorbell a fn q v) s = .next (State.settle s
        (((s.setQp fn q { x with tail := t }).wr SF_QPq_SQ_TAIL (w32 t) fn q).answer (some [])))) ∧
    (q < 8 → s.reaches a SF_QPq_CQ_HEAD fn q true = true → t < e →
      (t + e - x.cqHead % e) % e ≤ (x.cqTail + e - x.cqHead % e) % e →
      exec (.cqHeadWrite a fn q v) s = .next (State.settle s
        (((s.setQp fn q { x with cqHead := t }).wr SF_QPq_CQ_HEAD (w32 t) fn q).answer (some [])))) ∧
    (q < 8 → s.reaches a SF_QPq_CFG fn q true = true → s.qpActive fn q = false →
      bitOf (SF_QPq_CFG.written (s.rd SF_QPq_CFG fn q) v).toNat 31 = true →
      exec (.qpCfgWrite a fn q v) s = .next (State.settle s
        ((((((s.wr SF_QPq_CFG (SF_QPq_CFG.written (s.rd SF_QPq_CFG fn q) v) fn q).setQp fn q {}).set SF_QPq_STATUS_ERR 0 fn
          q).wr SF_QPq_SQ_TAIL 0 fn q).wr SF_QPq_CQ_HEAD 0 fn q).answer (some [])))) ∧
    (s.reaches a SF_MBX_RESULTw fn 0 false = true →
      let b := (s.readMbx fn).1
      exec (.mbxResultRead a fn) s = .next (State.settle s
        (((s.readMbx fn).2.latchFor a (SF_MBX_RESULTw.addr fn 0)
          ((List.range 4).map fun k => w32 (leAt b (4 * k) 4))).answer (some (leBytes 4 (w32 (leAt b 0 4)).toNat))))) ∧
    (s.fcu.svpFence = none → (s.fn fn).mbx.result.length = 16 →
      ((s.fn fn).mbx.st = .fresh → s.readMbx fn =
        ((s.fn fn).mbx.result, s.setFn fn { s.fn fn with mbx := { (s.fn fn).mbx with st := .seen } })) ∧
      ((s.fn fn).mbx.st = .seen → (s.readMbx fn).2 = s ∧ (s.readMbx fn).1.length = 16 ∧
        ∀ k < 16, byteAt (s.readMbx fn).1 k =
          if k = 4 then byteAt (s.fn fn).mbx.result k ||| 2 else byteAt (s.fn fn).mbx.result k))

/-- R23, R226–R229, R233: the final completion of a queue's command: 16 bytes with its tag, status, phase, function and result
at the completion tail, the tail and the phase move on, the identity is sent where the queue or the command asks for it or
the status is an error, and the command is no longer in flight.

R225, R228, R233: the next queue of the round gives its descriptor at its head, which enters flight, and its head moves
on; a waiting command that can start is executed.

R78, R235, R236, R239: groups, deadlines and withheld reads. At the grid point after it closed, the members of a group
that all can run take effect together, and otherwise none does; 1 ms after its first member a group that is not closed is
ABORTED, the members that still wait for room included; a command whose deadline passes before its effect completes
DEADLINE_MISSED; a withheld read whose mask is met is answered. -/
def Obligations.CommandsInFlight : Prop :=
  (∀ (s u : State) (c : Cmd) (status result : Nat), s.cmd? c.seq = some c → c.src < 8 → c.mute = false →
      s.fcu.svpFence = none →
      let d := s.cqDepth c.fn c.src
      let x := s.qp c.fn c.src
      let base := (s.rd SF_QPq_CQ_BASE_LO c.fn c.src).toNat + (s.rd SF_QPq_CQ_BASE_HI c.fn c.src).toNat * 4294967296
      (s.count 423).fnWrite c.fn (base + 16 * x.cqTail)
        (completionBytes c.desc.tag.toNat status x.phase false c.fn result) = (.ok (), u) →
      let y : Qp :=
        { x with cqTail := if d ≤ x.cqTail + 1 then 0 else x.cqTail + 1
                 phase := if d ≤ x.cqTail + 1 then !x.phase else x.phase }
      let v := u.setQp c.fn c.src y
      s.complete c.seq status result =
        (if v.flag SF_QPq_CFG_IRQ_ALL c.fn c.src || c.desc.notify || decide (0x100 ≤ status) then
          v.msi (v.fnFile c.fn) (v.get SF_QPq_CFG_IDENTITY c.fn c.src) else v).retire c) ∧
  (∀ s : State,
      (∀ fn q hi, s.nextFn = some (fn, q, hi) → q < 8 →
        let f := s.fn fn
        let u := ({ s with sf := { s.sf with rrFn := fn } } : State).setFn fn (if hi then { f with rrHi := q } else { f with rrLo := q })
        ∀ b v, u.fnRead fn ((s.rd SF_QPq_SQ_BASE_LO fn q).toNat + (s.rd SF_QPq_SQ_BASE_HI fn q).toNat * 4294967296 +
            64 * (s.qp fn q).head) 64 = (.ok b, v) →
          exec .descriptorFetch s = .next (State.settle s
            ((v.setQp fn q { s.qp fn q with head := ((s.qp fn q).head + 1) % v.sqDepth fn q }).enter fn q (descOf b)))) ∧
      (∀ c : Cmd, s.cmd? c.seq = some c → s.canStart c = true → c.fin = none → c.desc.atomic = false → s.modeHolds c = false →
        ∀ u, (specOf c.op).any OpSpec.waits = true → s.stepErr c = (u, none) →
          exec (.commandStart c.seq) s = .next (State.settle s (match specOf c.op with | some o => o.run u c | none => u)))) ∧
  (∀ s : State,
      (∀ (fn q : Nat) (g : Group), (s.sf.groups.find? fun g => g.fn == fn && g.src == q && g.closed.isSome) = some g →
        s.groupDue g = true → ((s.members g).any fun c => c.late s.effectNs) = false →
        (∀ u, s.membersRun (s.members g) = ([], u) →
          exec (.atomicGroupEffect fn q) s = .next (State.settle s (s.after (u.dropGroup g.key)))) ∧
        (∀ b u, s.membersRun (s.members g) = (b, u) → b ≠ [] →
          exec (.atomicGroupEffect fn q) s = .next (State.settle s
            (s.after ((s.each (s.members g) fun v c =>
              v.finish c.seq (match b.find? fun e => e.1 == c.seq with | some e => e.2 | none => bad stAborted)).dropGroup g.key))))) ∧
      (∀ (fn q : Nat) (g : Group), s.openGroup fn q = some g → ((s.groupWaits g).any fun c => c.desc.fence) = false →
        let u := s.until (g.first + 1000000)
        let v := u.each (u.members g) fun v c => v.finish c.seq (bad stAborted)
        exec (.atomicGroupTimeout fn q) s = .next (State.settle s
          ((v.each (s.groupWaits g) fun w c => w.endsLater c.seq stAborted).dropGroup g.key))) ∧
      (∀ c : Cmd, s.cmd? c.seq = some c → c.desc.deadline.toNat ≠ 0 →
        (c.stage = .withheld ∨ c.stage = .held ∨ (c.stage = .started ∧ gridOps.contains c.op = true)) →
        s.cfg.preparing = none → c.late (s.untilTd 0 (c.desc.deadline.toNat + 1)).td0 = true →
        (s.untilTd 0 (c.desc.deadline.toNat + 1)).cfg.preparing = none →
        exec (.deadlineMissed c.seq) s = .next (State.settle s
          ((s.untilTd 0 (c.desc.deadline.toNat + 1)).finish c.seq (bad stDeadlineMissed)))) ∧
      (∀ (n fn : Nat) (c : Cmd),
        (s.sf.cmds.find? fun c => c.stage == .withheld && c.fn == fn && c.op == 0x0104 && c.tgt == n) = some c →
        s.faults n &&& c.p 12 4 ≠ 0 → c.late s.td0 = false → c.p 0 8 = 0 → s.modeHolds c = false → s.sf.running = true →
        exec (.withheldReadRelease n fn) s = .next (State.settle s
          ((s.clearFaults n (c.p 8 4)).complete c.seq stOk (s.summary n)))))

/-- R247, R250, R253, R267, R268: changes that wait. Owners change at the first grid point after the command; a quiescing
function with no command in flight is QUIESCED, and its FN_QUIESCE answers the completions since or has missed its deadline; a
VF_DISABLE whose executing commands are done answers its counts; the prepared mode is applied at a grid point with no placement running; a pending
profile index is assigned to a channel that is OFF or LATCHED.

R273, R274, R458, R487: long commands end. A staged image that fits is copied to the inactive half; one that passes its
checks is marked STAGED and its length answered, another's failed check is answered; a commit gives the half its sequence
number and the state COMMITTED or TRIAL; a test ends with its result stored, its command completed and a failure reported;
ATTEST writes the report of R458 and completes, with the error of the write where it fails. -/
def Obligations.ChangesAndLongCommands : Prop :=
  (∀ s : State,
      (∀ (x : OwnChange) (c : Cmd), s.atGrid = true → s.sf.ownPend = [x] → s.cmd? x.cmd = some c → c.aux < s.now →
        c.late s.effectNs = false → s.modeHolds c = false →
        let u : State := { s with sf := { s.sf with ownPend := [] } }
        exec .ownershipChange s = .next (State.settle s
          (let v := u.each ((List.range x.count).map fun k => x.first + k) fun w i => w.ownerMove x.kind i x.owner
           s.after (v.complete c.seq stOk v.effectNs)))) ∧
      (∀ fn : Nat, s.fnState fn = 2 → s.fnInflight fn = 0 →
        exec (.quiesceDrained fn) s = .next (State.settle s
          ((s.setFnState fn 3).each (s.quiescers fn) fun v c =>
            if c.late v.td0 then v.finish c.seq (bad stDeadlineMissed) else v.complete c.seq stOk ((v.fn fn).done - c.aux)))) ∧
      (∀ (fn q disc : Nat) (run : List Nat), (s.fn fn).dirty = [(q, disc, run)] →
        (s.sf.cmds.any fun c => run.contains c.seq) = false →
        exec (.dirtyDisableDone fn) s = .next (State.settle s
          ((s.setFn fn { s.fn fn with dirty := [] }).complete q stOk
            (disc % 65536 + run.length % 65536 * 65536 + 2 ^ 63)))) ∧
      (∀ (m : Nat) (c : Cmd) (t : State), s.cfg.preparing = some (m, c.seq) → s.cmd? c.seq = some c → s.atGrid = true → c.aux < s.now →
        s.sf.running = true → s.pe.reflow = false → s.pe.rebal = none → s.cfg.tookAt ≠ some s.now → c.late s.effectNs = false →
        s.modeTrial m = .ok t →
        let u := (t.set SF_MODE_MODE m).set SF_EXPERT_ALLOW_ALLOW (modeExpert t.cfg.base t.cfg.overlays m)
        let v : State := ({ u with cfg := { u.cfg with entered := u.effectNs } } : State).prepareOver
        exec .modeApply s = .next (State.settle s (v.complete c.seq stOk v.effectNs).releaseHeld)) ∧
      (∀ n p : Nat, n < 64 → nfind s.cfg.pendProf n = some p → (s.chan n).state = chOff ∨ (s.chan n).state = chLatched →
        let u : State := { s with cfg := { s.cfg with pendProf := nerase s.cfg.pendProf n } }
        exec (.profileIndexApply n) s = .next (State.settle s ((u.assignProfile n p).recordCodes n).countPending))) ∧
  (∀ s : State,
      (∀ (kind : Nat) (j : ImageJob), s.imageJob? kind = some j → s.sf.running = true →
        (j.op = 0 → j.len ≤ areaRoom kind →
          let u := s.dropJob kind
          let h := 1 - u.runHalf kind
          ∀ d v, u.fnRead 0 j.src j.len = (.ok d, v) →
            let w := v.setBytes (areaBase kind h + 64) d
            exec (.imageStageDone kind true) s = .next (State.settle s
              (match w.stageReason kind (w.imageOf kind h j.len) with
               | none => (w.markArea kind h icStaged (some j.len)).complete j.cmd stOk j.len
               | some e => w.complete j.cmd stBadParam e))) ∧
        (j.op = 1 → j.action ≤ 1 → j.advance = false →
          ∀ c, (s.dropJob kind).commitOf kind (1 - (s.dropJob kind).runHalf kind) = some c →
            let u := s.dropJob kind
            exec (.imageCommitDone kind) s = .next (State.settle s
              ((u.setCommit kind (1 - u.runHalf kind) { c with seq := u.newSeq kind, state := (if j.action = 1 then icTrial else icCommitted) }).complete
                j.cmd stOk (u.newSeq kind))))) ∧
      (∀ id code us t q : Nat, nfind s.fcu.testAt id = some t → nfind (s.until (t + us * 1000)).fcu.tests id = some q → code ≤ 6 →
        id / 256 ≠ 1 →
        let u := s.until (t + us * 1000)
        let x : TestRes := { pass := code == 0, code := code, us := us }
        let y : Fcu :=
          { u.fcu with tests := nerase u.fcu.tests id, testAt := nerase u.fcu.testAt id, results := nset u.fcu.results id x }
        let v := ({ u with fcu := y } : State).testAfter id code
        exec (.testDone id code us) s = .next (State.settle s
          ((if code = 0 then v else v.report (testFailSrc id)).complete q stOk x.value))) ∧
      (∀ (k : SecCall) (c : Cmd), (s.sec.calls.find? fun k => k.cmd == c.seq) = some k → s.cmd? c.seq = some c →
        c.desc.opcode = 0x0A01 → s.sec.rngFail = false →
        let b := (s.attestReport c.fn (c.desc.params.take 32)).1
        let u := (s.attestReport c.fn (c.desc.params.take 32)).2.writeRecord c (c.p 32 8) b
        exec (.attestDone c.seq) s = .next (State.settle s
          (u.2.freeNat.2.callEnd k (match u.1 with | none => stOk | some e => e.1) (u.2.freeNat.1 % 18446744073709551616)))))

/-! ### Networks (chapters 08, 10, 11) -/

/-- R279, R281, R282, R287: frames and links of a medium port that belongs to no sleeping network. A frame with a bad FCS,
shorter than 64 octets or longer than the port's limit is dropped and counted; another frame of a port without MACsec
enters the bridge with its stamps. A link that comes up shows its rate and its PLCA state; a link that goes down empties
the port's queues. A follower without BEACON for 2 ms falls back, and the next BEACON ends the fallback.

R288, R289: transmission. Once the medium is free, the port sends the head frame of the highest class whose gate, time to
the gate's close and credit allow it: the frame leaves its queue, the medium is busy for its octets and 12 more, and the port's
counters TX_FRAMES and TX_BYTES advance by one and by the octets after the preamble. -/
def Obligations.PortsAndTransmission : Prop :=
  (∀ (s : State) (p q : Nat), p < 10 → s.portNet p = none → s.eswUp = true →
      (s.linkUp p = true → ∀ b : List Byte,
        let n := b.length + 4
        let st := (s.stamps p q false).1
        let u := (s.stamps p q false).2
        exec (.frameRx p b false q) s = .next (State.settle s (u.cnt p 4)) ∧
        (n < 64 → exec (.frameRx p b true q) s = .next (State.settle s (u.cnt p 5))) ∧
        (64 ≤ n → u.maxFrame p < n → exec (.frameRx p b true q) s = .next (State.settle s (u.cnt p 6))) ∧
        (64 ≤ n → n ≤ u.maxFrame p → u.secyOn p = false →
          exec (.frameRx p b true q) s = .next (State.settle s (u.ingress p n b none none (fun _ => true) st)))) ∧
      (s.linkUp p = false → s.portOff p = false → s.phyUp p = true → nfind s.fcu.tests (0x500 + p) = none →
        let u := ((s.setFlag ESW_PORTp_LINK_UP true p).setFlag ESW_EVT_LINK true).cnt p 18
        let v := if p < 2 then u.set ESW_PORTp_LINK_RATE (min 2 (byteAt (u.eswRec 1 p) 0)) p else u
        exec (.linkStateChange p true) s = .next (State.settle s
          ((v.modPort p fun x => { x with beacon := v.now }).setFlag ESW_PORTp_LINK_PLCA_ACTIVE (v.plcaOn p) p))) ∧
      (s.linkUp p = true →
        let u := ((((s.setFlag ESW_PORTp_LINK_UP false p).setFlag ESW_EVT_LINK true).cnt p 18).setFlag
          ESW_PORTp_LINK_PLCA_ACTIVE false p).setFlag ESW_PORTp_LINK_PLCA_FALLBACK false p
        exec (.linkStateChange p false) s = .next (State.settle s
          ((u.modPort p fun x => { x with queues := [] }).each (nvals (u.port p).queues).flatten fun v f =>
            (v.cnt p 13).txRelease f.wb 3 none))) ∧
      (s.plcaOn p = true → s.plcaNode p ≠ 0 → s.linkUp p = true →
        (s.flag ESW_PORTp_LINK_PLCA_FALLBACK p = false →
          let u := s.until ((s.port p).beacon + 2000000)
          exec (.plcaFallback p) s = .next (State.settle s
            ((((u.setFlag ESW_PORTp_LINK_PLCA_FALLBACK true p).setFlag ESW_PORTp_LINK_PLCA_ACTIVE false p).cnt p 17).setFlag
              ESW_EVT_PLCA true))) ∧
        exec (.beaconRx p) s = .next (State.settle s
          (((s.modPort p fun x => { x with beacon := s.now }).setFlag ESW_PORTp_LINK_PLCA_FALLBACK false p).setFlag
            ESW_PORTp_LINK_PLCA_ACTIVE true p)))) ∧
  (∀ (s : State) (p q : Nat), p < 10 → s.portNet p = none → s.eswUp = true → s.linkUp p = true → s.plcaOn p = false →
      s.secyOn p = false →
      let u := (s.until (s.port p).busy).creditTo p
      let v := u.each (u.port p).queues fun w e => w.dropUnsendable p e.1 e.2
      let total := fun (x : State) (c : Nat) =>
        (x.rd ESW_PORTp_CNTc_LO p c).toNat + (x.rd ESW_PORTp_CNTc_HI p c).toNat * 4294967296
      ∀ k f l, (([7, 6, 5, 4, 3, 2, 1, 0] : List Nat).find? fun k => v.maySend p k) = some k →
        ngetD (v.port p).queues k [] = f :: l → f.wb = none →
        ∃ t : State, exec (.frameTxStart p q) s = .next (State.settle s t) ∧
          (t.port p).queues = (if l.isEmpty then nerase (v.port p).queues k else nset (v.port p).queues k l) ∧
          (t.port p).busy = v.now + v.octetTime p (v.wireOctets p f + 12) ∧
          nfind t.esw.sent p = some { bytes := v.wireBytes p f, sa := none } ∧
          total t 2 = (total v 2 + 1) % 2 ^ 64 ∧ total t 3 = (total v 3 + (v.wireOctets p f - 8)) % 2 ^ 64 ∧
          (∀ r, r ≠ p → t.port r = v.port r) ∧ t.pe = v.pe ∧ t.sf.cmds = v.sf.cmds ∧ t.now = v.now)

/-- R284, R288, R290, R295: what ages and what cycles. A learned address goes once it has its age; a recovery history resets
after RESET_MS; a gate interval ends at its time and the next entry of the list is in force; a new list takes effect at
its first cycle start.

R294, R298–R300, R305: the bridge's registers. A free EtherType is shown at once and used from the next grid point on; a
blocked filter is released by a one; EN of an idle queue starts it; a tail within the ring is taken; a counter answers its
low word and is cleared whole. -/
def Obligations.AgingGatesAndRegisters : Prop :=
  (∀ s : State,
      (∀ vid mac p t, nfind s.esw.learned (vid * 281474976710656 + mac) = some (p, t) →
        let u := s.until (t + s.ageSec * 1000000000)
        exec (.addressAgeOut vid mac) s = .next (State.settle s
          { u with esw := { u.esw with learned := nerase u.esw.learned (vid * 281474976710656 + mac) } })) ∧
      (∀ h r raw, nfind s.esw.recov h = some r → s.cfgData 0x0101 10 h = some raw → r.any = false →
        let u := s.until (r.at_ + leAt raw 12 2 * 1000000)
        exec (.frerResetTimeout h) s = .next (State.settle s
          { u with esw := { u.esw with recov := nset u.esw.recov h { r with any := true, hist := [] } } })) ∧
      (∀ p r, (s.port p).run = some r → (s.port p).next = none → r.hold = false → s.coreRuns = true →
        let u := s.untilTd (s.tasTd p) r.till
        r.till ≤ (u.td (s.tasTd p)).ns →
        (r.idx + 1 < r.list.length →
          exec (.gateEntryExpiry p) s = .next (State.settle s (u.gateEntry p r (r.idx + 1) r.till))) ∧
        (r.list.length ≤ r.idx + 1 →
          exec (.gateEntryExpiry p) s = .next (State.settle s (u.gateEntry p { r with cycle := r.till } 0 r.till)))) ∧
      (∀ p n, (s.port p).next = some n → s.coreRuns = true →
        let u := s.untilTd (s.tasTd p) n.till
        n.till ≤ (u.td (s.tasTd p)).ns →
        exec (.gateListSwitch p) s = .next (State.settle s
          ((u.modPort p fun x => { x with next := none }).gateEntry p { n with cycle := n.till } 0 n.till)))) ∧
  (∀ (s : State) (a : Init) (fn q : Nat) (v : Word),
      (s.reaches a ESW_DEV_ETYPE 0 0 true = true → s.etypeRefused (v.toNat % 65536) = false →
        let u := s.wr ESW_DEV_ETYPE (ESW_DEV_ETYPE.written (s.rd ESW_DEV_ETYPE) v)
        exec (.devEtypeWrite a v) s = .next (State.settle s
          (({ u with esw := { u.esw with etypeAt := some s.now } } : State).answer (some [])))) ∧
      (∀ t, s.esw.etypeAt = some t → s.atGrid = true → t < s.now →
        exec .devEtypeEffect s = .next (State.settle s
          { s with esw := { s.esw with etype := s.get ESW_DEV_ETYPE_ETYPE, etypeAt := none } })) ∧
      (∀ w < 8, s.reaches a ESW_SF_BLOCKEDw w 0 true = true →
        exec (.sfBlockedClear a w v) s = .next (State.settle s
          ((s.wr ESW_SF_BLOCKEDw (s.rd ESW_SF_BLOCKEDw w &&& ~~~v) w).answer (some [])))) ∧
      (fn < 64 → q < 64 →
        (s.reaches a ESW_Qq_CFG fn q true = true → s.flag ESW_Qq_CFG_EN 0 q = false → bitOf v.toNat 16 = true →
          exec (.queueCfgWrite a fn q v) s = .next (State.settle s
            (((s.wr ESW_Qq_CFG (ESW_Qq_CFG.written (s.rd ESW_Qq_CFG 0 q) v) 0 q).queueStart q).answer (some [])))) ∧
        (s.reaches a ESW_Qq_TX_TAIL fn q true = true → v.toNat % 4096 < s.txDepth q →
          exec (.queueTxTail a fn q v) s = .next (State.settle s
            ((s.wr ESW_Qq_TX_TAIL (ESW_Qq_TX_TAIL.written (s.rd ESW_Qq_TX_TAIL 0 q) v) 0 q).answer (some [])))) ∧
        (s.reaches a ESW_Qq_RX_TAIL fn q true = true → v.toNat % 4096 < s.rxDepth q →
          exec (.queueRxTail a fn q v) s = .next (State.settle s
            ((s.wr ESW_Qq_RX_TAIL (ESW_Qq_RX_TAIL.written (s.rd ESW_Qq_RX_TAIL 0 q) v) 0 q).answer (some []))))) ∧
      (∀ p c, p < 12 → c < 32 → s.reaches a ESW_PORTp_CNTc_LO p c false = true →
        ∃ t : State, exec (.portCounterRead a p c) s =
            .next (State.settle s (t.answer (some (leBytes 4 (s.rd ESW_PORTp_CNTc_LO p c).toNat)))) ∧
          t.rd ESW_PORTp_CNTc_LO p c = 0 ∧ t.rd ESW_PORTp_CNTc_HI p c = 0 ∧ t.esw = s.esw ∧ t.mem = s.mem ∧
          (∀ x y, x < 12 → y < 32 → ¬ (x = p ∧ y = c) → t.rd ESW_PORTp_CNTc_LO x y = s.rd ESW_PORTp_CNTc_LO x y)))

/-- R300, R301, R304: guest queues. A transmit descriptor whose length is out of range is written back with status 2, one
whose bytes cannot be read with status 4, one whose source address is not the queue's or whose EtherType is a tag with
status 1 (a descriptor that fails more than one of these checks ends with the first in this order: the model's reading, log
entry 68); another enters the bridge at port H with the tag of its queue while its descriptor waits. Once no port stores its frame any
more, its release writes the descriptor back, with status 0 and the stamp of the first sending if it asked for one, or with
the status of the loss where no port sent it; until then the first stamp is noted. The head moves on in each case. A
descriptor that cannot be read stops the queue. -/
def Obligations.GuestQueues : Prop :=
  ∀ (s : State) (q : Nat),
    (s.eswUp = true → s.qRuns q = true → (s.ethq q).txHead ≠ s.get ESW_Qq_TX_TAIL_INDEX 0 q →
      let a := s.txDesc q (s.ethq q).txHead
      let n := (s.ethq q).txHead + 1
      (∀ e u, s.fnRead (s.qOwner q) a 16 = (.error e, u) →
        exec (.queueTxDescriptor q) s = .next (State.settle s (u.qStop q))) ∧
      (∀ d u, s.fnRead (s.qOwner q) a 16 = (.ok d, u) → bitOf (byteAt d 10) 0 = true →
        let v := u.modEthq q fun x => { x with txHead := if n ≥ u.txDepth q then 0 else n }
        let len := leAt d 8 2
        (len < 14 ∨ v.maxFrame portH - 8 < len →
          exec (.queueTxDescriptor q) s = .next (State.settle s (v.txWriteBack q a d 2 0))) ∧
        (14 ≤ len → len ≤ v.maxFrame portH - 8 →
          (∀ e w, v.fnRead (s.qOwner q) (leAt d 0 8) len = (.error e, w) →
            exec (.queueTxDescriptor q) s = .next (State.settle s (w.txWriteBack q a d 4 0))) ∧
          (∀ b w, v.fnRead (s.qOwner q) (leAt d 0 8) len = (.ok b, w) →
            (beAt b 6 6 ≠ w.qMac q ∨ [0x8100, 0x88A8, 0x88E5, 0xF1C1].contains (beAt b 12 2) = true →
              exec (.queueTxDescriptor q) s = .next (State.settle s (w.txWriteBack q a d 1 0))) ∧
            (beAt b 6 6 = w.qMac q → [0x8100, 0x88A8, 0x88E5, 0xF1C1].contains (beAt b 12 2) = false →
              let frame := b.take 12 ++ beBytes 2 0x8100 ++ beBytes 2 (w.qPcp q * 8192 + w.qVid q) ++ b.drop 12
              let bound := (List.range 10).find? fun p => w.boundQueue p == some q
              let k := (w.ethq q).fetched
              exec (.queueTxDescriptor q) s = .next (State.settle s
                ((w.modEthq q fun x =>
                  { x with wait := x.wait ++ [{ id := k, addr := a, desc := d }], fetched := k + 1 }).ingress portH
                    (frame.length + 4) frame bound (some (q, k)) (fun _ => true) []))))))) ∧
    (∀ (e : TxWait) (st : Nat) (stamp : Option Nat), (s.ethq q).wait = [e] →
      let sent := if e.sent.isSome then e.sent else stamp
      (s.txStored (some (q, e.id)) = false → s.txRelease (some (q, e.id)) st stamp =
        (s.modEthq q fun x => { x with wait := [] }).txWriteBack q e.addr e.desc (if sent.isSome then 0 else st)
          (if bitOf (byteAt e.desc 10) 1 then sent.getD 0 else 0)) ∧
      (s.txStored (some (q, e.id)) = true → s.txRelease (some (q, e.id)) st stamp =
        s.modEthq q fun x => { x with wait := [{ e with sent := sent }] }))

/-- R337, R340, R346, R351: the CAN registers. A one in TXREQ requests its buffer: a snapshot that the controller can send
becomes pending, another ends with BAD_PARAM; a one in TXABORT ends a pending frame that is in no attempt; RECOVER starts
the counting of a controller that is BUS_OFF by manual recovery; RIDX moves over entries that are there. -/
def Obligations.CanRegisters : Prop :=
  ∀ (s : State) (a : Init) (c b : Nat) (v : Word), c < 8 → b < 32 →
    (s.reaches a FBC_CANc_TXREQ_LO c 0 true = true → v.toNat = 2 ^ b → s.gwReserved c b = false →
      let u := (s.setFlag FBC_CANc_TXSTATb_0_DONE false c b).set FBC_CANc_TXSTATb_0_STATUS 0 c b
      let h := s.areaAt (canArea c + 80 * b) 16
      exec (.canTxreqWrite a c 0 v) s = .next (State.settle s
        ((if u.hdrOk c h then u.makePend c b { hdr := h, data := u.areaAt (canArea c + 80 * b + 16) 64, req := s.now }
          else u.txStatus c b stBadParam 0 0).answer (some [])))) ∧
    (s.reaches a FBC_CANc_TXREQ_HI c 0 true = true →
      exec (.canTxreqWrite a c 1 v) s = .next (State.settle s
        ((s.each (bitList 32 v.toNat) fun u i =>
          if u.gwReserved c (32 + i) then u else u.canRequest c (32 + i)).answer (some [])))) ∧
    (s.reaches a FBC_CANc_TXABORT_LO c 0 true = true → v.toNat = 2 ^ b → s.gwReserved c b = false →
      ∀ f, nfind (s.can c).pend b = some f → (s.can c).cur = none →
        exec (.canTxabortWrite a c 0 v) s = .next (State.settle s
          ((s.txEnd c b stAborted f.attempts).answer (some [])))) ∧
    (s.reaches a FBC_CANc_TXABORT_HI c 0 true = true →
      exec (.canTxabortWrite a c 1 v) s = .next (State.settle s
        ((s.each (bitList 32 v.toNat) fun u i =>
          if u.gwReserved c (32 + i) then u else u.endEarly c (32 + i) true).answer (some [])))) ∧
    (s.reaches a FBC_CANc_CTRL c 0 true = true → s.get FBC_CANc_ERR_STATE c = 2 → s.canFlag c 4 = true →
      s.flag FBC_CANc_ERR_COUNTING c = false →
      exec (.canRecoverWrite a c v) s = .next (State.settle s
        (((s.setFlag FBC_CANc_ERR_COUNTING true c).set FBC_CANc_ERR_OCC 0 c).answer (some [])))) ∧
    (s.reaches a FBC_CANc_RXF_RIDX c 0 true = true →
      let n := (v.toNat % 128 + 128 - s.get FBC_CANc_RXF_RIDX_INDEX c) % 128
      n ≤ (s.get FBC_CANc_RXF_WIDX_INDEX c + 128 - s.get FBC_CANc_RXF_RIDX_INDEX c) % 128 →
      exec (.rxfRidxWrite a c v) s = .next (State.settle s
        (((s.set FBC_CANc_RXF_RIDX_INDEX (v.toNat % 128) c).modCan c fun x => { x with ring := x.ring.drop n }).answer
          (some []))))

/-- R338, R340–R346: attempts of a CAN controller. At bus idle it starts an attempt of the frame that wins; a frame that was
sent leaves its buffer with status OK and lowers TEC by one; a lost attempt leaves the frame pending; an error raises TEC;
VALID_MS ends a frame in no attempt as EXPIRED; bus-off ends with ERROR_ACTIVE and cleared counters; a controller joins
the bus. The steps of TEC and REC, and an attempt that VCAN's undervoltage fails like any other error, are the model's, log
entry 72. R2, R333: an attempt during which VCAN was low fails with a bus error, whatever the bus would have said.

R342, R343, R367: the schedule matrix. At its instant the next column begins, at the start of a basic cycle the first; a matrix
that an overlay brings takes over at its first cycle, each in its own domain; an exclusive window whose frame has not started
by LATEST is counted once. -/
def Obligations.CanAttemptsAndSchedule : Prop :=
  (∀ (s : State) (c : Nat), c < 8 →
      (∀ b f, s.canMaySend c = true → (s.can c).cur = none → s.canChoice c = some (b, f) →
        exec (.canArbitration c) s = .next (State.settle s
          (s.modCan c fun x =>
            { x with pend := nset x.pend b { f with attempts := f.attempts + 1 },
                     cur := some { buf := b, frame := { f with attempts := f.attempts + 1 }, data := s.canData c f,
                                   sof := s.td0, uv := s.pcs.vcanUv } }))) ∧
      (∀ t e, (s.can c).cur = some t → t.uv = true ∨ s.pcs.vcanUv = true →
        exec (.canAttemptEnd c e) s = .next (State.settle s
          (((s.modCan c fun x => { x with cur := none }).txFailed c t).canCounters c
            (s.get FBC_CANc_ERR_TEC c + match e with | .error inc _ => inc | _ => 8) (s.get FBC_CANc_ERR_REC c)))) ∧
      (∀ t, (s.can c).cur = some t → t.uv = false → s.pcs.vcanUv = false → t.replaced = false → t.buf < 64 →
        let u := s.modCan c fun x => { x with cur := none }
        exec (.canAttemptEnd c .sent) s = .next (State.settle s
          (((((u.count (440 + c)).canCounters c (u.get FBC_CANc_ERR_TEC c - 1) (u.get FBC_CANc_ERR_REC c)).modCan c fun x =>
              { x with sent := some (t.frame.idw, byteAt t.frame.hdr 4, t.data, t.sof), pend := nerase x.pend t.buf }).putPend c
              t.buf false).txStatus c t.buf stOk t.sof t.frame.attempts)) ∧
        (∀ f, nfind (s.can c).pend t.buf = some f → f.expired = false → f.aborted = false →
          exec (.canAttemptEnd c .lost) s = .next (State.settle s u) ∧
          (∀ inc, exec (.canAttemptEnd c (.error inc false)) s = .next (State.settle s
            (u.canCounters c (u.get FBC_CANc_ERR_TEC c + inc) (u.get FBC_CANc_ERR_REC c)))))) ∧
      (∀ b f, nfind (s.can c).pend b = some f → leAt f.hdr 10 2 ≠ 0 → s.fbcUp = true →
        let u := s.until (f.req + leAt f.hdr 10 2 * 1000000)
        (u.can c).cur = none → nfind (u.can c).pend b = some f →
        exec (.validityExpiry c b) s = .next (State.settle s (u.txEnd c b stExpired f.attempts))) ∧
      (s.fbcUp = true → s.get FBC_CANc_ERR_STATE c = 2 → s.flag FBC_CANc_ERR_COUNTING c = true →
        exec (.busOffEnd c) s = .next (State.settle s ((s.wr FBC_CANc_ERR 0 c).canEvt c 5))) ∧
      (s.fbcUp = true → s.flag PCS_STATE_DONE = true → s.get FBC_CANc_ERR_STATE c = 3 → s.canTested c = false → s.netState c ≠ 0 →
        exec (.canBusJoin c) s = .next (State.settle s
          (s.set FBC_CANc_ERR_STATE
            (if 128 ≤ s.get FBC_CANc_ERR_TEC c ∨ 128 ≤ s.get FBC_CANc_ERR_REC c then 1 else 0) c)))) ∧
  (∀ (s : State) (c : Nat) (m : MatRun), c < 8 → s.fbcUp = true → (s.can c).mat = some m →
      ((s.can c).matNext = none ∨ (∃ n, (s.can c).matNext = some n ∧ s.oldColumnFirst m n = true) →
        let u := s.untilTd m.td m.next
        m.next ≤ (u.td m.td).ns →
        exec (.scheduleColumnStart c) s = .next (State.settle s (u.modCan c fun x => { x with mat := some m.advance }))) ∧
      (∀ n, (s.can c).matNext = some n → s.oldColumnFirst m n = false →
        let u := s.untilTd n.td n.next
        n.next ≤ (u.td n.td).ns →
        exec (.scheduleColumnStart c) s = .next (State.settle s
          (u.modCan c fun x => { x with mat := some (n.cycleAt n.next), matNext := none }))) ∧
      (let cell := matCell m.raw m.row m.col
       let t := m.start + matLatest m.raw m.col
       let u := s.untilTd m.td (t + 1)
       cell % 4 = 1 → m.missed = false → m.begun = true → m.col < matNcol m.raw → t < m.next → t < (u.td m.td).ns →
       (u.can c).cur = none → (nfind (u.can c).pend (bitsOf cell 9 4)).isSome = true → u.scheduled c (bitsOf cell 9 4) = true →
       exec (.schedMiss c) s = .next (State.settle s
         ((u.inc FBC_CANc_CNT_SCHED_MISS 1 c).modCan c fun x => { x with mat := some { m with missed := true } }))))

/-- R333, R344, R348–R351: CAN reception. Without VCAN no frame is received. An erroneous frame raises REC; a frame that only
the receive FIFO's first matching filter takes enters the FIFO with its header, its data and its time, or is dropped and
counted where there is no room. The steps of REC are the model's, log entry 72. (`u` is the state in which the frame has
counted as its network's activity.)

R352, R353, R361, R362: LIN. A commander's slot sends the header of the schedule entry, in NETWORK only; the end of a
published response leaves its status and time; a received response goes to the area with status and time; a response with an
error gives its status and its event; the end of the go-to-sleep command that a commander sends commits its network; a
responder without need commits to sleep at the go-to-sleep command and at the idle timeout. -/
def Obligations.ReceptionAndLin : Prop :=
  (∀ (s : State) (c : Nat) (f : CanRx), c < 8 → s.fbcUp = true → s.pcs.vcanUv = true →
      exec (.canFrameRx c f) s = .next (State.settle s s)) ∧
  (∀ (s : State) (c : Nat) (f : CanRx), c < 8 → s.fbcUp = true → s.pcs.vcanUv = false → rxKind f = 0 →
      let u := s.netActivity c (s.now - f.ago)
      u.fbcUp = true → u.pcs.vcanUv = false → u.canFlag c 5 = true → u.canTested c = false → u.get FBC_CANc_ERR_STATE c < 2 →
      u.netState c ≠ 0 → (u.net c).commit = none →
      (f.errs ≠ 0 →
        exec (.canFrameRx c f) s = .next (State.settle s
          (u.canCounters c (u.get FBC_CANc_ERR_TEC c) (u.get FBC_CANc_ERR_REC c + f.errs)))) ∧
      (f.errs = 0 → u.get FBC_CANc_ERR_REC c ≤ 127 →
        let v := u.canCounters c (u.get FBC_CANc_ERR_TEC c) (u.get FBC_CANc_ERR_REC c - 1)
        let w := (v.count (448 + c)).canBell c f
        w.filterOn 3 (8 * c) 8 0 f = none →
        (∀ i r, w.filterOn 4 (256 * c) 256 2 f = some (i, r) → byteAt r 9 % 4 = 1 →
          exec (.canFrameRx c f) s = .next (State.settle s (w.canFifo c i f false (v.td0 - f.ago)))) ∧
        (w.filterOn 4 (256 * c) 256 2 f = none → exec (.canFrameRx c f) s = .next (State.settle s w)))) ∧
  (∀ (s : State) (l : Nat), l < 4 → s.fbcUp = true → s.linOn l = true →
      (∀ t, (s.lin l).slotAt = some t → s.linCommander l = true → leAt (s.fbcRec 7 l) 0 2 ≠ 0 →
        s.netState (8 + l) = 1 →
        let u := s.until t
        let r := s.fbcRec 7 l
        let i := (u.lin l).idx % leAt r 0 2
        let id := byteAt r (16 + 4 * i) % 64
        exec (.linHeaderSlot l) s = .next (State.settle s
          (u.modLin l fun x =>
            { x with idx := (i + 1) % leAt r 0 2, slotAt := some (t + leAt r (18 + 4 * i) 2 * 1000000), cur := some id, act := u.now }))) ∧
      (∀ id data ago, id < 64 → (s.lin l).gts = false ∨ id ≠ 0x3C → s.netState (8 + l) ≠ 0 → (s.net (8 + l)).commit = none →
        let a := s.netActivity (8 + l) (s.now - ago)
        let u := a.modLin l fun x => { x with act := a.now, cur := none }
        let base := linArea l + 16 * id
        let time := leBytes 4 (u.td0 - ago)
        (byteAt (u.linEntry l id) 0 % 4 = 1 →
          let v := u.linPublished l id (s.now - ago) (byteAt (u.linEntry l id) 1)
          let w := fun (st : Nat) => (v.setArea (base + 9) (leBytes 1 st)).setArea (base + 12) time
          exec (.linResponse l id 1 data ago) s = .next (State.settle s (w 1)) ∧
          (∀ st, st ≠ 1 → exec (.linResponse l id st data ago) s = .next (State.settle s ((w st).linEvt l 1)))) ∧
        (byteAt (u.linEntry l id) 0 % 4 = 2 →
          let d := data.take (byteAt (u.linEntry l id) 1)
          let seq := ((ngetD u.fbc.area (base + 8) 0).toNat + 2) % 256
          exec (.linResponse l id 1 data ago) s = .next (State.settle s
            (((((u.setArea base d).setArea (base + 8) (leBytes 1 seq ++ leBytes 1 1)).setArea (base + 12) time).linEvt l 0).gwLin l
              id d)) ∧
          (∀ st, st ≠ 1 → exec (.linResponse l id st data ago) s = .next (State.settle s
            ((u.setArea (base + 9) (leBytes 1 st)).linEvt l 1))))) ∧
      (∀ st data ago, (s.lin l).gts = true →
        exec (.linResponse l 0x3C st data ago) s = .next (State.settle s
          ((s.modLin l fun x => { x with gts := false, cur := none, slotAt := none }).netCommit (8 + l)))) ∧
      (s.linCommander l = false → s.netState (8 + l) = 1 →
        (s.netNeed (8 + l) = false → (s.net (8 + l)).commit = none →
          exec (.linGoToSleep l) s = .next (State.settle s ((s.linEvt l 2).netCommit (8 + l)))) ∧
        (let t := (s.lin l).act + dflt (byteAt (s.fbcRec 5 l) 4) 4 * 1000000000
         let u := (((s.until t).modLin l fun x => { x with act := (s.until t).now }).linEvt l 2)
         u.netState (8 + l) = 1 → u.netNeed (8 + l) = false → (u.net (8 + l)).commit = none →
         exec (.linBusIdleTimeout l) s = .next (State.settle s (u.netCommit (8 + l))))))

/-- R356, R359, R361, R362, R365: network management. A due Bellwether leaves and, while the need lasts, the next is due a
period later; an idle timer without need leads to PREPARE_SLEEP; after T_PREP the network commits and wake detection is
armed; 10 µs later the medium is in low power and the state is BUS_SLEEP; an armed wake leads to NETWORK.

R333, R364: transceivers. Every 100 ms the field die refreshes those whose controllers run; one without a refresh for T_FS
goes to low power with its wake detection armed; VCAN's undervoltage is shown while VBAT supplies the field die, and the CAN
attempts in progress when VCAN goes low are marked as failed. -/
def Obligations.NetworksAndTransceivers : Prop :=
  (∀ (s : State) (n : Nat), n < 16 → s.fbcUp = true →
      (∀ t fl, (s.net n).due = some (t, fl) → s.netState n = 1 →
        let u := s.until t
        let v := u.modNet n fun x => { x with due := if u.netNeed n then some (t + u.netPeriod n, 0) else none }
        (n < 8 → exec (.bellwetherDue n) s = .next (State.settle s (v.bellCan n (fl + b2n (u.netNeed n))))) ∧
        (12 ≤ n → exec (.bellwetherDue n) s = .next (State.settle s (v.bellEth n (fl + b2n (u.netNeed n)))))) ∧
      (∀ f, s.esw.mq.find? (fun f => f.etype == s.esw.etype && f.kind == 3) = some f →
        exec .bellwetherRx s = .next (State.settle s
          (({ s with esw := { s.esw with mq := s.esw.mq.erase f } } : State).each [12, 13, 14, 15] fun u k =>
            if leAt (u.netRec k) 24 4 = f.streamId then u.bellHeard k f.node else u))) ∧
      (s.netState n = 1 →
        let u := s.until (s.net n).idleAt
        u.netNeed n = false → (isLinNet n = true → u.linCommander (n - 8) = true) →
        exec (.idleTimerExpiry n) s = .next (State.settle s
          ((u.set FBC_NETn_STATUS_STATE 2 n).modNet n fun x =>
            { x with prepAt := some (u.now + u.netPrep n), due := none }))) ∧
      (∀ t, (s.net n).prepAt = some t → s.netState n = 2 → (s.net n).commit = none → isLinNet n = false →
        let u := s.until t
        exec (.tPrepExpiry n) s = .next (State.settle s
          ((u.modNet n fun x => { x with commit := some u.now, due := none }).arm n (u.wakeEn n)))) ∧
      (∀ t, (s.net n).commit = some t → s.netState n = 2 → n < 8 →
        let v := ((s.until (t + 10000)).set FBC_NETn_STATUS_STATE 0 n).xcvrSleep n true
        let u := (v.modNet n fun x => { x with errSt := v.get FBC_CANc_ERR_STATE n }).canLeave n
        (u.net n).wakeSeen = false → (u.net n).needSeen = false →
        exec (.busRelease n) s = .next (State.settle s (u.modNet n fun x => { x with prepAt := none }))) ∧
      (s.asleep = false → s.netState n = 0 → bitOf s.fbc.armed n = true →
        exec (.wakeDetected n) s = .next (State.settle s (s.netWake n 2)))) ∧
  (∀ s : State,
      (s.fbcUp = true → s.fbc.fs = 0 →
        let u := s.until ((List.range 12).foldl (fun m x => max m (ngetD s.fbc.refresh x 0)) 0 + 100000000)
        u.fbc.fs = 0 → u.fcu.tests = [] →
        exec .transceiverRefresh s = .next (State.settle s
          ((List.range 12).foldl (fun (v : State) x =>
            { v with fbc := { v.fbc with refresh := nset v.fbc.refresh x u.now } }) u))) ∧
      (∀ x < 12, bitOf s.fbc.fs x = false → s.pcs.vbat = true →
        let u := s.until (ngetD s.fbc.refresh x 0 + s.tfs x)
        exec (.transceiverFailsafe x) s = .next (State.settle s
          ((({ u with fbc := { u.fbc with fs := setBit u.fbc.fs x true } } : State).xcvrSleep x true).arm x true))) ∧
      (∀ below, s.pcs.vbat = true →
        let u : State := { s with pcs := { s.pcs with vcanUv := below } }
        exec (.vcanUv below) s = .next (State.settle s
          (if below then
            u.each (List.range 8) fun v c => v.modCan c fun x => { x with cur := x.cur.map fun t => { t with uv := true } }
           else u))))

/-- R370, R374–R378, R380: the signal gateway. A periodic PDU that is due in TD0 leaves with its image; at the end of the gap
the oldest queued image leaves, else the waiting values; a receive PDU without reception for RX_TIMEOUT is timed out once,
and so is each route from its signals, whose destination takes its INIT or invalid value where ON_TIMEOUT says so; a
container leaves when its hold time ends; a received container gives its entries to their PDUs; routes change at the grid
point after their command.

R370, R373, R375–R378: a reception gives each signal of the PDU its raw value from the PDU's bytes, and then each route in
force when the frame ended carries its source on; an update that a raw route carries writes the value to its destination and
counts. -/
def Obligations.SignalGateway : Prop :=
  (∀ s : State, s.sgwUp = true →
      (∀ p r, s.pduRec p = some r → pduTx r = true →
        (pduOnUpdate r = false →
          let t := (s.pdu p).next.getD s.td0
          let u := s.untilTd 0 t
          t ≤ u.td0 →
          exec (.gwPeriodicTx p) s = .next (State.settle s
            (let v := u.modPdu p fun x => { x with next := some (t + leAt r 8 4 * 1000) }
             v.pduSend p r (v.pduNow p r) true))) ∧
        (∀ t, (s.pdu p).last = some t →
          let u := s.until (t + pduGap r)
          (∀ d q, (s.pdu p).queue ≠ [] → (u.pdu p).queue = d :: q →
            exec (.gwGapEnd p) s = .next (State.settle s ((u.modPdu p fun x => { x with queue := q }).pduSend p r d false))) ∧
          ((s.pdu p).wait = true → (u.pdu p).queue = [] →
            exec (.gwGapEnd p) s = .next (State.settle s
              (let v := u.modPdu p fun x => { x with wait := false }
               v.pduSend p r (v.pduNow p r) true))))) ∧
      (∀ p r, s.pduRec p = some r → pduTx r = false → leAt r 16 2 ≠ 0 → (s.pdu p).timedOut = false →
        let u := s.until ((s.pdu p).seen + leAt r 16 2 * 1000000)
        let v := (u.modPdu p fun x => { x with timedOut := true }).sgwEvt SGW_EVT_TIMEOUT
        exec (.gwRxTimeout p) s = .next (State.settle s
          (v.each v.sgw.routes fun w e => w.routeTimeout p e.1 e.2).flushPdus)) ∧
      (∀ (p k : Nat) (x : GwRoute) (a b : GwSignal), s.sig? x.src = some a → s.sig? x.dst = some b →
        (sgPdu a.raw ≠ p → s.routeTimeout p k x = s) ∧
        (sgPdu a.raw = p →
          let u := s.setRoute k { x with timedOut := true }
          (x.onTimeout = 0 → s.routeTimeout p k x = u) ∧
          (x.onTimeout = 1 → s.routeTimeout p k x = u.sigWrite x.dst (sgInit b.raw) (x.mode == 1)) ∧
          (x.onTimeout = 2 → sgHasInvalid b.raw = true →
            s.routeTimeout p k x = u.sigWrite x.dst (sgInvalid b.raw) (x.mode == 1)))) ∧
      (∀ k t, (s.cont k).since = some t →
        exec (.containerHoldExpiry k) s = .next (State.settle s ((s.until (t + leAt (s.contRec k) 20 4 * 1000)).contSend k))) ∧
      (∀ f, s.esw.mq.find? (fun f => f.etype == s.esw.etype && f.kind == 4) = some f →
        let u : State := { s with esw := { s.esw with mq := s.esw.mq.erase f } }
        exec .containerRx s = .next (State.settle s
          (u.each (u.cfgAll 0x0104 3) fun v e =>
            if byteAt e.2 0 % 4 = 1 ∧ leAt e.2 4 4 = f.streamId ∧ leAt e.2 2 2 = f.node then
              match contEntries f (f.words + 1) 0 with
              | none => v.gwShort
              | some l => v.each l fun w x =>
                match w.pduRec x.1 with
                | some q => if pduKind q = 8 ∧ byteAt q 1 = e.1 then w.pduTake f.rxAt x.1 q x.2 else w
                | none => w
            else v))) ∧
      (∀ c : Cmd, s.atGrid = true → s.sf.cmds = [c] → c.stage = .started → c.at_ < s.now → s.modeHolds c = false →
        c.late s.effectNs = false →
        (c.desc.opcode = 0x0502 → s.route? c.tgt = none → (s.routeWhere fun x => x.dst == c.p 2 2) = none →
          exec .routeChangeEffect s = .next (State.settle s
            (let v := s.setRoute c.tgt { routeOf c.desc.params with since := s.now }
             s.after (v.complete c.seq stOk v.effectNs)))) ∧
        (c.desc.opcode = 0x0503 → (s.route? c.tgt).isSome = true →
          exec .routeChangeEffect s = .next (State.settle s
            (let v := s.routeRemove c.tgt
             s.after (v.complete c.seq stOk v.effectNs))) ∧ (s.routeRemove c.tgt).route? c.tgt = none))) ∧
  (∀ (s : State) (t p : Nat) (r d : List Byte), pduLen r ≤ d.length →
      let u := s.pduSignals p (d.take (pduLen r))
      s.pduTake t p r d = (u.each (u.routesAt t) fun v e => v.routeCarry p e.1 e.2).flushPdus ∧
      (∀ (i : Nat) (a : GwSignal), s.sig? i = some a →
        u.sig? i = some (if sgPdu a.raw = p then { a with val := sgGet a.raw (d.take (pduLen r)) } else a)) ∧
      (∀ (k : Nat) (x : GwRoute) (a : GwSignal), s.sig? x.src = some a →
        s.routeCarry p k x = if sgPdu a.raw = p then s.routeUpdate k x a.val else s)) ∧
  (∀ (s : State) (k v : Nat) (x : GwRoute) (a b : GwSignal), s.sig? x.src = some a → s.sig? x.dst = some b → x.mode = 0 →
      s.pduRec (sgPdu b.raw) = none →
      (∃ y, s.route? k = some y ∧ y.since = x.since) →
      let u := s.routeUpdate k x v
      u.sig? x.dst = some { b with val := v % 2 ^ sgLen b.raw } ∧
        u.route? k = some { x with seen := true, timedOut := false, fwd := (x.fwd + 1) % 4294967296 } ∧
        (∀ i, i ≠ x.dst → u.sig? i = s.sig? i) ∧ (∀ j, j ≠ k → u.route? j = s.route? j))

/-- R391–R393, R396: accesses through an outbound window that admits them. A write goes to the partner; a read of a data
window that lies within a prefetch line is served by it, another waits for a tag; a control window's read is held, and stalls
its initiator's port.

R392, R393, R396, R414: the end of a read. A completion answers the initiator and frees the tag; CPL_TO after its request a
split read, and 64 µs after its request a held read, ends with a bus error, an event and a report; no answer goes to the
initiator of a read whose responses are discarded (`ans`); a prefetch line unused for PF_AGE is discarded. -/
def Obligations.PartnerReads : Prop :=
  (∀ (s : State) (a : Init) (addr w : Nat) (r : List Byte), s.coreRuns = true → s.powered 40 = true → s.penRuns 31 = true →
      s.plbLink = true → s.stalled a = false →
      (∀ d : List Byte, s.outAdmit a addr d.length true = (true, s) → s.outWin addr d.length = some (w, r) →
        laneOk (owFlag r 4) (owElem r) (addr - owBase r) d.length = true → s.plb.lines = [] → owFlag r 3 = false →
        owControl r = true →
        let m := laneMap (owFlag r 4) (owElem r) (addr - owBase r) d
        exec (.outboundWrite a addr d) s = .next (State.settle s
          (({ s with plb := { s.plb with posted := s.plb.posted ++ [{ kind := 0, addr := owTo r + m.1, data := m.2 }] } } : State).answer
            (some [])))) ∧
      (∀ n : Nat, s.outAdmit a addr n false = (true, s) → s.outWin addr n = some (w, r) →
        laneOk (owFlag r 4) (owElem r) (addr - owBase r) n = true →
        (∀ l, owControl r = false → s.lineOf w addr n = some l →
          exec (.splitRead a addr n) s = .next (State.settle s
            ((s.lineUsed l addr n).answer (some ((l.data.drop (addr - l.addr)).take n))))) ∧
        (owControl r = false → owFlag r 2 = false → s.lineOf w addr n = none →
          let u := s.freeNat.2
          exec (.splitRead a addr n) s = .next (State.settle s
            ({ u with plb := { u.plb with queue := u.plb.queue ++
              [{ tag := 0, init := a.id.toNat, win := w, addr := addr, len := n, at_ := s.now, fetch := n }] } } :
                State).issueReads)) ∧
        (owControl r = true →
          exec (.heldRead a addr n) s = .next (State.settle s
            (s.sendRead { tag := 64, init := a.id.toNat, win := w, addr := addr, len := n, at_ := s.now, fetch := n }))))) ∧
  (∀ (s : State) (a : Init) (addr n : Nat) (d : List Byte), s.stalled a = true →
      exec (.outboundWrite a addr d) s = .next (State.settle s s) ∧ exec (.splitRead a addr n) s = .next (State.settle s s) ∧
        exec (.heldRead a addr n) s = .next (State.settle s s)) ∧
  (∀ (s : State) (t : Nat) (x : PlbRead), s.plbUp = true →
      let ans := fun (u : State) (d : Option (List Byte)) => if x.void then u else u.answer d
      (s.readOf t = some x →
        (∀ w d, s.cfgData 0x0105 2 x.win = some w → x.fetch = x.len →
          exec (.readCompletionRx t (some d)) s = .next (State.settle s
            (ans (s.dropRead x)
              (some ((laneMap (owFlag w 4) (owElem w) (x.addr - owBase w) (padTo x.fetch d)).2.take x.len))).issueReads)) ∧
        exec (.readCompletionRx t none) s = .next (State.settle s (ans (s.dropRead x) none).issueReads) ∧
        (t < 64 →
          exec (.cplTo t) s = .next (State.settle s
            (ans ((((s.until (x.at_ + s.cplTo)).dropRead x).setFlag PLB_EVT_CPL_TO true).plbReport 1) none).issueReads))) ∧
      (s.readOf (64 + t) = some x →
        exec (.heldReadTimeout t) s = .next (State.settle s
          (ans ((((s.until (x.at_ + 64000)).dropRead x).setFlag PLB_EVT_HELD_TO true).plbReport 0) none))) ∧
      (∀ l, s.plb.lines[t]? = some l →
        exec (.prefetchAgeExpiry t) s = .next (State.settle s ((s.until (l.used + s.pfAge)).discard l))) ∧
      (∀ a : Init, s.reaches a PLB_DISC_INFO 0 0 false = true → ∀ y l, s.plb.disc = y :: l →
        ∃ u : State, exec (.discInfoRead a) s = .next (State.settle s
            (u.answer (some (leBytes 4 (y.len % 1024 + y.win * 65536 + 2147483648))))) ∧
          u.plb = { s.plb with disc := l } ∧ u.mem = s.mem ∧ u.regs = s.regs))

/-- R387, R388, R394, R398, R399: the partner link. An inbound request to no enabled window is a miss, and so is one beyond an
endpoint's BAR2 (the model's choice, log entry 115); PERST_N takes an endpoint's link down; a link that comes up shows its speed and width, one that goes down fails its
reads; heartbeats leave and are captured, at a root port by HB_LAND, and without one for HB_TIMEOUT the peer is lost; an
unmasked MSI-X vector of an endpoint is sent. -/
def Obligations.PartnerLink : Prop :=
  ∀ s : State, s.plbUp = true →
    (∀ bar w addr n d, s.plbLink = true →
      (s.plbRoot = true ∧ (w = true → s.cfgData 0x0105 4 0 = none)) ∨ (s.plbRoot = false ∧ bar ≠ 0 ∧ bar ≠ 6) →
      ((s.cfgAll 0x0105 3).find? fun e => owFlag e.2 0 && decide (owBase e.2 ≤ addr ∧
        addr + (if w then d.length else n) ≤ owBase e.2 + owSize e.2)) = none ∨
        (s.plbRoot = false ∧ 2 ^ clampN 20 32 (byteAt s.plbLinkRec 0) < addr + (if w then d.length else n)) →
      exec (.inboundRequest bar w addr n d) s = .next (State.settle s
        (let u := s.setFlag PLB_EVT_INB_MISS true
         { u with plb := { u.plb with inAnswer := none } }))) ∧
    (∀ addr n, s.plbLink = true → s.plbRoot = false → 0x2000 ≤ addr → addr + n ≤ 0x2400 →
      exec (.inboundRequest 0 false addr n []) s = .next (State.settle s
        { s with plb := { s.plb with inAnswer := some ((List.range n).map fun k => s.msixByte (addr - 0x2000 + k)) } })) ∧
    (s.plbRoot = false → s.plbLink = true → exec .perstNLinkReset s = .next (State.settle s s.linkDown)) ∧
    (∀ speed width, (s.pcs.bootPins = 1 ∨ s.pcs.bootPins = 2) → s.plbLink = false →
      exec (.plbLinkChange true speed width) s = .next (State.settle s
        ((((s.setFlag PLB_STATUS_UP true).setFlag PLB_EVT_LINK true).set PLB_STATUS_SPEED (clampN 1 4 speed)).set
          PLB_STATUS_WIDTH (clampN 1 2 width)))) ∧
    (∀ speed width, s.plbLink = true →
      exec (.plbLinkChange false speed width) s = .next (State.settle s s.linkDown) ∧
        s.linkDown.plb.reads = [] ∧ s.linkDown.plb.queue = []) ∧
    (∀ t, s.plb.hbDue = some t → leAt s.hbRec 16 2 ≠ 0 →
      let u := s.until t
      let d := leBytes 8 u.td0 ++ leBytes 4 u.plb.hbCount ++ leBytes 2 (u.get ESW_NODE_ID_NODE) ++
        leBytes 2 (u.get PLB_HB_CTRL_ACTIVE)
      exec .heartbeatSend s = .next (State.settle s
        (({ u with plb := { u.plb with hbCount := (u.plb.hbCount + 1) % 4294967296,
                                       hbDue := some (t + leAt s.hbRec 16 2 * 1000000) } } : State).toPartner
          { kind := 0, addr := leAt s.hbRec 0 8, data := d }))) ∧
    (∀ d : List Byte, s.plbLink = true → d.length = 16 →
      let u := s.wr PLB_HB_RX (w32 (leAt d 8 2 + (byteAt d 14 % 2) * 65536))
      let t : State := { u with plb := { u.plb with hbSeen := s.now, hbLost := false } }
      exec (.heartbeatRx d) s = .next (State.settle s t) ∧
      (s.plbRoot = true → (s.cfgData 0x0105 4 0).isSome = true → ∀ bar n,
        exec (.inboundRequest bar true (leAt s.hbRec 8 8) n d) s = .next (State.settle s t)) ∧
      (s.plbRoot = false → ∀ n, exec (.inboundRequest 0 true 0 n d) s = .next (State.settle s t))) ∧
    (leAt s.hbRec 18 2 ≠ 0 → s.plb.hbLost = false →
      let u := s.until (s.plb.hbSeen + leAt s.hbRec 18 2 * 1000000)
      exec .peerLost s = .next (State.settle s
        ((({ u with plb := { u.plb with hbLost := true } } : State).setFlag PLB_EVT_PEER_LOST true).plbReport 2))) ∧
    (∀ (a : Init) (v : Word), s.reaches a PLB_MSIX_SEND 0 0 true = true → s.plbRoot = false →
      s.msixMasked (v.toNat % 64) = false →
      exec (.msixSend a v) s = .next (State.settle s ((s.msixMessage (v.toNat % 64)).answer (some []))))

/-! ### Cores, memory, security, faults, power, debug (chapters 12 to 16) -/

/-- R405, R414, R416, R419–R422: lockstep pairs. A mismatch of a running unit notes its cause and is reported once; the
CRC-32C over a pair's registers is shown and counted as its fold, and a copy whose CRC differs is a mismatch of cause FOLD; a
handover that is allowed moves hart ID `p` to SPX with reason 2 at its restart vector once no read of the pair is outstanding;
a machine timer that reaches its compare is pending. -/
def Obligations.LockstepPairs : Prop :=
  ∀ s : State,
    (∀ u, s.unitRuns u = true →
      (7 ≤ u → exec (.lockstepMismatch u) s = .next (State.settle s
        { s with fcu := { s.fcu with todo := s.fcu.todo ++ [{ src := unitSrc u, lock := false }] } })) ∧
      (u < 7 → (s.pair u).returned = none →
        let v := ((s.set CC_PAIRp_STATUS_CAUSE 1 u).inc CC_PAIRp_MISMATCH_COUNT 1 u).modPair u fun x => { x with mis := true }
        exec (.lockstepMismatch u) s = .next (State.settle s
          { v with fcu := { v.fcu with todo := v.fcu.todo ++ [{ src := 8 * u, lock := false }] } })) ∧
      (u < 7 → (s.hart (s.pairHart u)).halted = false → ∀ main check : List Byte,
        let v := (s.wr CC_PAIRp_FOLD (w32 (crc32c main)) u).countHart (s.pairHart u) 24
        (crc32c main = crc32c check → exec (.registerFold u main check) s = .next (State.settle s v)) ∧
        (crc32c main ≠ crc32c check → exec (.registerFold u main check) s = .next (State.settle s
          ((v.modPair u fun x => { x with foldAt := some s.now }).mismatch u 2))))) ∧
    (∀ (a : Init) (p : Nat) (v : Word), p < 7 → s.reaches a CC_PAIRp_CTRL p 0 true = true →
      (s.carrier a.id.toNat = some p → s.handoverOk p = true → (s.hart a.id.toNat).halted = false → bitOf v.toNat 1 = false →
        exec (.handover a p v) s = .next (State.settle s
          ((s.modPair p fun x => { x with handover := true }).answer (some [])))) ∧
      (s.carrier a.id.toNat ≠ some p → bitOf v.toNat 1 = false →
        exec (.handover a p v) s = .next (State.settle s
          ((s.setFlag CC_PAIRp_STATUS_HO_REFUSED true p).answer (some [])))) ∧
      (bitOf v.toNat 0 = false → s.pairState p = prFenced → p < 6 → (s.setPen (1 + p) 0).carrier p = none →
        exec (.pairRestart a p v) s = .next (State.settle s
          ((((s.setPen (1 + p) 0).pairStart p p 3).reReport (1 + p)).answer (some []))))) ∧
    (∀ p, p < 6 → (s.pair p).handover = true → s.handoverOk p = true → s.readsOut (s.pairHart p) = false →
      let u := s.modPair p fun x => { x with handover := false }
      exec (.handoverExecute p) s = .next (State.settle s
        (((u.setPair p prStandby noHart).modHart p Hart.stop).takeover p 2))) ∧
    (∀ h, h ≤ 11 → h ≠ 7 → s.coreRuns = true →
      let u := s.until (s.cc.mtime0 + s.mtimecmp h * 10)
      exec (.machineTimerCompare h) s = .next (State.settle s
        (u.modHart h fun x => { x with mtip := decide (u.mtimecmp h ≤ u.mtime) })))

/-- R410, R428, R429, R435–R437: caches and memories. A cache error is reported under its source, and a dirty line
that cannot be corrected gets the poison marker and its read a bus error; a copy to the spare bank or back is started, by a
write of the spare's configuration too where AUTO finds a bank at its threshold, and ends with MIGRATED; a scrubber and an access that meet an error log it, an uncorrectable one under its kind, with a bus
error to the access, and the word keeps that error; the log's oldest entry is read and removed. -/
def Obligations.CachesAndMemories : Prop :=
  ∀ s : State,
    (∀ u kind a, s.coreRuns = true → u < 8 → s.unitRuns u = true →
      exec (.cacheParityError u kind a) s = .next (State.settle s
        ((if u < 7 then s.countHart (s.pairHart u) 25 else s).report (8 * u + 3)))) ∧
    (∀ u kind a, s.coreRuns = true → 8 ≤ u → u ≤ 12 → s.penRuns 17 = true → s.powered 9 = true → kind < 2 →
      exec (.cacheParityError u kind a) s = .next (State.settle s (s.report (if u = 12 then 0x48 else 0x40 + 2 * (u - 8))))) ∧
    (∀ u kind a, s.coreRuns = true → 8 ≤ u → u ≤ 12 → s.penRuns 17 = true → s.powered 9 = true → 2 ≤ kind → regionOf a = .sram →
      let line := [0, 16, 32, 48].foldl (fun m o => nset m (a / 64 * 64 + o) ()) s.ms.poison
      exec (.cacheParityError u kind a) s = .next (State.settle s
        ((({ s with ms := { s.ms with poison := line } } : State).answer none).report
          ((if u = 12 then 0x48 else 0x40 + 2 * (u - 8)) + 1)))) ∧
    (∀ (a : Init) (v : Word), s.reaches a MS_SPARE_CTRL 0 0 true = true →
      s.ms.copy = none →
      let b := v.toNat % 16
      let go := fun (c : Word) (back : Bool) =>
        let u := s.wr MS_SPARE_CTRL (MS_SPARE_CTRL.written (s.rd MS_SPARE_CTRL) c)
        ((({ u with ms := { u.ms with copy := some (b, back) } } : State).setFlag MS_SPARE_STATUS_BUSY true).set
          MS_SPARE_STATUS_BANK b).answer (some [])
      (s.ms.spare = none → s.bankOut 16 = false → bitOf v.toNat 5 = false →
        exec (.spareMigrate a v) s = .next (State.settle s (go (putBits v 4 4 1) false))) ∧
      (s.ms.spare = some b → s.bankOut b = false → bitOf v.toNat 4 = false →
        exec (.spareReturn a v) s = .next (State.settle s (go (putBits v 5 5 1) true)))) ∧
    (∀ (a : Init) (v : Word), s.reaches a MS_SPARE_CFG 0 0 true = true →
      exec (.registerWrite a MS_SPARE_CFG.base v) s = .next (State.settle s
        (((s.wr MS_SPARE_CFG (MS_SPARE_CFG.written (s.rd MS_SPARE_CFG) v)).autoMigrate).answer (some [])))) ∧
    (∀ b, s.ms.copy = some (b, false) →
      let u : State := { s with ms := { s.ms with copy := none, spare := some b } }
      exec .migrationDone s = .next (State.settle s
        (((u.setFlag MS_SPARE_STATUS_BUSY false).setFlag MS_SPARE_STATUS_IN_USE true).setFlag MS_EVT_MIGRATED true))) ∧
    (∀ b, s.ms.copy = some (b, true) →
      let u : State := { s with ms := { s.ms with copy := none, spare := none } }
      exec .migrationDone s = .next (State.settle s
        ((((u.setFlag MS_SPARE_STATUS_BUSY false).setFlag MS_SPARE_STATUS_IN_USE false).set MS_SPARE_STATUS_BANK 0).setFlag
          MS_EVT_MIGRATED true))) ∧
    (∀ m a, memIdx a = m → (m = 2 → s.stagingHalf a = false) →
      (s.poisonAt a 1 = none → exec (.scrubStep m a none) s = .next (State.settle s s)) ∧
      (s.memoryUp a = true →
        (s.poisonAt a 1 = none →
          exec (.scrubStep m a (some 0)) s = .next (State.settle s (s.memError a 0xFF 0)) ∧
          exec (.scrubStep m a (some 1)) s = .next (State.settle s ((s.memError a 0xFF 1).badWord a))) ∧
        (∀ k, (s.poisonAt a 1).isSome = true →
          exec (.scrubStep m a k) s = .next (State.settle s ((s.memError a 0xFF 1).badWord a))))) ∧
    (∀ a init kind, s.memoryUp a = true →
      let k := if kind = 0 then (if (s.poisonAt a 1).isSome then 1 else 0) else if kind = 1 ∨ 2 ≤ memIdx a then 1 else 2
      let u := s.memError a init k
      let v := if k = 1 then u.badWord a else u
      exec (.memoryError a init kind) s = .next (State.settle s (if k = 0 ∨ init = 0xFF then v else v.answer none))) ∧
    (∀ a, let b := a / unitBytes a * unitBytes a
      nfind (s.badWord a).ms.poison b = some () ∧ nfind (s.badWord a).ms.poison (b + unitBytes a - 16) = some () ∧
        (s.badWord a).mem = s.mem) ∧
    (∀ a : Init, s.reaches a MS_ERR_INFO 0 0 false = true → ∀ x l, s.ms.log = x :: l →
      ∃ (w : Word) (u : State), exec (.errInfoRead a) s = .next (State.settle s (u.answer (some (leBytes 4 w.toNat)))) ∧
        bitOf w.toNat 31 = true ∧ u.ms = { s.ms with log := l } ∧ u.mem = s.mem ∧ u.regs = s.regs)

/-- R443, R445, R447, R454, R465, R468: the registers of the secure world. A region's base, size and control are written by a secure
initiator while the region is not locked, and a write of a locked one is recorded; the gatekeeper log's oldest entry is read and removed; an OTP read and a programming start
with BUSY and end with the word; REVOKE ends the grants; a failed health test stops the generator, which then gives zeros
once its words are used up; a read of the generator takes one of its words, a free value. -/
def Obligations.SecureRegisters : Prop :=
  ∀ (s : State) (a : Init) (v : Word),
    (∀ g r, g < 22 → r < gkRegions g → a.secure = true →
      ∀ x ∈ [(0, SEC_GKg_REGr_BASE), (1, SEC_GKg_REGr_SIZE), (6, SEC_GKg_REGr_CTRL)], s.reaches a x.2 g r true = true →
      (bitOf (s.rd SEC_GKg_REGr_CTRL g r).toNat 6 = false →
        exec (.gatekeeperRegionWrite a g r x.1 v) s = .next (State.settle s
          ((s.wr x.2 (x.2.written (s.rd x.2 g r) v) g r).answer (some [])))) ∧
      (bitOf (s.rd SEC_GKg_REGr_CTRL g r).toNat 6 = true →
        exec (.gatekeeperRegionWrite a g r x.1 v) s = .next (State.settle s
          ((s.slotEvent a (x.2.addr g r) 3 true).answer (some []))))) ∧
    (s.reaches a SEC_GK_INFO 0 0 false = true → ∀ x l, s.sec.gkLog = x :: l →
      ∃ (w : Word) (u : State), exec (.gkInfoRead a) s = .next (State.settle s (u.answer (some (leBytes 4 w.toNat)))) ∧
        bitOf w.toNat 31 = true ∧ u.sec = { s.sec with gkLog := l } ∧ u.mem = s.mem ∧ u.regs = s.regs) ∧
    (s.reaches a SEC_OTP_CTRL 0 0 true = true → s.sec.otpOp = none →
      let go := fun (c : Word) (prog : Bool) =>
        let u := s.wr SEC_OTP_CTRL (SEC_OTP_CTRL.written (s.rd SEC_OTP_CTRL) c)
        let w := u.setFlag SEC_OTP_CTRL_BUSY true
        ({ w with sec := { w.sec with otpOp := some (u.get SEC_OTP_CTRL_ITEM, u.get SEC_OTP_CTRL_WORD,
                                                     if prog then some (u.rd SEC_OTP_DATA) else none) } } : State).answer
          (some [])
      let item := fun (c : Word) => (s.wr SEC_OTP_CTRL (SEC_OTP_CTRL.written (s.rd SEC_OTP_CTRL) c)).get SEC_OTP_CTRL_ITEM
      (item (putBits v 9 8 1) ≤ 6 →
        exec (.otpRead a v) s = .next (State.settle s (go (putBits v 9 8 1) false))) ∧
      (6 < item (putBits v 9 8 1) →
        exec (.otpRead a v) s = .next (State.settle s
          (((s.wr SEC_OTP_CTRL (SEC_OTP_CTRL.written (s.rd SEC_OTP_CTRL) (putBits v 9 8 1))).setFlag SEC_OTP_CTRL_ERR true).answer
            (some [])))) ∧
      (item (putBits v 9 8 2) ≤ 6 →
        (let u := s.wr SEC_OTP_CTRL (SEC_OTP_CTRL.written (s.rd SEC_OTP_CTRL) (putBits v 9 8 2))
         u.otpRefused (u.get SEC_OTP_CTRL_ITEM) (u.get SEC_OTP_CTRL_WORD) (u.rd SEC_OTP_DATA) = false) →
        exec (.otpProgram a v) s = .next (State.settle s (go (putBits v 9 8 2) true)))) ∧
    (∀ item w, s.sec.otpOp = some (item, w, none) →
      let u := ({ s with sec := { s.sec with otpOp := none } } : State).setFlag SEC_OTP_CTRL_BUSY false
      exec .otpOperationDone s = .next (State.settle s (u.wr SEC_OTP_DATA (s.otpWord item w)))) ∧
    (∀ item w d, s.sec.otpOp = some (item, w, some d) →
      let u := ({ s with sec := { s.sec with otpOp := none } } : State).setFlag SEC_OTP_CTRL_BUSY false
      exec .otpOperationDone s = .next (State.settle s
        (let ws := nput 0 u.sec.otp.words (item * 16 + w) (s.otpWord item w ||| if item = 5 then d &&& 15 else d)
         { u with sec := { u.sec with otp := { u.sec.otp with words := ws } } }))) ∧
    (s.reaches a SEC_DBG_CTRL 0 0 true = true →
      exec (.revoke a v) s = .next (State.settle s
        (({ s with sec := { s.sec with grants := none } } : State).answer (some [])))) ∧
    (s.coreRuns = true → s.sec.rngFail = false →
      exec .rngHealthFail s = .next (State.settle s
        ((({ s with sec := { s.sec with rngFail := true } } : State).setFlag SEC_EVT_RNG_FAIL true).report 0x201))) ∧
    (s.reaches a SEC_RNG_DATA 0 0 false = true →
      exec (.rngDataRead a) s = .next (State.settle s (s.rngTake.2.answer (some (leBytes 4 s.rngTake.1.toNat))))) ∧
    (s.sec.rngFail = true → s.sec.rngLeft = 0 → s.rngTake = (0, s)) ∧
    (s.sec.rngFail = true → s.sec.rngLeft ≠ 0 →
      let u := s.freeNat.2
      s.rngTake = (w32 s.freeNat.1, { u with sec := { u.sec with rngLeft := s.sec.rngLeft - 1 } })) ∧
    (s.sec.rngFail = false → s.sec.rngLeft ≤ 16 →
      s.rngFill.sec.rngFail = false ∧ s.sec.rngLeft ≤ s.rngFill.sec.rngLeft ∧ s.rngFill.sec.rngLeft ≤ 16 ∧
        (s.rngTake.2.sec.rngLeft = s.rngFill.sec.rngLeft - 1))

/-- R456, R462, R464, R467: lifecycle, keys, jobs and debug tokens. An advance of the lifecycle is confirmed and programmed,
or sets LC_ERR (for the targets 5 to 7 too, the model's reading, log entry 84); a key slot is loaded, derived (not in RETURN) or cleared; a job starts with BUSY, unless one runs or the
engines' pen is fenced, and ends with its status; a token sets DBG_TOKEN and changes the challenge, and one that is accepted
gives its grants.

R459, R460, R448, R499: secure calls and islands. The answer to a call completes its command while no call is overdue, an
answer to no call is counted; the oldest call unanswered for its time brings the secure world down at the end of the cycle in
which the time passes (the model's reading, log entry 120), and every call waiting completes UNAVAILABLE; a vote is written in the writer's own bits, and an island with a vote that has power again runs. -/
def Obligations.KeysCallsAndIslands : Prop :=
  (∀ (s : State) (a : Init) (v : Word),
      (s.coreRuns = true → s.stalled a = false → s.accessOk a (SEC_LC_CTRL.addr 0 0) 4 true = (true, s) → a.secure = true →
        ∀ ok, (bitsOf v.toNat 15 8 ≠ 0xA5 → exec (.lcCtrlWrite a v ok) s = .next (State.settle s (s.answer (some [])))) ∧
        (bitsOf v.toNat 15 8 = 0xA5 → exec (.lcCtrlWrite a v ok) s = .next (State.settle s
          ((if bitsOf v.toNat 2 0 ≤ s.sec.otp.lifecycle ∨ 4 < bitsOf v.toNat 2 0 ∨ ok = false then s.setFlag SEC_EVT_LC_ERR true
            else
              let o : Otp := { s.sec.otp with lifecycle := bitsOf v.toNat 2 0
                                              dusDestroyed := s.sec.otp.dusDestroyed || bitsOf v.toNat 2 0 == lcReturn }
              { s with sec := { s.sec with otp := o } }).answer (some []))))) ∧
      (s.reaches a SEC_KEY_CTRL 0 0 true = true →
        let k := v.toNat % 32
        exec (.keyLoad a v) s = .next (State.settle s ((s.setKey k { loaded := true, key := s.keyBytes }).answer (some []))) ∧
        exec (.keyDerive a v) s = .next (State.settle s
          ((if s.lc = lcReturn then s
            else s.setKey k { loaded := true, key := Config.shake256 (Config.dus ++ s.keyBytes) 32 }).answer (some []))) ∧
        exec (.keyClear a v) s = .next (State.settle s ((s.setKey k {}).answer (some [])))) ∧
      (s.reaches a SEC_JOB_CTRL 0 0 true = true → s.sec.job.isSome = true →
        exec (.jobGo a v) s = .next (State.settle s (s.answer (some [])))) ∧
      (s.reaches a SEC_JOB_CTRL 0 0 true = true → s.sec.job = none → s.penRuns 32 = false →
        exec (.jobGo a v) s = .next (State.settle s ((s.set SEC_JOB_CTRL_STATUS stHwFault).answer (some [])))) ∧
      (s.reaches a SEC_JOB_CTRL 0 0 true = true → s.sec.job = none → s.penRuns 32 = true →
        let u := s.setFlag SEC_JOB_CTRL_BUSY true
        exec (.jobGo a v) s = .next (State.settle s
          (({ u with sec := { u.sec with job := some ((List.range 16).map fun w => s.rd SEC_JOBw w) } } : State).answer
            (some [])))) ∧
      (∀ l, s.sec.job = some l →
        let u := (s.runJob l).2
        exec .jobDone s = .next (State.settle s
          ((({ u with sec := { u.sec with job := none } } : State).setFlag SEC_JOB_CTRL_BUSY false).set SEC_JOB_CTRL_STATUS
            (s.runJob l).1))) ∧
      (∀ tok ok, s.powerUp = true → s.powered 43 = true → byteAt tok 6 < 16 →
        let u := ({ s with dbg := { s.dbg with tapIr := 0x14, token := tok } } : State).setFlag SEC_EVT_DBG_TOKEN true
        exec (.debugToken tok ok) s = .next (State.settle s
          (if u.tokenOk tok then ({ u with sec := { u.sec with grants := some (byteAt tok 6 % 16) } } : State) else u).newChallenge))) ∧
  (∀ (s : State) (a : Init) (v : Word),
      (s.reaches a SEC_CALL_ANSw 3 0 true = true →
        let u : State := { s with sec := { s.sec with ans := s.sec.ans.set 3 v } }
        let w := fun i => (u.sec.ans.getD i 0).toNat
        (u.sec.calls.any u.overdue) = false →
        (u.sec.calls.find? (fun k => k.seq == w 0) = none →
          exec (.callAnswer a v) s = .next (State.settle s ((u.inc SEC_CALL_LATE_COUNT).answer (some [])))) ∧
        (∀ k, u.sec.calls.find? (fun k => k.seq == w 0) = some k →
          exec (.callAnswer a v) s = .next (State.settle s
            ((u.callEnd k (w 1 % 65536) (w 2 + w 3 * 4294967296)).answer (some []))))) ∧
      (∀ k l, s.sec.calls = k :: l → s.sec.down = false →
        let u := s.until (k.at_ + s.sec.callTo * 1000000 + 2)
        u.sec.down = false →
        exec .callTimeout s = .next (State.settle s
          (((((({ u with sec := { u.sec with down := true, calls := [] } } : State).setFlag SEC_STATUS_SW_DOWN true).setFlag
            SEC_EVT_SW_DOWN true).report 0x200).each u.sec.calls fun w c => w.complete c.cmd stUnavailable 0)))) ∧
      (∀ i < 46, s.reaches a PCS_ISLi_VOTE i 0 true = true → a.secure = true →
        exec (.islandVoteWrite a i v) s = .next (State.settle s
          (((s.wr PCS_ISLi_VOTE ((s.rd PCS_ISLi_VOTE i &&& ~~~3) ||| (v &&& 3)) i).islandEval i).answer (some [])))) ∧
      (∀ i, s.coreRuns = true → 18 ≤ i → i ≤ 25 → s.powered i = false → s.pwrVoted i = true → islPen i = none →
        exec (.islandReturn i) s = .next (State.settle s ((s.setGated i false).setIsl i true))))

/-- R471, R472, R474, R477, R480, R481, R485, R490: the fault collector's commands. A source's pair that reads error is ACTIVE
and reported once, as a mismatch where it is the comparison of a lockstep unit that runs (the model's reading, log entry 18);
one that reads broken is reported as such; each of the two readings ends the other, and the pair idle again ends both. A configuration is written by the rules of R474; LATCHED is cleared unless the source is ACTIVE, which counts a refusal; a fenced pen is released; the
fatal record is cleared; the log's oldest entry is read and removed.

R472, R473, R481, R482: an event of class corrected is counted, latched and logged, and nothing is fenced; the event of a
source whose class is uncorrected fences its pen; ERR_N then stands if the source calls for it. -/
def Obligations.FaultSources : Prop :=
  (∀ (s : State) (a : Init) (i : Nat) (v : Word),
      (s.coreRuns = true → srcUsed i = true →
        (s.flag FCU_SRCi_STATE_ACTIVE i = false →
          let u := ({ s with fcu := { s.fcu with brokenNow := nerase s.fcu.brokenNow i } } : State).setFlag
            FCU_SRCi_STATE_ACTIVE true i
          ((∀ k, mismatchUnit i = some k → u.unitRuns k = false) →
            exec (.fcuErrorEvent i) s = .next (State.settle s (u.report i))) ∧
          (∀ k, mismatchUnit i = some k → u.unitRuns k = true →
            exec (.fcuErrorEvent i) s = .next (State.settle s (u.mismatch k (1 + i % 8))))) ∧
        (nfind s.fcu.brokenNow i = none →
          exec (.brokenPair i) s = .next (State.settle s
            (let u := s.setFlag FCU_SRCi_STATE_ACTIVE false i
             let l := u.fcu.todo ++ [{ src := i, broken := true }]
             { u with fcu := { u.fcu with brokenNow := nset u.fcu.brokenNow i (), todo := l } }))) ∧
        (let u := s.setFlag FCU_SRCi_STATE_ACTIVE false i
         exec (.errorSourceIdle i) s = .next (State.settle s
           { u with fcu := { u.fcu with brokenNow := nerase u.fcu.brokenNow i } }))) ∧
      (i < 1024 → s.reaches a FCU_SRCi_CFG i 0 true = true →
        exec (.srcCfgWrite a i v) s = .next (State.settle s
          ((s.wr FCU_SRCi_CFG (fcuMerge i (s.rd FCU_SRCi_CFG i) v) i).answer (some [])))) ∧
      (i < 1024 → s.reaches a FCU_SRCi_STATE i 0 true = true → bitOf v.toNat 1 = true → bitOf v.toNat 2 = false →
        s.flag FCU_SRCi_STATE_LATCHED i = true →
        (s.flag FCU_SRCi_STATE_ACTIVE i = true →
          exec (.srcStateClear a i v) s = .next (State.settle s ((s.inc FCU_STATUS_CLEAR_REFUSED).answer (some [])))) ∧
        (s.flag FCU_SRCi_STATE_ACTIVE i = false →
          exec (.srcStateClear a i v) s = .next (State.settle s
            (((({ s with fcu := { s.fcu with escd := nerase s.fcu.escd i } } : State).setFlag FCU_SRCi_STATE_LATCHED false i).set
              FCU_LATCHEDw_LATCHED (setBit (s.get FCU_LATCHEDw_LATCHED (i / 32)) (i % 32) false) (i / 32)).answer (some []))))) ∧
      (∀ p, 9 ≤ p → p ≤ 35 → s.reaches a FCU_PENn_CTRL p 0 true = true → s.get FCU_PENn_STATUS_STATE p = 1 →
        exec (.penRelease a p v) s = .next (State.settle s ((s.penRelease p 3).answer (some [])))) ∧
      (s.reaches a FCU_FATAL_SRC 0 0 true = true →
        exec (.fatalSrcClear a v) s = .next (State.settle s
          ((s.wr FCU_FATAL_SRC (s.rd FCU_FATAL_SRC &&& 0x7FFFFFFF)).answer (some [])))) ∧
      (s.reaches a FCU_LOG_INFO 0 0 false = true → ∀ x l, s.fcu.log = x :: l →
        ∃ u : State, exec (.logInfoRead a) s = .next (State.settle s (u.answer (some (leBytes 4 x.info.toNat)))) ∧
          u.fcu = { s.fcu with log := l } ∧ u.mem = s.mem ∧ u.regs = s.regs)) ∧
  (∀ (s : State) (i : Nat), srcUsed i = true →
      let p := s.get FCU_SRCi_CFG_PEN i
      s.penFenced p = false →
      (s.get FCU_SRCi_CFG_CLASS i = 0 → s.get FCU_SRCi_CFG_ESC_N i = 0 →
        s.fcuEvent { src := i } = s.srcRecord i 0 false false) ∧
      (s.get FCU_SRCi_CFG_CLASS i = 1 → p ≠ 0 → s.flag FCU_SRCi_CFG_FENCE i = true →
        s.fcuEvent { src := i } = (s.srcRecord i 1 false false).fencePen p i false) ∧
      (s.srcRecord i 1 false false).flag FCU_SRCi_STATE_LATCHED i = true ∧
      (s.flag FCU_SRCi_CFG_ERRN i = true → (s.srcRecord i 1 false false).errnWanted = true))

/-- R480, R483, R485, R559: ERR_N is released once MIN_PULSE, to 5 %, has passed and no condition holds, and stays otherwise;
the reboot after REBOOT_DELAY starts the core die; the service pair resumes, and every command in flight ends (`fencedEnd`):
FENCED, with its own status where that is fixed, and not at all where its effect is there or it is a dirty disable that has
begun, which completes with its outcome; a quiesce that ended so leaves its function ENABLED (the model's readings, log
entry 41). -/
def Obligations.RecoveryEvents : Prop :=
  ∀ s : State,
    (s.fcu.errn = true →
      let d := clampN 1 10000 (s.get FCU_ERRN_CFG_MIN_PULSE) * 1000
      let x := s.freeIn (-(d / 20 : Nat)) (d / 20 : Nat)
      let u := x.2.until ((s.fcu.errnAt : Int) + d + x.1).toNat
      (-((d / 20 : Nat) : Int) ≤ x.1 ∧ x.1 ≤ (d / 20 : Nat)) ∧
      (u.errnWanted = false →
        exec .errnPulseEnd s = .next (State.settle s { u with fcu := { u.fcu with errn := false } })) ∧
      (u.errnWanted = true → exec .errnPulseEnd s = .next (State.settle s u))) ∧
    (∀ pins testen rails t, s.fcu.fatalDue = some t → s.releaseWaits = true → suppliesGood pins rails = true →
      let u := s.until t
      exec (.fatalReboot pins testen rails) s = .next (State.settle s
        (({ u with fcu := { u.fcu with fatalDue := none, fatalReleased := some u.now } } : State).coreBoot pins testen rails))) ∧
    (∀ t, s.fcu.svpFence = some t → t < s.now →
      let u := s.setPen 8 0
      let v : State := { u with fcu := { u.fcu with svpFence := none, svpResumed := some s.now }
                                sf := { u.sf with running := true, groups := [], ownPend := [] }
                                cfg := { u.cfg with jobs := [] }
                                sec := { u.sec with calls := [] } }
      let w := v.prepareOver
      exec .svpResume s = .next (State.settle s
        (((w.each w.sf.cmds State.fencedEnd).each (List.range 64) State.fnUnfenced).reReport 8))) ∧
    (∀ c : Cmd, c.mute = false → ¬ (c.op = 0x0F05 ∧ c.stage = .started) →
      (c.fin = none → c.stage ≠ .effected → (c.stage = .waiting → c.src = 8 ∨ s.cqRoom c.fn c.src 1 = true) →
        s.fencedEnd c = s.finish c.seq (bad stFenced)) ∧
      (∀ st r, c.fin = some (st, r) → s.fencedEnd c = s.complete c.seq st r) ∧
      (c.fin = none → c.stage = .effected → s.fencedEnd c = s)) ∧
    (∀ c : Cmd, c.mute = false → c.op = 0x0F05 → c.stage = .started → s.fencedEnd c = s) ∧
    (∀ n, (s.fnState n = 2 → s.fnUnfenced n = (s.setFnState n 1).dirtyDone n) ∧
      (s.fnState n ≠ 2 → s.fnUnfenced n = s.dirtyDone n))

/-- R493–R497, R501–R505: resets and boot. VBAT's arrival leaves only what survives; a pin reset and a software reset with its
confirmation take the core die down with reason 2 and 4; the release, with every supply that counts good, reads the straps and
boots; protection becomes active with the field die's channels back and its park slots over (the model's reading, log entry
25); the boot image's components are loaded and the harts start at their vectors with a0 = 0 (the model's choice, log entry
62); the end of boot is DONE and RUN. -/
def Obligations.ResetsAndBoot : Prop :=
  ∀ s : State,
    (s.pcs.power = .off →
      ∃ t, exec .powerOn s = .next (State.settle s t) ∧ t.regs = [] ∧ t.mem = s.mramOnly ∧ t.sec = { otp := s.sec.otp } ∧
        t.now = s.now ∧ t.pcs.power = .waking ∧ t.pcs.boot = .held ∧ t.sf.cmds = []) ∧
    (s.pcs.power ≠ .off → exec .vbatLoss s = .next (State.settle s s.vbatOff)) ∧
    (s.asleep = false → s.pcs.power ≠ .off → s.coreRuns = true →
      let u : State := { s with fcu := { s.fcu with lockedReset := false, fatalDue := none } }
      exec .pinReset s = .next (State.settle s
        { u.coreReset 2 with pcs := { (u.coreReset 2).pcs with porst := false, scanHold := false } })) ∧
    (∀ (a : Init) (v : Word), s.reaches a PCS_RESET_CTRL 0 0 true = true → bitsOf v.toNat 15 8 = 0xA5 →
      exec (.softwareReset a v) s = .next (State.settle s (s.coreReset 4)) ∧ (s.coreReset 4).coreRuns = false) ∧
    (∀ pins testen rails, s.releaseWaits = true → s.fcu.fatalDue = none →
      (suppliesGood pins rails = true → exec (.coreResetRelease pins testen rails) s =
        .next (State.settle s ((s.until s.pcs.noEarlier).coreBoot pins testen rails))) ∧
      (suppliesGood pins rails = false → exec (.coreResetRelease pins testen rails) s = .next (State.settle s s))) ∧
    (s.pcs.boot = .configured →
      let u := s.freeNat.2
      let parks := nmap (fun _ (x : Park) => { raw := x.raw }) u.pcs.parks
      let v : State := { u with pcs := { u.pcs with boot := .protection, sdRunning := false, parks := parks }
                                pda := { u.pda with lost := false, sense := [] }
                                cfg := { u.cfg with entered := s.freeNat.1 % (s.td0 + 1) }
                                tbu := { u.tbu with kettleMs := s.td0 / 1000000 } }
      let w := (v.setFlag PCS_STATE_PROT true).set PCS_BOOT_TIME_PROT (min 65535 ((s.now - s.pcs.bootAt) / 10000))
      let x := (w.setFlag PDA_CP_STATUS_CP_OK (!s.pda.cpLow)).setFlag PDA_CP_STATUS_UV_DEFER s.pda.cpLow
      exec .protectionActive s = .next (State.settle s (x.each allCh State.channelBack).subRows)) ∧
    (s.pcs.boot = .protection →
      let u := (s.bootLoad.each (List.range 7) fun v p => v.pairStart p p 0).appStart 0
      exec .hartsReleased s = .next (State.settle s
        { u with pcs := { u.pcs with boot := .harts, rstout := true }, sf := { u.sf with running := true } })) ∧
    (s.cfg.bootHalf = none → s.bootLoad = s) ∧
    (∀ h c b, s.cfg.bootHalf = some h → s.commitOf 1 h = some c → parseBoot (s.imageOf 1 h c.len) = some b →
      let im := s.imageOf 1 h c.len
      s.bootLoad = (s.ddrTrain (memRecord im b.comps)).loadComps im b.comps) ∧
    (s.pcs.boot = .harts →
      ∃ t, exec .endOfBoot s = .next (State.settle s t) ∧ t.pcs.boot = .done ∧ t.pcs.power = .run ∧
        t.flag PCS_STATE_DONE = true ∧ t.flag FCU_STATUS_BOOT_HOLD = false ∧ t.now = s.now)

/-- R506–R511: sleep. While every condition holds in RUN the device prepares to sleep, and returns when one fails; after
T_PREP the core die goes down and the Sheepdog runs; INH falls 90 to 110 µs later and rises, within 50 µs, at the first wake,
which is decided once.

R509–R513, R559: a cycle, of its length to 5 %, runs every rule in order. A sampled rule of the mode acts as its filtered
condition and its trigger say, in the cycles of its divisor, and one of another mode or cycle not at all; its action wakes the
device, drives or ends a park slot, or sets or clears a flag; an edge at a static input acts as its rule says. -/
def Obligations.SleepAndWake : Prop :=
  ∀ s : State,
    (s.pcs.power = .run → s.sleepCondition = true →
      exec .prepareSleep s = .next (State.settle s
        (({ s with pcs := { s.pcs with power := .prepareSleep, prepAt := some (s.now + s.pcs.tPrepMs * 1000000) } } :
          State).setFlag PCS_EVT_PREP true))) ∧
    (s.pcs.power = .prepareSleep → s.sleepCondition = false →
      exec .sleepAbort s = .next (State.settle s
        (({ s with pcs := { s.pcs with power := .run, prepAt := none } } : State).setFlag PCS_EVT_ABORT true))) ∧
    (∀ t, s.pcs.power = .prepareSleep → s.pcs.prepAt = some t → s.sleepCondition = true →
      ∃ e, exec .sleepCommit s = .next (State.settle s e) ∧ e.coreRuns = false ∧ e.pcs.sdRunning = true ∧ e.pcs.cycle = 0 ∧
        e.pcs.sdMode = (s.until t).get SF_MODE_MODE ∧ e.pcs.inhFall = some ((s.until t).now + 100000) ∧ e.pcs.wake = none) ∧
    (∀ t, s.pcs.inhFall = some t →
      let x := s.freeIn (-10000) 10000
      let u := x.2.until ((t : Int) + x.1).toNat
      (-10000 ≤ x.1 ∧ x.1 ≤ 10000) ∧
      exec .inhFall s = .next (State.settle s
        { u with pcs := { u.pcs with boot := .unpowered, inh := false, inhFall := none, inhFellAt := u.now, porst := false,
                                     rails := 0 } })) ∧
    (s.asleep = true → s.pcs.wake.isSome = true → s.pcs.inhFall = none →
      ∃ e, exec .inhRise s = .next (State.settle s e) ∧ e.pcs.power = .waking ∧ e.pcs.inh = true ∧ e.pcs.boot = .held ∧
        (let x := s.freeIn 0 50000
         (0 ≤ x.1 ∧ x.1 ≤ 50000) ∧
         e.now = (x.2.until (max s.pcs.wakeAt (s.pcs.inhFellAt + s.pcs.inhMinMs * 1000000) + x.1.toNat)).now) ∧ e.mem = s.mem) ∧
    (∀ y : SdIn, s.sdRuns = true →
      let x := s.freeIn (-50000) 50000
      let u := x.2.until (s.pcs.cycleAt + (s.pcs.sdCycleMs * (1000000 + x.1)).toNat)
      let v := u.each (List.range 64) fun w i => w.ruleRun y u.pcs.cycle i
      (-50000 ≤ x.1 ∧ x.1 ≤ 50000) ∧
      exec (.sheepdogCycle y) s = .next (State.settle s
        ({ v with pcs := { v.pcs with cycle := u.pcs.cycle + 1, cycleAt := v.now } } : State).sdPower)) ∧
    (∀ (y : SdIn) (c i : Nat) (q : Rule), nfind s.pcs.rules i = some q → rlKind q.raw ≠ 2 → rlKind q.raw ≠ 7 →
      (rlIn q.raw s.pcs.sdMode = false ∨ c % rlDiv q.raw ≠ 0 → s.ruleRun y c i = s) ∧
      (rlIn q.raw s.pcs.sdMode = true → c % rlDiv q.raw = 0 →
        let f := q.filter (s.ruleTrue y q.raw)
        let u : State := { s with pcs := { s.pcs with rules := nset s.pcs.rules i f.1 } }
        let go := (rlTrigger q.raw = 0 ∧ f.1.value = true) ∨ (rlTrigger q.raw = 1 ∧ f.2 = true ∧ f.1.value = true) ∨
          (rlTrigger q.raw = 2 ∧ f.2 = true ∧ f.1.value = false) ∨ (3 ≤ rlTrigger q.raw ∧ f.2 = true)
        (go → s.ruleRun y c i = u.ruleAct i q.raw) ∧ (¬ go → s.ruleRun y c i = u))) ∧
    (∀ (i : Nat) (r : List Byte),
      (rlAction r = 1 → s.asleep = true → s.pcs.wake = none →
        s.ruleAct i r = { s with pcs := { s.pcs with wake := some (6, i), wakeAt := s.now } }) ∧
      (rlAction r = 2 → s.ruleAct i r = s.parkOn (rlArg r)) ∧ (rlAction r = 3 → s.ruleAct i r = s.parkOff (rlArg r)) ∧
      (∀ k, k < 2 → rlAction r = 4 + k →
        s.ruleAct i r = { s with pcs := { s.pcs with sdFlags := setBit s.pcs.sdFlags (rlArg r) (k == 0) } })) ∧
    (∀ i q up, nfind s.pcs.rules i = some q → s.sdRuns = true → rlIn q.raw s.pcs.sdMode = true → rlKind q.raw = 2 →
      (rlTrigger q.raw = 3 ∨ (rlTrigger q.raw = 1 ∧ up = true) ∨ (rlTrigger q.raw = 2 ∧ up = false)) →
      exec (.wkStaticEdge i up) s = .next (State.settle s (s.ruleAct i q.raw))) ∧
    (∀ n, n < 16 → s.asleep = true → bitOf s.fbc.armed n = true → s.pcs.wake = none →
      exec (.wakeDetected n) s = .next (State.settle s
        { s with pcs := { s.pcs with wake := some (5, n), wakeAt := s.now } }))

/-- R518–R522, R524, R525: run control. A request to an open hart is noted and halts it at its next boundary, once its reads are
complete; a halted hart resumes, or executes one instruction and stays halted where dcsr.step is set; a reset of the selected
hart starts it at its vector with reason 5; a dmode trigger that the debugger has set halts, another raises a breakpoint; the
TAP's reset selects IDCODE. That a request leaves the module active with op 0, and what it does to the scan port, is the
model's, log entry 94. -/
def Obligations.RunControl : Prop :=
  ∀ (s : State) (h : Nat),
    (s.dbgUp = true → s.dbgOpen h = true → (s.hart h).halted = false → s.justTaken h = false →
      exec (.haltRequest h) s = .next (State.settle s ((s.dbgSelect h).modHart h fun x => { x with haltReq := true }))) ∧
    (s.coreRuns = true → (s.hart h).running = true → (s.hart h).haltReq = true →
      (s.readsOut h = false →
        exec (.haltEffect h) s = .next (State.settle s (s.modHart h fun x => { x with halted := true, haltReq := false }))) ∧
      (s.readsOut h = true → exec (.haltEffect h) s = .next (State.settle s s))) ∧
    (s.dbgUp = true → userHart h = true → (s.hart h).halted = true →
      exec (.resumeRequest h) s = .next (State.settle s
        (if s.stepping h then (s.dbgSelect h).regsVoid h
         else ((s.dbgSelect h).modHart h fun x => { x with halted := false, haltReq := false }).regsVoid h))) ∧
    (s.dbgUp = true → s.dbgOpen h = true →
      exec (.hartreset h) s = .next (State.settle s
        (let u := s.dbgSelect h
         u.hartStart h (if h < 8 then u.rvec h else u.entryOf h) 5))) ∧
    (s.dbgUp = true →
      let u := s.dmActive
      exec .ndmreset s = .next (State.settle s (u.each ((List.range 12).filter u.dbgOpen) State.hartReset))) ∧
    (s.dmActive.dbg.dmactive = true ∧ s.dmActive.dbg.dmiOp = 0 ∧ s.dmActive.cc = s.cc) ∧
    (s.dbgUp = false → s.coreRuns = true →
      exec (.haltRequest h) s = .next (State.settle s { s with dbg := { s.dbg with dmiOp := 2 } })) ∧
    (s.coreRuns = true → userHart h = true → (s.hart h).running = true → (s.hart h).halted = false →
      exec (.debugTrigger h false) s = .next (State.settle s (s.modHart h fun x => { x with breakpoint := true })) ∧
      (s.hasDmode h = true → s.invasive (s.hartSecure h) = true →
        exec (.debugTrigger h true) s = .next (State.settle s
          (s.modHart h fun x => { x with halted := true, haltReq := false })))) ∧
    (s.tapUp = true → exec .tapReset s = .next (State.settle s { s with dbg := { s.dbg with tapIr := 0x01 } }))

/-- R518, R520, R521, R526, R531: what the debugger reads and writes. An abstract command needs a halted hart; a register
written is read back, and is the hart's own again once it has run the program buffer; a system-bus access needs the invasive
enable of its world and an aligned address; a shift into the loader captures its status, and it takes a length and words; a
whole image that is verified is staged and committed and the core die reset.

A sampler that is due records its hart's pc with the time, hidden from the other world, and counts on from PERIOD after its
last base; a record enters the FIFO, or is lost where that is full; the oldest sample is read and removed, and reads zero to a
debug module without the non-invasive enable. -/
def Obligations.DebugAccess : Prop :=
  ∀ s : State,
    (∀ h mem at_ w size v post, s.dbgUp = true → (userHart h = false ∨ (s.hart h).halted = false) →
      exec (.abstractCommand h mem at_ w size v post) s = .next (State.settle s
        (let u := s.dbgSelect h; { u with dbg := { u.dbg with cmderr := 4 } }))) ∧
    (∀ h n size v post, s.dbgUp = true → userHart h = true → (s.hart h).halted = true → 0x1000 < n → n < 0x1040 →
      size = 2 ∨ size = 3 →
      let u := s.dbgSelect h
      (let x := v % 2 ^ (8 * 2 ^ size)
       let w : State :=
         { u with cc := { u.cc with gpr := nset u.cc.gpr (h * 65536 + n) x }, dbg := { u.dbg with cmderr := 0 } }
       exec (.abstractCommand h false n true size v post) s = .next (State.settle s (if post then w.regsVoid h else w))) ∧
      (∀ x, nfind s.cc.gpr (h * 65536 + n) = some x →
        let w : State := { u with dbg := { u.dbg with cmderr := 0, abstractData := x % 2 ^ (8 * 2 ^ size) } }
        exec (.abstractCommand h false n false size v post) s = .next (State.settle s (if post then w.regsVoid h else w)))) ∧
    (∀ w addr size v, s.dbgUp = true →
      let u := s.dmActive
      (s.invasive (s.flag DBG_SBA_WORLD) = false ∨ (size ≤ 3 ∧ addr % 2 ^ size ≠ 0) →
        exec (.systemBusAccess w addr size v) s = .next (State.settle s { u with dbg := { u.dbg with sberror := 3 } })) ∧
      (s.invasive (s.flag DBG_SBA_WORLD) = true → size ≤ 3 → addr % 2 ^ size = 0 → ∀ d t,
        u.busRead { id := 0x20, secure := s.flag DBG_SBA_WORLD } addr (2 ^ size) = (some d, t) →
        exec (.systemBusAccess false addr size v) s = .next (State.settle s
          { t with dbg := { t.dbg with sbdata := leNat d, sberror := 0 } }))) ∧
    (∀ w : Word, s.tapUp = true →
      let t := s.tapScan irLoader
      t.dbg.tapDr = (s.rd DBG_LOADER_STATUS).toNat ∧
      (s.loaderServes = false → exec (.loaderShift w) s = .next (State.settle s t)) ∧
      (s.loaderServes = true → s.get DBG_LOADER_STATUS_PHASE < 2 →
        (s.dbg.loaderLen = 0 → w.toNat ≠ 0 → w.toNat % 16 = 0 → w.toNat ≤ areaRoom 1 →
          let u := (t.set DBG_LOADER_STATUS_PHASE 1).set DBG_LOADER_STATUS_FAIL 0
          exec (.loaderShift w) s = .next (State.settle s
            { u with dbg := { u.dbg with loaderLen := w.toNat, loader := [] } })) ∧
        (s.dbg.loaderLen ≠ 0 →
          let l := s.dbg.loader ++ leBytes 4 w.toNat
          let u : State := { t with dbg := { t.dbg with loader := l } }
          exec (.loaderShift w) s = .next (State.settle s
            (if s.dbg.loaderLen ≤ l.length then u.set DBG_LOADER_STATUS_PHASE 2 else u))))) ∧
    (s.loaderServes = true → s.get DBG_LOADER_STATUS_PHASE = 2 →
      exec .loaderImageDone s = .next (State.settle s
        (match s.verifyBoot s.dbg.loader with
         | .error e =>
           let u := (s.set DBG_LOADER_STATUS_PHASE 0).set DBG_LOADER_STATUS_FAIL e
           { u with dbg := { u.dbg with loaderLen := 0, loader := [] } }
         | .ok _ =>
           let u := s.setBytes (areaBase 1 (1 - s.runHalf 1) + 64) s.dbg.loader
           let v := u.setCommit 1 (1 - s.runHalf 1) { seq := s.newSeq 1, state := icCommitted, len := s.dbg.loader.length }
           (v.set DBG_LOADER_STATUS_PHASE 3).coreReset 4))) ∧
    (∀ k pc mode, k < 8 → s.coreRuns = true → s.flag DBG_SMPs_CFG_EN k = true →
      let e := s.get DBG_SMPs_CFG_EVENT k
      let period := max 1 (s.get DBG_SMPs_PERIOD_PERIOD k)
      let base := s.dbg.sampleBase.getD k 0
      let gone := countFrom base (ngetD s.dbg.counters e 0)
      neverCounts e = false → (countsExactly e = true → period ≤ gone) →
      let u := if gone < period then s.counterAdvance e (period - gone) else s
      exec (.samplerSample k pc mode) s = .next (State.settle s
        ((u.sampleFrom k (countAfter base period)).sampleStore k
          (u.sampleRec k e pc mode)))) ∧
    (∀ k e pc mode, k < 8 → e < 384 →
      let hide := !(s.flag DBG_SMPs_CFG_WORLD k) && s.hartSecure (e / 32)
      let r := s.sampleRec k e pc mode
      r.time = s.td0 ∧ r.pc = (if hide then 0 else pc % 2 ^ 64) ∧ bitsOf r.info.toNat 3 0 = k ∧ bitsOf r.info.toNat 7 4 = e / 32 ∧
        bitsOf r.info.toNat 10 8 = mode % 8 ∧ bitOf r.info.toNat 11 = hide ∧ bitOf r.info.toNat 31 = true) ∧
    (∀ k (r : Sample),
      (s.dbg.samples.length < 64 → (∀ x ∈ s.dbg.samples, x.time ≠ r.time) → s.sampleStore k r =
        ({ s with dbg := { s.dbg with samples := s.dbg.samples ++ [r] } } : State).setBitOf DBG_EVT_SAMPLE k) ∧
      (64 ≤ s.dbg.samples.length → s.sampleStore k r = s.setFlag DBG_SMP_STATUS_OVF true)) ∧
    (∀ a : Init, s.reaches a DBG_SMP_INFO 0 0 false = true → ∀ x l, s.dbg.samples = x :: l →
      ∃ u : State, exec (.smpInfoRead a) s = .next (State.settle s
          (u.answer (some (leBytes 4 (if s.blind a DBG_SMP_INFO 0 then 0 else x.info.toNat))))) ∧
        u.dbg = { s.dbg with samples := l } ∧ u.mem = s.mem ∧ u.regs = s.regs)

end
end

