-- ==== Sys2Proof/Decode.lean ====
section
/-! DEFINITION. The command a table word spells: no row of the table of operations gives bits. -/

namespace Sys2Proof

/-- No word spells a command: every row's list of fields is empty, and the commands come from outside the device. -/
def decodeTableWord (_nbits _w : Nat) : Option Instr := none

end Sys2Proof
end

