-- ==== Sys2Proof/Laws/RegMap.lean ====
section
/-! SUPPORT. The register lines do not overlap: the address of a register of a line is decoded to that line and its indices. -/

namespace Sys2Proof.Machine

/-- Criterion: a line's own address arithmetic is invertible. -/
def Reg.invertible (r : Reg) : Bool :=
  decide (0 < r.n1 ∧ 0 < r.n2) && (r.s1 != 0 || r.n1 == 1) && (r.s2 != 0 || r.n2 == 1) &&
    (if r.s2 ≤ r.s1 then decide (r.s2 * (r.n2 - 1) < r.s1 ∨ (r.n1 = 1 ∧ r.s1 = 0) ∨ r.n1 = 1)
     else decide (r.s1 = 0 ∨ r.s1 * r.n1 ≤ r.s2))

/-- Criterion: two lines share no address, since their ranges or their residues differ. -/
def Reg.apart (r q : Reg) : Bool :=
  let top := fun (x : Reg) => x.addr (x.n1 - 1) (x.n2 - 1)
  let g := Nat.gcd r.s1 q.s1
  decide (top r < q.base ∨ top q < r.base) ||
    (List.range r.n2).all fun j => (List.range q.n2).all fun k => (r.base + r.s2 * j) % g != (q.base + q.s2 * k) % g

theorem Reg.at?_some {r : Reg} {a i j : Nat} (h : r.at? a = some (i, j)) :
    a = r.addr i j ∧ i < r.n1 ∧ j < r.n2 := by
  unfold Reg.at? at h
  split at h
  · cases h
  · rename_i hb
    extract_lets o x o2 y at h
    split at h
    · rename_i hc
      simp only [Bool.and_eq_true, decide_eq_true_eq, beq_iff_eq] at hc
      obtain ⟨rfl, rfl⟩ := Prod.mk.inj (Option.some.inj h)
      refine ⟨?_, hc.1.1, hc.1.2⟩
      have h3 : r.s1 * x + r.s2 * y = a - r.base := hc.2
      show a = r.base + r.s1 * x + r.s2 * y
      omega
    · cases h

theorem Reg.at?_addr {r : Reg} (hr : r.invertible = true) {i j : Nat} (hi : i < r.n1) (hj : j < r.n2) :
    r.at? (r.addr i j) = some (i, j) := by
  unfold Reg.invertible at hr
  simp only [Bool.and_eq_true, Bool.or_eq_true, bne_iff_ne, beq_iff_eq, decide_eq_true_eq] at hr
  obtain ⟨⟨⟨_, h1⟩, h2⟩, h3⟩ := hr
  have ho : r.addr i j - r.base = r.s1 * i + r.s2 * j := by unfold Reg.addr; omega
  have hb : ¬ r.addr i j < r.base := by unfold Reg.addr; omega
  -- the first index
  have ei : (if r.s1 = 0 then 0 else if r.s2 ≤ r.s1 then min (r.n1 - 1) ((r.s1 * i + r.s2 * j) / r.s1)
      else ((r.s1 * i + r.s2 * j) % r.s2) / r.s1) = i := by
    split
    · omega
    · rename_i hs
      have hp : 0 < r.s1 := Nat.pos_of_ne_zero hs
      split
      · rename_i hle
        simp only [hle, if_true, decide_eq_true_eq] at h3
        rcases h3 with h3 | h3 | h3
        · have hm : r.s2 * j ≤ r.s2 * (r.n2 - 1) := Nat.mul_le_mul_left _ (by omega)
          rw [Nat.mul_add_div hp, Nat.div_eq_of_lt (by omega)]
          omega
        · omega
        · have : i = 0 := by omega
          subst this
          simp [h3]
      · rename_i hle
        simp only [hle, if_false, decide_eq_true_eq] at h3
        have h4 : r.s1 * i + r.s1 ≤ r.s1 * r.n1 := by
          have : r.s1 * (i + 1) ≤ r.s1 * r.n1 := Nat.mul_le_mul_left _ (by omega)
          simpa [Nat.mul_add] using this
        rw [Nat.add_mul_mod_self_left, Nat.mod_eq_of_lt (by omega), Nat.mul_div_cancel_left _ hp]
  have ej : (if r.s2 = 0 then 0 else (r.s1 * i + r.s2 * j - r.s1 * i) / r.s2) = j := by
    split
    · omega
    · rename_i hs
      rw [Nat.add_sub_cancel_left, Nat.mul_div_cancel_left _ (Nat.pos_of_ne_zero hs)]
  unfold Reg.at?
  rw [if_neg hb]
  simp only [ho, ei, ej]
  simp [hi, hj]

theorem Reg.apart_ne {r q : Reg} (h : r.apart q = true) {i j k l : Nat} (hi : i < r.n1) (hj : j < r.n2) (hk : k < q.n1)
    (hl : l < q.n2) : r.addr i j ≠ q.addr k l := by
  intro e
  unfold Reg.apart at h
  simp only [Bool.or_eq_true, decide_eq_true_eq, List.all_eq_true, List.mem_range, bne_iff_ne] at h
  have mono : ∀ (x : Reg) (m n : Nat), m < x.n1 → n < x.n2 → x.addr m n ≤ x.addr (x.n1 - 1) (x.n2 - 1) := by
    intro x m n hm hn
    unfold Reg.addr
    have a1 : x.s1 * m ≤ x.s1 * (x.n1 - 1) := Nat.mul_le_mul_left _ (by omega)
    have a2 : x.s2 * n ≤ x.s2 * (x.n2 - 1) := Nat.mul_le_mul_left _ (by omega)
    omega
  have lo : ∀ (x : Reg) (m n : Nat), x.base ≤ x.addr m n := by intro x m n; unfold Reg.addr; omega
  have m1 := mono r i j hi hj
  have m2 := mono q k l hk hl
  have l1 := lo r i j
  have l2 := lo q k l
  rcases h with h | h
  · omega
  · apply h j hj l hl
    have e' : (r.base + r.s2 * j) + r.s1 * i = (q.base + q.s2 * l) + q.s1 * k := by
      unfold Reg.addr at e; omega
    obtain ⟨c, hc⟩ := Nat.gcd_dvd_left r.s1 q.s1
    obtain ⟨d, hd⟩ := Nat.gcd_dvd_right r.s1 q.s1
    generalize hg : Nat.gcd r.s1 q.s1 = g at *
    have e2 : (r.base + r.s2 * j) + g * (c * i) = (q.base + q.s2 * l) + g * (d * k) := by
      rw [← Nat.mul_assoc, ← Nat.mul_assoc, ← hc, ← hd]; exact e'
    have e3 := congrArg (· % g) e2
    simpa [Nat.add_mul_mod_self_left] using e3

/-- A list of lines that do not overlap finds each register's own line. -/
theorem regs_find {l : List Reg} (hp : l.Pairwise (fun r q => r.apart q = true)) (hv : ∀ r ∈ l, r.invertible = true)
    {r : Reg} (hr : r ∈ l) {i j : Nat} (hi : i < r.n1) (hj : j < r.n2) :
    (l.findSome? fun q => (q.at? (r.addr i j)).map fun e => (q, e.1, e.2)) = some (r, i, j) := by
  induction l with
  | nil => cases hr
  | cons q l ih =>
    rw [List.pairwise_cons] at hp
    rw [List.findSome?_cons]
    rcases List.mem_cons.mp hr with rfl | hm
    · rw [Reg.at?_addr (hv _ (List.mem_cons_self ..)) hi hj]; rfl
    · have hn : q.at? (r.addr i j) = none := by
        cases hq : q.at? (r.addr i j) with
        | none => rfl
        | some e =>
          obtain ⟨e1, e2⟩ := e
          have := Reg.at?_some hq
          exact absurd this.1.symm (Reg.apart_ne (hp.1 r hm) this.2.1 this.2.2 hi hj)
      rw [hn]
      exact ih hp.2 (fun x hx => hv x (List.mem_cons_of_mem _ hx)) hm

/-- Criterion: the line lies wholly in slot `k`. -/
def Reg.inSlot (k : Nat) (r : Reg) : Bool :=
  decide (0x40000000 + 0x1000000 * k ≤ r.base ∧
    r.addr (r.n1 - 1) (r.n2 - 1) < 0x40000000 + 0x1000000 * (k + 1) ∧
    (k = 0 → r.addr (r.n1 - 1) (r.n2 - 1) < 0x40800000)) && decide (k < 14)

theorem Reg.slotOf_addr {k : Nat} {r : Reg} (h : r.inSlot k = true) {i j : Nat} (hi : i < r.n1) (hj : j < r.n2) :
    slotOf (r.addr i j) = some k := by
  unfold Reg.inSlot at h
  simp only [Bool.and_eq_true, decide_eq_true_eq] at h
  have a1 : r.s1 * i ≤ r.s1 * (r.n1 - 1) := Nat.mul_le_mul_left _ (by omega)
  have a2 : r.s2 * j ≤ r.s2 * (r.n2 - 1) := Nat.mul_le_mul_left _ (by omega)
  have hlo : 0x40000000 + 0x1000000 * k ≤ r.addr i j := by unfold Reg.addr; omega
  have hhi : r.addr i j ≤ r.addr (r.n1 - 1) (r.n2 - 1) := by unfold Reg.addr; omega
  generalize r.addr i j = a at *
  generalize r.addr (r.n1 - 1) (r.n2 - 1) = t at *
  have hreg : regionOf a = .slot k := by
    unfold regionOf
    rw [if_neg (by omega), if_neg (by omega), if_neg (by omega), if_neg (by omega), if_neg (by omega), if_pos (by omega)]
    congr 1
    omega
  simp [slotOf, hreg]

theorem regs_invertible : ∀ k < 14, (slotRegs k).all Reg.invertible = true := by
  decide +kernel

/-- Criterion over a list: every line is apart from the later ones. -/
def allApart : List Reg → Bool
  | [] => true
  | r :: l => l.all r.apart && allApart l

theorem allApart_pairwise : ∀ {l : List Reg}, allApart l = true → l.Pairwise (fun r q => r.apart q = true)
  | [], _ => List.Pairwise.nil
  | r :: l, h => by
    unfold allApart at h
    simp only [Bool.and_eq_true, List.all_eq_true] at h
    exact List.Pairwise.cons h.1 (allApart_pairwise h.2)

theorem regs_apart : ∀ k < 14, allApart (slotRegs k) = true := by decide +kernel

/-- The address of a register of a line decodes to that line with those indices (R8, R12). -/
theorem regAt_addr {k : Nat} (hk : k < 14) {r : Reg} (hr : r ∈ slotRegs k) (hs : r.inSlot k = true) {i j : Nat}
    (hi : i < r.n1) (hj : j < r.n2) :
    regAt (r.addr i j) = some (r, i, j) := by
  have h := regs_invertible k hk
  simp only [List.all_eq_true] at h
  unfold regAt
  rw [Reg.slotOf_addr hs hi hj]
  exact regs_find (allApart_pairwise (regs_apart k hk)) h hr hi hj

end Sys2Proof.Machine
end

