-- ==== Sys2Proof/Laws/Bus.lean ====
section
/-! SUPPORT. An access that reaches its register has the effect of that register, and its initiator gets the answer. -/

namespace Sys2Proof.Machine

/-- Criterion: the line's registers are aligned words. -/
def Reg.aligned (r : Reg) : Bool := r.base % 4 == 0 && r.s1 % 4 == 0 && r.s2 % 4 == 0

theorem regs_aligned : ∀ k < 14, (slotRegs k).all Reg.aligned = true := by decide +kernel

theorem Reg.addr_mod {r : Reg} (h : r.aligned = true) (i j : Nat) : r.addr i j % 4 = 0 := by
  unfold Reg.aligned at h
  simp only [Bool.and_eq_true, beq_iff_eq] at h
  obtain ⟨⟨h1, h2⟩, h3⟩ := h
  have a1 : r.s1 * i % 4 = 0 := by rw [Nat.mul_mod, h2]; simp
  have a2 : r.s2 * j % 4 = 0 := by rw [Nat.mul_mod, h3]; simp
  unfold Reg.addr
  omega

theorem regionOf_slot {k a : Nat} (h : 0x40000000 + 0x1000000 * k ≤ a) (h' : a < 0x40000000 + 0x1000000 * (k + 1))
    (h0 : k = 0 → a < 0x40800000) (hk : k < 14) : regionOf a = .slot k := by
  unfold regionOf
  rw [if_neg (by omega), if_neg (by omega), if_neg (by omega), if_neg (by omega), if_neg (by omega), if_pos (by omega)]
  congr 1
  omega

theorem regionOf_addr {k : Nat} (hk : k < 14) {r : Reg} (hr : r ∈ slotRegs k) (hs : r.inSlot k = true) {i j : Nat}
    (hi : i < r.n1) (hj : j < r.n2) :
    regionOf (r.addr i j) = .slot k ∧ regionOf (r.addr i j + 3) = .slot k := by
  have ha := Reg.addr_mod (List.all_eq_true.mp (regs_aligned k hk) r hr) i j
  unfold Reg.inSlot at hs
  simp only [Bool.and_eq_true, decide_eq_true_eq] at hs
  have a1 : r.s1 * i ≤ r.s1 * (r.n1 - 1) := Nat.mul_le_mul_left _ (by omega)
  have a2 : r.s2 * j ≤ r.s2 * (r.n2 - 1) := Nat.mul_le_mul_left _ (by omega)
  have hlo : 0x40000000 + 0x1000000 * k ≤ r.addr i j := by unfold Reg.addr; omega
  have hhi : r.addr i j ≤ r.addr (r.n1 - 1) (r.n2 - 1) := by unfold Reg.addr; omega
  generalize r.addr i j = a at *
  generalize r.addr (r.n1 - 1) (r.n2 - 1) = t at *
  exact ⟨regionOf_slot (by omega) (by omega) (by omega) hk, regionOf_slot (by omega) (by omega) (by omega) hk⟩

theorem leAt_leBytes4 (v : Word) : w32 (leAt (leBytes 4 v.toNat) 0 4) = v := by
  have h : leAt (leBytes 4 v.toNat) 0 4 = v.toNat := by
    have := v.isLt
    simp only [leAt, List.drop_zero, leBytes, List.take, leNat, BitVec.toNat_ofNat]
    omega
  rw [h]
  simp [w32]

theorem leBytes_length (n v : Nat) : (leBytes n v).length = n := by
  induction n generalizing v with
  | zero => rfl
  | succ n ih => simp [leBytes, ih]

/-- What `reaches` says, part by part. -/
theorem reaches_parts {s : State} {i : Init} {r : Reg} {x j : Nat} {write : Bool} (h : s.reaches i r x j write = true) :
    (s.coreRuns = true ∧ (!(s.stalled i)) = true ∧ s.gkAdmits i.id.toNat i.secure (r.addr x j) 4 write = true) ∧
    (s.powered (s.islandOf (r.addr x j)) = true ∧ s.penRuns (penOf (r.addr x j)) = true) ∧
    (r.world == .SN || i.secure) = true ∧ (!write || !(s.windowShut i (r.addr x j) r)) = true ∧
    s.regLive r (r.addr x j) x j = true := by
  unfold State.reaches at h
  simpa only [Bool.and_eq_true, and_assoc] using h

/-- Such an access is admitted. -/
theorem reaches_admit {s : State} {i : Init} {k : Nat} (hk : k < 14) {r : Reg} (hr : r ∈ slotRegs k)
    (hs : r.inSlot k = true) {x j : Nat} (hx : x < r.n1) (hj : j < r.n2) {write : Bool}
    (h : s.reaches i r x j write = true) : s.accessOk i (r.addr x j) 4 write = (true, s) := by
  obtain ⟨⟨-, -, h2⟩, ⟨h3, h4⟩, -⟩ := reaches_parts h
  obtain ⟨hra, hrb⟩ := regionOf_addr hk hr hs hx hj
  unfold State.accessOk
  simp only [hra, hrb, show r.addr x j + 4 - 1 = r.addr x j + 3 from by omega, h2, h3, h4]
  simp

theorem reaches_runs {s : State} {i : Init} {r : Reg} {x j : Nat} {write : Bool} (h : s.reaches i r x j write = true) :
    s.coreRuns = true := by
  exact (reaches_parts h).1.1

theorem slotOf_range (k a : Nat) (hk : k < 14) (h : 0x40000000 + 0x1000000 * k ≤ a ∧ a < 0x40000000 + 0x1000000 * (k + 1))
    (h0 : k = 0 → a < 0x40800000) : slotOf a = some k := by
  simp [slotOf, regionOf_slot h.1 h.2 h0 hk]

/-- A write that reaches a register of one word outside the gatekeepers' regions and the message areas (R15, R248). -/
theorem rowWrite_reaches {s : State} {i : Init} {k : Nat} (hk : k < 14) {r : Reg} (hr : r ∈ slotRegs k)
    (hs : r.inSlot k = true) (h1 : (r.mwLen ≤ 1 ∧ r.mwAbs = 0) ) (hg : r.base / 0x1000 ≠ 0x4A001) {x j : Nat}
    (hb : isBuffer (r.addr x j) = false) (hx : x < r.n1) (hj : j < r.n2) (v : Word)
    (h : s.reaches i r x j true = true) :
    s.rowWrite i r v x j =
      (let t := s.writeReg i r (r.addr x j) x j v
       if t.coreRuns then t.answer (some []) else t) := by
  have hadm := reaches_admit hk hr hs hx hj h
  obtain ⟨hra, hrb⟩ := regionOf_addr hk hr hs hx hj
  have hal := Reg.addr_mod (List.all_eq_true.mp (regs_aligned k hk) r hr) x j
  obtain ⟨⟨g1, g0, -⟩, -, g5, g6, g7⟩ := reaches_parts h
  have hw : s.writeWord i (r.addr x j) v = s.writeReg i r (r.addr x j) x j v := by
    unfold State.writeWord
    rw [regAt_addr hk hr hs hx hj]
    simp only
    rw [if_neg, if_neg, if_neg]
    · have hl : (r.group (r.addr x j) j).2 ≤ 1 := by
        unfold Reg.group
        rw [if_neg (by simp [h1.2])]
        exact h1.1
      simp only [hg, false_and, if_false, hl, if_true]
    · simp [g7]
    · simpa using g6
    · rintro ⟨e1, e2⟩
      simp [e1, e2] at g5
  unfold State.rowWrite
  simp only [hx, hj, decide_true, Bool.and_self, if_true]
  unfold State.answerWrite State.busWrite State.busWritePart pageCross
  simp only [(by simpa using g0 : s.stalled i = false), leBytes_length, g1, Bool.not_true, Bool.false_eq_true, if_false, hadm, hra, hb, wordForm, hal]
  simp [leAt_leBytes4, hw]

/-- A write that reaches the highest register of a value wider than 32 bits: the words held for its initiator and the word
written make the value (R13). -/
theorem rowWrite_value {s : State} {i : Init} {k : Nat} (hk : k < 14) {r : Reg} (hr : r ∈ slotRegs k)
    (hs : r.inSlot k = true) (hg : r.base / 0x1000 ≠ 0x4A001) {x j low len : Nat}
    (hgr : r.group (r.addr x j) j = (low, len)) (hl : 1 < len) (hp : (r.addr x j - low) / 4 + 1 = len)
    (hb : isBuffer (r.addr x j) = false) (hx : x < r.n1) (hj : j < r.n2) (v : Word)
    (h : s.reaches i r x j true = true) :
    s.rowWrite i r v x j =
      (let t := (s.dropHold i low).writeValue r low x j
          (s.heldWords i.id.toNat low (List.range (len - 1)) ++ [v])
       if t.coreRuns then t.answer (some []) else t) := by
  have hadm := reaches_admit hk hr hs hx hj h
  obtain ⟨hra, hrb⟩ := regionOf_addr hk hr hs hx hj
  have hal := Reg.addr_mod (List.all_eq_true.mp (regs_aligned k hk) r hr) x j
  obtain ⟨⟨g1, g0, -⟩, -, g5, g6, g7⟩ := reaches_parts h
  have hw : s.writeWord i (r.addr x j) v =
      (s.dropHold i low).writeValue r low x j
          (s.heldWords i.id.toNat low (List.range (len - 1)) ++ [v]) := by
    unfold State.writeWord
    rw [regAt_addr hk hr hs hx hj]
    simp only
    rw [if_neg, if_neg, if_neg]
    · simp only [hg, false_and, if_false, hgr]
      rw [if_neg (by omega), if_neg (by omega), show (r.addr x j - low) / 4 = len - 1 from by omega]
      rfl
    · simp [g7]
    · simpa using g6
    · rintro ⟨e1, e2⟩
      simp [e1, e2] at g5
  unfold State.rowWrite
  simp only [hx, hj, decide_true, Bool.and_self, if_true]
  unfold State.answerWrite State.busWrite State.busWritePart pageCross
  simp only [(by simpa using g0 : s.stalled i = false), leBytes_length, g1, Bool.not_true, Bool.false_eq_true, if_false, hadm, hra, hb, wordForm, hal]
  simp [leAt_leBytes4, hw]

/-- A read that reaches a register of one word without a read-clear bit (R13–R15): the initiator is answered its contents. -/
theorem rowRead_reaches {s : State} {i : Init} {k : Nat} (hk : k < 14) {r : Reg} (hr : r ∈ slotRegs k)
    (hs : r.inSlot k = true) {x j : Nat}
    (hb : isBuffer (r.addr x j) = false) (hx : x < r.n1) (hj : j < r.n2) (h : s.reaches i r x j false = true) :
    s.rowRead i r x j =
      (let t := s.readReg i (r.addr x j)
       t.2.answer (some (leBytes 4 t.1.toNat))) := by
  have hadm := reaches_admit hk hr hs hx hj h
  obtain ⟨hra, hrb⟩ := regionOf_addr hk hr hs hx hj
  have hal := Reg.addr_mod (List.all_eq_true.mp (regs_aligned k hk) r hr) x j
  obtain ⟨⟨g1, g0, -⟩, -, g5, g6, g7⟩ := reaches_parts h
  unfold State.rowRead
  simp only [hx, hj, decide_true, Bool.and_self, if_true]
  unfold State.answerRead State.busRead State.busReadPart pageCross
  simp only [(by simpa using g0 : s.stalled i = false), g1, Bool.not_true, Bool.false_eq_true, if_false, hadm, hra, hb, wordForm, hal]
  simp

/-- A read of a log's lowest register: the oldest entry leaves the log, its words stay latched for the initiator, and the
initiator is answered the first (R13). -/
theorem rowRead_log {s t : State} {i : Init} {k : Nat} (hk : k < 14) {r : Reg} (hr : r ∈ slotRegs k)
    (hs : r.inSlot k = true) {x j len : Nat} {ws : List Word} (hv : valueOf r (r.addr x j) j = (r.addr x j, len)) (hl : 1 < len)
    (hh : s.logHead (r.addr x j) = some (ws, t)) (hrc : r.rc = 0) (hbl : s.blind i r x = false)
    (hz : (decide (r.addr x j = 0x45000040) && ws.all (· == 0)) = false)
    (hb : isBuffer (r.addr x j) = false) (hx : x < r.n1) (hj : j < r.n2) (h : s.reaches i r x j false = true) :
    s.rowRead i r x j =
      (t.latchFor i (r.addr x j) ws).answer
        (some (leBytes 4 (ws.headD 0).toNat)) := by
  rw [rowRead_reaches hk hr hs hb hx hj h]
  have hrd : s.readReg i (r.addr x j) = (ws.headD 0, t.latchFor i (r.addr x j) ws) := by
    obtain ⟨-, -, g5, -, g7⟩ := reaches_parts h
    unfold State.readReg
    rw [regAt_addr hk hr hs hx hj]
    simp only
    rw [if_neg, if_neg]
    · simp only [hv, if_neg (show ¬ len ≤ 1 by omega), if_true]
      unfold State.readValue
      simp only [hh, hbl, Bool.false_eq_true, if_false]
      unfold State.clearRead
      simp only [hrc, if_true, hz, Bool.false_eq_true, if_false]
      rfl
    · simp [g7]
    · rintro ⟨e1, e2⟩
      simp [e1, e2] at g5
  rw [hrd]

end Sys2Proof.Machine
end

