-- ==== Sys2Proof/Laws/NMap.lean ====
section
/-! SUPPORT. Laws of the sparse maps: what a key reads after an update, and that updates keep the canonical form. -/

namespace Sys2Proof.Machine

theorem nsorted_mono {α : Type} {m : NMap α} {lo lo' : Nat} (h : nsorted lo m = true) (hl : lo' ≤ lo) :
    nsorted lo' m = true := by
  cases m with
  | nil => rfl
  | cons e m =>
    obtain ⟨j, w⟩ := e
    simp only [nsorted, Bool.and_eq_true, decide_eq_true_eq] at h ⊢
    exact ⟨by omega, h.2⟩

theorem nfind_nset {α : Type} (m : NMap α) (k l : Nat) (v : α) :
    nfind (nset m k v) l = if l = k then some v else nfind m l := by
  induction m with
  | nil =>
    by_cases h : k = l
    · simp [nset, nfind, h]
    · simp [nset, nfind, h, Ne.symm h]
  | cons e m ih =>
    obtain ⟨j, w⟩ := e
    unfold nset
    by_cases h1 : k < j
    · rw [if_pos h1]
      by_cases h2 : k = l
      · simp [nfind, h2]
      · simp [nfind, h2, Ne.symm h2]
    · rw [if_neg h1]
      by_cases h2 : k = j
      · subst h2
        by_cases h3 : k = l
        · simp [nfind, h3]
        · simp [nfind, h3, Ne.symm h3]
      · rw [if_neg h2]
        unfold nfind
        by_cases h3 : j = l
        · rw [if_pos h3, if_pos h3, if_neg (by omega)]
        · rw [if_neg h3, if_neg h3, ih]

theorem nfind_nerase {α : Type} (m : NMap α) (k l : Nat) :
    nfind (nerase m k) l = if l = k then none else nfind m l := by
  induction m with
  | nil => simp [nerase, nfind]
  | cons e m ih =>
    obtain ⟨j, w⟩ := e
    unfold nerase
    by_cases h1 : j = k
    · subst h1
      rw [if_pos rfl, ih]
      by_cases h2 : l = j
      · simp [h2]
      · simp [nfind, h2, Ne.symm h2]
    · rw [if_neg h1]
      unfold nfind
      by_cases h2 : j = l
      · rw [if_pos h2, if_pos h2, if_neg (by omega)]
      · rw [if_neg h2, if_neg h2, ih]

theorem nsorted_nset {α : Type} {m : NMap α} {lo k : Nat} {v : α} (h : nsorted lo m = true) (hk : lo ≤ k) :
    nsorted lo (nset m k v) = true := by
  induction m generalizing lo with
  | nil => simp [nset, nsorted, hk]
  | cons e m ih =>
    obtain ⟨j, w⟩ := e
    simp only [nsorted, Bool.and_eq_true, decide_eq_true_eq] at h
    unfold nset
    split
    · simp only [nsorted, Bool.and_eq_true, decide_eq_true_eq]; exact ⟨hk, by omega, h.2⟩
    · split
      · simp only [nsorted, Bool.and_eq_true, decide_eq_true_eq]
        rename_i h1 h2; subst h2; exact ⟨hk, h.2⟩
      · simp only [nsorted, Bool.and_eq_true, decide_eq_true_eq]
        exact ⟨h.1, ih h.2 (by omega)⟩

theorem nsorted_nerase {α : Type} {m : NMap α} {lo k : Nat} (h : nsorted lo m = true) : nsorted lo (nerase m k) = true := by
  induction m generalizing lo with
  | nil => rfl
  | cons e m ih =>
    obtain ⟨j, w⟩ := e
    simp only [nsorted, Bool.and_eq_true, decide_eq_true_eq] at h
    unfold nerase
    split
    · exact nsorted_mono (ih h.2) (by omega)
    · simp only [nsorted, Bool.and_eq_true, decide_eq_true_eq]; exact ⟨h.1, ih h.2⟩

theorem nclean_nset {α : Type} [DecidableEq α] {d : α} {m : NMap α} {k : Nat} {v : α} (h : nclean d m = true) (hv : v ≠ d) :
    nclean d (nset m k v) = true := by
  unfold nclean at *
  induction m with
  | nil => simp [nset, hv]
  | cons e m ih =>
    obtain ⟨j, w⟩ := e
    simp only [List.all_cons, Bool.and_eq_true] at h
    unfold nset
    split
    · simp only [List.all_cons, Bool.and_eq_true]; exact ⟨by simp [hv], h.1, h.2⟩
    · split
      · simp only [List.all_cons, Bool.and_eq_true]; exact ⟨by simp [hv], h.2⟩
      · simp only [List.all_cons, Bool.and_eq_true]; exact ⟨h.1, ih h.2⟩

theorem nclean_nerase {α : Type} [DecidableEq α] {d : α} {m : NMap α} {k : Nat} (h : nclean d m = true) :
    nclean d (nerase m k) = true := by
  unfold nclean at *
  induction m with
  | nil => rfl
  | cons e m ih =>
    obtain ⟨j, w⟩ := e
    simp only [List.all_cons, Bool.and_eq_true] at h
    unfold nerase
    split
    · exact ih h.2
    · simp only [List.all_cons, Bool.and_eq_true]; exact ⟨h.1, ih h.2⟩

/-- A map in canonical form keeps it under `nput`. -/
theorem canonical_nput {α : Type} [DecidableEq α] {d : α} {m : NMap α} {k : Nat} {v : α} (h : nsorted 0 m = true)
    (hc : nclean d m = true) : nsorted 0 (nput d m k v) = true ∧ nclean d (nput d m k v) = true := by
  unfold nput
  split
  · exact ⟨nsorted_nerase h, nclean_nerase hc⟩
  · rename_i hv; exact ⟨nsorted_nset h (Nat.zero_le _), nclean_nset hc hv⟩

/-- What a key reads after `nput`. -/
theorem ngetD_nput {α : Type} [DecidableEq α] (d : α) (m : NMap α) (k l : Nat) (v : α) :
    ngetD (nput d m k v) l d = if l = k then v else ngetD m l d := by
  unfold nput ngetD
  split
  · rename_i hv
    rw [nfind_nerase]
    split <;> simp [hv]
  · rw [nfind_nset]
    split <;> simp

theorem ngetD_nset {α : Type} (m : NMap α) (k l : Nat) (v d : α) :
    ngetD (nset m k v) l d = if l = k then v else ngetD m l d := by
  unfold ngetD; rw [nfind_nset]; split <;> simp

/-- The key just written reads the value written, whatever the map. -/
theorem ngetD_nset_self {α : Type} (m : NMap α) (k : Nat) (v d : α) : ngetD (nset m k v) k d = v := by
  rw [ngetD_nset, if_pos rfl]

end Sys2Proof.Machine
end

