-- ==== Sys2Proof/Laws/State.lean ====
section
/-! SUPPORT. What each shared update leaves unchanged: one lemma per field and update; and what register, channel and time
updates read back as. -/

namespace Sys2Proof.Machine

theorem coreRuns_congr {s t : State} (h : s.pcs = t.pcs) : s.coreRuns = t.coreRuns := by unfold State.coreRuns; rw [h]
theorem asleep_congr {s t : State} (h : s.pcs = t.pcs) : s.asleep = t.asleep := by unfold State.asleep; rw [h]

@[simp] theorem State.wr_now (s : State) (r : Reg) (v : Word) (i j : Nat) : (s.wr r v i j).now = s.now := rfl
@[simp] theorem State.wr_free (s : State) (r : Reg) (v : Word) (i j : Nat) : (s.wr r v i j).free = s.free := rfl
@[simp] theorem State.wr_pending (s : State) (r : Reg) (v : Word) (i j : Nat) : (s.wr r v i j).pending = s.pending := rfl
@[simp] theorem State.wr_mem (s : State) (r : Reg) (v : Word) (i j : Nat) : (s.wr r v i j).mem = s.mem := rfl
@[simp] theorem State.wr_imsic (s : State) (r : Reg) (v : Word) (i j : Nat) : (s.wr r v i j).imsic = s.imsic := rfl
@[simp] theorem State.wr_imsicEn (s : State) (r : Reg) (v : Word) (i j : Nat) : (s.wr r v i j).imsicEn = s.imsicEn := rfl
@[simp] theorem State.wr_bus (s : State) (r : Reg) (v : Word) (i j : Nat) : (s.wr r v i j).bus = s.bus := rfl
@[simp] theorem State.wr_tbu (s : State) (r : Reg) (v : Word) (i j : Nat) : (s.wr r v i j).tbu = s.tbu := rfl
@[simp] theorem State.wr_sf (s : State) (r : Reg) (v : Word) (i j : Nat) : (s.wr r v i j).sf = s.sf := rfl
@[simp] theorem State.wr_cfg (s : State) (r : Reg) (v : Word) (i j : Nat) : (s.wr r v i j).cfg = s.cfg := rfl
@[simp] theorem State.wr_pda (s : State) (r : Reg) (v : Word) (i j : Nat) : (s.wr r v i j).pda = s.pda := rfl
@[simp] theorem State.wr_pe (s : State) (r : Reg) (v : Word) (i j : Nat) : (s.wr r v i j).pe = s.pe := rfl
@[simp] theorem State.wr_esw (s : State) (r : Reg) (v : Word) (i j : Nat) : (s.wr r v i j).esw = s.esw := rfl
@[simp] theorem State.wr_fbc (s : State) (r : Reg) (v : Word) (i j : Nat) : (s.wr r v i j).fbc = s.fbc := rfl
@[simp] theorem State.wr_sgw (s : State) (r : Reg) (v : Word) (i j : Nat) : (s.wr r v i j).sgw = s.sgw := rfl
@[simp] theorem State.wr_plb (s : State) (r : Reg) (v : Word) (i j : Nat) : (s.wr r v i j).plb = s.plb := rfl
@[simp] theorem State.wr_cc (s : State) (r : Reg) (v : Word) (i j : Nat) : (s.wr r v i j).cc = s.cc := rfl
@[simp] theorem State.wr_ms (s : State) (r : Reg) (v : Word) (i j : Nat) : (s.wr r v i j).ms = s.ms := rfl
@[simp] theorem State.wr_sec (s : State) (r : Reg) (v : Word) (i j : Nat) : (s.wr r v i j).sec = s.sec := rfl
@[simp] theorem State.wr_fcu (s : State) (r : Reg) (v : Word) (i j : Nat) : (s.wr r v i j).fcu = s.fcu := rfl
@[simp] theorem State.wr_pcs (s : State) (r : Reg) (v : Word) (i j : Nat) : (s.wr r v i j).pcs = s.pcs := rfl
@[simp] theorem State.wr_dbg (s : State) (r : Reg) (v : Word) (i j : Nat) : (s.wr r v i j).dbg = s.dbg := rfl
@[simp] theorem State.wr_coreRuns (s : State) (r : Reg) (v : Word) (i j : Nat) : (s.wr r v i j).coreRuns = s.coreRuns :=
  coreRuns_congr (State.wr_pcs ..)
@[simp] theorem State.wr_asleep (s : State) (r : Reg) (v : Word) (i j : Nat) : (s.wr r v i j).asleep = s.asleep :=
  asleep_congr (State.wr_pcs ..)
@[simp] theorem State.wr_chan (s : State) (r : Reg) (v : Word) (i j : Nat) (m : Nat) : (s.wr r v i j).chan m = s.chan m := by
  unfold State.chan; rw [State.wr_pda]
@[simp] theorem State.wr_grp (s : State) (r : Reg) (v : Word) (i j : Nat) (m : Nat) : (s.wr r v i j).grp m = s.grp m := by
  unfold State.grp; rw [State.wr_pda]

@[simp] theorem State.set_now (s : State) (f : Fld) (v i j : Nat) : (s.set f v i j).now = s.now := rfl
@[simp] theorem State.set_free (s : State) (f : Fld) (v i j : Nat) : (s.set f v i j).free = s.free := rfl
@[simp] theorem State.set_pending (s : State) (f : Fld) (v i j : Nat) : (s.set f v i j).pending = s.pending := rfl
@[simp] theorem State.set_mem (s : State) (f : Fld) (v i j : Nat) : (s.set f v i j).mem = s.mem := rfl
@[simp] theorem State.set_imsic (s : State) (f : Fld) (v i j : Nat) : (s.set f v i j).imsic = s.imsic := rfl
@[simp] theorem State.set_imsicEn (s : State) (f : Fld) (v i j : Nat) : (s.set f v i j).imsicEn = s.imsicEn := rfl
@[simp] theorem State.set_bus (s : State) (f : Fld) (v i j : Nat) : (s.set f v i j).bus = s.bus := rfl
@[simp] theorem State.set_tbu (s : State) (f : Fld) (v i j : Nat) : (s.set f v i j).tbu = s.tbu := rfl
@[simp] theorem State.set_sf (s : State) (f : Fld) (v i j : Nat) : (s.set f v i j).sf = s.sf := rfl
@[simp] theorem State.set_cfg (s : State) (f : Fld) (v i j : Nat) : (s.set f v i j).cfg = s.cfg := rfl
@[simp] theorem State.set_pda (s : State) (f : Fld) (v i j : Nat) : (s.set f v i j).pda = s.pda := rfl
@[simp] theorem State.set_pe (s : State) (f : Fld) (v i j : Nat) : (s.set f v i j).pe = s.pe := rfl
@[simp] theorem State.set_esw (s : State) (f : Fld) (v i j : Nat) : (s.set f v i j).esw = s.esw := rfl
@[simp] theorem State.set_fbc (s : State) (f : Fld) (v i j : Nat) : (s.set f v i j).fbc = s.fbc := rfl
@[simp] theorem State.set_sgw (s : State) (f : Fld) (v i j : Nat) : (s.set f v i j).sgw = s.sgw := rfl
@[simp] theorem State.set_plb (s : State) (f : Fld) (v i j : Nat) : (s.set f v i j).plb = s.plb := rfl
@[simp] theorem State.set_cc (s : State) (f : Fld) (v i j : Nat) : (s.set f v i j).cc = s.cc := rfl
@[simp] theorem State.set_ms (s : State) (f : Fld) (v i j : Nat) : (s.set f v i j).ms = s.ms := rfl
@[simp] theorem State.set_sec (s : State) (f : Fld) (v i j : Nat) : (s.set f v i j).sec = s.sec := rfl
@[simp] theorem State.set_fcu (s : State) (f : Fld) (v i j : Nat) : (s.set f v i j).fcu = s.fcu := rfl
@[simp] theorem State.set_pcs (s : State) (f : Fld) (v i j : Nat) : (s.set f v i j).pcs = s.pcs := rfl
@[simp] theorem State.set_dbg (s : State) (f : Fld) (v i j : Nat) : (s.set f v i j).dbg = s.dbg := rfl
@[simp] theorem State.set_coreRuns (s : State) (f : Fld) (v i j : Nat) : (s.set f v i j).coreRuns = s.coreRuns :=
  coreRuns_congr (State.set_pcs ..)
@[simp] theorem State.set_asleep (s : State) (f : Fld) (v i j : Nat) : (s.set f v i j).asleep = s.asleep :=
  asleep_congr (State.set_pcs ..)
@[simp] theorem State.set_chan (s : State) (f : Fld) (v i j : Nat) (m : Nat) : (s.set f v i j).chan m = s.chan m := by
  unfold State.chan; rw [State.set_pda]
@[simp] theorem State.set_grp (s : State) (f : Fld) (v i j : Nat) (m : Nat) : (s.set f v i j).grp m = s.grp m := by
  unfold State.grp; rw [State.set_pda]

@[simp] theorem State.setFlag_now (s : State) (f : Fld) (b : Bool) (i j : Nat) : (s.setFlag f b i j).now = s.now := rfl
@[simp] theorem State.setFlag_free (s : State) (f : Fld) (b : Bool) (i j : Nat) : (s.setFlag f b i j).free = s.free := rfl
@[simp] theorem State.setFlag_pending (s : State) (f : Fld) (b : Bool) (i j : Nat) : (s.setFlag f b i j).pending = s.pending := rfl
@[simp] theorem State.setFlag_mem (s : State) (f : Fld) (b : Bool) (i j : Nat) : (s.setFlag f b i j).mem = s.mem := rfl
@[simp] theorem State.setFlag_imsic (s : State) (f : Fld) (b : Bool) (i j : Nat) : (s.setFlag f b i j).imsic = s.imsic := rfl
@[simp] theorem State.setFlag_imsicEn (s : State) (f : Fld) (b : Bool) (i j : Nat) : (s.setFlag f b i j).imsicEn = s.imsicEn := rfl
@[simp] theorem State.setFlag_bus (s : State) (f : Fld) (b : Bool) (i j : Nat) : (s.setFlag f b i j).bus = s.bus := rfl
@[simp] theorem State.setFlag_tbu (s : State) (f : Fld) (b : Bool) (i j : Nat) : (s.setFlag f b i j).tbu = s.tbu := rfl
@[simp] theorem State.setFlag_sf (s : State) (f : Fld) (b : Bool) (i j : Nat) : (s.setFlag f b i j).sf = s.sf := rfl
@[simp] theorem State.setFlag_cfg (s : State) (f : Fld) (b : Bool) (i j : Nat) : (s.setFlag f b i j).cfg = s.cfg := rfl
@[simp] theorem State.setFlag_pda (s : State) (f : Fld) (b : Bool) (i j : Nat) : (s.setFlag f b i j).pda = s.pda := rfl
@[simp] theorem State.setFlag_pe (s : State) (f : Fld) (b : Bool) (i j : Nat) : (s.setFlag f b i j).pe = s.pe := rfl
@[simp] theorem State.setFlag_esw (s : State) (f : Fld) (b : Bool) (i j : Nat) : (s.setFlag f b i j).esw = s.esw := rfl
@[simp] theorem State.setFlag_fbc (s : State) (f : Fld) (b : Bool) (i j : Nat) : (s.setFlag f b i j).fbc = s.fbc := rfl
@[simp] theorem State.setFlag_sgw (s : State) (f : Fld) (b : Bool) (i j : Nat) : (s.setFlag f b i j).sgw = s.sgw := rfl
@[simp] theorem State.setFlag_plb (s : State) (f : Fld) (b : Bool) (i j : Nat) : (s.setFlag f b i j).plb = s.plb := rfl
@[simp] theorem State.setFlag_cc (s : State) (f : Fld) (b : Bool) (i j : Nat) : (s.setFlag f b i j).cc = s.cc := rfl
@[simp] theorem State.setFlag_ms (s : State) (f : Fld) (b : Bool) (i j : Nat) : (s.setFlag f b i j).ms = s.ms := rfl
@[simp] theorem State.setFlag_sec (s : State) (f : Fld) (b : Bool) (i j : Nat) : (s.setFlag f b i j).sec = s.sec := rfl
@[simp] theorem State.setFlag_fcu (s : State) (f : Fld) (b : Bool) (i j : Nat) : (s.setFlag f b i j).fcu = s.fcu := rfl
@[simp] theorem State.setFlag_pcs (s : State) (f : Fld) (b : Bool) (i j : Nat) : (s.setFlag f b i j).pcs = s.pcs := rfl
@[simp] theorem State.setFlag_dbg (s : State) (f : Fld) (b : Bool) (i j : Nat) : (s.setFlag f b i j).dbg = s.dbg := rfl
@[simp] theorem State.setFlag_coreRuns (s : State) (f : Fld) (b : Bool) (i j : Nat) : (s.setFlag f b i j).coreRuns = s.coreRuns :=
  coreRuns_congr (State.setFlag_pcs ..)
@[simp] theorem State.setFlag_asleep (s : State) (f : Fld) (b : Bool) (i j : Nat) : (s.setFlag f b i j).asleep = s.asleep :=
  asleep_congr (State.setFlag_pcs ..)
@[simp] theorem State.setFlag_chan (s : State) (f : Fld) (b : Bool) (i j : Nat) (m : Nat) : (s.setFlag f b i j).chan m = s.chan m := by
  unfold State.chan; rw [State.setFlag_pda]
@[simp] theorem State.setFlag_grp (s : State) (f : Fld) (b : Bool) (i j : Nat) (m : Nat) : (s.setFlag f b i j).grp m = s.grp m := by
  unfold State.grp; rw [State.setFlag_pda]

@[simp] theorem State.setBitOf_now (s : State) (f : Fld) (k i j : Nat) : (s.setBitOf f k i j).now = s.now := rfl
@[simp] theorem State.setBitOf_free (s : State) (f : Fld) (k i j : Nat) : (s.setBitOf f k i j).free = s.free := rfl
@[simp] theorem State.setBitOf_pending (s : State) (f : Fld) (k i j : Nat) : (s.setBitOf f k i j).pending = s.pending := rfl
@[simp] theorem State.setBitOf_mem (s : State) (f : Fld) (k i j : Nat) : (s.setBitOf f k i j).mem = s.mem := rfl
@[simp] theorem State.setBitOf_imsic (s : State) (f : Fld) (k i j : Nat) : (s.setBitOf f k i j).imsic = s.imsic := rfl
@[simp] theorem State.setBitOf_imsicEn (s : State) (f : Fld) (k i j : Nat) : (s.setBitOf f k i j).imsicEn = s.imsicEn := rfl
@[simp] theorem State.setBitOf_bus (s : State) (f : Fld) (k i j : Nat) : (s.setBitOf f k i j).bus = s.bus := rfl
@[simp] theorem State.setBitOf_tbu (s : State) (f : Fld) (k i j : Nat) : (s.setBitOf f k i j).tbu = s.tbu := rfl
@[simp] theorem State.setBitOf_sf (s : State) (f : Fld) (k i j : Nat) : (s.setBitOf f k i j).sf = s.sf := rfl
@[simp] theorem State.setBitOf_cfg (s : State) (f : Fld) (k i j : Nat) : (s.setBitOf f k i j).cfg = s.cfg := rfl
@[simp] theorem State.setBitOf_pda (s : State) (f : Fld) (k i j : Nat) : (s.setBitOf f k i j).pda = s.pda := rfl
@[simp] theorem State.setBitOf_pe (s : State) (f : Fld) (k i j : Nat) : (s.setBitOf f k i j).pe = s.pe := rfl
@[simp] theorem State.setBitOf_esw (s : State) (f : Fld) (k i j : Nat) : (s.setBitOf f k i j).esw = s.esw := rfl
@[simp] theorem State.setBitOf_fbc (s : State) (f : Fld) (k i j : Nat) : (s.setBitOf f k i j).fbc = s.fbc := rfl
@[simp] theorem State.setBitOf_sgw (s : State) (f : Fld) (k i j : Nat) : (s.setBitOf f k i j).sgw = s.sgw := rfl
@[simp] theorem State.setBitOf_plb (s : State) (f : Fld) (k i j : Nat) : (s.setBitOf f k i j).plb = s.plb := rfl
@[simp] theorem State.setBitOf_cc (s : State) (f : Fld) (k i j : Nat) : (s.setBitOf f k i j).cc = s.cc := rfl
@[simp] theorem State.setBitOf_ms (s : State) (f : Fld) (k i j : Nat) : (s.setBitOf f k i j).ms = s.ms := rfl
@[simp] theorem State.setBitOf_sec (s : State) (f : Fld) (k i j : Nat) : (s.setBitOf f k i j).sec = s.sec := rfl
@[simp] theorem State.setBitOf_fcu (s : State) (f : Fld) (k i j : Nat) : (s.setBitOf f k i j).fcu = s.fcu := rfl
@[simp] theorem State.setBitOf_pcs (s : State) (f : Fld) (k i j : Nat) : (s.setBitOf f k i j).pcs = s.pcs := rfl
@[simp] theorem State.setBitOf_dbg (s : State) (f : Fld) (k i j : Nat) : (s.setBitOf f k i j).dbg = s.dbg := rfl
@[simp] theorem State.setBitOf_coreRuns (s : State) (f : Fld) (k i j : Nat) : (s.setBitOf f k i j).coreRuns = s.coreRuns :=
  coreRuns_congr (State.setBitOf_pcs ..)
@[simp] theorem State.setBitOf_asleep (s : State) (f : Fld) (k i j : Nat) : (s.setBitOf f k i j).asleep = s.asleep :=
  asleep_congr (State.setBitOf_pcs ..)
@[simp] theorem State.setBitOf_chan (s : State) (f : Fld) (k i j : Nat) (m : Nat) : (s.setBitOf f k i j).chan m = s.chan m := by
  unfold State.chan; rw [State.setBitOf_pda]
@[simp] theorem State.setBitOf_grp (s : State) (f : Fld) (k i j : Nat) (m : Nat) : (s.setBitOf f k i j).grp m = s.grp m := by
  unfold State.grp; rw [State.setBitOf_pda]

@[simp] theorem State.inc_now (s : State) (f : Fld) (k i j : Nat) : (s.inc f k i j).now = s.now := rfl
@[simp] theorem State.inc_free (s : State) (f : Fld) (k i j : Nat) : (s.inc f k i j).free = s.free := rfl
@[simp] theorem State.inc_pending (s : State) (f : Fld) (k i j : Nat) : (s.inc f k i j).pending = s.pending := rfl
@[simp] theorem State.inc_mem (s : State) (f : Fld) (k i j : Nat) : (s.inc f k i j).mem = s.mem := rfl
@[simp] theorem State.inc_imsic (s : State) (f : Fld) (k i j : Nat) : (s.inc f k i j).imsic = s.imsic := rfl
@[simp] theorem State.inc_imsicEn (s : State) (f : Fld) (k i j : Nat) : (s.inc f k i j).imsicEn = s.imsicEn := rfl
@[simp] theorem State.inc_bus (s : State) (f : Fld) (k i j : Nat) : (s.inc f k i j).bus = s.bus := rfl
@[simp] theorem State.inc_tbu (s : State) (f : Fld) (k i j : Nat) : (s.inc f k i j).tbu = s.tbu := rfl
@[simp] theorem State.inc_sf (s : State) (f : Fld) (k i j : Nat) : (s.inc f k i j).sf = s.sf := rfl
@[simp] theorem State.inc_cfg (s : State) (f : Fld) (k i j : Nat) : (s.inc f k i j).cfg = s.cfg := rfl
@[simp] theorem State.inc_pda (s : State) (f : Fld) (k i j : Nat) : (s.inc f k i j).pda = s.pda := rfl
@[simp] theorem State.inc_pe (s : State) (f : Fld) (k i j : Nat) : (s.inc f k i j).pe = s.pe := rfl
@[simp] theorem State.inc_esw (s : State) (f : Fld) (k i j : Nat) : (s.inc f k i j).esw = s.esw := rfl
@[simp] theorem State.inc_fbc (s : State) (f : Fld) (k i j : Nat) : (s.inc f k i j).fbc = s.fbc := rfl
@[simp] theorem State.inc_sgw (s : State) (f : Fld) (k i j : Nat) : (s.inc f k i j).sgw = s.sgw := rfl
@[simp] theorem State.inc_plb (s : State) (f : Fld) (k i j : Nat) : (s.inc f k i j).plb = s.plb := rfl
@[simp] theorem State.inc_cc (s : State) (f : Fld) (k i j : Nat) : (s.inc f k i j).cc = s.cc := rfl
@[simp] theorem State.inc_ms (s : State) (f : Fld) (k i j : Nat) : (s.inc f k i j).ms = s.ms := rfl
@[simp] theorem State.inc_sec (s : State) (f : Fld) (k i j : Nat) : (s.inc f k i j).sec = s.sec := rfl
@[simp] theorem State.inc_fcu (s : State) (f : Fld) (k i j : Nat) : (s.inc f k i j).fcu = s.fcu := rfl
@[simp] theorem State.inc_pcs (s : State) (f : Fld) (k i j : Nat) : (s.inc f k i j).pcs = s.pcs := rfl
@[simp] theorem State.inc_dbg (s : State) (f : Fld) (k i j : Nat) : (s.inc f k i j).dbg = s.dbg := rfl
@[simp] theorem State.inc_coreRuns (s : State) (f : Fld) (k i j : Nat) : (s.inc f k i j).coreRuns = s.coreRuns :=
  coreRuns_congr (State.inc_pcs ..)
@[simp] theorem State.inc_asleep (s : State) (f : Fld) (k i j : Nat) : (s.inc f k i j).asleep = s.asleep :=
  asleep_congr (State.inc_pcs ..)
@[simp] theorem State.inc_chan (s : State) (f : Fld) (k i j : Nat) (m : Nat) : (s.inc f k i j).chan m = s.chan m := by
  unfold State.chan; rw [State.inc_pda]
@[simp] theorem State.inc_grp (s : State) (f : Fld) (k i j : Nat) (m : Nat) : (s.inc f k i j).grp m = s.grp m := by
  unfold State.grp; rw [State.inc_pda]

@[simp] theorem State.setTd_now (s : State) (d : Nat) (t : Td) : (s.setTd d t).now = s.now := rfl
@[simp] theorem State.setTd_free (s : State) (d : Nat) (t : Td) : (s.setTd d t).free = s.free := rfl
@[simp] theorem State.setTd_pending (s : State) (d : Nat) (t : Td) : (s.setTd d t).pending = s.pending := rfl
@[simp] theorem State.setTd_regs (s : State) (d : Nat) (t : Td) : (s.setTd d t).regs = s.regs := rfl
@[simp] theorem State.setTd_mem (s : State) (d : Nat) (t : Td) : (s.setTd d t).mem = s.mem := rfl
@[simp] theorem State.setTd_imsic (s : State) (d : Nat) (t : Td) : (s.setTd d t).imsic = s.imsic := rfl
@[simp] theorem State.setTd_imsicEn (s : State) (d : Nat) (t : Td) : (s.setTd d t).imsicEn = s.imsicEn := rfl
@[simp] theorem State.setTd_bus (s : State) (d : Nat) (t : Td) : (s.setTd d t).bus = s.bus := rfl
@[simp] theorem State.setTd_sf (s : State) (d : Nat) (t : Td) : (s.setTd d t).sf = s.sf := rfl
@[simp] theorem State.setTd_cfg (s : State) (d : Nat) (t : Td) : (s.setTd d t).cfg = s.cfg := rfl
@[simp] theorem State.setTd_pda (s : State) (d : Nat) (t : Td) : (s.setTd d t).pda = s.pda := rfl
@[simp] theorem State.setTd_pe (s : State) (d : Nat) (t : Td) : (s.setTd d t).pe = s.pe := rfl
@[simp] theorem State.setTd_esw (s : State) (d : Nat) (t : Td) : (s.setTd d t).esw = s.esw := rfl
@[simp] theorem State.setTd_fbc (s : State) (d : Nat) (t : Td) : (s.setTd d t).fbc = s.fbc := rfl
@[simp] theorem State.setTd_sgw (s : State) (d : Nat) (t : Td) : (s.setTd d t).sgw = s.sgw := rfl
@[simp] theorem State.setTd_plb (s : State) (d : Nat) (t : Td) : (s.setTd d t).plb = s.plb := rfl
@[simp] theorem State.setTd_cc (s : State) (d : Nat) (t : Td) : (s.setTd d t).cc = s.cc := rfl
@[simp] theorem State.setTd_ms (s : State) (d : Nat) (t : Td) : (s.setTd d t).ms = s.ms := rfl
@[simp] theorem State.setTd_sec (s : State) (d : Nat) (t : Td) : (s.setTd d t).sec = s.sec := rfl
@[simp] theorem State.setTd_fcu (s : State) (d : Nat) (t : Td) : (s.setTd d t).fcu = s.fcu := rfl
@[simp] theorem State.setTd_pcs (s : State) (d : Nat) (t : Td) : (s.setTd d t).pcs = s.pcs := rfl
@[simp] theorem State.setTd_dbg (s : State) (d : Nat) (t : Td) : (s.setTd d t).dbg = s.dbg := rfl
@[simp] theorem State.setTd_coreRuns (s : State) (d : Nat) (t : Td) : (s.setTd d t).coreRuns = s.coreRuns :=
  coreRuns_congr (State.setTd_pcs ..)
@[simp] theorem State.setTd_asleep (s : State) (d : Nat) (t : Td) : (s.setTd d t).asleep = s.asleep :=
  asleep_congr (State.setTd_pcs ..)
@[simp] theorem State.setTd_chan (s : State) (d : Nat) (t : Td) (m : Nat) : (s.setTd d t).chan m = s.chan m := by
  unfold State.chan; rw [State.setTd_pda]
@[simp] theorem State.setTd_grp (s : State) (d : Nat) (t : Td) (m : Nat) : (s.setTd d t).grp m = s.grp m := by
  unfold State.grp; rw [State.setTd_pda]
@[simp] theorem State.setTd_rd (s : State) (d : Nat) (t : Td) (r : Reg) (x y : Nat) : (s.setTd d t).rd r x y = s.rd r x y := by
  unfold State.rd; rw [State.setTd_regs]
@[simp] theorem State.setTd_get (s : State) (d : Nat) (t : Td) (f' : Fld) (x y : Nat) : (s.setTd d t).get f' x y = s.get f' x y := by
  unfold State.get; rw [State.setTd_rd]
@[simp] theorem State.setTd_flag (s : State) (d : Nat) (t : Td) (f' : Fld) (x y : Nat) : (s.setTd d t).flag f' x y = s.flag f' x y := by
  unfold State.flag; rw [State.setTd_get]

@[simp] theorem State.bump_now (s : State) (e k : Nat) : (s.bump e k).now = s.now := rfl
@[simp] theorem State.bump_free (s : State) (e k : Nat) : (s.bump e k).free = s.free := rfl
@[simp] theorem State.bump_pending (s : State) (e k : Nat) : (s.bump e k).pending = s.pending := rfl
@[simp] theorem State.bump_regs (s : State) (e k : Nat) : (s.bump e k).regs = s.regs := rfl
@[simp] theorem State.bump_mem (s : State) (e k : Nat) : (s.bump e k).mem = s.mem := rfl
@[simp] theorem State.bump_imsic (s : State) (e k : Nat) : (s.bump e k).imsic = s.imsic := rfl
@[simp] theorem State.bump_imsicEn (s : State) (e k : Nat) : (s.bump e k).imsicEn = s.imsicEn := rfl
@[simp] theorem State.bump_bus (s : State) (e k : Nat) : (s.bump e k).bus = s.bus := rfl
@[simp] theorem State.bump_tbu (s : State) (e k : Nat) : (s.bump e k).tbu = s.tbu := rfl
@[simp] theorem State.bump_sf (s : State) (e k : Nat) : (s.bump e k).sf = s.sf := rfl
@[simp] theorem State.bump_cfg (s : State) (e k : Nat) : (s.bump e k).cfg = s.cfg := rfl
@[simp] theorem State.bump_pda (s : State) (e k : Nat) : (s.bump e k).pda = s.pda := rfl
@[simp] theorem State.bump_pe (s : State) (e k : Nat) : (s.bump e k).pe = s.pe := rfl
@[simp] theorem State.bump_esw (s : State) (e k : Nat) : (s.bump e k).esw = s.esw := rfl
@[simp] theorem State.bump_fbc (s : State) (e k : Nat) : (s.bump e k).fbc = s.fbc := rfl
@[simp] theorem State.bump_sgw (s : State) (e k : Nat) : (s.bump e k).sgw = s.sgw := rfl
@[simp] theorem State.bump_plb (s : State) (e k : Nat) : (s.bump e k).plb = s.plb := rfl
@[simp] theorem State.bump_cc (s : State) (e k : Nat) : (s.bump e k).cc = s.cc := rfl
@[simp] theorem State.bump_ms (s : State) (e k : Nat) : (s.bump e k).ms = s.ms := rfl
@[simp] theorem State.bump_sec (s : State) (e k : Nat) : (s.bump e k).sec = s.sec := rfl
@[simp] theorem State.bump_fcu (s : State) (e k : Nat) : (s.bump e k).fcu = s.fcu := rfl
@[simp] theorem State.bump_pcs (s : State) (e k : Nat) : (s.bump e k).pcs = s.pcs := rfl
@[simp] theorem State.bump_coreRuns (s : State) (e k : Nat) : (s.bump e k).coreRuns = s.coreRuns :=
  coreRuns_congr (State.bump_pcs ..)
@[simp] theorem State.bump_asleep (s : State) (e k : Nat) : (s.bump e k).asleep = s.asleep :=
  asleep_congr (State.bump_pcs ..)
@[simp] theorem State.bump_chan (s : State) (e k : Nat) (m : Nat) : (s.bump e k).chan m = s.chan m := by
  unfold State.chan; rw [State.bump_pda]
@[simp] theorem State.bump_grp (s : State) (e k : Nat) (m : Nat) : (s.bump e k).grp m = s.grp m := by
  unfold State.grp; rw [State.bump_pda]
@[simp] theorem State.bump_rd (s : State) (e k : Nat) (r : Reg) (x y : Nat) : (s.bump e k).rd r x y = s.rd r x y := by
  unfold State.rd; rw [State.bump_regs]
@[simp] theorem State.bump_get (s : State) (e k : Nat) (f' : Fld) (x y : Nat) : (s.bump e k).get f' x y = s.get f' x y := by
  unfold State.get; rw [State.bump_rd]
@[simp] theorem State.bump_flag (s : State) (e k : Nat) (f' : Fld) (x y : Nat) : (s.bump e k).flag f' x y = s.flag f' x y := by
  unfold State.flag; rw [State.bump_get]

@[simp] theorem State.report_now (s : State) (k : Nat) : (s.report k).now = s.now := rfl
@[simp] theorem State.report_free (s : State) (k : Nat) : (s.report k).free = s.free := rfl
@[simp] theorem State.report_pending (s : State) (k : Nat) : (s.report k).pending = s.pending := rfl
@[simp] theorem State.report_regs (s : State) (k : Nat) : (s.report k).regs = s.regs := rfl
@[simp] theorem State.report_mem (s : State) (k : Nat) : (s.report k).mem = s.mem := rfl
@[simp] theorem State.report_imsic (s : State) (k : Nat) : (s.report k).imsic = s.imsic := rfl
@[simp] theorem State.report_imsicEn (s : State) (k : Nat) : (s.report k).imsicEn = s.imsicEn := rfl
@[simp] theorem State.report_bus (s : State) (k : Nat) : (s.report k).bus = s.bus := rfl
@[simp] theorem State.report_tbu (s : State) (k : Nat) : (s.report k).tbu = s.tbu := rfl
@[simp] theorem State.report_sf (s : State) (k : Nat) : (s.report k).sf = s.sf := rfl
@[simp] theorem State.report_cfg (s : State) (k : Nat) : (s.report k).cfg = s.cfg := rfl
@[simp] theorem State.report_pda (s : State) (k : Nat) : (s.report k).pda = s.pda := rfl
@[simp] theorem State.report_pe (s : State) (k : Nat) : (s.report k).pe = s.pe := rfl
@[simp] theorem State.report_esw (s : State) (k : Nat) : (s.report k).esw = s.esw := rfl
@[simp] theorem State.report_fbc (s : State) (k : Nat) : (s.report k).fbc = s.fbc := rfl
@[simp] theorem State.report_sgw (s : State) (k : Nat) : (s.report k).sgw = s.sgw := rfl
@[simp] theorem State.report_plb (s : State) (k : Nat) : (s.report k).plb = s.plb := rfl
@[simp] theorem State.report_cc (s : State) (k : Nat) : (s.report k).cc = s.cc := rfl
@[simp] theorem State.report_ms (s : State) (k : Nat) : (s.report k).ms = s.ms := rfl
@[simp] theorem State.report_sec (s : State) (k : Nat) : (s.report k).sec = s.sec := rfl
@[simp] theorem State.report_pcs (s : State) (k : Nat) : (s.report k).pcs = s.pcs := rfl
@[simp] theorem State.report_dbg (s : State) (k : Nat) : (s.report k).dbg = s.dbg := rfl
@[simp] theorem State.report_coreRuns (s : State) (k : Nat) : (s.report k).coreRuns = s.coreRuns :=
  coreRuns_congr (State.report_pcs ..)
@[simp] theorem State.report_asleep (s : State) (k : Nat) : (s.report k).asleep = s.asleep :=
  asleep_congr (State.report_pcs ..)
@[simp] theorem State.report_chan (s : State) (k : Nat) (m : Nat) : (s.report k).chan m = s.chan m := by
  unfold State.chan; rw [State.report_pda]
@[simp] theorem State.report_grp (s : State) (k : Nat) (m : Nat) : (s.report k).grp m = s.grp m := by
  unfold State.grp; rw [State.report_pda]
@[simp] theorem State.report_rd (s : State) (k : Nat) (r : Reg) (x y : Nat) : (s.report k).rd r x y = s.rd r x y := by
  unfold State.rd; rw [State.report_regs]
@[simp] theorem State.report_get (s : State) (k : Nat) (f' : Fld) (x y : Nat) : (s.report k).get f' x y = s.get f' x y := by
  unfold State.get; rw [State.report_rd]
@[simp] theorem State.report_flag (s : State) (k : Nat) (f' : Fld) (x y : Nat) : (s.report k).flag f' x y = s.flag f' x y := by
  unfold State.flag; rw [State.report_get]

@[simp] theorem State.setByte_now (s : State) (a : Nat) (b : Byte) : (s.setByte a b).now = s.now := rfl
@[simp] theorem State.setByte_free (s : State) (a : Nat) (b : Byte) : (s.setByte a b).free = s.free := rfl
@[simp] theorem State.setByte_pending (s : State) (a : Nat) (b : Byte) : (s.setByte a b).pending = s.pending := rfl
@[simp] theorem State.setByte_regs (s : State) (a : Nat) (b : Byte) : (s.setByte a b).regs = s.regs := rfl
@[simp] theorem State.setByte_imsic (s : State) (a : Nat) (b : Byte) : (s.setByte a b).imsic = s.imsic := rfl
@[simp] theorem State.setByte_imsicEn (s : State) (a : Nat) (b : Byte) : (s.setByte a b).imsicEn = s.imsicEn := rfl
@[simp] theorem State.setByte_bus (s : State) (a : Nat) (b : Byte) : (s.setByte a b).bus = s.bus := rfl
@[simp] theorem State.setByte_tbu (s : State) (a : Nat) (b : Byte) : (s.setByte a b).tbu = s.tbu := rfl
@[simp] theorem State.setByte_sf (s : State) (a : Nat) (b : Byte) : (s.setByte a b).sf = s.sf := rfl
@[simp] theorem State.setByte_cfg (s : State) (a : Nat) (b : Byte) : (s.setByte a b).cfg = s.cfg := rfl
@[simp] theorem State.setByte_pda (s : State) (a : Nat) (b : Byte) : (s.setByte a b).pda = s.pda := rfl
@[simp] theorem State.setByte_pe (s : State) (a : Nat) (b : Byte) : (s.setByte a b).pe = s.pe := rfl
@[simp] theorem State.setByte_esw (s : State) (a : Nat) (b : Byte) : (s.setByte a b).esw = s.esw := rfl
@[simp] theorem State.setByte_fbc (s : State) (a : Nat) (b : Byte) : (s.setByte a b).fbc = s.fbc := rfl
@[simp] theorem State.setByte_sgw (s : State) (a : Nat) (b : Byte) : (s.setByte a b).sgw = s.sgw := rfl
@[simp] theorem State.setByte_plb (s : State) (a : Nat) (b : Byte) : (s.setByte a b).plb = s.plb := rfl
@[simp] theorem State.setByte_cc (s : State) (a : Nat) (b : Byte) : (s.setByte a b).cc = s.cc := rfl
@[simp] theorem State.setByte_ms (s : State) (a : Nat) (b : Byte) : (s.setByte a b).ms = s.ms := rfl
@[simp] theorem State.setByte_sec (s : State) (a : Nat) (b : Byte) : (s.setByte a b).sec = s.sec := rfl
@[simp] theorem State.setByte_fcu (s : State) (a : Nat) (b : Byte) : (s.setByte a b).fcu = s.fcu := rfl
@[simp] theorem State.setByte_pcs (s : State) (a : Nat) (b : Byte) : (s.setByte a b).pcs = s.pcs := rfl
@[simp] theorem State.setByte_dbg (s : State) (a : Nat) (b : Byte) : (s.setByte a b).dbg = s.dbg := rfl
@[simp] theorem State.setByte_coreRuns (s : State) (a : Nat) (b : Byte) : (s.setByte a b).coreRuns = s.coreRuns :=
  coreRuns_congr (State.setByte_pcs ..)
@[simp] theorem State.setByte_asleep (s : State) (a : Nat) (b : Byte) : (s.setByte a b).asleep = s.asleep :=
  asleep_congr (State.setByte_pcs ..)
@[simp] theorem State.setByte_chan (s : State) (a : Nat) (b : Byte) (m : Nat) : (s.setByte a b).chan m = s.chan m := by
  unfold State.chan; rw [State.setByte_pda]
@[simp] theorem State.setByte_grp (s : State) (a : Nat) (b : Byte) (m : Nat) : (s.setByte a b).grp m = s.grp m := by
  unfold State.grp; rw [State.setByte_pda]
@[simp] theorem State.setByte_rd (s : State) (a : Nat) (b : Byte) (r : Reg) (x y : Nat) : (s.setByte a b).rd r x y = s.rd r x y := by
  unfold State.rd; rw [State.setByte_regs]
@[simp] theorem State.setByte_get (s : State) (a : Nat) (b : Byte) (f' : Fld) (x y : Nat) : (s.setByte a b).get f' x y = s.get f' x y := by
  unfold State.get; rw [State.setByte_rd]
@[simp] theorem State.setByte_flag (s : State) (a : Nat) (b : Byte) (f' : Fld) (x y : Nat) : (s.setByte a b).flag f' x y = s.flag f' x y := by
  unfold State.flag; rw [State.setByte_get]

@[simp] theorem State.unpoison_now (s : State) (a n : Nat) : (s.unpoison a n).now = s.now := rfl
@[simp] theorem State.unpoison_free (s : State) (a n : Nat) : (s.unpoison a n).free = s.free := rfl
@[simp] theorem State.unpoison_pending (s : State) (a n : Nat) : (s.unpoison a n).pending = s.pending := rfl
@[simp] theorem State.unpoison_regs (s : State) (a n : Nat) : (s.unpoison a n).regs = s.regs := rfl
@[simp] theorem State.unpoison_mem (s : State) (a n : Nat) : (s.unpoison a n).mem = s.mem := rfl
@[simp] theorem State.unpoison_imsic (s : State) (a n : Nat) : (s.unpoison a n).imsic = s.imsic := rfl
@[simp] theorem State.unpoison_imsicEn (s : State) (a n : Nat) : (s.unpoison a n).imsicEn = s.imsicEn := rfl
@[simp] theorem State.unpoison_bus (s : State) (a n : Nat) : (s.unpoison a n).bus = s.bus := rfl
@[simp] theorem State.unpoison_tbu (s : State) (a n : Nat) : (s.unpoison a n).tbu = s.tbu := rfl
@[simp] theorem State.unpoison_sf (s : State) (a n : Nat) : (s.unpoison a n).sf = s.sf := rfl
@[simp] theorem State.unpoison_cfg (s : State) (a n : Nat) : (s.unpoison a n).cfg = s.cfg := rfl
@[simp] theorem State.unpoison_pda (s : State) (a n : Nat) : (s.unpoison a n).pda = s.pda := rfl
@[simp] theorem State.unpoison_pe (s : State) (a n : Nat) : (s.unpoison a n).pe = s.pe := rfl
@[simp] theorem State.unpoison_esw (s : State) (a n : Nat) : (s.unpoison a n).esw = s.esw := rfl
@[simp] theorem State.unpoison_fbc (s : State) (a n : Nat) : (s.unpoison a n).fbc = s.fbc := rfl
@[simp] theorem State.unpoison_sgw (s : State) (a n : Nat) : (s.unpoison a n).sgw = s.sgw := rfl
@[simp] theorem State.unpoison_plb (s : State) (a n : Nat) : (s.unpoison a n).plb = s.plb := rfl
@[simp] theorem State.unpoison_cc (s : State) (a n : Nat) : (s.unpoison a n).cc = s.cc := rfl
@[simp] theorem State.unpoison_sec (s : State) (a n : Nat) : (s.unpoison a n).sec = s.sec := rfl
@[simp] theorem State.unpoison_fcu (s : State) (a n : Nat) : (s.unpoison a n).fcu = s.fcu := rfl
@[simp] theorem State.unpoison_pcs (s : State) (a n : Nat) : (s.unpoison a n).pcs = s.pcs := rfl
@[simp] theorem State.unpoison_dbg (s : State) (a n : Nat) : (s.unpoison a n).dbg = s.dbg := rfl
@[simp] theorem State.unpoison_coreRuns (s : State) (a n : Nat) : (s.unpoison a n).coreRuns = s.coreRuns :=
  coreRuns_congr (State.unpoison_pcs ..)
@[simp] theorem State.unpoison_asleep (s : State) (a n : Nat) : (s.unpoison a n).asleep = s.asleep :=
  asleep_congr (State.unpoison_pcs ..)
@[simp] theorem State.unpoison_chan (s : State) (a n : Nat) (m : Nat) : (s.unpoison a n).chan m = s.chan m := by
  unfold State.chan; rw [State.unpoison_pda]
@[simp] theorem State.unpoison_grp (s : State) (a n : Nat) (m : Nat) : (s.unpoison a n).grp m = s.grp m := by
  unfold State.grp; rw [State.unpoison_pda]
@[simp] theorem State.unpoison_rd (s : State) (a n : Nat) (r : Reg) (x y : Nat) : (s.unpoison a n).rd r x y = s.rd r x y := by
  unfold State.rd; rw [State.unpoison_regs]
@[simp] theorem State.unpoison_get (s : State) (a n : Nat) (f' : Fld) (x y : Nat) : (s.unpoison a n).get f' x y = s.get f' x y := by
  unfold State.get; rw [State.unpoison_rd]
@[simp] theorem State.unpoison_flag (s : State) (a n : Nat) (f' : Fld) (x y : Nat) : (s.unpoison a n).flag f' x y = s.flag f' x y := by
  unfold State.flag; rw [State.unpoison_get]

@[simp] theorem State.setChan_now (s : State) (n : Nat) (c : Ch) : (s.setChan n c).now = s.now := rfl
@[simp] theorem State.setChan_free (s : State) (n : Nat) (c : Ch) : (s.setChan n c).free = s.free := rfl
@[simp] theorem State.setChan_pending (s : State) (n : Nat) (c : Ch) : (s.setChan n c).pending = s.pending := rfl
@[simp] theorem State.setChan_regs (s : State) (n : Nat) (c : Ch) : (s.setChan n c).regs = s.regs := rfl
@[simp] theorem State.setChan_mem (s : State) (n : Nat) (c : Ch) : (s.setChan n c).mem = s.mem := rfl
@[simp] theorem State.setChan_imsic (s : State) (n : Nat) (c : Ch) : (s.setChan n c).imsic = s.imsic := rfl
@[simp] theorem State.setChan_imsicEn (s : State) (n : Nat) (c : Ch) : (s.setChan n c).imsicEn = s.imsicEn := rfl
@[simp] theorem State.setChan_bus (s : State) (n : Nat) (c : Ch) : (s.setChan n c).bus = s.bus := rfl
@[simp] theorem State.setChan_tbu (s : State) (n : Nat) (c : Ch) : (s.setChan n c).tbu = s.tbu := rfl
@[simp] theorem State.setChan_sf (s : State) (n : Nat) (c : Ch) : (s.setChan n c).sf = s.sf := rfl
@[simp] theorem State.setChan_cfg (s : State) (n : Nat) (c : Ch) : (s.setChan n c).cfg = s.cfg := rfl
@[simp] theorem State.setChan_pe (s : State) (n : Nat) (c : Ch) : (s.setChan n c).pe = s.pe := rfl
@[simp] theorem State.setChan_esw (s : State) (n : Nat) (c : Ch) : (s.setChan n c).esw = s.esw := rfl
@[simp] theorem State.setChan_fbc (s : State) (n : Nat) (c : Ch) : (s.setChan n c).fbc = s.fbc := rfl
@[simp] theorem State.setChan_sgw (s : State) (n : Nat) (c : Ch) : (s.setChan n c).sgw = s.sgw := rfl
@[simp] theorem State.setChan_plb (s : State) (n : Nat) (c : Ch) : (s.setChan n c).plb = s.plb := rfl
@[simp] theorem State.setChan_cc (s : State) (n : Nat) (c : Ch) : (s.setChan n c).cc = s.cc := rfl
@[simp] theorem State.setChan_ms (s : State) (n : Nat) (c : Ch) : (s.setChan n c).ms = s.ms := rfl
@[simp] theorem State.setChan_sec (s : State) (n : Nat) (c : Ch) : (s.setChan n c).sec = s.sec := rfl
@[simp] theorem State.setChan_fcu (s : State) (n : Nat) (c : Ch) : (s.setChan n c).fcu = s.fcu := rfl
@[simp] theorem State.setChan_pcs (s : State) (n : Nat) (c : Ch) : (s.setChan n c).pcs = s.pcs := rfl
@[simp] theorem State.setChan_dbg (s : State) (n : Nat) (c : Ch) : (s.setChan n c).dbg = s.dbg := rfl
@[simp] theorem State.setChan_coreRuns (s : State) (n : Nat) (c : Ch) : (s.setChan n c).coreRuns = s.coreRuns :=
  coreRuns_congr (State.setChan_pcs ..)
@[simp] theorem State.setChan_asleep (s : State) (n : Nat) (c : Ch) : (s.setChan n c).asleep = s.asleep :=
  asleep_congr (State.setChan_pcs ..)
@[simp] theorem State.setChan_rd (s : State) (n : Nat) (c : Ch) (r : Reg) (x y : Nat) : (s.setChan n c).rd r x y = s.rd r x y := by
  unfold State.rd; rw [State.setChan_regs]
@[simp] theorem State.setChan_get (s : State) (n : Nat) (c : Ch) (f' : Fld) (x y : Nat) : (s.setChan n c).get f' x y = s.get f' x y := by
  unfold State.get; rw [State.setChan_rd]
@[simp] theorem State.setChan_flag (s : State) (n : Nat) (c : Ch) (f' : Fld) (x y : Nat) : (s.setChan n c).flag f' x y = s.flag f' x y := by
  unfold State.flag; rw [State.setChan_get]

@[simp] theorem State.modChan_now (s : State) (n : Nat) (f : Ch → Ch) : (s.modChan n f).now = s.now := rfl
@[simp] theorem State.modChan_free (s : State) (n : Nat) (f : Ch → Ch) : (s.modChan n f).free = s.free := rfl
@[simp] theorem State.modChan_pending (s : State) (n : Nat) (f : Ch → Ch) : (s.modChan n f).pending = s.pending := rfl
@[simp] theorem State.modChan_regs (s : State) (n : Nat) (f : Ch → Ch) : (s.modChan n f).regs = s.regs := rfl
@[simp] theorem State.modChan_mem (s : State) (n : Nat) (f : Ch → Ch) : (s.modChan n f).mem = s.mem := rfl
@[simp] theorem State.modChan_imsic (s : State) (n : Nat) (f : Ch → Ch) : (s.modChan n f).imsic = s.imsic := rfl
@[simp] theorem State.modChan_imsicEn (s : State) (n : Nat) (f : Ch → Ch) : (s.modChan n f).imsicEn = s.imsicEn := rfl
@[simp] theorem State.modChan_bus (s : State) (n : Nat) (f : Ch → Ch) : (s.modChan n f).bus = s.bus := rfl
@[simp] theorem State.modChan_tbu (s : State) (n : Nat) (f : Ch → Ch) : (s.modChan n f).tbu = s.tbu := rfl
@[simp] theorem State.modChan_sf (s : State) (n : Nat) (f : Ch → Ch) : (s.modChan n f).sf = s.sf := rfl
@[simp] theorem State.modChan_cfg (s : State) (n : Nat) (f : Ch → Ch) : (s.modChan n f).cfg = s.cfg := rfl
@[simp] theorem State.modChan_pe (s : State) (n : Nat) (f : Ch → Ch) : (s.modChan n f).pe = s.pe := rfl
@[simp] theorem State.modChan_esw (s : State) (n : Nat) (f : Ch → Ch) : (s.modChan n f).esw = s.esw := rfl
@[simp] theorem State.modChan_fbc (s : State) (n : Nat) (f : Ch → Ch) : (s.modChan n f).fbc = s.fbc := rfl
@[simp] theorem State.modChan_sgw (s : State) (n : Nat) (f : Ch → Ch) : (s.modChan n f).sgw = s.sgw := rfl
@[simp] theorem State.modChan_plb (s : State) (n : Nat) (f : Ch → Ch) : (s.modChan n f).plb = s.plb := rfl
@[simp] theorem State.modChan_cc (s : State) (n : Nat) (f : Ch → Ch) : (s.modChan n f).cc = s.cc := rfl
@[simp] theorem State.modChan_ms (s : State) (n : Nat) (f : Ch → Ch) : (s.modChan n f).ms = s.ms := rfl
@[simp] theorem State.modChan_sec (s : State) (n : Nat) (f : Ch → Ch) : (s.modChan n f).sec = s.sec := rfl
@[simp] theorem State.modChan_fcu (s : State) (n : Nat) (f : Ch → Ch) : (s.modChan n f).fcu = s.fcu := rfl
@[simp] theorem State.modChan_pcs (s : State) (n : Nat) (f : Ch → Ch) : (s.modChan n f).pcs = s.pcs := rfl
@[simp] theorem State.modChan_dbg (s : State) (n : Nat) (f : Ch → Ch) : (s.modChan n f).dbg = s.dbg := rfl
@[simp] theorem State.modChan_coreRuns (s : State) (n : Nat) (f : Ch → Ch) : (s.modChan n f).coreRuns = s.coreRuns :=
  coreRuns_congr (State.modChan_pcs ..)
@[simp] theorem State.modChan_asleep (s : State) (n : Nat) (f : Ch → Ch) : (s.modChan n f).asleep = s.asleep :=
  asleep_congr (State.modChan_pcs ..)
@[simp] theorem State.modChan_rd (s : State) (n : Nat) (f : Ch → Ch) (r : Reg) (x y : Nat) : (s.modChan n f).rd r x y = s.rd r x y := by
  unfold State.rd; rw [State.modChan_regs]
@[simp] theorem State.modChan_get (s : State) (n : Nat) (f : Ch → Ch) (f' : Fld) (x y : Nat) : (s.modChan n f).get f' x y = s.get f' x y := by
  unfold State.get; rw [State.modChan_rd]
@[simp] theorem State.modChan_flag (s : State) (n : Nat) (f : Ch → Ch) (f' : Fld) (x y : Nat) : (s.modChan n f).flag f' x y = s.flag f' x y := by
  unfold State.flag; rw [State.modChan_get]

@[simp] theorem State.setGrp_now (s : State) (k : Nat) (g : Grp) : (s.setGrp k g).now = s.now := rfl
@[simp] theorem State.setGrp_free (s : State) (k : Nat) (g : Grp) : (s.setGrp k g).free = s.free := rfl
@[simp] theorem State.setGrp_pending (s : State) (k : Nat) (g : Grp) : (s.setGrp k g).pending = s.pending := rfl
@[simp] theorem State.setGrp_regs (s : State) (k : Nat) (g : Grp) : (s.setGrp k g).regs = s.regs := rfl
@[simp] theorem State.setGrp_mem (s : State) (k : Nat) (g : Grp) : (s.setGrp k g).mem = s.mem := rfl
@[simp] theorem State.setGrp_imsic (s : State) (k : Nat) (g : Grp) : (s.setGrp k g).imsic = s.imsic := rfl
@[simp] theorem State.setGrp_imsicEn (s : State) (k : Nat) (g : Grp) : (s.setGrp k g).imsicEn = s.imsicEn := rfl
@[simp] theorem State.setGrp_bus (s : State) (k : Nat) (g : Grp) : (s.setGrp k g).bus = s.bus := rfl
@[simp] theorem State.setGrp_tbu (s : State) (k : Nat) (g : Grp) : (s.setGrp k g).tbu = s.tbu := rfl
@[simp] theorem State.setGrp_sf (s : State) (k : Nat) (g : Grp) : (s.setGrp k g).sf = s.sf := rfl
@[simp] theorem State.setGrp_cfg (s : State) (k : Nat) (g : Grp) : (s.setGrp k g).cfg = s.cfg := rfl
@[simp] theorem State.setGrp_pe (s : State) (k : Nat) (g : Grp) : (s.setGrp k g).pe = s.pe := rfl
@[simp] theorem State.setGrp_esw (s : State) (k : Nat) (g : Grp) : (s.setGrp k g).esw = s.esw := rfl
@[simp] theorem State.setGrp_fbc (s : State) (k : Nat) (g : Grp) : (s.setGrp k g).fbc = s.fbc := rfl
@[simp] theorem State.setGrp_sgw (s : State) (k : Nat) (g : Grp) : (s.setGrp k g).sgw = s.sgw := rfl
@[simp] theorem State.setGrp_plb (s : State) (k : Nat) (g : Grp) : (s.setGrp k g).plb = s.plb := rfl
@[simp] theorem State.setGrp_cc (s : State) (k : Nat) (g : Grp) : (s.setGrp k g).cc = s.cc := rfl
@[simp] theorem State.setGrp_ms (s : State) (k : Nat) (g : Grp) : (s.setGrp k g).ms = s.ms := rfl
@[simp] theorem State.setGrp_sec (s : State) (k : Nat) (g : Grp) : (s.setGrp k g).sec = s.sec := rfl
@[simp] theorem State.setGrp_fcu (s : State) (k : Nat) (g : Grp) : (s.setGrp k g).fcu = s.fcu := rfl
@[simp] theorem State.setGrp_pcs (s : State) (k : Nat) (g : Grp) : (s.setGrp k g).pcs = s.pcs := rfl
@[simp] theorem State.setGrp_dbg (s : State) (k : Nat) (g : Grp) : (s.setGrp k g).dbg = s.dbg := rfl
@[simp] theorem State.setGrp_coreRuns (s : State) (k : Nat) (g : Grp) : (s.setGrp k g).coreRuns = s.coreRuns :=
  coreRuns_congr (State.setGrp_pcs ..)
@[simp] theorem State.setGrp_asleep (s : State) (k : Nat) (g : Grp) : (s.setGrp k g).asleep = s.asleep :=
  asleep_congr (State.setGrp_pcs ..)
@[simp] theorem State.setGrp_rd (s : State) (k : Nat) (g : Grp) (r : Reg) (x y : Nat) : (s.setGrp k g).rd r x y = s.rd r x y := by
  unfold State.rd; rw [State.setGrp_regs]
@[simp] theorem State.setGrp_get (s : State) (k : Nat) (g : Grp) (f' : Fld) (x y : Nat) : (s.setGrp k g).get f' x y = s.get f' x y := by
  unfold State.get; rw [State.setGrp_rd]
@[simp] theorem State.setGrp_flag (s : State) (k : Nat) (g : Grp) (f' : Fld) (x y : Nat) : (s.setGrp k g).flag f' x y = s.flag f' x y := by
  unfold State.flag; rw [State.setGrp_get]

@[simp] theorem State.mapCmds_now (s : State) (f : Cmd → Cmd) : (s.mapCmds f).now = s.now := rfl
@[simp] theorem State.mapCmds_free (s : State) (f : Cmd → Cmd) : (s.mapCmds f).free = s.free := rfl
@[simp] theorem State.mapCmds_pending (s : State) (f : Cmd → Cmd) : (s.mapCmds f).pending = s.pending := rfl
@[simp] theorem State.mapCmds_regs (s : State) (f : Cmd → Cmd) : (s.mapCmds f).regs = s.regs := rfl
@[simp] theorem State.mapCmds_mem (s : State) (f : Cmd → Cmd) : (s.mapCmds f).mem = s.mem := rfl
@[simp] theorem State.mapCmds_imsic (s : State) (f : Cmd → Cmd) : (s.mapCmds f).imsic = s.imsic := rfl
@[simp] theorem State.mapCmds_imsicEn (s : State) (f : Cmd → Cmd) : (s.mapCmds f).imsicEn = s.imsicEn := rfl
@[simp] theorem State.mapCmds_bus (s : State) (f : Cmd → Cmd) : (s.mapCmds f).bus = s.bus := rfl
@[simp] theorem State.mapCmds_tbu (s : State) (f : Cmd → Cmd) : (s.mapCmds f).tbu = s.tbu := rfl
@[simp] theorem State.mapCmds_cfg (s : State) (f : Cmd → Cmd) : (s.mapCmds f).cfg = s.cfg := rfl
@[simp] theorem State.mapCmds_pda (s : State) (f : Cmd → Cmd) : (s.mapCmds f).pda = s.pda := rfl
@[simp] theorem State.mapCmds_pe (s : State) (f : Cmd → Cmd) : (s.mapCmds f).pe = s.pe := rfl
@[simp] theorem State.mapCmds_esw (s : State) (f : Cmd → Cmd) : (s.mapCmds f).esw = s.esw := rfl
@[simp] theorem State.mapCmds_fbc (s : State) (f : Cmd → Cmd) : (s.mapCmds f).fbc = s.fbc := rfl
@[simp] theorem State.mapCmds_sgw (s : State) (f : Cmd → Cmd) : (s.mapCmds f).sgw = s.sgw := rfl
@[simp] theorem State.mapCmds_plb (s : State) (f : Cmd → Cmd) : (s.mapCmds f).plb = s.plb := rfl
@[simp] theorem State.mapCmds_cc (s : State) (f : Cmd → Cmd) : (s.mapCmds f).cc = s.cc := rfl
@[simp] theorem State.mapCmds_ms (s : State) (f : Cmd → Cmd) : (s.mapCmds f).ms = s.ms := rfl
@[simp] theorem State.mapCmds_sec (s : State) (f : Cmd → Cmd) : (s.mapCmds f).sec = s.sec := rfl
@[simp] theorem State.mapCmds_fcu (s : State) (f : Cmd → Cmd) : (s.mapCmds f).fcu = s.fcu := rfl
@[simp] theorem State.mapCmds_pcs (s : State) (f : Cmd → Cmd) : (s.mapCmds f).pcs = s.pcs := rfl
@[simp] theorem State.mapCmds_dbg (s : State) (f : Cmd → Cmd) : (s.mapCmds f).dbg = s.dbg := rfl
@[simp] theorem State.mapCmds_coreRuns (s : State) (f : Cmd → Cmd) : (s.mapCmds f).coreRuns = s.coreRuns :=
  coreRuns_congr (State.mapCmds_pcs ..)
@[simp] theorem State.mapCmds_asleep (s : State) (f : Cmd → Cmd) : (s.mapCmds f).asleep = s.asleep :=
  asleep_congr (State.mapCmds_pcs ..)
@[simp] theorem State.mapCmds_chan (s : State) (f : Cmd → Cmd) (m : Nat) : (s.mapCmds f).chan m = s.chan m := by
  unfold State.chan; rw [State.mapCmds_pda]
@[simp] theorem State.mapCmds_grp (s : State) (f : Cmd → Cmd) (m : Nat) : (s.mapCmds f).grp m = s.grp m := by
  unfold State.grp; rw [State.mapCmds_pda]
@[simp] theorem State.mapCmds_rd (s : State) (f : Cmd → Cmd) (r : Reg) (x y : Nat) : (s.mapCmds f).rd r x y = s.rd r x y := by
  unfold State.rd; rw [State.mapCmds_regs]
@[simp] theorem State.mapCmds_get (s : State) (f : Cmd → Cmd) (f' : Fld) (x y : Nat) : (s.mapCmds f).get f' x y = s.get f' x y := by
  unfold State.get; rw [State.mapCmds_rd]
@[simp] theorem State.mapCmds_flag (s : State) (f : Cmd → Cmd) (f' : Fld) (x y : Nat) : (s.mapCmds f).flag f' x y = s.flag f' x y := by
  unfold State.flag; rw [State.mapCmds_get]

@[simp] theorem State.setStage_now (s : State) (q : Nat) (t : Stage) : (s.setStage q t).now = s.now := rfl
@[simp] theorem State.setStage_free (s : State) (q : Nat) (t : Stage) : (s.setStage q t).free = s.free := rfl
@[simp] theorem State.setStage_pending (s : State) (q : Nat) (t : Stage) : (s.setStage q t).pending = s.pending := rfl
@[simp] theorem State.setStage_regs (s : State) (q : Nat) (t : Stage) : (s.setStage q t).regs = s.regs := rfl
@[simp] theorem State.setStage_mem (s : State) (q : Nat) (t : Stage) : (s.setStage q t).mem = s.mem := rfl
@[simp] theorem State.setStage_imsic (s : State) (q : Nat) (t : Stage) : (s.setStage q t).imsic = s.imsic := rfl
@[simp] theorem State.setStage_imsicEn (s : State) (q : Nat) (t : Stage) : (s.setStage q t).imsicEn = s.imsicEn := rfl
@[simp] theorem State.setStage_bus (s : State) (q : Nat) (t : Stage) : (s.setStage q t).bus = s.bus := rfl
@[simp] theorem State.setStage_tbu (s : State) (q : Nat) (t : Stage) : (s.setStage q t).tbu = s.tbu := rfl
@[simp] theorem State.setStage_cfg (s : State) (q : Nat) (t : Stage) : (s.setStage q t).cfg = s.cfg := rfl
@[simp] theorem State.setStage_pda (s : State) (q : Nat) (t : Stage) : (s.setStage q t).pda = s.pda := rfl
@[simp] theorem State.setStage_pe (s : State) (q : Nat) (t : Stage) : (s.setStage q t).pe = s.pe := rfl
@[simp] theorem State.setStage_esw (s : State) (q : Nat) (t : Stage) : (s.setStage q t).esw = s.esw := rfl
@[simp] theorem State.setStage_fbc (s : State) (q : Nat) (t : Stage) : (s.setStage q t).fbc = s.fbc := rfl
@[simp] theorem State.setStage_sgw (s : State) (q : Nat) (t : Stage) : (s.setStage q t).sgw = s.sgw := rfl
@[simp] theorem State.setStage_plb (s : State) (q : Nat) (t : Stage) : (s.setStage q t).plb = s.plb := rfl
@[simp] theorem State.setStage_cc (s : State) (q : Nat) (t : Stage) : (s.setStage q t).cc = s.cc := rfl
@[simp] theorem State.setStage_ms (s : State) (q : Nat) (t : Stage) : (s.setStage q t).ms = s.ms := rfl
@[simp] theorem State.setStage_sec (s : State) (q : Nat) (t : Stage) : (s.setStage q t).sec = s.sec := rfl
@[simp] theorem State.setStage_fcu (s : State) (q : Nat) (t : Stage) : (s.setStage q t).fcu = s.fcu := rfl
@[simp] theorem State.setStage_pcs (s : State) (q : Nat) (t : Stage) : (s.setStage q t).pcs = s.pcs := rfl
@[simp] theorem State.setStage_dbg (s : State) (q : Nat) (t : Stage) : (s.setStage q t).dbg = s.dbg := rfl
@[simp] theorem State.setStage_coreRuns (s : State) (q : Nat) (t : Stage) : (s.setStage q t).coreRuns = s.coreRuns :=
  coreRuns_congr (State.setStage_pcs ..)
@[simp] theorem State.setStage_asleep (s : State) (q : Nat) (t : Stage) : (s.setStage q t).asleep = s.asleep :=
  asleep_congr (State.setStage_pcs ..)
@[simp] theorem State.setStage_chan (s : State) (q : Nat) (t : Stage) (m : Nat) : (s.setStage q t).chan m = s.chan m := by
  unfold State.chan; rw [State.setStage_pda]
@[simp] theorem State.setStage_grp (s : State) (q : Nat) (t : Stage) (m : Nat) : (s.setStage q t).grp m = s.grp m := by
  unfold State.grp; rw [State.setStage_pda]
@[simp] theorem State.setStage_rd (s : State) (q : Nat) (t : Stage) (r : Reg) (x y : Nat) : (s.setStage q t).rd r x y = s.rd r x y := by
  unfold State.rd; rw [State.setStage_regs]
@[simp] theorem State.setStage_get (s : State) (q : Nat) (t : Stage) (f' : Fld) (x y : Nat) : (s.setStage q t).get f' x y = s.get f' x y := by
  unfold State.get; rw [State.setStage_rd]
@[simp] theorem State.setStage_flag (s : State) (q : Nat) (t : Stage) (f' : Fld) (x y : Nat) : (s.setStage q t).flag f' x y = s.flag f' x y := by
  unfold State.flag; rw [State.setStage_get]

@[simp] theorem State.setAux_now (s : State) (q n : Nat) : (s.setAux q n).now = s.now := rfl
@[simp] theorem State.setAux_free (s : State) (q n : Nat) : (s.setAux q n).free = s.free := rfl
@[simp] theorem State.setAux_pending (s : State) (q n : Nat) : (s.setAux q n).pending = s.pending := rfl
@[simp] theorem State.setAux_regs (s : State) (q n : Nat) : (s.setAux q n).regs = s.regs := rfl
@[simp] theorem State.setAux_mem (s : State) (q n : Nat) : (s.setAux q n).mem = s.mem := rfl
@[simp] theorem State.setAux_imsic (s : State) (q n : Nat) : (s.setAux q n).imsic = s.imsic := rfl
@[simp] theorem State.setAux_imsicEn (s : State) (q n : Nat) : (s.setAux q n).imsicEn = s.imsicEn := rfl
@[simp] theorem State.setAux_bus (s : State) (q n : Nat) : (s.setAux q n).bus = s.bus := rfl
@[simp] theorem State.setAux_tbu (s : State) (q n : Nat) : (s.setAux q n).tbu = s.tbu := rfl
@[simp] theorem State.setAux_cfg (s : State) (q n : Nat) : (s.setAux q n).cfg = s.cfg := rfl
@[simp] theorem State.setAux_pda (s : State) (q n : Nat) : (s.setAux q n).pda = s.pda := rfl
@[simp] theorem State.setAux_pe (s : State) (q n : Nat) : (s.setAux q n).pe = s.pe := rfl
@[simp] theorem State.setAux_esw (s : State) (q n : Nat) : (s.setAux q n).esw = s.esw := rfl
@[simp] theorem State.setAux_fbc (s : State) (q n : Nat) : (s.setAux q n).fbc = s.fbc := rfl
@[simp] theorem State.setAux_sgw (s : State) (q n : Nat) : (s.setAux q n).sgw = s.sgw := rfl
@[simp] theorem State.setAux_plb (s : State) (q n : Nat) : (s.setAux q n).plb = s.plb := rfl
@[simp] theorem State.setAux_cc (s : State) (q n : Nat) : (s.setAux q n).cc = s.cc := rfl
@[simp] theorem State.setAux_ms (s : State) (q n : Nat) : (s.setAux q n).ms = s.ms := rfl
@[simp] theorem State.setAux_sec (s : State) (q n : Nat) : (s.setAux q n).sec = s.sec := rfl
@[simp] theorem State.setAux_fcu (s : State) (q n : Nat) : (s.setAux q n).fcu = s.fcu := rfl
@[simp] theorem State.setAux_pcs (s : State) (q n : Nat) : (s.setAux q n).pcs = s.pcs := rfl
@[simp] theorem State.setAux_dbg (s : State) (q n : Nat) : (s.setAux q n).dbg = s.dbg := rfl
@[simp] theorem State.setAux_coreRuns (s : State) (q n : Nat) : (s.setAux q n).coreRuns = s.coreRuns :=
  coreRuns_congr (State.setAux_pcs ..)
@[simp] theorem State.setAux_asleep (s : State) (q n : Nat) : (s.setAux q n).asleep = s.asleep :=
  asleep_congr (State.setAux_pcs ..)
@[simp] theorem State.setAux_chan (s : State) (q n : Nat) (m : Nat) : (s.setAux q n).chan m = s.chan m := by
  unfold State.chan; rw [State.setAux_pda]
@[simp] theorem State.setAux_grp (s : State) (q n : Nat) (m : Nat) : (s.setAux q n).grp m = s.grp m := by
  unfold State.grp; rw [State.setAux_pda]
@[simp] theorem State.setAux_rd (s : State) (q n : Nat) (r : Reg) (x y : Nat) : (s.setAux q n).rd r x y = s.rd r x y := by
  unfold State.rd; rw [State.setAux_regs]
@[simp] theorem State.setAux_get (s : State) (q n : Nat) (f' : Fld) (x y : Nat) : (s.setAux q n).get f' x y = s.get f' x y := by
  unfold State.get; rw [State.setAux_rd]
@[simp] theorem State.setAux_flag (s : State) (q n : Nat) (f' : Fld) (x y : Nat) : (s.setAux q n).flag f' x y = s.flag f' x y := by
  unfold State.flag; rw [State.setAux_get]

@[simp] theorem State.setFn_now (s : State) (k : Nat) (f : Fn) : (s.setFn k f).now = s.now := rfl
@[simp] theorem State.setFn_free (s : State) (k : Nat) (f : Fn) : (s.setFn k f).free = s.free := rfl
@[simp] theorem State.setFn_pending (s : State) (k : Nat) (f : Fn) : (s.setFn k f).pending = s.pending := rfl
@[simp] theorem State.setFn_regs (s : State) (k : Nat) (f : Fn) : (s.setFn k f).regs = s.regs := rfl
@[simp] theorem State.setFn_mem (s : State) (k : Nat) (f : Fn) : (s.setFn k f).mem = s.mem := rfl
@[simp] theorem State.setFn_imsic (s : State) (k : Nat) (f : Fn) : (s.setFn k f).imsic = s.imsic := rfl
@[simp] theorem State.setFn_imsicEn (s : State) (k : Nat) (f : Fn) : (s.setFn k f).imsicEn = s.imsicEn := rfl
@[simp] theorem State.setFn_bus (s : State) (k : Nat) (f : Fn) : (s.setFn k f).bus = s.bus := rfl
@[simp] theorem State.setFn_tbu (s : State) (k : Nat) (f : Fn) : (s.setFn k f).tbu = s.tbu := rfl
@[simp] theorem State.setFn_cfg (s : State) (k : Nat) (f : Fn) : (s.setFn k f).cfg = s.cfg := rfl
@[simp] theorem State.setFn_pda (s : State) (k : Nat) (f : Fn) : (s.setFn k f).pda = s.pda := rfl
@[simp] theorem State.setFn_pe (s : State) (k : Nat) (f : Fn) : (s.setFn k f).pe = s.pe := rfl
@[simp] theorem State.setFn_esw (s : State) (k : Nat) (f : Fn) : (s.setFn k f).esw = s.esw := rfl
@[simp] theorem State.setFn_fbc (s : State) (k : Nat) (f : Fn) : (s.setFn k f).fbc = s.fbc := rfl
@[simp] theorem State.setFn_sgw (s : State) (k : Nat) (f : Fn) : (s.setFn k f).sgw = s.sgw := rfl
@[simp] theorem State.setFn_plb (s : State) (k : Nat) (f : Fn) : (s.setFn k f).plb = s.plb := rfl
@[simp] theorem State.setFn_cc (s : State) (k : Nat) (f : Fn) : (s.setFn k f).cc = s.cc := rfl
@[simp] theorem State.setFn_ms (s : State) (k : Nat) (f : Fn) : (s.setFn k f).ms = s.ms := rfl
@[simp] theorem State.setFn_sec (s : State) (k : Nat) (f : Fn) : (s.setFn k f).sec = s.sec := rfl
@[simp] theorem State.setFn_fcu (s : State) (k : Nat) (f : Fn) : (s.setFn k f).fcu = s.fcu := rfl
@[simp] theorem State.setFn_pcs (s : State) (k : Nat) (f : Fn) : (s.setFn k f).pcs = s.pcs := rfl
@[simp] theorem State.setFn_dbg (s : State) (k : Nat) (f : Fn) : (s.setFn k f).dbg = s.dbg := rfl
@[simp] theorem State.setFn_coreRuns (s : State) (k : Nat) (f : Fn) : (s.setFn k f).coreRuns = s.coreRuns :=
  coreRuns_congr (State.setFn_pcs ..)
@[simp] theorem State.setFn_asleep (s : State) (k : Nat) (f : Fn) : (s.setFn k f).asleep = s.asleep :=
  asleep_congr (State.setFn_pcs ..)
@[simp] theorem State.setFn_chan (s : State) (k : Nat) (f : Fn) (m : Nat) : (s.setFn k f).chan m = s.chan m := by
  unfold State.chan; rw [State.setFn_pda]
@[simp] theorem State.setFn_grp (s : State) (k : Nat) (f : Fn) (m : Nat) : (s.setFn k f).grp m = s.grp m := by
  unfold State.grp; rw [State.setFn_pda]
@[simp] theorem State.setFn_rd (s : State) (k : Nat) (f : Fn) (r : Reg) (x y : Nat) : (s.setFn k f).rd r x y = s.rd r x y := by
  unfold State.rd; rw [State.setFn_regs]
@[simp] theorem State.setFn_get (s : State) (k : Nat) (f : Fn) (f' : Fld) (x y : Nat) : (s.setFn k f).get f' x y = s.get f' x y := by
  unfold State.get; rw [State.setFn_rd]
@[simp] theorem State.setFn_flag (s : State) (k : Nat) (f : Fn) (f' : Fld) (x y : Nat) : (s.setFn k f).flag f' x y = s.flag f' x y := by
  unfold State.flag; rw [State.setFn_get]

@[simp] theorem State.setQp_now (s : State) (k q : Nat) (z : Qp) : (s.setQp k q z).now = s.now := rfl
@[simp] theorem State.setQp_free (s : State) (k q : Nat) (z : Qp) : (s.setQp k q z).free = s.free := rfl
@[simp] theorem State.setQp_pending (s : State) (k q : Nat) (z : Qp) : (s.setQp k q z).pending = s.pending := rfl
@[simp] theorem State.setQp_regs (s : State) (k q : Nat) (z : Qp) : (s.setQp k q z).regs = s.regs := rfl
@[simp] theorem State.setQp_mem (s : State) (k q : Nat) (z : Qp) : (s.setQp k q z).mem = s.mem := rfl
@[simp] theorem State.setQp_imsic (s : State) (k q : Nat) (z : Qp) : (s.setQp k q z).imsic = s.imsic := rfl
@[simp] theorem State.setQp_imsicEn (s : State) (k q : Nat) (z : Qp) : (s.setQp k q z).imsicEn = s.imsicEn := rfl
@[simp] theorem State.setQp_bus (s : State) (k q : Nat) (z : Qp) : (s.setQp k q z).bus = s.bus := rfl
@[simp] theorem State.setQp_tbu (s : State) (k q : Nat) (z : Qp) : (s.setQp k q z).tbu = s.tbu := rfl
@[simp] theorem State.setQp_cfg (s : State) (k q : Nat) (z : Qp) : (s.setQp k q z).cfg = s.cfg := rfl
@[simp] theorem State.setQp_pda (s : State) (k q : Nat) (z : Qp) : (s.setQp k q z).pda = s.pda := rfl
@[simp] theorem State.setQp_pe (s : State) (k q : Nat) (z : Qp) : (s.setQp k q z).pe = s.pe := rfl
@[simp] theorem State.setQp_esw (s : State) (k q : Nat) (z : Qp) : (s.setQp k q z).esw = s.esw := rfl
@[simp] theorem State.setQp_fbc (s : State) (k q : Nat) (z : Qp) : (s.setQp k q z).fbc = s.fbc := rfl
@[simp] theorem State.setQp_sgw (s : State) (k q : Nat) (z : Qp) : (s.setQp k q z).sgw = s.sgw := rfl
@[simp] theorem State.setQp_plb (s : State) (k q : Nat) (z : Qp) : (s.setQp k q z).plb = s.plb := rfl
@[simp] theorem State.setQp_cc (s : State) (k q : Nat) (z : Qp) : (s.setQp k q z).cc = s.cc := rfl
@[simp] theorem State.setQp_ms (s : State) (k q : Nat) (z : Qp) : (s.setQp k q z).ms = s.ms := rfl
@[simp] theorem State.setQp_sec (s : State) (k q : Nat) (z : Qp) : (s.setQp k q z).sec = s.sec := rfl
@[simp] theorem State.setQp_fcu (s : State) (k q : Nat) (z : Qp) : (s.setQp k q z).fcu = s.fcu := rfl
@[simp] theorem State.setQp_pcs (s : State) (k q : Nat) (z : Qp) : (s.setQp k q z).pcs = s.pcs := rfl
@[simp] theorem State.setQp_dbg (s : State) (k q : Nat) (z : Qp) : (s.setQp k q z).dbg = s.dbg := rfl
@[simp] theorem State.setQp_coreRuns (s : State) (k q : Nat) (z : Qp) : (s.setQp k q z).coreRuns = s.coreRuns :=
  coreRuns_congr (State.setQp_pcs ..)
@[simp] theorem State.setQp_asleep (s : State) (k q : Nat) (z : Qp) : (s.setQp k q z).asleep = s.asleep :=
  asleep_congr (State.setQp_pcs ..)
@[simp] theorem State.setQp_chan (s : State) (k q : Nat) (z : Qp) (m : Nat) : (s.setQp k q z).chan m = s.chan m := by
  unfold State.chan; rw [State.setQp_pda]
@[simp] theorem State.setQp_grp (s : State) (k q : Nat) (z : Qp) (m : Nat) : (s.setQp k q z).grp m = s.grp m := by
  unfold State.grp; rw [State.setQp_pda]
@[simp] theorem State.setQp_rd (s : State) (k q : Nat) (z : Qp) (r : Reg) (x y : Nat) : (s.setQp k q z).rd r x y = s.rd r x y := by
  unfold State.rd; rw [State.setQp_regs]
@[simp] theorem State.setQp_get (s : State) (k q : Nat) (z : Qp) (f' : Fld) (x y : Nat) : (s.setQp k q z).get f' x y = s.get f' x y := by
  unfold State.get; rw [State.setQp_rd]
@[simp] theorem State.setQp_flag (s : State) (k q : Nat) (z : Qp) (f' : Fld) (x y : Nat) : (s.setQp k q z).flag f' x y = s.flag f' x y := by
  unfold State.flag; rw [State.setQp_get]

@[simp] theorem State.setOwner_now (s : State) (k i f : Nat) : (s.setOwner k i f).now = s.now := rfl
@[simp] theorem State.setOwner_free (s : State) (k i f : Nat) : (s.setOwner k i f).free = s.free := rfl
@[simp] theorem State.setOwner_pending (s : State) (k i f : Nat) : (s.setOwner k i f).pending = s.pending := rfl
@[simp] theorem State.setOwner_regs (s : State) (k i f : Nat) : (s.setOwner k i f).regs = s.regs := rfl
@[simp] theorem State.setOwner_mem (s : State) (k i f : Nat) : (s.setOwner k i f).mem = s.mem := rfl
@[simp] theorem State.setOwner_imsic (s : State) (k i f : Nat) : (s.setOwner k i f).imsic = s.imsic := rfl
@[simp] theorem State.setOwner_imsicEn (s : State) (k i f : Nat) : (s.setOwner k i f).imsicEn = s.imsicEn := rfl
@[simp] theorem State.setOwner_bus (s : State) (k i f : Nat) : (s.setOwner k i f).bus = s.bus := rfl
@[simp] theorem State.setOwner_tbu (s : State) (k i f : Nat) : (s.setOwner k i f).tbu = s.tbu := rfl
@[simp] theorem State.setOwner_cfg (s : State) (k i f : Nat) : (s.setOwner k i f).cfg = s.cfg := rfl
@[simp] theorem State.setOwner_pda (s : State) (k i f : Nat) : (s.setOwner k i f).pda = s.pda := rfl
@[simp] theorem State.setOwner_pe (s : State) (k i f : Nat) : (s.setOwner k i f).pe = s.pe := rfl
@[simp] theorem State.setOwner_esw (s : State) (k i f : Nat) : (s.setOwner k i f).esw = s.esw := rfl
@[simp] theorem State.setOwner_fbc (s : State) (k i f : Nat) : (s.setOwner k i f).fbc = s.fbc := rfl
@[simp] theorem State.setOwner_sgw (s : State) (k i f : Nat) : (s.setOwner k i f).sgw = s.sgw := rfl
@[simp] theorem State.setOwner_plb (s : State) (k i f : Nat) : (s.setOwner k i f).plb = s.plb := rfl
@[simp] theorem State.setOwner_cc (s : State) (k i f : Nat) : (s.setOwner k i f).cc = s.cc := rfl
@[simp] theorem State.setOwner_ms (s : State) (k i f : Nat) : (s.setOwner k i f).ms = s.ms := rfl
@[simp] theorem State.setOwner_sec (s : State) (k i f : Nat) : (s.setOwner k i f).sec = s.sec := rfl
@[simp] theorem State.setOwner_fcu (s : State) (k i f : Nat) : (s.setOwner k i f).fcu = s.fcu := rfl
@[simp] theorem State.setOwner_pcs (s : State) (k i f : Nat) : (s.setOwner k i f).pcs = s.pcs := rfl
@[simp] theorem State.setOwner_dbg (s : State) (k i f : Nat) : (s.setOwner k i f).dbg = s.dbg := rfl
@[simp] theorem State.setOwner_coreRuns (s : State) (k i f : Nat) : (s.setOwner k i f).coreRuns = s.coreRuns :=
  coreRuns_congr (State.setOwner_pcs ..)
@[simp] theorem State.setOwner_asleep (s : State) (k i f : Nat) : (s.setOwner k i f).asleep = s.asleep :=
  asleep_congr (State.setOwner_pcs ..)
@[simp] theorem State.setOwner_chan (s : State) (k i f : Nat) (m : Nat) : (s.setOwner k i f).chan m = s.chan m := by
  unfold State.chan; rw [State.setOwner_pda]
@[simp] theorem State.setOwner_grp (s : State) (k i f : Nat) (m : Nat) : (s.setOwner k i f).grp m = s.grp m := by
  unfold State.grp; rw [State.setOwner_pda]
@[simp] theorem State.setOwner_rd (s : State) (k i f : Nat) (r : Reg) (x y : Nat) : (s.setOwner k i f).rd r x y = s.rd r x y := by
  unfold State.rd; rw [State.setOwner_regs]
@[simp] theorem State.setOwner_get (s : State) (k i f : Nat) (f' : Fld) (x y : Nat) : (s.setOwner k i f).get f' x y = s.get f' x y := by
  unfold State.get; rw [State.setOwner_rd]
@[simp] theorem State.setOwner_flag (s : State) (k i f : Nat) (f' : Fld) (x y : Nat) : (s.setOwner k i f).flag f' x y = s.flag f' x y := by
  unfold State.flag; rw [State.setOwner_get]

@[simp] theorem State.answer_now (s : State) (b : Option (List Byte)) : (s.answer b).now = s.now := rfl
@[simp] theorem State.answer_free (s : State) (b : Option (List Byte)) : (s.answer b).free = s.free := rfl
@[simp] theorem State.answer_pending (s : State) (b : Option (List Byte)) : (s.answer b).pending = s.pending := rfl
@[simp] theorem State.answer_regs (s : State) (b : Option (List Byte)) : (s.answer b).regs = s.regs := rfl
@[simp] theorem State.answer_mem (s : State) (b : Option (List Byte)) : (s.answer b).mem = s.mem := rfl
@[simp] theorem State.answer_imsic (s : State) (b : Option (List Byte)) : (s.answer b).imsic = s.imsic := rfl
@[simp] theorem State.answer_imsicEn (s : State) (b : Option (List Byte)) : (s.answer b).imsicEn = s.imsicEn := rfl
@[simp] theorem State.answer_tbu (s : State) (b : Option (List Byte)) : (s.answer b).tbu = s.tbu := rfl
@[simp] theorem State.answer_sf (s : State) (b : Option (List Byte)) : (s.answer b).sf = s.sf := rfl
@[simp] theorem State.answer_cfg (s : State) (b : Option (List Byte)) : (s.answer b).cfg = s.cfg := rfl
@[simp] theorem State.answer_pda (s : State) (b : Option (List Byte)) : (s.answer b).pda = s.pda := rfl
@[simp] theorem State.answer_pe (s : State) (b : Option (List Byte)) : (s.answer b).pe = s.pe := rfl
@[simp] theorem State.answer_esw (s : State) (b : Option (List Byte)) : (s.answer b).esw = s.esw := rfl
@[simp] theorem State.answer_fbc (s : State) (b : Option (List Byte)) : (s.answer b).fbc = s.fbc := rfl
@[simp] theorem State.answer_sgw (s : State) (b : Option (List Byte)) : (s.answer b).sgw = s.sgw := rfl
@[simp] theorem State.answer_plb (s : State) (b : Option (List Byte)) : (s.answer b).plb = s.plb := rfl
@[simp] theorem State.answer_cc (s : State) (b : Option (List Byte)) : (s.answer b).cc = s.cc := rfl
@[simp] theorem State.answer_ms (s : State) (b : Option (List Byte)) : (s.answer b).ms = s.ms := rfl
@[simp] theorem State.answer_sec (s : State) (b : Option (List Byte)) : (s.answer b).sec = s.sec := rfl
@[simp] theorem State.answer_fcu (s : State) (b : Option (List Byte)) : (s.answer b).fcu = s.fcu := rfl
@[simp] theorem State.answer_pcs (s : State) (b : Option (List Byte)) : (s.answer b).pcs = s.pcs := rfl
@[simp] theorem State.answer_dbg (s : State) (b : Option (List Byte)) : (s.answer b).dbg = s.dbg := rfl
@[simp] theorem State.answer_coreRuns (s : State) (b : Option (List Byte)) : (s.answer b).coreRuns = s.coreRuns :=
  coreRuns_congr (State.answer_pcs ..)
@[simp] theorem State.answer_asleep (s : State) (b : Option (List Byte)) : (s.answer b).asleep = s.asleep :=
  asleep_congr (State.answer_pcs ..)
@[simp] theorem State.answer_chan (s : State) (b : Option (List Byte)) (m : Nat) : (s.answer b).chan m = s.chan m := by
  unfold State.chan; rw [State.answer_pda]
@[simp] theorem State.answer_grp (s : State) (b : Option (List Byte)) (m : Nat) : (s.answer b).grp m = s.grp m := by
  unfold State.grp; rw [State.answer_pda]
@[simp] theorem State.answer_rd (s : State) (b : Option (List Byte)) (r : Reg) (x y : Nat) : (s.answer b).rd r x y = s.rd r x y := by
  unfold State.rd; rw [State.answer_regs]
@[simp] theorem State.answer_get (s : State) (b : Option (List Byte)) (f' : Fld) (x y : Nat) : (s.answer b).get f' x y = s.get f' x y := by
  unfold State.get; rw [State.answer_rd]
@[simp] theorem State.answer_flag (s : State) (b : Option (List Byte)) (f' : Fld) (x y : Nat) : (s.answer b).flag f' x y = s.flag f' x y := by
  unfold State.flag; rw [State.answer_get]

@[simp] theorem State.ticks_free (s : State) (k : Nat) : (s.ticks k).free = s.free := by unfold State.ticks; extract_lets; split <;> rfl
@[simp] theorem State.ticks_pending (s : State) (k : Nat) : (s.ticks k).pending = s.pending := by unfold State.ticks; extract_lets; split <;> rfl
@[simp] theorem State.ticks_regs (s : State) (k : Nat) : (s.ticks k).regs = s.regs := by unfold State.ticks; extract_lets; split <;> rfl
@[simp] theorem State.ticks_mem (s : State) (k : Nat) : (s.ticks k).mem = s.mem := by unfold State.ticks; extract_lets; split <;> rfl
@[simp] theorem State.ticks_imsic (s : State) (k : Nat) : (s.ticks k).imsic = s.imsic := by unfold State.ticks; extract_lets; split <;> rfl
@[simp] theorem State.ticks_imsicEn (s : State) (k : Nat) : (s.ticks k).imsicEn = s.imsicEn := by unfold State.ticks; extract_lets; split <;> rfl
@[simp] theorem State.ticks_bus (s : State) (k : Nat) : (s.ticks k).bus = s.bus := by unfold State.ticks; extract_lets; split <;> rfl
@[simp] theorem State.ticks_sf (s : State) (k : Nat) : (s.ticks k).sf = s.sf := by unfold State.ticks; extract_lets; split <;> rfl
@[simp] theorem State.ticks_cfg (s : State) (k : Nat) : (s.ticks k).cfg = s.cfg := by unfold State.ticks; extract_lets; split <;> rfl
@[simp] theorem State.ticks_pda (s : State) (k : Nat) : (s.ticks k).pda = s.pda := by unfold State.ticks; extract_lets; split <;> rfl
@[simp] theorem State.ticks_pe (s : State) (k : Nat) : (s.ticks k).pe = s.pe := by unfold State.ticks; extract_lets; split <;> rfl
@[simp] theorem State.ticks_esw (s : State) (k : Nat) : (s.ticks k).esw = s.esw := by unfold State.ticks; extract_lets; split <;> rfl
@[simp] theorem State.ticks_fbc (s : State) (k : Nat) : (s.ticks k).fbc = s.fbc := by unfold State.ticks; extract_lets; split <;> rfl
@[simp] theorem State.ticks_sgw (s : State) (k : Nat) : (s.ticks k).sgw = s.sgw := by unfold State.ticks; extract_lets; split <;> rfl
@[simp] theorem State.ticks_plb (s : State) (k : Nat) : (s.ticks k).plb = s.plb := by unfold State.ticks; extract_lets; split <;> rfl
@[simp] theorem State.ticks_cc (s : State) (k : Nat) : (s.ticks k).cc = s.cc := by unfold State.ticks; extract_lets; split <;> rfl
@[simp] theorem State.ticks_ms (s : State) (k : Nat) : (s.ticks k).ms = s.ms := by unfold State.ticks; extract_lets; split <;> rfl
@[simp] theorem State.ticks_sec (s : State) (k : Nat) : (s.ticks k).sec = s.sec := by unfold State.ticks; extract_lets; split <;> rfl
@[simp] theorem State.ticks_fcu (s : State) (k : Nat) : (s.ticks k).fcu = s.fcu := by unfold State.ticks; extract_lets; split <;> rfl
@[simp] theorem State.ticks_pcs (s : State) (k : Nat) : (s.ticks k).pcs = s.pcs := by unfold State.ticks; extract_lets; split <;> rfl
@[simp] theorem State.ticks_dbg (s : State) (k : Nat) : (s.ticks k).dbg = s.dbg := by unfold State.ticks; extract_lets; split <;> rfl
@[simp] theorem State.ticks_coreRuns (s : State) (k : Nat) : (s.ticks k).coreRuns = s.coreRuns :=
  coreRuns_congr (State.ticks_pcs ..)
@[simp] theorem State.ticks_asleep (s : State) (k : Nat) : (s.ticks k).asleep = s.asleep :=
  asleep_congr (State.ticks_pcs ..)
@[simp] theorem State.ticks_chan (s : State) (k : Nat) (m : Nat) : (s.ticks k).chan m = s.chan m := by
  unfold State.chan; rw [State.ticks_pda]
@[simp] theorem State.ticks_grp (s : State) (k : Nat) (m : Nat) : (s.ticks k).grp m = s.grp m := by
  unfold State.grp; rw [State.ticks_pda]
@[simp] theorem State.ticks_rd (s : State) (k : Nat) (r : Reg) (x y : Nat) : (s.ticks k).rd r x y = s.rd r x y := by
  unfold State.rd; rw [State.ticks_regs]
@[simp] theorem State.ticks_get (s : State) (k : Nat) (f' : Fld) (x y : Nat) : (s.ticks k).get f' x y = s.get f' x y := by
  unfold State.get; rw [State.ticks_rd]
@[simp] theorem State.ticks_flag (s : State) (k : Nat) (f' : Fld) (x y : Nat) : (s.ticks k).flag f' x y = s.flag f' x y := by
  unfold State.flag; rw [State.ticks_get]

@[simp] theorem State.until_free (s : State) (t : Nat) : (s.until t).free = s.free := by unfold State.until; split <;> simp
@[simp] theorem State.until_pending (s : State) (t : Nat) : (s.until t).pending = s.pending := by unfold State.until; split <;> simp
@[simp] theorem State.until_regs (s : State) (t : Nat) : (s.until t).regs = s.regs := by unfold State.until; split <;> simp
@[simp] theorem State.until_mem (s : State) (t : Nat) : (s.until t).mem = s.mem := by unfold State.until; split <;> simp
@[simp] theorem State.until_imsic (s : State) (t : Nat) : (s.until t).imsic = s.imsic := by unfold State.until; split <;> simp
@[simp] theorem State.until_imsicEn (s : State) (t : Nat) : (s.until t).imsicEn = s.imsicEn := by unfold State.until; split <;> simp
@[simp] theorem State.until_bus (s : State) (t : Nat) : (s.until t).bus = s.bus := by unfold State.until; split <;> simp
@[simp] theorem State.until_sf (s : State) (t : Nat) : (s.until t).sf = s.sf := by unfold State.until; split <;> simp
@[simp] theorem State.until_cfg (s : State) (t : Nat) : (s.until t).cfg = s.cfg := by unfold State.until; split <;> simp
@[simp] theorem State.until_pda (s : State) (t : Nat) : (s.until t).pda = s.pda := by unfold State.until; split <;> simp
@[simp] theorem State.until_pe (s : State) (t : Nat) : (s.until t).pe = s.pe := by unfold State.until; split <;> simp
@[simp] theorem State.until_esw (s : State) (t : Nat) : (s.until t).esw = s.esw := by unfold State.until; split <;> simp
@[simp] theorem State.until_fbc (s : State) (t : Nat) : (s.until t).fbc = s.fbc := by unfold State.until; split <;> simp
@[simp] theorem State.until_sgw (s : State) (t : Nat) : (s.until t).sgw = s.sgw := by unfold State.until; split <;> simp
@[simp] theorem State.until_plb (s : State) (t : Nat) : (s.until t).plb = s.plb := by unfold State.until; split <;> simp
@[simp] theorem State.until_cc (s : State) (t : Nat) : (s.until t).cc = s.cc := by unfold State.until; split <;> simp
@[simp] theorem State.until_ms (s : State) (t : Nat) : (s.until t).ms = s.ms := by unfold State.until; split <;> simp
@[simp] theorem State.until_sec (s : State) (t : Nat) : (s.until t).sec = s.sec := by unfold State.until; split <;> simp
@[simp] theorem State.until_fcu (s : State) (t : Nat) : (s.until t).fcu = s.fcu := by unfold State.until; split <;> simp
@[simp] theorem State.until_pcs (s : State) (t : Nat) : (s.until t).pcs = s.pcs := by unfold State.until; split <;> simp
@[simp] theorem State.until_dbg (s : State) (t : Nat) : (s.until t).dbg = s.dbg := by unfold State.until; split <;> simp
@[simp] theorem State.until_coreRuns (s : State) (t : Nat) : (s.until t).coreRuns = s.coreRuns :=
  coreRuns_congr (State.until_pcs ..)
@[simp] theorem State.until_asleep (s : State) (t : Nat) : (s.until t).asleep = s.asleep :=
  asleep_congr (State.until_pcs ..)
@[simp] theorem State.until_chan (s : State) (t : Nat) (m : Nat) : (s.until t).chan m = s.chan m := by
  unfold State.chan; rw [State.until_pda]
@[simp] theorem State.until_grp (s : State) (t : Nat) (m : Nat) : (s.until t).grp m = s.grp m := by
  unfold State.grp; rw [State.until_pda]
@[simp] theorem State.until_rd (s : State) (t : Nat) (r : Reg) (x y : Nat) : (s.until t).rd r x y = s.rd r x y := by
  unfold State.rd; rw [State.until_regs]
@[simp] theorem State.until_get (s : State) (t : Nat) (f' : Fld) (x y : Nat) : (s.until t).get f' x y = s.get f' x y := by
  unfold State.get; rw [State.until_rd]
@[simp] theorem State.until_flag (s : State) (t : Nat) (f' : Fld) (x y : Nat) : (s.until t).flag f' x y = s.flag f' x y := by
  unfold State.flag; rw [State.until_get]

@[simp] theorem State.untilTd_free (s : State) (d t : Nat) : (s.untilTd d t).free = s.free := by unfold State.untilTd; extract_lets; split <;> simp
@[simp] theorem State.untilTd_pending (s : State) (d t : Nat) : (s.untilTd d t).pending = s.pending := by unfold State.untilTd; extract_lets; split <;> simp
@[simp] theorem State.untilTd_regs (s : State) (d t : Nat) : (s.untilTd d t).regs = s.regs := by unfold State.untilTd; extract_lets; split <;> simp
@[simp] theorem State.untilTd_mem (s : State) (d t : Nat) : (s.untilTd d t).mem = s.mem := by unfold State.untilTd; extract_lets; split <;> simp
@[simp] theorem State.untilTd_imsic (s : State) (d t : Nat) : (s.untilTd d t).imsic = s.imsic := by unfold State.untilTd; extract_lets; split <;> simp
@[simp] theorem State.untilTd_imsicEn (s : State) (d t : Nat) : (s.untilTd d t).imsicEn = s.imsicEn := by unfold State.untilTd; extract_lets; split <;> simp
@[simp] theorem State.untilTd_bus (s : State) (d t : Nat) : (s.untilTd d t).bus = s.bus := by unfold State.untilTd; extract_lets; split <;> simp
@[simp] theorem State.untilTd_sf (s : State) (d t : Nat) : (s.untilTd d t).sf = s.sf := by unfold State.untilTd; extract_lets; split <;> simp
@[simp] theorem State.untilTd_cfg (s : State) (d t : Nat) : (s.untilTd d t).cfg = s.cfg := by unfold State.untilTd; extract_lets; split <;> simp
@[simp] theorem State.untilTd_pda (s : State) (d t : Nat) : (s.untilTd d t).pda = s.pda := by unfold State.untilTd; extract_lets; split <;> simp
@[simp] theorem State.untilTd_pe (s : State) (d t : Nat) : (s.untilTd d t).pe = s.pe := by unfold State.untilTd; extract_lets; split <;> simp
@[simp] theorem State.untilTd_esw (s : State) (d t : Nat) : (s.untilTd d t).esw = s.esw := by unfold State.untilTd; extract_lets; split <;> simp
@[simp] theorem State.untilTd_fbc (s : State) (d t : Nat) : (s.untilTd d t).fbc = s.fbc := by unfold State.untilTd; extract_lets; split <;> simp
@[simp] theorem State.untilTd_sgw (s : State) (d t : Nat) : (s.untilTd d t).sgw = s.sgw := by unfold State.untilTd; extract_lets; split <;> simp
@[simp] theorem State.untilTd_plb (s : State) (d t : Nat) : (s.untilTd d t).plb = s.plb := by unfold State.untilTd; extract_lets; split <;> simp
@[simp] theorem State.untilTd_cc (s : State) (d t : Nat) : (s.untilTd d t).cc = s.cc := by unfold State.untilTd; extract_lets; split <;> simp
@[simp] theorem State.untilTd_ms (s : State) (d t : Nat) : (s.untilTd d t).ms = s.ms := by unfold State.untilTd; extract_lets; split <;> simp
@[simp] theorem State.untilTd_sec (s : State) (d t : Nat) : (s.untilTd d t).sec = s.sec := by unfold State.untilTd; extract_lets; split <;> simp
@[simp] theorem State.untilTd_fcu (s : State) (d t : Nat) : (s.untilTd d t).fcu = s.fcu := by unfold State.untilTd; extract_lets; split <;> simp
@[simp] theorem State.untilTd_pcs (s : State) (d t : Nat) : (s.untilTd d t).pcs = s.pcs := by unfold State.untilTd; extract_lets; split <;> simp
@[simp] theorem State.untilTd_dbg (s : State) (d t : Nat) : (s.untilTd d t).dbg = s.dbg := by unfold State.untilTd; extract_lets; split <;> simp
@[simp] theorem State.untilTd_coreRuns (s : State) (d t : Nat) : (s.untilTd d t).coreRuns = s.coreRuns :=
  coreRuns_congr (State.untilTd_pcs ..)
@[simp] theorem State.untilTd_asleep (s : State) (d t : Nat) : (s.untilTd d t).asleep = s.asleep :=
  asleep_congr (State.untilTd_pcs ..)
@[simp] theorem State.untilTd_chan (s : State) (d t : Nat) (m : Nat) : (s.untilTd d t).chan m = s.chan m := by
  unfold State.chan; rw [State.untilTd_pda]
@[simp] theorem State.untilTd_grp (s : State) (d t : Nat) (m : Nat) : (s.untilTd d t).grp m = s.grp m := by
  unfold State.grp; rw [State.untilTd_pda]
@[simp] theorem State.untilTd_rd (s : State) (d t : Nat) (r : Reg) (x y : Nat) : (s.untilTd d t).rd r x y = s.rd r x y := by
  unfold State.rd; rw [State.untilTd_regs]
@[simp] theorem State.untilTd_get (s : State) (d t : Nat) (f' : Fld) (x y : Nat) : (s.untilTd d t).get f' x y = s.get f' x y := by
  unfold State.get; rw [State.untilTd_rd]
@[simp] theorem State.untilTd_flag (s : State) (d t : Nat) (f' : Fld) (x y : Nat) : (s.untilTd d t).flag f' x y = s.flag f' x y := by
  unfold State.flag; rw [State.untilTd_get]

@[simp] theorem State.count_now (s : State) (e n : Nat) : (s.count e n).now = s.now := by unfold State.count; extract_lets; split <;> rfl
@[simp] theorem State.count_free (s : State) (e n : Nat) : (s.count e n).free = s.free := by unfold State.count; extract_lets; split <;> rfl
@[simp] theorem State.count_pending (s : State) (e n : Nat) : (s.count e n).pending = s.pending := by unfold State.count; extract_lets; split <;> rfl
@[simp] theorem State.count_regs (s : State) (e n : Nat) : (s.count e n).regs = s.regs := by unfold State.count; extract_lets; split <;> rfl
@[simp] theorem State.count_mem (s : State) (e n : Nat) : (s.count e n).mem = s.mem := by unfold State.count; extract_lets; split <;> rfl
@[simp] theorem State.count_imsic (s : State) (e n : Nat) : (s.count e n).imsic = s.imsic := by unfold State.count; extract_lets; split <;> rfl
@[simp] theorem State.count_imsicEn (s : State) (e n : Nat) : (s.count e n).imsicEn = s.imsicEn := by unfold State.count; extract_lets; split <;> rfl
@[simp] theorem State.count_bus (s : State) (e n : Nat) : (s.count e n).bus = s.bus := by unfold State.count; extract_lets; split <;> rfl
@[simp] theorem State.count_tbu (s : State) (e n : Nat) : (s.count e n).tbu = s.tbu := by unfold State.count; extract_lets; split <;> rfl
@[simp] theorem State.count_sf (s : State) (e n : Nat) : (s.count e n).sf = s.sf := by unfold State.count; extract_lets; split <;> rfl
@[simp] theorem State.count_cfg (s : State) (e n : Nat) : (s.count e n).cfg = s.cfg := by unfold State.count; extract_lets; split <;> rfl
@[simp] theorem State.count_pda (s : State) (e n : Nat) : (s.count e n).pda = s.pda := by unfold State.count; extract_lets; split <;> rfl
@[simp] theorem State.count_pe (s : State) (e n : Nat) : (s.count e n).pe = s.pe := by unfold State.count; extract_lets; split <;> rfl
@[simp] theorem State.count_esw (s : State) (e n : Nat) : (s.count e n).esw = s.esw := by unfold State.count; extract_lets; split <;> rfl
@[simp] theorem State.count_fbc (s : State) (e n : Nat) : (s.count e n).fbc = s.fbc := by unfold State.count; extract_lets; split <;> rfl
@[simp] theorem State.count_sgw (s : State) (e n : Nat) : (s.count e n).sgw = s.sgw := by unfold State.count; extract_lets; split <;> rfl
@[simp] theorem State.count_plb (s : State) (e n : Nat) : (s.count e n).plb = s.plb := by unfold State.count; extract_lets; split <;> rfl
@[simp] theorem State.count_cc (s : State) (e n : Nat) : (s.count e n).cc = s.cc := by unfold State.count; extract_lets; split <;> rfl
@[simp] theorem State.count_ms (s : State) (e n : Nat) : (s.count e n).ms = s.ms := by unfold State.count; extract_lets; split <;> rfl
@[simp] theorem State.count_sec (s : State) (e n : Nat) : (s.count e n).sec = s.sec := by unfold State.count; extract_lets; split <;> rfl
@[simp] theorem State.count_fcu (s : State) (e n : Nat) : (s.count e n).fcu = s.fcu := by unfold State.count; extract_lets; split <;> rfl
@[simp] theorem State.count_pcs (s : State) (e n : Nat) : (s.count e n).pcs = s.pcs := by unfold State.count; extract_lets; split <;> rfl
@[simp] theorem State.count_coreRuns (s : State) (e n : Nat) : (s.count e n).coreRuns = s.coreRuns :=
  coreRuns_congr (State.count_pcs ..)
@[simp] theorem State.count_asleep (s : State) (e n : Nat) : (s.count e n).asleep = s.asleep :=
  asleep_congr (State.count_pcs ..)
@[simp] theorem State.count_chan (s : State) (e n : Nat) (m : Nat) : (s.count e n).chan m = s.chan m := by
  unfold State.chan; rw [State.count_pda]
@[simp] theorem State.count_grp (s : State) (e n : Nat) (m : Nat) : (s.count e n).grp m = s.grp m := by
  unfold State.grp; rw [State.count_pda]
@[simp] theorem State.count_rd (s : State) (e n : Nat) (r : Reg) (x y : Nat) : (s.count e n).rd r x y = s.rd r x y := by
  unfold State.rd; rw [State.count_regs]
@[simp] theorem State.count_get (s : State) (e n : Nat) (f' : Fld) (x y : Nat) : (s.count e n).get f' x y = s.get f' x y := by
  unfold State.get; rw [State.count_rd]
@[simp] theorem State.count_flag (s : State) (e n : Nat) (f' : Fld) (x y : Nat) : (s.count e n).flag f' x y = s.flag f' x y := by
  unfold State.flag; rw [State.count_get]

@[simp] theorem State.fetched_now (s : State) (o : Nat) (q : Req) : (s.fetched o q).now = s.now := State.count_now s 422 1
@[simp] theorem State.fetched_free (s : State) (o : Nat) (q : Req) : (s.fetched o q).free = s.free := State.count_free s 422 1
@[simp] theorem State.fetched_pending (s : State) (o : Nat) (q : Req) : (s.fetched o q).pending = s.pending := State.count_pending s 422 1
@[simp] theorem State.fetched_regs (s : State) (o : Nat) (q : Req) : (s.fetched o q).regs = s.regs := State.count_regs s 422 1
@[simp] theorem State.fetched_mem (s : State) (o : Nat) (q : Req) : (s.fetched o q).mem = s.mem := State.count_mem s 422 1
@[simp] theorem State.fetched_imsic (s : State) (o : Nat) (q : Req) : (s.fetched o q).imsic = s.imsic := State.count_imsic s 422 1
@[simp] theorem State.fetched_imsicEn (s : State) (o : Nat) (q : Req) : (s.fetched o q).imsicEn = s.imsicEn := State.count_imsicEn s 422 1
@[simp] theorem State.fetched_bus (s : State) (o : Nat) (q : Req) : (s.fetched o q).bus = s.bus := State.count_bus s 422 1
@[simp] theorem State.fetched_tbu (s : State) (o : Nat) (q : Req) : (s.fetched o q).tbu = s.tbu := State.count_tbu s 422 1
@[simp] theorem State.fetched_cfg (s : State) (o : Nat) (q : Req) : (s.fetched o q).cfg = s.cfg := State.count_cfg s 422 1
@[simp] theorem State.fetched_pda (s : State) (o : Nat) (q : Req) : (s.fetched o q).pda = s.pda := State.count_pda s 422 1
@[simp] theorem State.fetched_pe (s : State) (o : Nat) (q : Req) : (s.fetched o q).pe = s.pe := State.count_pe s 422 1
@[simp] theorem State.fetched_esw (s : State) (o : Nat) (q : Req) : (s.fetched o q).esw = s.esw := State.count_esw s 422 1
@[simp] theorem State.fetched_fbc (s : State) (o : Nat) (q : Req) : (s.fetched o q).fbc = s.fbc := State.count_fbc s 422 1
@[simp] theorem State.fetched_sgw (s : State) (o : Nat) (q : Req) : (s.fetched o q).sgw = s.sgw := State.count_sgw s 422 1
@[simp] theorem State.fetched_plb (s : State) (o : Nat) (q : Req) : (s.fetched o q).plb = s.plb := State.count_plb s 422 1
@[simp] theorem State.fetched_cc (s : State) (o : Nat) (q : Req) : (s.fetched o q).cc = s.cc := State.count_cc s 422 1
@[simp] theorem State.fetched_ms (s : State) (o : Nat) (q : Req) : (s.fetched o q).ms = s.ms := State.count_ms s 422 1
@[simp] theorem State.fetched_sec (s : State) (o : Nat) (q : Req) : (s.fetched o q).sec = s.sec := State.count_sec s 422 1
@[simp] theorem State.fetched_fcu (s : State) (o : Nat) (q : Req) : (s.fetched o q).fcu = s.fcu := State.count_fcu s 422 1
@[simp] theorem State.fetched_pcs (s : State) (o : Nat) (q : Req) : (s.fetched o q).pcs = s.pcs := State.count_pcs s 422 1
@[simp] theorem State.fetched_coreRuns (s : State) (o : Nat) (q : Req) : (s.fetched o q).coreRuns = s.coreRuns :=
  coreRuns_congr (State.fetched_pcs ..)
@[simp] theorem State.fetched_asleep (s : State) (o : Nat) (q : Req) : (s.fetched o q).asleep = s.asleep :=
  asleep_congr (State.fetched_pcs ..)
@[simp] theorem State.fetched_chan (s : State) (o : Nat) (q : Req) (m : Nat) : (s.fetched o q).chan m = s.chan m := by
  unfold State.chan; rw [State.fetched_pda]
@[simp] theorem State.fetched_grp (s : State) (o : Nat) (q : Req) (m : Nat) : (s.fetched o q).grp m = s.grp m := by
  unfold State.grp; rw [State.fetched_pda]
@[simp] theorem State.fetched_rd (s : State) (o : Nat) (q : Req) (r : Reg) (x y : Nat) : (s.fetched o q).rd r x y = s.rd r x y := by
  unfold State.rd; rw [State.fetched_regs]
@[simp] theorem State.fetched_get (s : State) (o : Nat) (q : Req) (f' : Fld) (x y : Nat) : (s.fetched o q).get f' x y = s.get f' x y := by
  unfold State.get; rw [State.fetched_rd]
@[simp] theorem State.fetched_flag (s : State) (o : Nat) (q : Req) (f' : Fld) (x y : Nat) : (s.fetched o q).flag f' x y = s.flag f' x y := by
  unfold State.flag; rw [State.fetched_get]

end Sys2Proof.Machine
end

