-- ==== Sys2Proof/Laws/Ops.lean ====
section
/-! SUPPORT. Registers, channels and memory read back what was written, and a write leaves every other place alone; every
memory operation keeps the canonical form. -/

namespace Sys2Proof.Machine

/-! ### Memory -/

/-- Every memory byte write keeps the canonical form. -/
theorem setByte_wf {s : State} (h : Memory.wf s.mem = true) (a : Nat) (b : Byte) : Memory.wf (s.setByte a b).mem = true := by
  unfold Memory.wf at *
  simp only [Bool.and_eq_true] at *
  exact canonical_nput h.1 h.2

/-- Every memory write keeps the canonical form. -/
theorem setBytes_wf {s : State} (h : Memory.wf s.mem = true) (a : Nat) (d : List Byte) :
    Memory.wf (s.setBytes a d).mem = true := by
  induction d generalizing s a with
  | nil => exact h
  | cons b d ih => exact ih (setByte_wf h a b) (a + 1)

theorem byte_setByte (s : State) (a x : Nat) (b : Byte) : (s.setByte a b).byte x = if x = a then b else s.byte x :=
  ngetD_nput memDefault s.mem a x b

/-- A write of several bytes leaves every byte outside them as it was. -/
theorem byte_setBytes_out (s : State) (a x : Nat) (d : List Byte) (h : x < a ∨ a + d.length ≤ x) :
    (s.setBytes a d).byte x = s.byte x := by
  induction d generalizing s a with
  | nil => rfl
  | cons b d ih =>
    simp only [List.length_cons] at h
    show ((s.setByte a b).setBytes (a + 1) d).byte x = s.byte x
    rw [ih _ _ (by omega), byte_setByte, if_neg (by omega)]

/-- The bytes written read back. -/
theorem byte_setBytes_in (s : State) (a k : Nat) (d : List Byte) (h : k < d.length) :
    (s.setBytes a d).byte (a + k) = d[k] := by
  induction d generalizing s a k with
  | nil => simp at h
  | cons b d ih =>
    show ((s.setByte a b).setBytes (a + 1) d).byte (a + k) = _
    cases k with
    | zero => rw [byte_setBytes_out _ _ _ _ (by omega), byte_setByte, if_pos (by omega)]; rfl
    | succ k =>
      simp only [List.length_cons] at h
      rw [show a + (k + 1) = (a + 1) + k from by omega, ih _ _ _ (by omega)]
      rfl

theorem reset_wf : Memory.wf State.reset.mem = true := by decide

/-! ### Registers -/

theorem rd_wr (s : State) (r q : Reg) (v : Word) (i j x y : Nat) :
    (s.wr r v i j).rd q x y =
      if q.addr x y = r.addr i j then (if v = r.resetAt i then q.resetAt x else v) else s.rd q x y := by
  unfold State.wr State.rd ngetD
  simp only
  unfold nput
  split
  · rw [nfind_nerase]
    split <;> simp
  · rw [nfind_nset]
    split <;> simp

/-- The register just written reads the word written. -/
@[simp] theorem rd_wr_self (s : State) (r : Reg) (v : Word) (i j : Nat) : (s.wr r v i j).rd r i j = v := by
  rw [rd_wr, if_pos rfl]
  split
  · rename_i hv; exact hv.symm
  · rfl

/-- Every other register reads as before. -/
theorem rd_wr_other (s : State) {r q : Reg} (v : Word) {i j x y : Nat} (h : q.addr x y ≠ r.addr i j) :
    (s.wr r v i j).rd q x y = s.rd q x y := by rw [rd_wr, if_neg h]

theorem wr_sorted {s : State} (h : nsorted 0 s.regs = true) (r : Reg) (v : Word) (i j : Nat) :
    nsorted 0 (s.wr r v i j).regs = true := by
  unfold State.wr nput
  simp only
  split
  · exact nsorted_nerase h
  · exact nsorted_nset h (Nat.zero_le _)

/-! ### Channels and groups -/

@[simp] theorem chan_setChan (s : State) (n m : Nat) (c : Ch) : (s.setChan n c).chan m = if m = n then c else s.chan m := by
  unfold State.setChan State.chan; exact ngetD_nput {} s.pda.ch n m c

@[simp] theorem chan_modChan (s : State) (n m : Nat) (f : Ch → Ch) :
    (s.modChan n f).chan m = if m = n then f (s.chan n) else s.chan m := chan_setChan ..

@[simp] theorem grp_setGrp (s : State) (k l : Nat) (g : Grp) : (s.setGrp k g).grp l = if l = k then g else s.grp l := by
  unfold State.setGrp State.grp; exact ngetD_nput {} s.pda.grp k l g

theorem setChan_sorted {s : State} (h : nsorted 0 s.pda.ch = true) (n : Nat) (c : Ch) :
    nsorted 0 (s.setChan n c).pda.ch = true := by
  unfold State.setChan nput; simp only; split
  · exact nsorted_nerase h
  · exact nsorted_nset h (Nat.zero_le _)

end Sys2Proof.Machine
end

