-- ==== Sys2Proof/Laws/Service.lean ====
section
/-! SUPPORT. A request that the service takes at once is carried out by the definition of its opcode. -/

namespace Sys2Proof.Machine

theorem enter_fetched (s : State) (opcode : Nat) (r : Req) (h : opcode < 65536) :
    s.enter r.fn r.src (descWith opcode r) = s.fetched opcode r := by
  have hn : (s.count 422).sf = s.sf := by
    unfold State.count State.bump; extract_lets f; split <;> rfl
  have ho : (descWith opcode r).opcode.toNat = opcode := by
    simp [descWith, Nat.mod_eq_of_lt h]
  unfold State.enter State.fetched State.cmdOf
  simp only [hn, ho]
  rfl

/-- The opcode of a command from a request. -/
theorem cmdOf_op (s : State) (opcode : Nat) (r : Req) (h : opcode < 65536) : (s.cmdOf opcode r).op = opcode := by
  simp [State.cmdOf, Cmd.op, descWith, Nat.mod_eq_of_lt h]

theorem find_range_bit (n : Nat) (h : n = 0) : ((List.range 4).find? fun k => bitOf n k) = none := by
  subst h; decide

/-- The service takes the request, its opcode's definition passes it and finds it executable: it runs (R228, R239, R243). -/
theorem request_takes {s t : State} {opcode : Nat} {r : Req} {o : OpSpec} (hop : opcode < 65536)
    (ht : s.takes opcode r = true) (ho : specOf opcode = some o)
    (hc : o.check (s.fetched opcode r) (s.cmdOf opcode r) = (t, none))
    (hl : (!o.waits && (s.cmdOf opcode r).late t.td0) = false)
    (hr : (if o.waits || (opcode == 0x0402 && t.peBusy) then none else o.outcome t (s.cmdOf opcode r)) = none) :
    s.request opcode r = o.run t (s.cmdOf opcode r) := by
  unfold State.takes at ht
  simp only [Bool.and_eq_true, and_assoc, Bool.not_eq_true', decide_eq_true_eq, beq_iff_eq, Bool.or_eq_true, ho, List.all_eq_true] at ht
  obtain ⟨h1, h2, h3, h4, h5, h6, h7, h8, h9, h10, h11, h12⟩ := ht
  have hcmd : (s.fetched opcode r).cmd? s.sf.nextSeq = some (s.cmdOf opcode r) := by
    unfold State.cmd? State.fetched
    simp only [List.find?_append]
    have : (s.sf.cmds.find? fun c => c.seq == s.sf.nextSeq) = none := by
      rw [List.find?_eq_none]
      intro k hk
      have := h6 k hk
      simp only [beq_iff_eq]
      omega
    rw [this]
    simp [State.cmdOf]
  have hseq : (s.cmdOf opcode r).seq = s.sf.nextSeq := rfl
  have hfin : (s.cmdOf opcode r).fin = none := rfl
  have hat : (s.cmdOf opcode r).desc.atomic = false := h10
  have hexp : (s.cmdOf opcode r).desc.expert = r.expert := rfl
  have hrs : rsvdBit (s.cmdOf opcode r).desc = none := by
    unfold rsvdBit
    rw [show (s.cmdOf opcode r).desc.rsvd.toNat = r.rsvd.toNat from rfl, h11]
    decide
  have hopc := cmdOf_op s opcode r hop
  unfold State.request State.submit
  rw [show ({ opcode := BitVec.ofNat 16 opcode, tag := r.tag, fence := r.fence, atomic := r.atomic, notify := r.notify, expert := r.expert, rsvd := r.rsvd, group := r.group, target := r.target, deadline := r.deadline, params := r.params } : Desc) = descWith opcode r from rfl]
  simp only [h1, Bool.not_true, Bool.false_eq_true, if_false]
  rw [if_neg (by omega), if_pos (by simp [h3, h4, h5]), enter_fetched s opcode r hop]
  unfold State.commandStart
  simp only [hcmd, h7, Bool.not_true, Bool.false_eq_true, if_false, hfin, hat, Bool.false_and]
  unfold State.execute
  have hstep : (s.fetched opcode r).stepErr (s.cmdOf opcode r) = (t, none) := by
    unfold State.stepErr
    simp only [hopc, ho, hrs, hat, Bool.false_and, Bool.false_or, hexp]
    rw [if_neg, hc]
    rcases h12 with h12 | h12 <;> simp [h12]
  simp only [hcmd, h8, Bool.false_eq_true, if_false, hstep, hopc, ho, hl, hr, Bool.false_eq_true, if_false]

end Sys2Proof.Machine
end

