-- ==== Sys2Proof/Laws/Settle.lean ====
section
/-! SUPPORT. What ends every command: nothing where nothing waits; and how a step runs the command in front. -/

namespace Sys2Proof.Machine

theorem each_nil {α : Type} (s : State) (f : State → α → State) : s.each [] f = s := rfl

theorem fcuLoop_nil {s : State} (h : s.fcu.todo = []) (k : Nat) : State.fcuLoop k s = s := by
  cases k with
  | zero => rfl
  | succ k => unfold State.fcuLoop; rw [h]

theorem gatesDue_nil {s : State} (h : s.pcs.draining = []) : s.gatesDue = s := by
  unfold State.gatesDue; rw [h]; rfl

theorem dbgSettle_idle {s : State} (hh : ∀ h ∈ s.cc.harts, h.2.halted = false ∧ h.2.haltReq = false) (hd : s.dbg.trig = []) :
    s.dbgSettle = s := by
  unfold State.dbgSettle
  extract_lets shut s'
  have hs : s' = s := by
    have hf : (s.cc.harts.filter fun e => (e.2.halted || e.2.haltReq) && shut e.1) = [] := by
      rw [List.filter_eq_nil_iff]
      intro e he
      simp [hh e he]
    show s.each ((s.cc.harts.filter fun e => (e.2.halted || e.2.haltReq) && shut e.1).map Prod.fst) State.hartResume = s
    rw [hf]; rfl
  clear_value s'
  subst hs
  rw [hd, List.filter_nil, ← hd]

/-- A domain of the APLIC in which no source is configured has none active. -/
theorem aplicMode_none {s : State} {sup : Bool} (h : (s.aplic sup).cfg = []) (i : Nat) : s.aplicMode sup i = 0 := by
  simp [State.aplicMode, h, ngetD, nfind]

theorem aplicStep_idle {s : State} (hm : s.cc.aplicM.cfg = []) (hs : s.cc.aplicS.cfg = []) : s.aplicStep = s := by
  have none (sup : Bool) : (aplicSources.filter fun i => s.aplicMode sup i != 0) = [] := by
    rw [List.filter_eq_nil_iff]
    intro i _
    simp [aplicMode_none (s := s) (sup := sup) (by cases sup <;> assumption) i]
  unfold State.aplicStep
  simp only [State.each, List.foldl, none]

theorem streamsHand_idle {s : State} (h : ∀ x ∈ s.pda.streams, x.2.wait = none) : s.streamsHand = s := by
  unfold State.streamsHand
  rw [List.filter_eq_nil_iff.mpr fun e he => by simp [h e he]]
  rfl

theorem step_idle {s : State} (h : s.pending = []) : step s = .next (s.ticks 1) := by
  unfold step; rw [h]

end Sys2Proof.Machine
end

