-- ==== Sys2Proof/WellFormed.lean ====
section
/-! DEFINITION. Well-formed commands: every operand names something the device has. -/

namespace Sys2Proof

/-- A descriptor's issuer is a function (R217) and a queue pair or the mailbox (R221, R230), and it carries 48 parameter bytes (R22). -/
def Req.wf (r : Req) : Bool := decide (r.fn < 64) && decide (r.src < 9) && decide (r.params.length = 48)

/-- Every operand of the command lies in the range the manual gives it. -/
def Instr.wf (i : Instr) : Bool :=
  match i with
  | .chSet r => r.wf
  | .chPwmConfig r => r.wf
  | .chClearLatch r => r.wf
  | .chDiagRead r => r.wf
  | .chAssignProfile r => r.wf
  | .chSenseoutSelect r => r.wf
  | .profileWrite r => r.wf
  | .profileRead r => r.wf
  | .measStreamOpen r => r.wf
  | .measRead r => r.wf
  | .measCalibrate r => r.wf
  | .measStreamClose r => r.wf
  | .elemCreate r => r.wf
  | .elemParam r => r.wf
  | .elemDelete r => r.wf
  | .elemStatus r => r.wf
  | .placementRead r => r.wf
  | .tripReset r => r.wf
  | .ingestOpen r => r.wf
  | .ingestClose r => r.wf
  | .placementRebalance r => r.wf
  | .elemLoad r => r.wf
  | .signalDefine r => r.wf
  | .routeCreate r => r.wf
  | .routeDelete r => r.wf
  | .routeStatus r => r.wf
  | .nmNeed r => r.wf
  | .nmRelease r => r.wf
  | .nmStatus r => r.wf
  | .modeSelect r => r.wf
  | .imageStage r => r.wf
  | .imageCommit r => r.wf
  | .modeRead r => r.wf
  | .testRun r => r.wf
  | .testResult r => r.wf
  | .timeRead r => r.wf
  | .attest r => r.wf
  | .keyUse r => r.wf
  | .fnQuiesce r => r.wf
  | .fnResume r => r.wf
  | .ownershipSet r => r.wf
  | .vfEnable r => r.wf
  | .vfDisable r => r.wf
  | .sqTailDoorbell _ fn q _ => decide (fn < 64) && decide (q < 8)
  | .cqHeadWrite _ fn q _ => decide (fn < 64) && decide (q < 8)
  | .qpCfgWrite _ fn q _ => decide (fn < 64) && decide (q < 8)
  | .mbxSubmit _ fn _ => decide (fn < 64)
  | .mbxResultRead _ fn => decide (fn < 64)
  | .descriptorFetch => true
  | .commandStart _ => true
  | .atomicGroupEffect fn q => decide (fn < 64) && decide (q < 8)
  | .atomicGroupTimeout fn q => decide (fn < 64) && decide (q < 8)
  | .deadlineMissed _ => true
  | .withheldReadRelease n fn => decide (n < 64) && decide (fn < 64)
  | .quiesceDrained fn => decide (fn < 64)
  | .dirtyDisableDone fn => decide (fn < 64)
  | .ownershipChange => true
  | .imageStageDone kind _ => decide (kind < 2)
  | .imageCommitDone kind => decide (kind < 2)
  | .rebalanceDone => true
  | .testDone _ code _ => decide (code < 7)
  | .attestDone _ => true
  | .modeApply => true
  | .profileIndexApply n => decide (n < 64)
  | .chCtrlReqWrite _ n _ => decide (n < 64)
  | .chFaultClear _ n _ => decide (n < 64)
  | .channelRequestEffect n => decide (n < 64)
  | .gridPoint _ => true
  | .blankingExpiry n => decide (n < 64)
  | .desat n => decide (n < 64)
  | .turnOffComplete n => decide (n < 64)
  | .ceilingTrip n _ => decide (n < 64)
  | .uvDefer x => x.grp.all fun e => decide (e.1 < 8)
  | .cpRecover x => x.grp.all fun e => decide (e.1 < 8)
  | .cpUv x => x.grp.all fun e => decide (e.1 < 8)
  | .pwmPeriodStart n => decide (n < 64)
  | .pwmOffEdge n => decide (n < 64)
  | .dutyRecompute => true
  | .compHoldExpiry n => decide (n < 64)
  | .offStateTestStart n _ _ => decide (n < 64)
  | .offStateTestSample n _ => decide (n < 64)
  | .openLoadOn n => decide (n < 64)
  | .stuckOn n => decide (n < 64)
  | .reverse n => decide (n < 64)
  | .groupUvBegin k => decide (k < 8)
  | .groupUvEnd k => decide (k < 8)
  | .pauseMaxExpiry k => decide (k < 8)
  | .channelRestart n => decide (n < 64)
  | .budgetRefill n => decide (n < 64)
  | .kettleUpdate => true
  | .coreDieLost _ => true
  | .tHoldExpiry n => decide (n < 64)
  | .limpChange _ => true
  | .lhChange levels => decide (levels < 256)
  | .limpRelease n => decide (n < 64)
  | .limpI2tUpdate _ => true
  | .limpPwmEdge n => decide (n < 64)
  | .streamPublish _ => true
  | .offsetCalibrationDone sid _ => decide (sid < 65536)
  | .linkFrameError _ => true
  | .trimReapply => true
  | .fastTick => true
  | .userElementDisabled h => decide (h < 2048)
  | .ingestNativeFrame => true
  | .ingestForeignFrame => true
  | .ingestStale _ => true
  | .reflowDone => true
  | .pairReturnToService p => decide (p < 8)
  | .bulletinFrameDue _ => true
  | .bulletinFrameRx => true
  | .subscriptionStale _ => true
  | .frameRx p _ _ q => decide (p < 10) && decide (q < 8)
  | .frameTxStart p q => decide (p < 10) && decide (q < 8)
  | .linkStateChange p _ => decide (p < 10)
  | .plcaFallback p => decide (p < 10)
  | .beaconRx p => decide (p < 10)
  | .gateEntryExpiry p => decide (p < 12)
  | .gateListSwitch p => decide (p < 12)
  | .addressAgeOut vid mac => decide (vid < 4096) && decide (mac < 281474976710656)
  | .frerResetTimeout _ => true
  | .devEtypeWrite _ _ => true
  | .devEtypeEffect => true
  | .sfBlockedClear _ w _ => decide (w < 8)
  | .queueCfgWrite _ fn q _ => decide (fn < 64) && decide (q < 128)
  | .queueTxTail _ fn q _ => decide (fn < 64) && decide (q < 128)
  | .queueRxTail _ fn q _ => decide (fn < 64) && decide (q < 128)
  | .queueTxDescriptor q => decide (q < 128)
  | .queueInterrupt q => decide (q < 128)
  | .portCounterRead _ p c => decide (p < 12) && decide (c < 32)
  | .timeSetWrite _ d _ => decide (d < 4)
  | .timeSetApply d => decide (d < 4)
  | .stepWrite _ d _ => decide (d < 4)
  | .stepApply d => decide (d < 4)
  | .incWrite _ d _ => decide (d < 4)
  | .lock _ d _ => decide (d < 4)
  | .unlock _ d _ => decide (d < 4)
  | .refresh _ d _ => decide (d < 4)
  | .snapCapture _ _ => true
  | .holdoverEntry d => decide (d < 4)
  | .holdoverExpiry d => decide (d < 4)
  | .tsqInfoRead _ => true
  | .canTxreqWrite _ c w _ => decide (c < 8) && decide (w < 2)
  | .canTxabortWrite _ c w _ => decide (c < 8) && decide (w < 2)
  | .canRecoverWrite _ c _ => decide (c < 8)
  | .rxfRidxWrite _ c _ => decide (c < 8)
  | .canArbitration c => decide (c < 8)
  | .canAttemptEnd c _ => decide (c < 8)
  | .validityExpiry c b => decide (c < 8) && decide (b < 64)
  | .busOffEnd c => decide (c < 8)
  | .schedMiss c => decide (c < 8)
  | .canFrameRx c _ => decide (c < 8)
  | .linHeaderSlot l => decide (l < 4)
  | .linResponse l id _ _ _ => decide (l < 4) && decide (id < 64)
  | .linGoToSleep l => decide (l < 4)
  | .linBusIdleTimeout l => decide (l < 4)
  | .bellwetherDue n => decide (n < 16)
  | .bellwetherRx => true
  | .idleTimerExpiry n => decide (n < 16)
  | .tPrepExpiry n => decide (n < 16)
  | .busRelease n => decide (n < 16)
  | .wakeDetected n => decide (n < 16)
  | .transceiverRefresh => true
  | .transceiverFailsafe x => decide (x < 12)
  | .vcanUv _ => true
  | .gwPeriodicTx _ => true
  | .gwGapEnd _ => true
  | .gwRxTimeout _ => true
  | .containerHoldExpiry _ => true
  | .containerRx => true
  | .routeChangeEffect => true
  | .outboundWrite _ _ _ => true
  | .splitRead _ _ _ => true
  | .heldRead _ _ _ => true
  | .readCompletionRx t _ => decide (t < 320)
  | .cplTo t => decide (t < 64)
  | .heldReadTimeout i => decide (i < 256)
  | .inboundRequest bar _ _ _ _ => decide (bar < 7)
  | .plbLinkChange _ _ _ => true
  | .perstNLinkReset => true
  | .prefetchAgeExpiry _ => true
  | .discInfoRead _ => true
  | .heartbeatSend => true
  | .heartbeatRx _ => true
  | .peerLost => true
  | .msixSend _ _ => true
  | .lockstepMismatch u => decide (u < 8)
  | .registerFold u main check => decide (u < 8) && decide (main.length = 508) && decide (check.length = 508)
  | .handover _ p _ => decide (p < 7)
  | .handoverExecute p => decide (p < 7)
  | .pairRestart _ p _ => decide (p < 7)
  | .cacheParityError u kind _ => decide (u < 13) && decide (kind < 3)
  | .spareMigrate _ _ => true
  | .spareReturn _ _ => true
  | .migrationDone => true
  | .scrubStep m _ _ => decide (m < 4)
  | .memoryError _ init kind => decide (init < 256) && decide (kind < 3)
  | .errInfoRead _ => true
  | .gatekeeperRegionWrite _ g r w _ => decide (g < 22) && decide (r < 32) && decide (w < 8)
  | .gkInfoRead _ => true
  | .islandVoteWrite _ i _ => decide (i < 46)
  | .islandReturn i => decide (i < 46)
  | .lcCtrlWrite _ _ _ => true
  | .otpRead _ _ => true
  | .otpProgram _ _ => true
  | .keyLoad _ _ => true
  | .keyDerive _ _ => true
  | .keyClear _ _ => true
  | .jobGo _ _ => true
  | .jobDone => true
  | .callAnswer _ _ => true
  | .callTimeout => true
  | .rngHealthFail => true
  | .rngDataRead _ => true
  | .debugToken _ _ => true
  | .revoke _ _ => true
  | .fcuErrorEvent i => decide (i < 1024)
  | .brokenPair i => decide (i < 1024)
  | .srcCfgWrite _ i _ => decide (i < 1024)
  | .srcStateClear _ i _ => decide (i < 1024)
  | .penRelease _ n _ => decide (n < 64)
  | .fatalSrcClear _ _ => true
  | .fatalReboot pins _ rails => decide (pins < 4 ∧ rails < 1024)
  | .errnPulseEnd => true
  | .logInfoRead _ => true
  | .svpResume => true
  | .powerOn => true
  | .vbatLoss => true
  | .pinReset => true
  | .softwareReset _ _ => true
  | .coreResetRelease pins _ rails => decide (pins < 4 ∧ rails < 1024)
  | .protectionActive => true
  | .endOfBoot => true
  | .prepareSleep => true
  | .sleepAbort => true
  | .sleepCommit => true
  | .inhFall => true
  | .inhRise => true
  | .sheepdogCycle _ => true
  | .wkStaticEdge r _ => decide (r < 32)
  | .haltRequest h => decide (h < 12)
  | .haltEffect h => decide (h < 12)
  | .resumeRequest h => decide (h < 12)
  | .abstractCommand h _ _ _ _ _ _ => decide (h < 12)
  | .systemBusAccess _ _ _ _ => true
  | .ndmreset => true
  | .hartreset h => decide (h < 12)
  | .debugTrigger h _ => decide (h < 12)
  | .tapReset => true
  | .loaderShift _ => true
  | .loaderImageDone => true
  | .samplerSample k _ mode => decide (k < 8) && decide (mode < 8)
  | .smpInfoRead _ => true
  | .registerWrite _ _ _ => true
  | .hartsReleased => true
  | .otpOperationDone => true
  | .scheduleColumnStart c => decide (c < 8)
  | .canBusJoin c => decide (c < 8)
  | .machineTimerCompare h => decide (h < 12)
  | .errorSourceIdle i => decide (i < 1024)

end Sys2Proof
end

