-- ==== Sys2Proof/Tests/Slice0.lean ====
section
/-! SUPPORT. The model's own tests: ill-formed terms that WellFormed refuses, values that the manual gives, and for every statement of
Certificates/Slice0/Obligations.lean states and operands that meet its hypotheses, clause by clause. -/

set_option linter.unusedVariables false
set_option Elab.async false
set_option maxRecDepth 100000

namespace Sys2Proof.Tests
open Sys2Proof.Machine

/-! ### States in which the hypotheses hold -/

open Sys2Proof Sys2Proof.Machine

/-- A device in RUN after boot, protection active, at a grid point of 1 ms, with nothing configured. -/
def run : State :=
  let s : State := State.reset
  let t : State := { s with now := 1000000
                            pcs := { s.pcs with boot := .done, power := .run, vbat := true, bootPins := 1 }
                            sf := { s.sf with running := true }
                            pda := { s.pda with lost := false, loaded := true }
                            tbu := { s.tbu with grid := 100, gridNext := 101, gridAt := some 1000000
                                                td := (List.range 4).map fun _ => { val := 1000000 * fracOne, st := .locked } } }
  (((t.setFlag PCS_STATE_PROT true).setFlag PCS_STATE_DONE true).setFlag FCU_STATUS_BOOT_HOLD false).set SEC_WORLD_MAP_MAP 0x20

/-- The service processor's own initiator, secure. -/
def svp : Init := { id := 0x10, secure := true }



/-- A profile record of 1 mΩ with everything else zero. -/
def prof1 : List Byte := leBytes 8 (1000000 * 4294967296) ++ List.replicate 120 0
def ethN (kind node : Nat) (words : List Nat) : EthFrame :=
  { dst := 1, src := 2, vid := 1, pcp := 0, ing := 0,
    body := beBytes 2 0x88B5 ++ [0, BitVec.ofNat 8 kind] ++ beBytes 2 words.length ++ beBytes 4 7 ++ beBytes 4 0 ++ beBytes 2 node ++ [0, 0] ++ words.flatMap (leBytes 16) }

/-- A request of queue 0 of function `fn`. -/
def rq (fn target : Nat) (params : List Byte) : Req :=
  { fn := fn, src := 0, tag := 7, fence := false, atomic := false, notify := false, expert := false, rsvd := 0, group := 0,
    target := BitVec.ofNat 16 target, deadline := 0, params := params ++ List.replicate (48 - params.length) 0 }
/-- Queue 0 of functions 0 and 5 is enabled, and every gatekeeper's first region admits everything. -/
def ready (s : State) : State :=
  let t := [0, 5].foldl (fun (s : State) fn => ((s.set SF_FNn_STATE_STATE 1 fn).set SF_FNn_STATE_NQP 8 fn).setFlag SF_QPq_CFG_EN true fn 0) s
  (List.range 8).foldl (fun s g => (((((((s.wr SEC_GKg_REGr_CTRL 0x1F g 0).wr SEC_GKg_REGr_SIZE 0xFFFFFFF g 0).wr SEC_GKg_REGr_INIT_LO 0xFFFFFFFF g 0).wr SEC_GKg_REGr_INIT_HI 0xFFFFFFFF g 0).wr SEC_GKg_REGr_FN_LO 0xFFFFFFFF g 0).wr SEC_GKg_REGr_FN_HI 0xFFFFFFFF g 0))) t

/-- A valid profile: 1 mΩ, one envelope point of 10 A. -/
def profOk : List Byte :=
  let u16 := leBytes 2
  let u32 := leBytes 4
  [0, 0, 5, 0] ++ u32 1000000 ++ [1, 3] ++ u16 10 ++ u16 100 ++ u16 50 ++ u16 100 ++ u16 100 ++ List.replicate 28 0 ++
    u32 655360 ++ u32 65536 ++ u32 1000 ++ u16 100 ++ u16 0 ++ u16 10 ++ u16 10 ++ u16 10 ++ u16 0 ++
    u32 1000 ++ u32 1000 ++ u32 1000 ++ [0, 0, 0, 0, 128] ++ List.replicate 39 0

def sig (pdu : Nat) : List Byte := leBytes 2 pdu ++ [0, 0, 16, 0, 0, 0] ++ leBytes 8 0x3FF0000000000000 ++ List.replicate 32 0
def pduR (kind : Nat) : List Byte := [BitVec.ofNat 8 kind, 0, 8, 0, 0, 0, 0, 0] ++ leBytes 4 1000 ++ leBytes 4 10 ++ List.replicate 48 0
def gw (s : State) : State :=
  { s with cfg.tables := [{ type := 0x0104, rtype := 2, key := 3, data := pduR 0 }, { type := 0x0104, rtype := 2, key := 4, data := pduR 1 }] ++ s.cfg.tables }

/-! ### Well-formed and ill-formed commands -/

/-- A descriptor at the bounds of R217, R221 and R22. -/
def topReq : Req :=
  { fn := 63, src := 8, tag := 0, fence := false, atomic := false, notify := false, expert := false, rsvd := 0, group := 0, target := 0,
    deadline := 0, params := List.replicate 48 0 }

theorem test_descriptor_wf : (Instr.chSet topReq).wf = true ∧ (Instr.chSet { topReq with fn := 64 }).wf = false ∧
    (Instr.chSet { topReq with src := 9 }).wf = false ∧ (Instr.chSet { topReq with params := [] }).wf = false := by decide

/-- Each bound of WellFormed refuses the first value above it. -/
theorem test_refuses_above_a :
    [(Instr.sqTailDoorbell svp 64 7 0), (Instr.sqTailDoorbell svp 63 8 0), (Instr.cqHeadWrite svp 64 7 0),
     (Instr.cqHeadWrite svp 63 8 0), (Instr.qpCfgWrite svp 64 7 0), (Instr.qpCfgWrite svp 63 8 0), (Instr.mbxSubmit svp 64 0),
     (Instr.mbxResultRead svp 64), (Instr.atomicGroupEffect 64 7), (Instr.atomicGroupEffect 63 8),
     (Instr.atomicGroupTimeout 64 7), (Instr.atomicGroupTimeout 63 8), (Instr.withheldReadRelease 64 63),
     (Instr.withheldReadRelease 63 64), (Instr.quiesceDrained 64), (Instr.dirtyDisableDone 64), (Instr.imageStageDone 2 false),
     (Instr.imageCommitDone 2), (Instr.testDone 0 7 0), (Instr.profileIndexApply 64), (Instr.chCtrlReqWrite svp 64 0),
     (Instr.chFaultClear svp 64 0), (Instr.channelRequestEffect 64), (Instr.blankingExpiry 64), (Instr.desat 64),
     (Instr.turnOffComplete 64), (Instr.ceilingTrip 64 0), (Instr.pwmPeriodStart 64), (Instr.pwmOffEdge 64),
     (Instr.compHoldExpiry 64), (Instr.offStateTestStart 64 0 0), (Instr.offStateTestSample 64 0), (Instr.openLoadOn 64),
     (Instr.stuckOn 64), (Instr.reverse 64), (Instr.groupUvBegin 8), (Instr.groupUvEnd 8), (Instr.pauseMaxExpiry 8),
     (Instr.channelRestart 64), (Instr.budgetRefill 64), (Instr.tHoldExpiry 64), (Instr.lhChange 256), (Instr.limpRelease 64),
     (Instr.limpPwmEdge 64), (Instr.offsetCalibrationDone 65536 0), (Instr.userElementDisabled 2048),
     (Instr.pairReturnToService 8), (Instr.frameRx 10 [] false 7), (Instr.frameRx 9 [] false 8), (Instr.frameTxStart 10 7),
     (Instr.frameTxStart 9 8), (Instr.linkStateChange 10 false), (Instr.plcaFallback 10), (Instr.beaconRx 10),
     (Instr.gateEntryExpiry 12), (Instr.gateListSwitch 12), (Instr.addressAgeOut 4096 281474976710655),
     (Instr.addressAgeOut 4095 281474976710656), (Instr.sfBlockedClear svp 8 0), (Instr.queueCfgWrite svp 64 127 0),
     (Instr.queueCfgWrite svp 63 128 0), (Instr.queueTxTail svp 64 127 0), (Instr.queueTxTail svp 63 128 0),
     (Instr.queueRxTail svp 64 127 0), (Instr.queueRxTail svp 63 128 0), (Instr.queueTxDescriptor 128),
     (Instr.queueInterrupt 128), (Instr.portCounterRead svp 12 31), (Instr.portCounterRead svp 11 32),
     (Instr.timeSetWrite svp 4 0), (Instr.timeSetApply 4)].all (fun i => i.wf == false) = true := by decide +kernel

/-- Each bound of WellFormed refuses the first value above it. -/
theorem test_refuses_above_b :
    [(Instr.stepWrite svp 4 0), (Instr.stepApply 4), (Instr.incWrite svp 4 0), (Instr.lock svp 4 0), (Instr.unlock svp 4 0),
     (Instr.refresh svp 4 0), (Instr.holdoverEntry 4), (Instr.holdoverExpiry 4), (Instr.canTxreqWrite svp 8 1 0),
     (Instr.canTxreqWrite svp 7 2 0), (Instr.canTxabortWrite svp 8 1 0), (Instr.canTxabortWrite svp 7 2 0),
     (Instr.canRecoverWrite svp 8 0), (Instr.rxfRidxWrite svp 8 0), (Instr.canArbitration 8), (Instr.canAttemptEnd 8 .sent),
     (Instr.validityExpiry 8 63), (Instr.validityExpiry 7 64), (Instr.busOffEnd 8), (Instr.schedMiss 8),
     (Instr.canFrameRx 8 { id := 0, fmt := 0, data := [] }), (Instr.linHeaderSlot 4), (Instr.linResponse 4 63 0 [] 0),
     (Instr.linResponse 3 64 0 [] 0), (Instr.linGoToSleep 4), (Instr.linBusIdleTimeout 4), (Instr.bellwetherDue 16),
     (Instr.idleTimerExpiry 16), (Instr.tPrepExpiry 16), (Instr.busRelease 16), (Instr.wakeDetected 16),
     (Instr.transceiverFailsafe 12), (Instr.readCompletionRx 320 none), (Instr.cplTo 64), (Instr.heldReadTimeout 256),
     (Instr.inboundRequest 7 false 0 0 []), (Instr.lockstepMismatch 8), (Instr.registerFold 8 (List.replicate 508 0) (List.replicate 508 0)), (Instr.registerFold 7 [] []), (Instr.handover svp 7 0),
     (Instr.handoverExecute 7), (Instr.pairRestart svp 7 0), (Instr.cacheParityError 13 2 0), (Instr.cacheParityError 12 3 0),
     (Instr.scrubStep 4 0 none), (Instr.memoryError 0 256 2), (Instr.memoryError 0 255 3),
     (Instr.gatekeeperRegionWrite svp 22 31 7 0), (Instr.gatekeeperRegionWrite svp 21 32 7 0),
     (Instr.gatekeeperRegionWrite svp 21 31 8 0), (Instr.islandVoteWrite svp 46 0), (Instr.islandReturn 46),
     (Instr.fcuErrorEvent 1024), (Instr.brokenPair 1024), (Instr.srcCfgWrite svp 1024 0), (Instr.srcStateClear svp 1024 0),
     (Instr.penRelease svp 64 0), (Instr.fatalReboot 4 false 0), (Instr.coreResetRelease 4 false 0), (Instr.coreResetRelease 3 false 1024),
     (Instr.wkStaticEdge 32 false), (Instr.haltRequest 12), (Instr.haltEffect 12), (Instr.resumeRequest 12),
     (Instr.abstractCommand 12 false 0 false 0 0 false), (Instr.hartreset 12), (Instr.debugTrigger 12 false),
     (Instr.samplerSample 8 0 7), (Instr.samplerSample 7 0 8), (Instr.scheduleColumnStart 8), (Instr.canBusJoin 8),
     (Instr.machineTimerCompare 12), (Instr.errorSourceIdle 1024)].all (fun i => i.wf == false) = true := by decide +kernel

/-- Each bound of WellFormed admits the last value below it. -/
theorem test_accepts_top_a :
    [(Instr.sqTailDoorbell svp 63 7 0), (Instr.cqHeadWrite svp 63 7 0), (Instr.qpCfgWrite svp 63 7 0),
     (Instr.mbxSubmit svp 63 0), (Instr.mbxResultRead svp 63), (Instr.atomicGroupEffect 63 7), (Instr.atomicGroupTimeout 63 7),
     (Instr.withheldReadRelease 63 63), (Instr.quiesceDrained 63), (Instr.dirtyDisableDone 63), (Instr.imageStageDone 1 false),
     (Instr.imageCommitDone 1), (Instr.testDone 0 6 0), (Instr.profileIndexApply 63), (Instr.chCtrlReqWrite svp 63 0),
     (Instr.chFaultClear svp 63 0), (Instr.channelRequestEffect 63), (Instr.blankingExpiry 63), (Instr.desat 63),
     (Instr.turnOffComplete 63), (Instr.ceilingTrip 63 0), (Instr.pwmPeriodStart 63), (Instr.pwmOffEdge 63),
     (Instr.compHoldExpiry 63), (Instr.offStateTestStart 63 0 0), (Instr.offStateTestSample 63 0), (Instr.openLoadOn 63),
     (Instr.stuckOn 63), (Instr.reverse 63), (Instr.groupUvBegin 7), (Instr.groupUvEnd 7), (Instr.pauseMaxExpiry 7),
     (Instr.channelRestart 63), (Instr.budgetRefill 63), (Instr.tHoldExpiry 63), (Instr.lhChange 255), (Instr.limpRelease 63),
     (Instr.limpPwmEdge 63), (Instr.offsetCalibrationDone 65535 0), (Instr.userElementDisabled 2047),
     (Instr.pairReturnToService 7), (Instr.frameRx 9 [] false 7), (Instr.frameTxStart 9 7), (Instr.linkStateChange 9 false),
     (Instr.plcaFallback 9), (Instr.beaconRx 9), (Instr.gateEntryExpiry 11), (Instr.gateListSwitch 11),
     (Instr.addressAgeOut 4095 281474976710655), (Instr.sfBlockedClear svp 7 0), (Instr.queueCfgWrite svp 63 127 0),
     (Instr.queueTxTail svp 63 127 0), (Instr.queueRxTail svp 63 127 0), (Instr.queueTxDescriptor 127),
     (Instr.queueInterrupt 127), (Instr.portCounterRead svp 11 31), (Instr.timeSetWrite svp 3 0), (Instr.timeSetApply 3),
     (Instr.stepWrite svp 3 0), (Instr.stepApply 3)].all (fun i => i.wf == true) = true := by decide +kernel

/-- Each bound of WellFormed admits the last value below it. -/
theorem test_accepts_top_b :
    [(Instr.incWrite svp 3 0), (Instr.lock svp 3 0), (Instr.unlock svp 3 0), (Instr.refresh svp 3 0), (Instr.holdoverEntry 3),
     (Instr.holdoverExpiry 3), (Instr.canTxreqWrite svp 7 1 0), (Instr.canTxabortWrite svp 7 1 0),
     (Instr.canRecoverWrite svp 7 0), (Instr.rxfRidxWrite svp 7 0), (Instr.canArbitration 7), (Instr.canAttemptEnd 7 .sent),
     (Instr.validityExpiry 7 63), (Instr.busOffEnd 7), (Instr.schedMiss 7),
     (Instr.canFrameRx 7 { id := 0, fmt := 0, data := [] }), (Instr.linHeaderSlot 3), (Instr.linResponse 3 63 0 [] 0),
     (Instr.linGoToSleep 3), (Instr.linBusIdleTimeout 3), (Instr.bellwetherDue 15), (Instr.idleTimerExpiry 15),
     (Instr.tPrepExpiry 15), (Instr.busRelease 15), (Instr.wakeDetected 15), (Instr.transceiverFailsafe 11),
     (Instr.readCompletionRx 319 none), (Instr.cplTo 63), (Instr.heldReadTimeout 255), (Instr.inboundRequest 6 false 0 0 []),
     (Instr.lockstepMismatch 7), (Instr.registerFold 7 (List.replicate 508 0) (List.replicate 508 0)), (Instr.handover svp 6 0), (Instr.handoverExecute 6),
     (Instr.pairRestart svp 6 0), (Instr.cacheParityError 12 2 0), (Instr.scrubStep 3 0 none), (Instr.memoryError 0 255 2),
     (Instr.gatekeeperRegionWrite svp 21 31 7 0), (Instr.islandVoteWrite svp 45 0), (Instr.islandReturn 45),
     (Instr.fcuErrorEvent 1023), (Instr.brokenPair 1023), (Instr.srcCfgWrite svp 1023 0), (Instr.srcStateClear svp 1023 0),
     (Instr.penRelease svp 63 0), (Instr.fatalReboot 3 false 1023), (Instr.coreResetRelease 3 false 1023),
     (Instr.wkStaticEdge 31 false), (Instr.haltRequest 11), (Instr.haltEffect 11), (Instr.resumeRequest 11),
     (Instr.abstractCommand 11 false 0 false 0 0 false), (Instr.hartreset 11), (Instr.debugTrigger 11 false),
     (Instr.samplerSample 7 0 7), (Instr.scheduleColumnStart 7), (Instr.canBusJoin 7), (Instr.machineTimerCompare 11),
     (Instr.errorSourceIdle 1023)].all (fun i => i.wf == true) = true := by decide +kernel


/-! ### Values that the manual works out -/

/-- The worked example of 00_scope.md after R21: 9.25 A of CH05 at TD0 1000.25 s. -/
theorem test_measurement_word :
    leBytes 16 (mword 1000250000000 5 1 606208) = [0, 0x40, 9, 0, 1, 0, 5, 0, 0, 0xCA, 0x9A, 0x3B, 0xE8, 3, 0, 0] := by
  decide +kernel

/-- A channel with VNOM 13.5 V and DUTY_SET 30 % whose group measures `v` (Q16.16). -/
def lamp (v : Int) : State :=
  (((run.set PDA_CHn_PWM_CFG_VNOM 1350 17).set PDA_CHn_PWM_DUTY_DUTY_SET 19661 17).setGrp 2 { hist := [(99, v)] }).dutyRecompute 17

/-- The worked example after R43: 17 280 at 14.4 V and 29 613 at 11.0 V. -/
theorem test_duty_compensation : (lamp 943718).dutyApplied 17 = 17280 ∧ (lamp 720896).dutyApplied 17 = 29613 := by
  decide +kernel

/-- The tail lamp's profile of 02_load_profiles_and_thermal.md as far as its envelope needs it. -/
def tailLamp : List Byte :=
  List.replicate 8 0 ++ [5] ++ List.replicate 7 0 ++
    [(0, 300), (30, 300), (150, 100), (600, 40), (1500, 25)].flatMap fun e => leBytes 2 e.1 ++ leBytes 2 e.2

/-- At clock 10 ms the envelope is 18.33 A. -/
theorem test_envelope : aboveEnvelope tailLamp 1000 1201274 = false ∧ aboveEnvelope tailLamp 1000 1201930 = true ∧
    (tailLamp.drop 24).take 4 = [0x96, 0, 0x64, 0] := by decide +kernel

/-- AIN1's code 1337 is 45.01 °C (after R129). -/
theorem test_thermistor : (thermistorTemp 1337 * 100 - 4501 * 65536).natAbs < 65536 := by decide +kernel

/-- An instance of the placement example of 04_protection_engine.md. -/
def placed (cls slot cost pair : Nat) : Inst := { type := 1, cls := cls, slot := slot, cost := cost, size := 64, a := some { pair := pair, bank := 2 } }

/-- The loads of that example. -/
def loads : NMap Inst :=
  ([placed 0 0 6000 0, placed 1 0 2000 0, placed 0 0 5500 1, placed 1 3 1500 1, placed 0 0 6500 2, placed 0 0 7000 3,
    placed 0 0 4000 4, placed 0 0 6800 6, placed 0 0 6000 7, placed 2 0 1000 7] ++
    (List.range 10).map fun i => placed 1 i 3000 4).zipIdx.map fun e => (e.2, e.1)

/-- The instance goes to EP1, slot 0; declared dual, its copy B goes to EP2. -/
theorem test_placement :
    ((placeOne 9000 loads { type := 1, cls := 1, cost := 2500, size := 64, resp := 500, resp_w := 110 } [0, 1, 2, 3, 4, 6, 7]).toOption.map
        fun x => (x.a.map Copy.pair, x.b.map Copy.pair, x.slot)) = some (some 1, none, 0) ∧
    ((placeOne 9000 loads { type := 1, cls := 1, cost := 2500, size := 64, resp := 500, resp_w := 110, dual := true } [0, 1, 2, 3, 4, 6, 7]).toOption.map
        fun x => (x.a.map Copy.pair, x.b.map Copy.pair, x.slot)) = some (some 1, some 2, 0) := by
  decide +kernel

/-- The stream frame after R298. -/
theorem test_stream_frame :
    ((deviceFrame 0 none 0x88B5 1 0xB12 5 0x34 0 (List.replicate 8 0)).drop 12).take 18 =
      [0x88, 0xB5, 1, 1, 0, 8, 0, 0, 0x0B, 0x12, 0, 0, 0, 5, 0, 0x34, 0, 0] := by decide +kernel

/-- A gateway signal record of R383. -/
def signal (start len flags factor offset : Nat) : List Byte :=
  leBytes 2 0 ++ leBytes 2 start ++ [BitVec.ofNat 8 len, BitVec.ofNat 8 flags, 0, 0] ++ leBytes 8 factor ++ leBytes 8 offset ++ List.replicate 24 0

/-- The worked example of 11_gateway_and_partner_link.md: 80 km/h is raw 1800 at START 4, 25.5 °C is raw 26, and 87.5 °C saturates. -/
theorem test_gateway_rescale :
    sgGet (signal 7 16 1 0x3F847AE147AE147B 0) [0x1F, 0x40] = 8000 ∧
    (rescaled (signal 7 16 1 0x3F847AE147AE147B 0) (signal 4 12 0 0x3FA999999999999A 0xC024000000000000) 8000).toInt 0 4095 = some 1800 ∧
    sgPut (signal 4 12 0 0x3FA999999999999A 0xC024000000000000) 1800 [0, 0] = [0x80, 0x70] ∧
    (rescaled (signal 0 8 0 0x3FE0000000000000 0xC044000000000000) (signal 0 8 2 0x3FF0000000000000 0) 131).toInt (-128) 127 = some 26 ∧
    (rescaled (signal 0 8 0 0x3FE0000000000000 0xC044000000000000) (signal 0 8 2 0x3FE0000000000000 0) 255).toInt (-128) 127 = some 127 := by
  decide +kernel

/-- The rules and the park slot of the worked example of 15_power_states_and_sheepdog.md. -/
def door : List Byte := [1, 2, 1, 0x12, 0, 0, 0x14, 0, 3, 10, 2, 0, 0, 0, 0, 0, 2, 0, 0, 0, 0, 0, 0, 0, 0, 0, 0, 0, 0, 0, 0, 0]
def doorShut : List Byte := (door.set 3 0x22).set 10 3
def lowBattery : List Byte := [4, 0, 20, 3, 0, 0, 115, 0, 0, 0, 3, 0, 0, 0, 0, 0, 2, 0] ++ List.replicate 14 0
def daily : List Byte := [7, 0, 1, 1, 0, 0, 0, 0, 0, 0, 1, 0] ++ leBytes 4 86400 ++ [2, 0] ++ List.replicate 14 0

/-- Its estimate: 40.12 µA with the park slot counted. -/
theorem test_sheepdog_estimate :
    let e := sdEstimate 1 [door, doorShut, lowBattery, daily] [[21, 1, 0, 0, 2, 0] ++ List.replicate 10 0] 50 (1, 0, 0)
    e.num / e.den = 40120 ∧ ruleOk door [0] = true := by decide +kernel

/-- The check value of CRC-32C. -/
theorem test_crc32c : crc32c [49, 50, 51, 52, 53, 54, 55, 56, 57] = 0xE3069283 := by decide +kernel


def wR := ready run
def nsi : Init := { id := 8, secure := false }
def gk (s : State) : State := (List.range 22).foldl (fun s g => if g = 7 then s else (((((((s.wr SEC_GKg_REGr_CTRL 0x1F g 0).wr SEC_GKg_REGr_SIZE 0xFFFFFFF g 0).wr SEC_GKg_REGr_INIT_LO 0xFFFFFFFF g 0).wr SEC_GKg_REGr_INIT_HI 0xFFFFFFFF g 0).wr SEC_GKg_REGr_FN_LO 0xFFFFFFFF g 0).wr SEC_GKg_REGr_FN_HI 0xFFFFFFFF g 0))) s
def d0 : Desc := descWith 0x0101 { rq 5 9 (List.replicate 48 3) with rsvd := 9, fence := true, group := 200, deadline := 0xFFFFFFFFFFFFFFFF }
def mb (st : MbxState) : State := wR.setFn 5 { (wR.fn 5) with mbx := { st := st, result := completionBytes 7 0 true false 5 99 } }
def hold (s : State) (a : Init) (low : Nat) (ws : NMap Word) : State := { s with bus.holds := mwPut s.bus.holds a.id.toNat low ws }
def i1 : Inst := { type := 1, cls := 0, stops := 3, trip := true, mask := 1, a := some { pair := 0, bank := 0 } }
def own5 (s : State) : State := { s with sf.own := (List.range 64).foldl (fun m n => nset m n 5) s.sf.own }
def at0 (s : State) (d : List Byte) : State := s.setBytes 0x10000000 d
def adr : List Byte := leBytes 8 0x10000000
def blk8 : List Byte := List.replicate 8 0 ++ leBytes 4 65536 ++ List.replicate 8 0
def elc : List Byte := [8, 0, 0, 1] ++ leBytes 4 1000 ++ [5, 0] ++ List.replicate 14 0 ++ leBytes 8 6 ++ [255, 0, 0, 0] ++ leBytes 4 20 ++ adr
def iOf : Inst := match ((at0 wR blk8).createInst ((at0 wR blk8).cmdOf 0x0401 (rq 0 2047 elc))).1 with | .ok v => v | .error _ => { type := 0, cls := 0 }
def wE : State := match ((at0 wR blk8).elemInstall 2047 iOf) with | .ok v => v | .error _ => wR
def wG : State := let s := gw wR; { s with sgw.sigs := [(0, { raw := sig 3, val := 5 }), (4095, { raw := sig 4, val := 6 })] }
def rt : GwRoute := { src := 0, dst := 4095, mode := 0, onTimeout := 0, fwd := 7, sat := 3, seen := true }
def wK : State := { ((((wR.set SEC_KEYk_POL_OPS 15 31).wr SEC_KEYk_FN_LO 1 31).setFlag SEC_CALL_CFG_EN true).set SEC_CALL_BASE_LO_BASE (0x10010000 / 128)) with sec.keys := [(31, { loaded := true, key := [1] })] }
def qb (s : State) : State := (s.wr SF_QPq_SQ_BASE_LO 0x10000000 5 0)
def wF : State := let s := at0 ((qb wR).wr SF_QPq_SQ_TAIL 3 5 0) (descBytes (descWith 0x0101 (rq 5 9 [1]))); s.setFn 5 { ((s.setQp 5 0 { tail := 3 }).fn 5) with windows := [{ base := 0x10000000, size := 0x1000, phys := 0x10000000, r := true, w := true }] }
def cW (op : Nat) (st : Stage) : Cmd := { seq := 3, fn := 0, src := 0, desc := descWith op (rq 0 63 [1]), at_ := 7, stage := st, aux := 3 }
def inF (s : State) (c : Cmd) : State := { s with sf.cmds := [c], sf.nextSeq := 4 }
def gS (f : Nat) : State := { inF (wR.set PDA_CHn_PROFILE_PROFILE f 63) (cW 0x0101 .member) with sf.groups := [{ fn := 0, src := 0, id := 2, first := 900000, key := 3, closed := some 999000, count := 1 }], pda.profiles := [(1, prof1)] }
def gG : Group := { fn := 0, src := 0, id := 2, first := 900000, key := 3, closed := some 999000, count := 1 }
def cD : Cmd := { cW 0x0104 .withheld with desc := { (cW 0x0104 .withheld).desc with deadline := 1500000 } }
def cV : Cmd := { cW 0x0104 .withheld with desc := descWith 0x0104 (rq 0 63 (leBytes 8 0 ++ leBytes 4 3 ++ leBytes 4 2)) }
def cM : Cmd := { cW 0x0701 .started with desc := descWith 0x0701 (rq 0 0 []), aux := 2 }
def jb : ImageJob := { cmd := 3, kind := 1, op := 0, src := 0x10000000, len := 100 }
def jc : ImageJob := { cmd := 3, kind := 0, op := 1, action := 1 }
def cASf : Cmd := { cW 0x0A01 .secure with desc := descWith 0x0A01 (rq 0 0 (List.replicate 32 9 ++ adr)) }
def up (s : State) : State := (List.range 10).foldl (fun s p => s.setFlag ESW_PORTp_LINK_UP true p) s
def frm : List Byte := [1,2,3,4,5,6] ++ [2,2,2,2,2,2] ++ beBytes 2 0x800 ++ List.replicate 50 7
def u10 := up run
def plcaR : List CfgRec := [{ type := 0x0101, rtype := 2, key := 9, data := [1, 3] ++ List.replicate 14 0 }]
def uP : State := { u10 with cfg.tables := plcaR }
def fr0 : EthFrame := { dst := 1, src := 2, vid := 1, pcp := 0, body := beBytes 2 0x800 ++ List.replicate 50 7, ing := 3 }
def uQ : State := u10.modPort 9 fun x => { x with queues := [(5, [fr0, fr0])], busy := 1000100 }
def gr (i : Nat) : GateRun := { base := 0, len := 1000000, list := [(255, 400000), (3, 600000)], cycle := 1000000, idx := i, till := 1400000 }
def wOwn : State := { wR with sf.own := [(ownOffset 12 63, 5)] }
def qD (len fl : Nat) : List Byte := leBytes 8 0x10000100 ++ leBytes 2 len ++ [BitVec.ofNat 8 fl] ++ List.replicate 5 0
def qS (len fl : Nat) : State := let s := ((((up wOwn).setFlag ESW_Qq_CFG_EN true 0 63).set ESW_Qq_TX_TAIL_INDEX 3 0 63).wr ESW_Qq_BASE 0x10000 0 63)
  let s := (s.setBytes 0x10000000 (qD len fl)).setBytes 0x10000100 frm
  s.setFn 5 { (s.fn 5) with windows := [{ base := 0x10000000, size := 0x1000, phys := 0x10000000, r := true, w := true }] }
def qT : State := let s := qS 60 3; s.setBytes 0x10000106 (beBytes 6 (s.qMac 63))
def qU : State := let s := (qS 60 1).set TBU_PORTp_PTPQ_QUEUE 63 9 |>.setFlag TBU_PORTp_PTPQ_EN true 9; s.setBytes 0x10000106 (beBytes 6 (s.qMac 63))
def canRec (flags : Nat) : List Byte := List.replicate 8 0 ++ [BitVec.ofNat 8 flags, 0x10] ++ List.replicate 22 0
def cF (flags : Nat) : State := (({ run with cfg.tables := [{ type := 0x0102, rtype := 1, key := 7, data := canRec flags }, { type := 0x0102, rtype := 4, key := 1792 + 3, data := [0,0,0,0, 0,0,0,0, 0, 5, 0, 0] }] }).set FBC_CANc_ERR_STATE 0 7).set FBC_NETn_STATUS_STATE 3 7
def fr : CanFrame := { hdr := leBytes 4 5 ++ List.replicate 6 0 ++ leBytes 2 100 ++ List.replicate 4 0, data := List.replicate 64 0, req := 999000 }
def cP : State := (cF 0x20).modCan 7 fun x => { x with pend := [(31, fr)] }
def tx : CanTx := { buf := 31, frame := { fr with attempts := 1 }, data := [1], sof := 990000 }
def cC : State := cP.modCan 7 fun x => { x with cur := some tx }
def mraw : List Byte := List.replicate 8 0 ++ leBytes 4 1000000 ++ [1, 2, 0, 0] ++ (leBytes 2 0 ++ leBytes 2 100 ++ leBytes 2 500 ++ leBytes 2 300) ++ List.replicate 56 0 ++ (leBytes 2 1 ++ leBytes 2 (1 + 31 * 16)) ++ List.replicate 500 0
def mr : MatRun := { raw := mraw, row := 0, col := 0, start := 1000000, next := 1500000, begun := true }
def rxf : CanRx := { id := 5, fmt := 0, data := [1,2,3], ago := 100 }
def linR (cmd : Nat) : List Byte := [BitVec.ofNat 8 (2 + cmd), 0, 0, 0, 0, 0] ++ List.replicate 10 0
def lS (cmd : Nat) : State := ({ run with cfg.tables := [{ type := 0x0102, rtype := 5, key := 3, data := linR cmd }, { type := 0x0102, rtype := 6, key := 192 + 5, data := [2, 4, 0, 0] }, { type := 0x0102, rtype := 6, key := 192 + 6, data := [1, 4, 0, 0] }, { type := 0x0102, rtype := 7, key := 3, data := leBytes 2 2 ++ List.replicate 14 0 ++ [6, 0] ++ leBytes 2 10 ++ [5, 0] ++ leBytes 2 20 }] }).set FBC_NETn_STATUS_STATE 1 11
def nS (n st : Nat) : State := ({ cF 0x20 with cfg.tables := [{ type := 0x0103, rtype := 1, key := n, data := [1, 0, 200, 0] ++ List.replicate 20 0 ++ leBytes 4 7 ++ List.replicate 8 0 }] }).set FBC_NETn_STATUS_STATE st n
def nD (n : Nat) : State := (nS n 1).modNet n fun x => { x with due := some (1100000, 2) }
def pT : List Byte := pduR 1
def gI : GwImage := { data := [1,2,3,4,5,6,7,8], at_ := 7, upd := 1 }
def pRX : List Byte := [0, 0, 8, 0, 0, 0, 0, 0] ++ leBytes 4 0 ++ leBytes 4 0 ++ leBytes 2 5 ++ List.replicate 46 0
def wTo : State := { wR with cfg.tables := [{ type := 0x0104, rtype := 2, key := 3, data := pRX }] }
def pC : List Byte := [1, 0, 3, 0] ++ leBytes 4 7 ++ List.replicate 12 0 ++ leBytes 4 500 ++ List.replicate 8 0
def cRt (op : Nat) : Cmd := { seq := 3, fn := 0, src := 0, desc := descWith op (rq 0 1023 ([0, 0] ++ leBytes 2 4095)), at_ := 7, stage := .started }
def r0 : GwRoute := { src := 0, dst := 4095, mode := 0, onTimeout := 0, fwd := 0xFFFFFFFF }
def win (fl : Nat) : List Byte := leBytes 8 0x100000000 ++ leBytes 8 0x1000000 ++ leBytes 8 0x5000 ++ [BitVec.ofNat 8 fl] ++ List.replicate 7 0
def pB : Nat := 0x90000000
def winX (fl : Nat) : List Byte := leBytes 8 pB ++ leBytes 8 0x1000000 ++ leBytes 8 0x5000 ++ [BitVec.ofNat 8 fl] ++ List.replicate 7 0
def pS (fl : Nat) : State := { wR.setFlag PLB_STATUS_UP true with cfg.tables := [{ type := 0x0105, rtype := 2, key := 5, data := winX fl }] }
def rd (t : Nat) : PlbRead := { tag := t, init := 16, win := 5, addr := pB + 4, len := 8, at_ := 990000, fetch := 8 }
def ln : PfLine := { win := 5, addr := 7, data := [1,2], got := [true, false], used := 990000 }
def hb : List Byte := leBytes 8 0x9000 ++ leBytes 8 0x9100 ++ leBytes 2 100 ++ leBytes 2 300 ++ List.replicate 12 0
def pH : State := { pS 1 with cfg.tables := (pS 1).cfg.tables ++ [{ type := 0x0105, rtype := 4, key := 0, data := hb }] }
def pairs (s : State) : State := (List.range 6).foldl (fun s p => (s.set CC_PAIRp_STATUS_STATE prRun p).set CC_PAIRp_STATUS_HART p p) ((s.set CC_PAIRp_STATUS_STATE prIdle 6).set CC_PAIRp_STATUS_HART 6 6)
def wP : State := { pairs wR with cc.harts := (List.range 7).map fun h => (h, { running := true }) }
def svi : Init := { id := 5, secure := true }
def wO : State := (wP.set SF_EXPERT_ALLOW_ALLOW 0xFFFF)
def er : MsErr := { info := 0x80000005, addr := 7, time := 9 }
def gE : GkEvent := { gk := 3, kind := 1, init := 5, secure := true, write := true, addr := 0x1000 }
def cASec : Cmd := { seq := 3, fn := 0, src := 0, desc := descWith 0x0A02 (rq 0 0 []), at_ := 7, stage := .secure }
def wC : State := { wR with sf.cmds := [cASec], sf.nextSeq := 4, sec.calls := [{ seq := 0, cmd := 3, at_ := 900000 }] }
def le : FcuEntry := { info := 0x80000001, time := 7 }
def off : State := { run with pcs.power := .off, pcs.boot := .unpowered, pcs.vbat := false, mem := [(0x10000000, 3), (0x20000000, 4)], sec.otp.bootSvn := 3 }
def slp : State := (run.setFlag PCS_SLEEP_CFG_EN true)
def prp : State := { slp with pcs.power := .prepareSleep, pcs.prepAt := some 2000000 }
def asl : State := { slp with pcs.power := .stowed, pcs.boot := .held, pcs.sdRunning := true, pcs.inhFall := some 1100000, pcs.cycleAt := 900000 }
def rul : Rule := { raw := [2, 5, 1, 0x30, 0, 0, 0, 0, 0, 0, 1, 5] ++ List.replicate 4 0 ++ [0xFF, 0xFF] ++ List.replicate 6 0 }
def wH : State := { wR with cc.harts := [(0, { running := true }), (11, { running := true })], sec.grants := some 15, sec.otp.lifecycle := 0 }
def wHH : State := { wH with cc.harts := [(11, { running := true, halted := true })] }
def ld : State := { (wR.setFlag SEC_STATUS_BOOT_FAIL true).set SEC_STATUS_LC 0 with pcs.boot := .bootFail }
def sm : Sample := { info := 0x80000001, pc := 5, time := 7 }
def wVf : State := at0 wR (leBytes 8 0 ++ leBytes 8 0x1000 ++ leBytes 8 0x10001000 ++ [3] ++ List.replicate 7 0)
def rVf : Req := rq 0 63 (adr ++ [1, 8, 0] ++ [0] ++ leBytes 2 256 ++ [0, 0] ++ leBytes 8 0x50001000)
/-- A signal with an invalid value, for its route's time-out. -/
def sigI : List Byte := leBytes 2 4 ++ [0, 0, 16, 4, 0, 0] ++ leBytes 8 0x3FF0000000000000 ++ List.replicate 8 0 ++ leBytes 8 9 ++ leBytes 8 15 ++ List.replicate 8 0
def wSg : State := { wR with sgw.routes := [(1023, r0)], sgw.sigs := [(0, { raw := sig 3, val := 5 }), (4095, { raw := sigI, val := 6 })] }
/-- The bytes other than zero of a boot image of two components, of type 1 and of type 3. -/
def bootImg : List (Nat × Byte) :=
  [(0, 0x4C), (1, 0x42), (2, 0x4F), (3, 0x54), (4, 1), (6, 0x80), (7, 0x15), (8, 0xB0), (9, 0x27), (21, 2), (24, 10), (5248, 1), (5252, 0x80),
    (5253, 0x15), (5256, 0x20), (5257, 0x12), (5280, 3), (5284, 0xA0), (5285, 0x27), (5288, 16)]
def imgB : BootImg :=
  { total := 10160, svn := 0, slot := 0, worlds := 0, callTo := 10, rootPk := List.replicate 2592 0, cfgPk := List.replicate 2592 0,
    comps := [{ type := 1, ofs := 5504, len := 4640, load := 0, entry := 0 }, { type := 3, ofs := 10144, len := 16, load := 0, entry := 0 }] }
/-- The half from which the device boots holds that image, committed. -/
def wBoot : State :=
  let s : State := run.setCommit 1 1 { seq := 4, state := 3, len := 14787 }
  { s with pcs.boot := .protection, pcs.power := .waking, cfg.bootHalf := some 1, mem := s.mem ++ bootImg.map fun e => (0x22000040 + e.1, e.2) }

/-- A result that is a success, from its parts. -/
theorem okPair {ε α σ : Type} {x : Except ε α × σ} {b : α} {v : σ} (h : x.1.toOption = some b) (h' : x.2 = v) : x = (.ok b, v) := by
  obtain ⟨e, t⟩ := x
  cases e with
  | error e => cases h
  | ok a => cases h; cases h'; rfl

theorem okVal {ε α : Type} {x : Except ε α} {b : α} (h : x.toOption = some b) : x = .ok b := by
  cases x with
  | error e => cases h
  | ok a => cases h; rfl

/-- The error of a result, if it is one. -/
def errOf {ε α : Type} : Except ε α → Option ε
  | .error e => some e
  | .ok _ => none

theorem errVal {ε α : Type} {x : Except ε α} {e : ε} (h : errOf x = some e) : x = .error e := by
  cases x with
  | error a => cases h; rfl
  | ok a => cases h

theorem errPair {ε α σ : Type} {x : Except ε α × σ} {e : ε} {v : σ} (h : errOf x.1 = some e) (h' : x.2 = v) : x = (.error e, v) := by
  obtain ⟨d, t⟩ := x
  cases d with
  | error a => cases h; cases h'; rfl
  | ok a => cases h

/-- Time passing changes no condition of ERR_N. -/
theorem until_errnWanted (s : State) (t : Nat) : (s.until t).errnWanted = s.errnWanted := by
  unfold State.until State.ticks
  dsimp only
  split
  · rfl
  · split <;> rfl

/-! ### The hypotheses of each statement, clause by clause -/

theorem wit_StepRunsFront :
    ∃ (s : State) (c : Instr), True :=
  ⟨run, .uvDefer { cp := 0, grp := [], vbat := 0 }, by decide +kernel⟩

theorem wit_EveryStepCompletes :
    ∃ (s : State), s.pending = [] :=
  ⟨run, by decide +kernel⟩

theorem wit_QuietEnd :
    ∃ (b e : State), State.Calm b e :=
  ⟨run, run, by unfold State.Calm; decide +kernel⟩

theorem wit_ResetState :
    (∃ (d : Nat), d < 4) ∧
    (∃ (n : Nat), n < 64) ∧
    (∃ (p : Nat), p < 10) ∧
    (∃ (k : Nat), k < 16) ∧
    (∃ (s : State), s.pcs.bootPins = 2 ∧ s.coreRuns = false) :=
  ⟨⟨3, by decide +kernel⟩,
   ⟨63, by decide +kernel⟩,
   ⟨9, by decide +kernel⟩,
   ⟨15, by decide +kernel⟩,
   ⟨State.reset.set PCS_STATE_DONE 0 |> fun s => { s with pcs.bootPins := 2 }, by decide +kernel⟩⟩

theorem wit_RegisterMap :
    ∃ (k : Nat) (r : Reg) (i j : Nat), k < 14 ∧ r ∈ slotRegs k ∧ i < r.n1 ∧ j < r.n2 :=
  ⟨13, DBG_SMP_INFO, 0, 0, by decide +kernel⟩

theorem wit_WrittenBits :
    (∃ (r : Reg) (old v : Word) (b : Nat), b < 32 ∧ (bitOf r.rw b = false ∨ bitOf r.w1c b = false ∧ bitOf r.w1s b = false) ∧
      (bitOf r.w1c b = false ∨ bitOf r.w1s b = false) ∧ bitOf r.rw b = true) ∧
    (∃ (r : Reg) (old v : Word) (b : Nat), b < 32 ∧ (bitOf r.rw b = false ∨ bitOf r.w1c b = false ∧ bitOf r.w1s b = false) ∧
      (bitOf r.w1c b = false ∨ bitOf r.w1s b = false) ∧ bitOf r.w1c b = true) ∧
    (∃ (r : Reg) (b : Nat), b < 32 ∧ (bitOf r.rw b = false ∨ bitOf r.w1c b = false ∧ bitOf r.w1s b = false) ∧ (bitOf r.w1c b =
      false ∨ bitOf r.w1s b = false) ∧ bitOf r.w1s b = true) ∧
    (∃ (r : Reg) (b : Nat), b < 32 ∧ (bitOf r.rw b = false ∨ bitOf r.w1c b = false ∧ bitOf r.w1s b = false) ∧ (bitOf r.w1c b =
      false ∨ bitOf r.w1s b = false) ∧ bitOf r.rw b = false ∧ bitOf r.w1c b = false ∧ bitOf r.w1s b = false) :=
  ⟨⟨FCU_SRCi_CFG, 0xFFFFFFFF, 5, 0, by decide +kernel⟩,
   ⟨FCU_SRCi_STATE, 0xFFFFFFFF, 5, 1, by decide +kernel⟩,
   ⟨SEC_GKg_REGr_CTRL, 6, by decide +kernel⟩,
   ⟨SEC_GKg_REGr_CTRL, 31, by decide +kernel⟩⟩

theorem wit_RegisterWrites :
    (∃ (s : State) (a : Init) (v : Word) (r : Reg) (n : Nat), r ∈ [PDA_CHn_THRESH, PDA_CHn_DIAG_ON, PDA_CHn_DIAG_OFF,
      PE_TRIP_IRQ_EN_LO, TBU_TS_EN, ESW_NODE_ID, SGW_EVT_EN, PLB_HB_CTRL, CC_SPX_CFG, MS_EVT_EN] ∧ n < r.n1 ∧ s.reaches a r n 0
      true = true) ∧
    (∃ (s : State) (a : Init) (v : Word) (k : Nat) (r : Reg) (i j : Nat), k < 14 ∧ r ∈ slotRegs k ∧ i < r.n1 ∧ j < r.n2 ∧
      isBuffer (r.addr i j) = false ∧ s.coreRuns = true ∧ s.stalled a = false ∧ s.gkAdmits a.id.toNat a.secure (r.addr i j) 4 true = true ∧ s.powered
      (s.islandOf (r.addr i j)) = true ∧ s.penRuns (penOf (r.addr i j)) = true ∧ r.world = RegWorld.S ∧ a.secure = false) ∧
    (∃ (s : State) (a : Init) (v : Word) (k : Nat) (r : Reg) (i j : Nat), k < 14 ∧ r ∈ slotRegs k ∧ i < r.n1 ∧ j < r.n2 ∧
      isBuffer (r.addr i j) = false ∧ s.coreRuns = true ∧ s.stalled a = false ∧ s.gkAdmits a.id.toNat a.secure (r.addr i j) 4 true = true ∧ s.powered
      (s.islandOf (r.addr i j)) = true ∧ s.penRuns (penOf (r.addr i j)) = true ∧ (r.world = RegWorld.SN ∨ a.secure = true) ∧
      s.windowShut a (r.addr i j) r = true) ∧
    (∃ (s : State) (a : Init) (v : Word) (k : Nat) (r : Reg) (i j : Nat), k < 14 ∧ r ∈ slotRegs k ∧ i < r.n1 ∧ j < r.n2 ∧
      isBuffer (r.addr i j) = false ∧ s.coreRuns = true ∧ s.stalled a = false ∧ s.gkAdmits a.id.toNat a.secure (r.addr i j) 4 true = false) ∧
    (∃ (s : State) (a : Init) (v : Word) (p : Nat), s.coreRuns = false) ∧
    (∃ (s : State) (a : Init) (v : Word) (p : Nat), s.stalled a = true) :=
  ⟨⟨wR, svp, 0x12345678, PDA_CHn_THRESH, 63, by decide +kernel⟩,
   ⟨gk wR, nsi, 5, 10, SEC_OTP_DATA, 0, 0, by decide +kernel⟩,
   ⟨gk wR, nsi, 5, (slotOf (PDA_CHn_THRESH.addr 63 0)).getD 0, PDA_CHn_THRESH, 63, 0, by decide +kernel⟩,
   ⟨wR, nsi, 5, (slotOf (PDA_CHn_THRESH.addr 63 0)).getD 0, PDA_CHn_THRESH, 63, 0, by decide +kernel⟩,
   ⟨{ run with pcs.boot := .held }, svp, 5, 0x40000000, by decide +kernel⟩,
   ⟨{ run with plb.reads := [rd 64] }, svp, 5, 0x40000000, by decide +kernel⟩⟩

theorem wit_MultiWordValues :
    (∃ (s : State) (a : Init) (d : Nat) (v : Word), d < 4 ∧ s.reaches a TBU_TDd_TIME_FRAC d 0 true = true) ∧
    (∃ (s : State) (a : Init) (n k : Nat) (m : NMap Word), n < 64 ∧ 1 ≤ k ∧ k < 4 ∧ s.reaches a PDA_MEAS_CURn n k false = true
      ∧ mwGet s.bus.latches a.id.toNat (PDA_MEAS_CURn.addr n 0) = some m) ∧
    (∃ (l : List MwHold) (i j low low' : Nat) (ws : NMap Word), ¬(i = j ∧ low = low')) ∧
    (∃ (s : State) (k : Nat), True) :=
  ⟨⟨wR, svp, 3, 0x12345678, by decide +kernel⟩,
   ⟨{ wR with bus.latches := mwPut [] 0x10 (PDA_MEAS_CURn.addr 63 0) [(0, 5), (1, 6), (2, 7), (3, 8)] }, svp, 63, 3, [(0, 5),
     (1, 6), (2, 7), (3, 8)], by decide +kernel⟩,
   ⟨mwPut [] 0x10 8 [(0, 5)], 0x10, 5, 8, 8, [(1, 2)], by decide +kernel⟩,
   ⟨wR, 5, by decide +kernel⟩⟩

theorem wit_MemoryBytes :
    (∃ (d : List Byte) (k : Nat), k < d.length) ∧
    (∃ (a : Nat) (d : List Byte) (x : Nat), (x < a ∨ a + d.length ≤ x)) ∧
    (∃ (s : State), Memory.wf s.mem = true) :=
  ⟨⟨[1,2,3], 2, by decide +kernel⟩,
   ⟨5, [1,2,3], 8, by decide +kernel⟩,
   ⟨wR.setBytes 5 [7], by decide +kernel⟩⟩

theorem wit_StepKeepsSafe :
    ∃ (s t : State), s.Safe ∧ step s = .next t :=
  ⟨run, _, ⟨by decide +kernel, fun _ _ h => (Bool.false_ne_true h).elim, by decide +kernel, by decide +kernel⟩, rfl⟩

theorem wit_DescriptorLayout :
    ∃ (d : Desc), d.params.length = 48 :=
  ⟨d0, by decide +kernel⟩

theorem wit_CompletionLayout :
    (∃ (tag status fn result : Nat) (phase rep : Bool), tag < 65536 ∧ status < 65536 ∧ fn < 64 ∧ result < 2 ^ 64) ∧
    (∃ (s : State) (fn tag status result : Nat) (phase : Bool), s.fcu.svpFence = none ∧ tag < 65536 ∧ status < 65536 ∧ fn < 64
      ∧ result < 2 ^ 64 ∧ (s.fn fn).mbx.result = completionBytes tag status phase false fn result ∧ (s.fn fn).mbx.st =
      MbxState.fresh) ∧
    (∃ (s : State) (fn tag status result : Nat) (phase : Bool), s.fcu.svpFence = none ∧ tag < 65536 ∧ status < 65536 ∧ fn < 64
      ∧ result < 2 ^ 64 ∧ (s.fn fn).mbx.result = completionBytes tag status phase false fn result ∧ (s.fn fn).mbx.st =
      MbxState.seen) :=
  ⟨⟨65535, 65535, 63, 0xFFFFFFFFFFFFFFFF, true, true, by decide +kernel⟩,
   ⟨mb .fresh, 5, 7, 0, 99, true, by decide +kernel⟩,
   ⟨mb .seen, 5, 7, 0, 99, true, by decide +kernel⟩⟩

theorem wit_MinimumOnTime :
    (∃ (period duty minon : Nat), minon = 0) ∧
    (∃ (period duty minon : Nat), (if 65535 ≤ duty then period else period * duty / 65535) < minon * 1000) ∧
    (∃ (period duty minon : Nat), (minon * 1000 ≤ if 65535 ≤ duty then period else period * duty / 65535) ∧ ((period - if 65535
      ≤ duty then period else period * duty / 65535) < minon * 1000)) ∧
    (∃ (period duty minon : Nat), (minon * 1000 ≤ if 65535 ≤ duty then period else period * duty / 65535) ∧ (minon * 1000 ≤
      period - if 65535 ≤ duty then period else period * duty / 65535)) ∧
    (∃ (s : State) (n : Nat) (w : PwmRun), n < 64 ∧ (s.chan n).pwm = some w ∧ s.coreRuns = true ∧ (s.chan n).state = chPwm ∧
      w.begun = false ∧ (s.chan n).pwmCmds = [] ∧ s.pwmStart n w.from_ ≤ (s.untilTd 0 (s.pwmStart n w.from_)).td0 ∧ onTime
      (s.pwmPeriod n) (s.dutyApplied n) (s.get PDA_CHn_PWM_CFG_MINON n) = 0) ∧
    (∃ (s : State) (n : Nat) (w : PwmRun), n < 64 ∧ (s.chan n).pwm = some w ∧ w.begun = true ∧ w.on = true ∧ w.onFor = w.period
      ∧ (s.chan n).pwmCmds = [] ∧ (s.chan n).state ≠ chHeld ∧ ↑(s.pwmStart n (w.start + ↑w.period).toNat) = w.start +
      ↑w.period) :=
  ⟨⟨100000, 3000, 0, by decide +kernel⟩,
   ⟨100000, 3000, 5, by decide +kernel⟩,
   ⟨100000, 65000, 5, by decide +kernel⟩,
   ⟨100000, 32000, 5, by decide +kernel⟩,
   ⟨(((run.wr PDA_CHn_PWM_PERIOD 10000 63).set PDA_CHn_PWM_CFG_MINON 100 63).set PDA_CHn_PWM_APPLIED_DUTY_APPLIED 328
     63).modChan 63 (fun c => { c with state := chPwm, pwm := some { from_ := 1000100 } }), 63, { from_ := 1000100 }, by
     decide +kernel⟩,
   ⟨(run.wr PDA_CHn_PWM_PERIOD 10000 63).modChan 63 (fun c =>
     { c with state := chPwm, gate := .on, pwm := some { begun := true, on := true, period := 100000, onFor := 100000, start := 1000000 } }),
     63, { begun := true, on := true, period := 100000, onFor := 100000, start := 1000000 }, by decide +kernel⟩⟩

theorem wit_ProfileRights :
    (∃ (s : State) (r : Req), r.expert = false ∧ s.takes 513 r = true ∧ r.fn ≠ 0) ∧
    (∃ (s : State) (r : Req), r.expert = false ∧ s.takes 261 r = true ∧ r.target.toNat < 64 ∧ s.owner 0 r.target.toNat = r.fn ∧
      ((s.chan r.target.toNat).state = chOff ∨ (s.chan r.target.toNat).state = chLatched) ∧ strayByte [(0, 2)] r.params = none
      ∧ (s.profile (leAt r.params 0 2)).isSome = true) ∧
    (∃ (s : State) (r : Req) (rec : List Byte) (v : State), (r.expert = false ∧ s.takes 514 r = true ∧ r.target.toNat < 128 ∧
      strayByte [(0, 8)] r.params = none ∧ s.profile r.target.toNat = some rec ∧ (s.fetched 514 r).fnOk r.fn (leAt r.params 0
      8) 128 true = (true, s.fetched 514 r)) ∧ (s.fetched 514 r).fnWrite r.fn (leAt r.params 0 8) rec = (Except.ok (), v)) :=
  ⟨⟨wR, rq 5 3 [], by decide +kernel⟩,
   ⟨{ wR with pda.profiles := [(1, prof1)] }, rq 0 63 [1], by decide +kernel⟩,
   ⟨{ wR with pda.profiles := [(127, prof1)] }, rq 0 127 adr, prof1, ((({ wR with pda.profiles := [(127, prof1)] }).fetched
     0x0202 (rq 0 127 adr)).fnWrite 0 0x10000000 prof1).2, by decide +kernel, okPair (by decide +kernel) (by decide +kernel)⟩⟩

theorem wit_IngestStale :
    (∃ (s : State) (h : Nat) (x : Ing), nfind s.pe.ings h = some x ∧ 64 ≤ x.idle) ∧
    (∃ (s : State) (h : Nat) (x : Ing), nfind s.pe.ings h = some x ∧ x.idle < 64) ∧
    (∃ (s : State) (h : Nat) (x : Ing) (t : Nat), nfind s.pe.ings h = some x ∧ s.td0 / 10000 * 10000 ≤ t + 640000 ∧ t ≤ s.td0 +
      1000) ∧
    (∃ (s : State) (h : Nat) (x : Ing), nfind s.pe.ings h = some x) ∧
    (∃ (s : State) (h : Nat) (x : Ing), nfind s.pe.ings h = some x ∧ s.atGrid = true ∧ s.peTickNo ≠ s.tbu.grid ∧ s.prot =
      false) :=
  ⟨⟨{ run with pe.ings := [(127, { foreign := false, missing := false, nval := 1, lat := 0, imax := 0, method := false, idle := 64 })] },
     127, { foreign := false, missing := false, nval := 1, lat := 0, imax := 0, method := false, idle := 64 }, by
     decide +kernel⟩,
   ⟨{ run with pe.ings := [(127, { foreign := false, missing := false, nval := 1, lat := 0, imax := 0, method := false, idle := 63 })] },
     127, { foreign := false, missing := false, nval := 1, lat := 0, imax := 0, method := false, idle := 63 }, by
     decide +kernel⟩,
   ⟨{ run.setFlag PE_INGh_STATUS_STALE true 127 with pe.ings := [(127, { foreign := false, missing := false, nval := 1, lat := 0, imax := 0, method := false, idle := 64 })] },
     127, { foreign := false, missing := false, nval := 1, lat := 0, imax := 0, method := false, idle := 64 }, 999000, by
     decide +kernel⟩,
   ⟨{ run with pe.ings := [(127, { foreign := false, missing := false, nval := 1, lat := 0, imax := 0, method := false, idle := 64 })] },
     127, { foreign := false, missing := false, nval := 1, lat := 0, imax := 0, method := false, idle := 64 }, by
     decide +kernel⟩,
   ⟨{ (run.setFlag PCS_STATE_PROT false).wr PE_TICK_LO 99 with pe.ings := [(127, { foreign := false, missing := false, nval := 1, lat := 0, imax := 0, method := false, idle := 63 })] },
     127, { foreign := false, missing := false, nval := 1, lat := 0, imax := 0, method := false, idle := 63 }, by
     decide +kernel⟩⟩

theorem wit_MailboxWords :
    (∃ (s : State) (a : Init) (fn w : Nat) (v : Word), fn < 64 ∧ w < 16 ∧ s.reaches a SF_MBX_CMDw fn w true = true ∧ s.flag
      SF_MBX_STATUS_BUSY fn = true) ∧
    (∃ (s : State) (a : Init) (fn w : Nat) (v : Word), fn < 64 ∧ w < 16 ∧ s.reaches a SF_MBX_CMDw fn w true = true ∧ s.flag
      SF_MBX_STATUS_BUSY fn = false ∧ w < 15) ∧
    (∃ (s : State) (a : Init) (fn w : Nat) (v : Word), fn < 64 ∧ w < 16 ∧ s.reaches a SF_MBX_CMDw fn w true = true ∧ s.flag
      SF_MBX_STATUS_BUSY fn = false ∧ w = 15) ∧
    (∃ (s : State) (a : Init) (fn w : Nat) (v : Word) (hi : Bool), fn < 64 ∧ w < 16 ∧ s.reaches a SF_MBX_CMDw fn w true = true
      ∧ s.nextFn = some (fn, 8, hi)) :=
  ⟨⟨wR.setFlag SF_MBX_STATUS_BUSY true 5, svp, 5, 15, 77, by decide +kernel⟩,
   ⟨wR, svp, 5, 14, 77, by decide +kernel⟩,
   ⟨wR, svp, 5, 15, 77, by decide +kernel⟩,
   ⟨wR.setFn 5
     { (wR.fn 5) with mbx := { st := .busy, sent := true, words := (List.range 16).map fun k => BitVec.ofNat 32 k } }, svp, 5,
     15, 77, true, by decide +kernel⟩⟩

theorem wit_QueueInterrupts :
    (∃ (s : State) (q : Nat), s.get ESW_Qq_CFG_IDENTITY 0 q = 0) ∧
    (∃ (s : State) (q : Nat), s.get ESW_Qq_CFG_IDENTITY 0 q ≠ 0 ∧ (s.ethq q).irq = none) ∧
    (∃ (s : State) (q t : Nat), s.get ESW_Qq_CFG_IDENTITY 0 q ≠ 0 ∧ (s.ethq q).irq = some t) ∧
    (∃ (s : State) (q t : Nat), (s.ethq q).irq = some t ∧ s.atGrid = true ∧ t < s.now) ∧
    (∃ (s : State) (q t : Nat), (s.ethq q).irq = some t ∧ (s.atGrid = false ∨ s.now ≤ t)) ∧
    (∃ (s : State) (q : Nat), (s.ethq q).irq = none) :=
  ⟨⟨wR, 63, by decide +kernel⟩,
   ⟨wR.set ESW_Qq_CFG_IDENTITY 9 0 63, 63, by decide +kernel⟩,
   ⟨{ wR.set ESW_Qq_CFG_IDENTITY 9 0 63 with esw.queues := [(63, { irq := some 999000 })] }, 63, 999000, by decide +kernel⟩,
   ⟨{ wR.set ESW_Qq_CFG_IDENTITY 9 0 63 with esw.queues := [(63, { irq := some 999000 })] }, 63, 999000, by decide +kernel⟩,
   ⟨{ wR.set ESW_Qq_CFG_IDENTITY 9 0 63 with esw.queues := [(63, { irq := some 1000000 })] }, 63, 1000000, by decide +kernel⟩,
   ⟨wR, 63, by decide +kernel⟩⟩

theorem wit_TimeIncrement :
    (∃ (d : Nat), d < 4) ∧
    (∃ (s : State) (a : Init) (d : Nat) (v f : Word), d < 4 ∧ s.reaches a TBU_TDd_INC_NS d 0 true = true ∧ s.heldWords
      a.id.toNat (TBU_TDd_INC_FRAC.addr d 0) [0] = [f] ∧ 1998 * 4294967296 ≤ (BitVec.toNat f + BitVec.toNat v % 16 *
      4294967296) * 1000 ∧ (BitVec.toNat f + BitVec.toNat v % 16 * 4294967296) * 1000 ≤ 2002 * 4294967296) ∧
    (∃ (s : State) (a : Init) (d : Nat) (v f : Word), d < 4 ∧ s.reaches a TBU_TDd_INC_NS d 0 true = true ∧ s.heldWords
      a.id.toNat (TBU_TDd_INC_FRAC.addr d 0) [0] = [f] ∧ ¬(1998 * 4294967296 ≤ (BitVec.toNat f + BitVec.toNat v % 16 *
      4294967296) * 1000 ∧ (BitVec.toNat f + BitVec.toNat v % 16 * 4294967296) * 1000 ≤ 2002 * 4294967296)) ∧
    (∃ (s : State) (d : Nat), d < 4 ∧ s.tbu.td.length = 4 ∧ s.coreRuns = true) :=
  ⟨⟨3, by decide +kernel⟩,
   ⟨hold run svp (TBU_TDd_INC_FRAC.addr 3 0) [(0, 0)], svp, 3, 2, 0, by decide +kernel⟩,
   ⟨hold run svp (TBU_TDd_INC_FRAC.addr 3 0) [(0, 0)], svp, 3, 3, 0, by decide +kernel⟩,
   ⟨run, 3, by decide +kernel⟩⟩

theorem wit_StampQueueRead :
    (∃ (s : State) (a : Init) (e : TsqEntry) (l : List TsqEntry), s.reaches a TBU_TSQ_INFO 0 0 false = true ∧ s.tbu.tsq = e ::
      l ∧ w32 e.info ≠ 0) ∧
    (∃ (s : State) (a : Init), s.reaches a TBU_TSQ_INFO 0 0 false = true ∧ s.tbu.tsq = []) :=
  ⟨⟨{ run with tbu.tsq := [{ info := 2147483649, seq := 4, stamps := [1,2,3,4] }] }, svp,
     { info := 2147483649, seq := 4, stamps := [1,2,3,4] }, [], by decide +kernel⟩,
   ⟨run, svp, by decide +kernel⟩⟩

theorem wit_DebugKeepsAwake :
    (∃ (s : State), s.dbgActive = true) ∧
    (∃ (s : State), s.dbgActive = true) :=
  ⟨⟨{ wR with cc.harts := [(1, { halted := true })] }, by decide +kernel⟩,
   ⟨{ wR with dbg.dmactive := true }, by decide +kernel⟩⟩

theorem wit_ChannelRequests :
    (∃ (s : State) (a : Init) (n : Nat) (v : Word), n < 64 ∧ s.reaches a PDA_CHn_CTRL n 0 true = true ∧ BitVec.toNat v % 4 ≠ 3
      ∧ (s.chan n).state ≠ chLimp ∧ (BitVec.toNat v % 4 ≠ 0 → s.profIdx n ≠ 0 ∧ s.peLatched n = false) ∧ (∀ (r : PendReq),
      (s.chan n).pend = some r → r.cmd = none)) ∧
    (∃ (s : State) (a : Init) (n : Nat) (v : Word), n < 64 ∧ s.reaches a PDA_CHn_CTRL n 0 true = true ∧ BitVec.toNat v % 4 ≠ 3
      ∧ (s.chan n).state ≠ chLimp ∧ (BitVec.toNat v % 4 ≠ 0 → s.profIdx n ≠ 0 ∧ s.peLatched n = false) ∧ (∀ (r : PendReq),
      (s.chan n).pend = some r → r.cmd = none)) ∧
    (∃ (s : State) (a : Init) (n : Nat) (v : Word), n < 64 ∧ s.reaches a PDA_CHn_FAULT n 0 true = true) ∧
    (∃ (s : State) (n at_ : Nat) (f : Bool), n < 64 ∧ s.atGrid = true ∧ at_ < s.now ∧ (s.chan n).pend = some
      { req := 1, fast := f, at_ := at_ : PendReq } ∧ (s.chan n).state = chOff ∧ (s.chan n).gate = Gate.off ∧ (s.chan n).waitOn
      = [] ∧ (s.chan n).act = none ∧ s.profIdx n ≠ 0 ∧ (s.chan n).thermal = false ∧ s.peLatched n = false ∧ s.pda.cpLow =
      false ∧ nfind s.pda.cal n = none) ∧
    (∃ (s : State) (n at_ : Nat) (f : Bool), n < 64 ∧ s.atGrid = true ∧ at_ < s.now ∧ (s.chan n).pend = some
      { req := 0, fast := f, at_ := at_ : PendReq } ∧ (s.chan n).state = chOn ∧ (s.chan n).gate = Gate.on ∧ (s.chan n).waitOn =
      [] ∧ (s.chan n).act = none) ∧
    (∃ (s : State) (n at_ : Nat) (f : Bool), n < 64 ∧ ((s.chan n).gate = Gate.sink ∨ (s.chan n).gate = Gate.fast) ∧ (s.chan
      n).state = chTurningOff ∧ (s.chan n).settle = none) :=
  ⟨⟨run, svp, 3, 4, by decide +kernel⟩,
   ⟨(run.set PDA_CHn_PROFILE_PROFILE 1 63), svp, 63, 0x3FFF9, by decide +kernel⟩,
   ⟨((run.modChan 63 fun c => { c with kept := 1 }).set PDA_CHn_FAULT_FAULT 0x40001 63), svp, 63, 0x40001, by decide +kernel⟩,
   ⟨(((run.set PDA_CHn_PROFILE_PROFILE 1 63).modChan 63 fun c =>
     { c with pend := some { req := 1, fast := true, at_ := 999990 } })), 63, 999990, true, by decide +kernel⟩,
   ⟨(((run.set PDA_CHn_PROFILE_PROFILE 1 63).modChan 63 fun c =>
     { c with state := chOn, gate := .on, req := 1, pend := some { req := 0, fast := true, at_ := 999990 } })), 63, 999990,
     true, by decide +kernel⟩,
   ⟨(run.modChan 63 fun c => { c with state := chTurningOff, gate := .sink }), 63, 0, false, by decide +kernel⟩⟩

theorem wit_ChannelTrips :
    (∃ (s : State) (n uv : Nat), n < 64 ∧ s.atGrid = true ∧ (s.chan n).state = chTurningOn ∧ (s.chan n).blank = 0 ∧ (s.grp (n /
      8)).uv = false ∧ (s.chan n).paused = false) ∧
    (∃ (s : State) (n uv : Nat), n < 64 ∧ s.prot = true ∧ 3 ≤ (s.chan n).desat) ∧
    (∃ (s : State) (n uv : Nat), n < 64 ∧ (s.chan n).gate ≠ Gate.off ∧ s.pcs.vbat = true ∧ ceilNv (bitsOf (BitVec.toNat (s.chan
      n).copy.ctrl) 9 4) * 103 / 100 + 500000 < uv * 1000) ∧
    (∃ (s : State) (n uv : Nat), n < 64 ∧ s.prot = true ∧ 10 ≤ (s.chan n).rev ∧ s.flag PDA_CHn_CTRL_B2B n = true ∧ (s.chan
      n).state = chOn ∧ (s.chan n).driven = true) ∧
    (∃ (s : State) (n uv : Nat), n < 64 ∧ s.prot = true ∧ (s.chan n).stuck = 3) ∧
    (∃ (s : State) (n uv : Nat), n < 64 ∧ s.prot = true ∧ (s.chan n).olonDue = true) ∧
    (∃ (s : State) (n k m : Nat), n < 64 ∧ k < 19 ∧ k ≠ fThermal ∧ k ≠ fWire ∧ bitOf keptMask k = false ∧ (s.chan n).state =
      chOn ∧ (s.chan n).gate = Gate.on ∧ (s.chan n).settle = none ∧ (s.chan n).waitOn = [] ∧ s.pda.lost = false ∧ s.prot = true
      ∧ s.atGrid = false ∧ m ≠ n) :=
  ⟨⟨(run.modChan 63 fun c => { c with state := chTurningOn, gate := .charging }), 63, 0, by decide +kernel⟩,
   ⟨(run.modChan 63 fun c => { c with state := chOn, gate := .on, desat := 3 }), 63, 0, by decide +kernel⟩,
   ⟨(run.modChan 63 fun c => { c with state := chOn, gate := .on }), 63, 6000000, by decide +kernel⟩,
   ⟨((run.modChan 63 fun c => { c with state := chOn, gate := .on, rev := 10 }).setFlag PDA_CHn_CTRL_B2B true 63), 63, 0, by
     decide +kernel⟩,
   ⟨(run.modChan 63 fun c => { c with stuck := 3 }), 63, 0, by decide +kernel⟩,
   ⟨(run.modChan 63 fun c => { c with state := chOn, gate := .on, olonDue := true }), 63, 0, by decide +kernel⟩,
   ⟨{ (run.modChan 63 fun c => { c with state := chOn, gate := .on, trips := 65535, refill := 5 }) with pda.lost := false, tbu.gridAt := none },
     63, 4, 62, by decide +kernel⟩⟩

theorem wit_PumpGroupsAndPwm :
    (∃ (s : State) (x : PumpIn), s.coreRuns = true ∧ x.cp < (if List.foldl max 0 (List.map Prod.snd x.grp) = 0 then x.vbat else
      List.foldl max 0 (List.map Prod.snd x.grp)) + 8000) ∧
    (∃ (s : State) (x : PumpIn), s.coreRuns = true ∧ (if List.foldl max 0 (List.map Prod.snd x.grp) = 0 then x.vbat else
      List.foldl max 0 (List.map Prod.snd x.grp)) + 8000 ≤ x.cp) ∧
    (∃ (s : State) (x : PumpIn), s.coreRuns = true ∧ x.cp < (if List.foldl max 0 (List.map Prod.snd x.grp) = 0 then x.vbat else
      List.foldl max 0 (List.map Prod.snd x.grp)) + 6000) ∧
    (∃ (s : State) (k : Nat), k < 8 ∧ s.prot = true ∧ (s.grp k).uv = false ∧ (s.grp k).runDone = true) ∧
    (∃ (s : State) (k : Nat), k < 8 ∧ s.prot = true ∧ (s.grp k).uv = true ∧ (s.grp k).runDone = true) ∧
    (∃ (s : State) (k : Nat) (sum : Int) (cnt start : Nat), k < 8 ∧ s.prot = true ∧ (s.grp k).event = some (sum, cnt, start) ∧
      start + s.pauseMax k ≤ s.tbu.grid) ∧
    (∃ (s : State) (n : Nat) (w : PwmRun), n < 64 ∧ s.coreRuns = true ∧ (s.chan n).pwm = some w ∧ (s.chan n).state = chPwm ∧
      w.begun = false ∧ (s.chan n).pwmCmds = [] ∧ s.pwmStart n w.from_ ≤ (s.untilTd 0 (s.pwmStart n w.from_)).td0 ∧ onTime
      (s.pwmPeriod n) (s.dutyApplied n) (s.get PDA_CHn_PWM_CFG_MINON n) ≠ 0) ∧
    (∃ (s : State) (n : Nat) (w : PwmRun), n < 64 ∧ s.coreRuns = true ∧ (s.chan n).pwm = some w ∧ (s.chan n).state = chPwm ∧
      w.begun = true ∧ w.on = true ∧ w.onFor < w.period ∧ w.start + ↑w.onFor ≤ ↑(s.untilTd 0 (w.start + ↑w.onFor).toNat).td0) ∧
    (∃ (s : State), s.prot = true ∧ s.atGrid = true ∧ s.tbu.grid % 10 = 0) ∧
    (∃ (s : State) (n sum cnt : Nat), s.get PDA_CHn_PWM_CFG_VNOM n ≠ 0 ∧ (s.chan n).state ≠ chHeld ∧ cnt ≠ 0 ∧ 0 < sum ∧
      (histSum (List.filter (fun (e : Nat × Int) => decide (s.tbu.grid < e.fst + 10)) (s.grp (n / 8)).hist) = (↑sum, cnt))) ∧
    (∃ (s : State) (n t : Nat), n < 64 ∧ s.prot = true ∧ (s.chan n).holdSince = some t ∧ s.get PDA_CHn_PWM_CFG_VNOM n ≠ 0 ∧
      (s.chan n).state ≠ chHeld) :=
  ⟨⟨run, { cp := 20999, vbat := 12000, grp := [(0, 13000), (7, 12500)] }, by decide +kernel⟩,
   ⟨run.setFlag PDA_CP_STATUS_UV_OFF true, { cp := 21000, vbat := 12000, grp := [(0, 13000), (7, 12500)] }, by decide +kernel⟩,
   ⟨run.modChan 63 fun c => { c with state := chOn, gate := .on }, { cp := 17999, vbat := 12000, grp := [(0, 0), (7, 0)] }, by
     decide +kernel⟩,
   ⟨(run.setGrp 7 { run := some (90, 100) }), 7, by decide +kernel⟩,
   ⟨(run.setGrp 7 { uv := true, run := some (90, 100) }), 7, by decide +kernel⟩,
   ⟨{ run.setGrp 7 { event := some (65536 * 12, 1, 10) } with tbu.grid := 5010 }, 7, 65536 * 12, 1, 10, by decide +kernel⟩,
   ⟨((run.wr PDA_CHn_PWM_PERIOD 10000 63).setFlag PDA_CHn_PWM_APPLIED_COMP_HOLD false 63).set PDA_CHn_PWM_APPLIED_DUTY_APPLIED
     32768 63 |>.modChan 63 (fun c => { c with state := chPwm, pwm := some { from_ := 1000100 } }), 63, { from_ := 1000100 },
     by decide +kernel⟩,
   ⟨run.modChan 63 (fun c =>
     { c with state := chPwm, gate := .on, pwm := some { begun := true, on := true, period := 100000, onFor := 50000, start := 1000000 } }),
     63, { begun := true, on := true, period := 100000, onFor := 50000, start := 1000000 }, by decide +kernel⟩,
   ⟨run, by decide +kernel⟩,
   ⟨(((run.set PDA_CHn_PWM_CFG_VNOM 12000 63).set PDA_CHn_PWM_DUTY_DUTY_SET 30000 63).setGrp 7 { hist := [(99, 13 * 65536)] }),
     63, 13 * 65536, 1, by decide +kernel⟩,
   ⟨((run.set PDA_CHn_PWM_CFG_VNOM 12000 63).set PDA_CHn_PWM_DUTY_DUTY_SET 30000 63).modChan 63 (fun c =>
     { c with state := chPwm, holdSince := some 500000 }), 63, 500000, by decide +kernel⟩⟩

theorem wit_TestsRestartsAndLimp :
    (∃ (s : State) (n : Nat) (vout vgrp : Int), n < 64 ∧ s.prot = true ∧ s.offTestOk n = true ∧ s.flag PDA_CHn_CTRL_B2B n =
      false ∧ (s.chan n).offBusy = none ∧ (s.chan n).offNext = none ∧ s.atGrid = true ∧ vout ≤ vgrp - 1200000) ∧
    (∃ (s : State) (n : Nat) (vout vgrp : Int), n < 64 ∧ s.prot = true ∧ s.offTestOk n = true ∧ s.flag PDA_CHn_CTRL_B2B n =
      false ∧ (s.chan n).offBusy = none ∧ (s.chan n).offNext = none ∧ s.atGrid = true ∧ vgrp - 800000 < vout) ∧
    (∃ (s : State) (n t : Nat) (vout : Int), n < 64 ∧ s.prot = true ∧ s.offTestOk n = true ∧ (s.chan n).offBusy = some t ∧ t *
      fracOne ≤ (s.td 0).val ∧ t ≤ s.td0 ∧ 2100000 < vout) ∧
    (∃ (s : State) (n t : Nat) (vout : Int), n < 64 ∧ s.prot = true ∧ s.offTestOk n = true ∧ (s.chan n).offBusy = some t ∧ t *
      fracOne ≤ (s.td 0).val ∧ t ≤ s.td0 ∧ vout ≤ 1900000) ∧
    (∃ (s : State) (n : Nat), n < 64 ∧ s.atGrid = true ∧ (s.chan n).state = chTripped ∧ (s.chan n).restart = true ∧ (s.chan
      n).delay = 0 ∧ (s.chan n).thermal = false ∧ s.peLatched n = false ∧ (s.chan n).cause = fOvercurrent ∧ (s.chan n).req = 1
      ∧ s.pda.cpLow = false) ∧
    (∃ (s : State) (n : Nat), n < 64 ∧ s.profIdx n ≠ 0 ∧ ((s.chan n).state = chOn ∨ (s.chan n).state = chPwm) ∧ pU16 (s.prof n)
      12 * 10000 ≤ (s.chan n).refill) ∧
    (∃ (s : State) (n t : Nat), n < 64 ∧ s.pda.lost = true ∧ (s.chan n).holdEnd = some t ∧ (s.chan n).orphan = 0 ∧ (s.chan
      n).state = chHeld) ∧
    (∃ (s : State) (supply : Bool), s.coreRuns = true) ∧
    (∃ (s : State) (level : Bool), s.pcs.vbat = true) ∧
    (∃ (s : State) (levels : Nat), s.pcs.vbat = true) ∧
    (∃ (s : State) (n : Nat), (s.chan n).limpEntry = true ∧ s.pcs.limpPin = true ∧ (s.chan n).state = chOff) ∧
    (∃ (s : State) (n t : Nat), n < 64 ∧ (s.chan n).relAt = some t ∧ s.limpWants n = false ∧ s.prot = true ∧ s.atGrid = true ∧
      t < s.now) ∧
    (∃ (s : State) (n t : Nat), n < 64 ∧ (s.chan n).edge = some (t, false)) ∧
    (∃ (s : State) (est : List (Nat × Int)), s.pcs.vbat = true) ∧
    (∃ (c : Ch) (i : Int), True) :=
  ⟨⟨(run.set PDA_CHn_DIAG_OFF_PU_SEL 1 63), 63, 10800000, 12000000, by decide +kernel⟩,
   ⟨(run.set PDA_CHn_DIAG_OFF_PU_SEL 1 63), 63, 11200001, 12000000, by decide +kernel⟩,
   ⟨((run.set PDA_CHn_DIAG_OFF_PU_SEL 1 63).modChan 63 fun c => { c with offBusy := some 1000000 }), 63, 1000000, 2100001, by
     decide +kernel⟩,
   ⟨((run.set PDA_CHn_DIAG_OFF_PU_SEL 1 63).modChan 63 fun c => { c with offBusy := some 1000000 }), 63, 1000000, 1900000, by
     decide +kernel⟩,
   ⟨((run.set PDA_CHn_PROFILE_PROFILE 1 63).modChan 63 fun c =>
     { c with state := chTripped, restart := true, delay := 0, cause := fOvercurrent, req := 1, left := 3 }), 63, by
     decide +kernel⟩,
   ⟨((run.set PDA_CHn_PROFILE_PROFILE 1 63).modChan 63 fun c =>
     { c with state := chOn, gate := .on, refill := 50000, used := 1 }), 63, by decide +kernel⟩,
   ⟨{ (run.modChan 63 fun c => { c with state := chHeld, gate := .on, req := 1, holdEnd := some 1500000 }) with pda.lost := true },
     63, 1500000, by decide +kernel⟩,
   ⟨run, true, by decide +kernel⟩,
   ⟨run, true, by decide +kernel⟩,
   ⟨run, 255, by decide +kernel⟩,
   ⟨({ run with pcs.limpPin := true }).modChan 63 (fun c => { c with copy := { limp := 1 } }), 63, by decide +kernel⟩,
   ⟨(run.modChan 63 fun c => { c with state := chLimp, relAt := some 999998 }), 63, 999998, by decide +kernel⟩,
   ⟨(run.modChan 63 fun c => { c with state := chLimp, gate := .on, edge := some (1000500, false), edgeDuty := 128 }), 63,
     1000500, by decide +kernel⟩,
   ⟨(run.modChan 63 fun c => { c with state := chLimp, gate := .on, limpA := 100000 }), [(63, 300000)], by decide +kernel⟩,
   ⟨({ limpA := 1000 } : Ch), 5, by decide +kernel⟩⟩

theorem wit_SamplesAndWords :
    (∃ (s : State) (x : GridIn), s.coreRuns = true) ∧
    (∃ (s : State) (x : GridIn), s.coreRuns = true ∧
      ({ (s.untilTd 0 (gridNs s.gridDue)) with tbu := { (s.untilTd 0 (gridNs s.gridDue)).tbu with gridNext := s.gridDue + 1, grid := s.gridDue, gridAt := some (s.untilTd 0 (gridNs s.gridDue)).now : Tbu } : State }.sampleAll
      x s.gridDue (gridNs s.gridDue)).prot = false) ∧
    (∃ (s : State) (n : Nat) (code : Int) (m : Nat), n < 64 ∧ s.profIdx n ≠ 0 ∧ pShunt (s.prof n) ≠ 0 ∧ -131072 < code ∧ code <
      131071 ∧ s.pda.lostBits.contains n = false ∧ nfind s.pda.skip n = none ∧ nfind s.pda.step n = none ∧ nfind s.pda.cal n =
      none ∧ s.synced 0 = true ∧ m ≠ n) ∧
    (∃ (s : State) (sid code m : Nat), 0 < code ∧ code < 16383 ∧ s.userTerms sid = { : UserTerms } ∧ nfind s.pda.skip sid =
      none ∧ nfind s.pda.step sid = none ∧ nfind s.pda.cal sid = none ∧ s.synced 0 = true ∧ m ≠ sid) :=
  ⟨⟨run, {}, by decide +kernel⟩,
   ⟨run.setFlag PCS_STATE_PROT false, {}, by decide +kernel⟩,
   ⟨({ run with pda.profiles := [(1, prof1)] }).set PDA_CHn_PROFILE_PROFILE 1 63, 63, -131071, 62, by decide +kernel⟩,
   ⟨run, 64, 16382, 65, by decide +kernel⟩⟩

theorem wit_EstimatesAndStreams :
    (∃ (s : State), s.prot = true ∧ s.atGrid = true ∧ s.tbu.kettleMs < s.tbu.grid / 100) ∧
    (∃ (s : State), s.prot = true ∧ s.atGrid = true ∧ s.tbu.grid / 100 ≤ s.tbu.kettleMs) ∧
    (∃ (s : State) (chs : List Nat), s.coreRuns = true) ∧
    (∃ (s : State), True) ∧
    (∃ (s : State) (sid t seq : Nat) (ofs : Int), nfind s.pda.cal sid = some (t, seq)) ∧
    (∃ (s : State) (h : Nat) (x : Machine.Stream), nfind s.pda.streams h = some x ∧ s.atGrid = true ∧ s.tbu.grid % x.period = 0
      ∧ x.last ≠ some s.tbu.grid ∧ x.ring = false ∧ x.sets.length + 1 < x.batch) ∧
    (∃ (s : State) (h : Nat) (x : Machine.Stream), nfind s.pda.streams h = some x ∧ s.atGrid = true ∧ s.tbu.grid % x.period = 0
      ∧ x.last ≠ some s.tbu.grid ∧ x.ring = false ∧ x.batch ≤ x.sets.length + 1) ∧
    (∃ (s : State) (h : Nat) (x : Machine.Stream), nfind s.pda.streams h = some x ∧ s.atGrid = true ∧ s.tbu.grid % x.period = 0
      ∧ x.last ≠ some s.tbu.grid ∧ x.ring = true) :=
  ⟨⟨run, by decide +kernel⟩,
   ⟨{ run with tbu.kettleMs := 1 }, by decide +kernel⟩,
   ⟨run, [0, 63, 64], by decide +kernel⟩,
   ⟨run, by decide +kernel⟩,
   ⟨{ run with pda.cal := [(5, (1500000, 9))] }, 5, 1500000, 9, -70000, by decide +kernel⟩,
   ⟨run.setStream 63 { fn := 1, ring := false, order := 0, batch := 2, period := 100, id := 3, srcs := [0, 64] }, 63,
     { fn := 1, ring := false, order := 0, batch := 2, period := 100, id := 3, srcs := [0, 64] }, by decide +kernel⟩,
   ⟨run.setStream 63 { fn := 1, ring := false, order := 0, batch := 1, period := 100, id := 3, srcs := [0, 64] }, 63,
     { fn := 1, ring := false, order := 0, batch := 1, period := 100, id := 3, srcs := [0, 64] }, by decide +kernel⟩,
   ⟨run.setStream 63
     { fn := 1, ring := true, order := 4, batch := 1, period := 100, id := 3, srcs := [0, 64], base := 0x10000000 }, 63,
     { fn := 1, ring := true, order := 4, batch := 1, period := 100, id := 3, srcs := [0, 64], base := 0x10000000 }, by
     decide +kernel⟩⟩

theorem wit_TimeDomains :
    (∃ (s : State) (a : Init) (d : Nat) (v : Word), d < 4 ∧ s.reaches a TBU_TDd_CTRL d 0 true = true ∧ bitOf (BitVec.toNat v) 1
      = false ∧ bitOf (BitVec.toNat v) 2 = false ∧ (s.td d).st = TdState.free) ∧
    (∃ (s : State) (a : Init) (d : Nat) (v : Word), d < 4 ∧ s.reaches a TBU_TDd_CTRL d 0 true = true ∧ bitOf (BitVec.toNat v) 0
      = false ∧ bitOf (BitVec.toNat v) 2 = false ∧ ((s.td d).st = TdState.locked ∨ (s.td d).st = TdState.holdover)) ∧
    (∃ (s : State) (a : Init) (d : Nat) (v : Word), d < 4 ∧ s.reaches a TBU_TDd_CTRL d 0 true = true ∧ bitOf (BitVec.toNat v) 0
      = false ∧ bitOf (BitVec.toNat v) 1 = false) ∧
    (∃ (s : State) (a : Init) (d : Nat) (v : Word), d < 4 ∧ s.reaches a TBU_SNAP 0 0 true = true) ∧
    (∃ (s : State) (d : Nat), d < 4 ∧ s.coreRuns = true ∧ (s.td d).st = TdState.locked ∧ s.holdT d ≠ 0) ∧
    (∃ (s : State) (d : Nat), d < 4 ∧ s.coreRuns = true ∧ (s.td d).st = TdState.holdover) ∧
    (∃ (s : State) (a : Init) (d : Nat) (v f n l : Word), d < 4 ∧ s.reaches a TBU_TDd_TIME_SEC_HI d 0 true = true ∧ s.heldWords
      a.id.toNat (TBU_TDd_TIME_FRAC.addr d 0) [0, 1, 2] = [f, n, l] ∧ s.synced d = false ∧ BitVec.toNat n ≤ 999999999) ∧
    (∃ (s : State) (a : Init) (d : Nat) (v f n l : Word), d < 4 ∧ s.reaches a TBU_TDd_TIME_SEC_HI d 0 true = true ∧ s.heldWords
      a.id.toNat (TBU_TDd_TIME_FRAC.addr d 0) [0, 1, 2] = [f, n, l] ∧ s.synced d = true) ∧
    (∃ (s : State) (a : Init) (d : Nat) (v l : Word), d < 4 ∧ s.reaches a TBU_TDd_STEP_HI d 0 true = true ∧ s.heldWords
      a.id.toNat (TBU_TDd_STEP_LO.addr d 0) [0] = [l] ∧ (s.td d).pendSet = none ∧ s.stepBad d (signed 64 (BitVec.toNat l +
      BitVec.toNat v * 4294967296)) = false) ∧
    (∃ (s : State) (a : Init) (d : Nat) (v l : Word), d < 4 ∧ s.reaches a TBU_TDd_STEP_HI d 0 true = true ∧ s.heldWords
      a.id.toNat (TBU_TDd_STEP_LO.addr d 0) [0] = [l] ∧ (s.td d).pendSet = none ∧ s.stepBad d (signed 64 (BitVec.toNat l +
      BitVec.toNat v * 4294967296)) = false) ∧
    (∃ (s : State) (d sec ns frac : Nat), 1 ≤ d ∧ d < 4 ∧ s.coreRuns = true ∧ (s.td d).pendSet = some (sec, ns, frac) ∧ (s.td
      d).pendStep = none) ∧
    (∃ (s : State) (d : Nat) (delta : Int), 1 ≤ d ∧ d < 4 ∧ s.coreRuns = true ∧ (s.td d).pendStep = some delta ∧ (s.td
      d).pendSet = none ∧ (s.td d).st ≠ TdState.unset) :=
  ⟨⟨{ run with tbu.td := run.tbu.td.map fun t => { t with st := .free } }, svp, 3, 1, by decide +kernel⟩,
   ⟨run, svp, 3, 2, by decide +kernel⟩,
   ⟨run, svp, 3, 4, by decide +kernel⟩,
   ⟨run, svp, 3, 4, by decide +kernel⟩,
   ⟨run.set TBU_TDd_HOLD_HOLD_T 5 3, 3, by decide +kernel⟩,
   ⟨{ run with tbu.td := run.tbu.td.map fun t => { t with st := .holdover, holdAt := 500000 } }, 3, by decide +kernel⟩,
   ⟨hold { run with tbu.td := run.tbu.td.map fun t => { t with st := .free } } svp (TBU_TDd_TIME_FRAC.addr 3 0) [(0, 5), (1,
     999999999), (2, 7)], svp, 3, 8, 5, 999999999, 7, by decide +kernel⟩,
   ⟨hold run svp (TBU_TDd_TIME_FRAC.addr 3 0) [(0, 5), (1, 999999999), (2, 7)], svp, 3, 8, 5, 999999999, 7, by decide +kernel⟩,
   ⟨hold run svp (TBU_TDd_STEP_LO.addr 3 0) [(0, 999)], svp, 3, 0, 999, by decide +kernel⟩,
   ⟨hold run svp (TBU_TDd_STEP_LO.addr 0 0) [(0, 0xFFFFFF00)], svp, 0, 0xFFFFFFFF, 0xFFFFFF00, by decide +kernel⟩,
   ⟨{ run with tbu.td := run.tbu.td.map fun t => { t with pendSet := some (100, 5, 6), reqAt := 999990 } }, 3, 100, 5, 6, by
     decide +kernel⟩,
   ⟨{ run with tbu.td := run.tbu.td.map fun t => { t with pendStep := some (-200), reqAt := 999990 } }, 3, -200, by
     decide +kernel⟩⟩

theorem wit_EngineTicksAndIngest :
    (∃ (s : State), s.atGrid = true ∧ s.peTickNo ≠ s.tbu.grid) ∧
    (∃ (s : State), s.atGrid = true ∧ s.peTickNo = s.tbu.grid) ∧
    (∃ (s : State) (h : Nat) (x : Inst), s.inst? h = some x ∧ x.disabled = false ∧ 3 ≤ x.stops) ∧
    (∃ (s : State) (h : Nat) (x : Inst), s.inst? h = some x ∧ x.disabled = false ∧ x.stops < 3) ∧
    (∃ (s : State) (f : EthFrame), (List.find? (fun (f : EthFrame) => f.etype == s.esw.etype && f.kind == 1) s.esw.mq = some
      f)) ∧
    (∃ (s : State) (f : EthFrame) (e : Nat × Ing), (List.find? (fun (f : EthFrame) => f.etype != s.esw.etype) s.esw.mq = some
      f) ∧ (List.find? (fun (e : Nat × Ing) => e.snd.foreign && tmplMatches e.snd.tmpl f) s.pe.ings = some e)) ∧
    (∃ (s : State) (f : EthFrame), (List.find? (fun (f : EthFrame) => f.etype != s.esw.etype) s.esw.mq = some f) ∧ (List.find?
      (fun (e : Nat × Ing) => e.snd.foreign && tmplMatches e.snd.tmpl f) s.pe.ings = none)) :=
  ⟨⟨run, by decide +kernel⟩,
   ⟨run.wr PE_TICK_LO 100, by decide +kernel⟩,
   ⟨run.setInst 2047 i1, 2047, i1, by decide +kernel⟩,
   ⟨run.setInst 2047 { i1 with stops := 2 }, 2047, { i1 with stops := 2 }, by decide +kernel⟩,
   ⟨{ run with esw.mq := [ethN 1 4 [5]] }, ethN 1 4 [5], by decide +kernel⟩,
   ⟨{ run with esw.mq := [{ ethN 1 4 [5] with body := beBytes 2 0x800 ++ [1,2,3] }], pe.ings := [(3, { foreign := true, missing := false, nval := 1, lat := 0, imax := 0, method := false, idle := 0, tmpl := [0, 8, 0] })] },
     { ethN 1 4 [5] with body := beBytes 2 0x800 ++ [1,2,3] }, (3,
     { foreign := true, missing := false, nval := 1, lat := 0, imax := 0, method := false, idle := 0, tmpl := [0, 8, 0] }), by
     decide +kernel⟩,
   ⟨{ run with esw.mq := [{ ethN 1 4 [5] with body := beBytes 2 0x800 ++ [1,2,3] }] },
     { ethN 1 4 [5] with body := beBytes 2 0x800 ++ [1,2,3] }, by decide +kernel⟩⟩

theorem wit_PlacementAndBulletins :
    (∃ (s : State) (j : Nat), j < 32 ∧ s.prot = false) ∧
    (∃ (s : State) (j : Nat), j < 32 ∧ s.prot = true ∧ s.subWants j = false) ∧
    (∃ (s : State) (j : Nat), j < 32 ∧ s.prot = true ∧ s.subWants j = true ∧ s.flag PE_SUBj_SRC_EN j = true ∧ s.flag
      PE_SUBj_STAT_STALE j = false) ∧
    (∃ (s : State), s.pe.reflow = true ∧ s.sf.running = true) ∧
    (∃ (s : State) (k : Nat), s.pe.rebal = some k ∧ s.sf.running = true) ∧
    (∃ (s : State) (k : Nat) (u : State), (s.pe.rebal = some k ∧ s.sf.running = true) ∧
      { s with pe := { s.pe with rebal := none : Pe } : State }.fullPlace = Except.ok u) ∧
    (∃ (s : State) (p : Nat), { s with pe := { s.pe with draining := setBit s.pe.draining p false : Pe } : State }.epInService
      p = true) ∧
    (∃ (s : State) (b t : Nat) (x : Bul), s.coreRuns = true ∧ nfind s.pe.buls b = some x ∧ x.due = some t) ∧
    (∃ (s : State) (f : EthFrame), (List.find? (fun (f : EthFrame) => f.etype == s.esw.etype && f.kind == 2) s.esw.mq = some
      f)) ∧
    (∃ (s : State) (j : Nat), bitOf (BitVec.toNat (s.rd PE_SUBj_SRC j)) 31 = true ∧ s.coreRuns = true ∧ s.flag
      PE_SUBj_STAT_STALE j = false) :=
  ⟨⟨State.reset, 31, by decide +kernel⟩,
   ⟨run, 31, by decide +kernel⟩,
   ⟨{ run.wr PE_SUBj_SRC 0x80070004 31 with pe.subs := [(31, { asserted := true, rx := 900000 })] }, 31, by decide +kernel⟩,
   ⟨{ run with pe.reflow := true }, by decide +kernel⟩,
   ⟨{ run with pe.rebal := some 4 }, 4, by decide +kernel⟩,
   ⟨{ run with pe.rebal := some 4 }, 4,
     (match ({ ({ run with pe.rebal := some 4 }) with pe := { ({ run with pe.rebal := some 4 }).pe with rebal := none } } : State).fullPlace with | .ok u => u | .error _ => ({ run with pe.rebal := some 4 })),
     by decide +kernel, okVal (by decide +kernel)⟩,
   ⟨{ run with pe.draining := 4 }, 2, by decide +kernel⟩,
   ⟨{ run with pe.buls := [(31, { count := 3, idx := some 2, due := some 1500000, at_ := 900000 })] }, 31, 1500000,
     { count := 3, idx := some 2, due := some 1500000, at_ := 900000 }, by decide +kernel⟩,
   ⟨({ run with esw.mq := [ethN 2 4 [5]] }).wr PE_SUBj_SRC 0x80070004 31, ethN 2 4 [5], by decide +kernel⟩,
   ⟨run.wr PE_SUBj_SRC 0xC0070004 31, 31, by decide +kernel⟩⟩

theorem wit_ChannelCommands :
    (∃ (s : State) (r : Req), r.expert = false ∧ s.takes 257 r = true ∧ r.target.toNat < 64 ∧ s.owner 0 r.target.toNat = r.fn ∧
      (s.chan r.target.toNat).state ≠ chLimp ∧ (s.chan r.target.toNat).follow = false ∧ (strayByte ([(0, 2)] ++ if bitOf (leAt
      r.params 1 1) 2 = true then [(2, 2)] else []) r.params = none) ∧ leAt r.params 0 1 ≤ 2 ∧ leAt r.params 1 1 < 8 ∧
      s.reqRefused r.target.toNat (leAt r.params 0 1) = false ∧ (s.chan r.target.toNat).pend = none) ∧
    (∃ (s : State) (r : Req), r.expert = false ∧ s.takes 258 r = true ∧ r.target.toNat < 64 ∧ s.owner 0 r.target.toNat = r.fn ∧
      (s.chan r.target.toNat).state ≠ chLimp ∧ (s.chan r.target.toNat).state ≠ chPwm ∧ strayByte [(0, 12)] r.params = none ∧
      4000 ≤ leAt r.params 0 4 ∧ leAt r.params 0 4 ≤ 100000000 ∧ r.deadline = 0) ∧
    (∃ (s : State) (r : Req), r.expert = false ∧ s.takes 259 r = true ∧ r.target.toNat < 64 ∧ s.owner 0 r.target.toNat = r.fn ∧
      strayByte [] r.params = none) ∧
    (∃ (s : State) (r : Req), r.expert = false ∧ s.takes 260 r = true ∧ r.target.toNat < 64 ∧ s.owner 0 r.target.toNat = r.fn ∧
      strayByte [(0, 16)] r.params = none ∧ leAt r.params 0 8 = 0 ∧ leAt r.params 12 4 = 0 ∧ r.deadline = 0) ∧
    (∃ (s : State) (r : Req), r.expert = false ∧ s.takes 262 r = true ∧ r.target.toNat < 4 ∧ s.owner 1 r.target.toNat = r.fn ∧
      leAt r.params 0 1 < 64 ∧ s.owner 0 (leAt r.params 0 1) = r.fn ∧ strayByte [(0, 2), (4, 4)] r.params = none ∧ leAt
      r.params 1 1 < 3 ∧ 0 < signed 32 (leAt r.params 4 4)) :=
  ⟨⟨(own5 { wR with pda.profiles := [(1, profOk)] }).set PDA_CHn_PROFILE_PROFILE 1 63, rq 5 63 [2, 5, 9], by decide +kernel⟩,
   ⟨wR, rq 0 63 (leBytes 4 4000 ++ leBytes 4 0x80004000 ++ leBytes 4 0), by decide +kernel⟩,
   ⟨wR.modChan 63 fun c => { c with state := chLatched, left := 0 }, rq 0 63 [], by decide +kernel⟩,
   ⟨wR.set PDA_CHn_FAULT_FAULT 0x3F 63, rq 0 63 (leBytes 8 0 ++ leBytes 4 0xF ++ leBytes 4 0), by decide +kernel⟩,
   ⟨wR, rq 0 3 ([63, 2] ++ [0, 0] ++ leBytes 4 65536), by decide +kernel⟩⟩

theorem wit_ProfileAndStreamCommands :
    (∃ (s : State) (r : Req) (rec : List Byte), (r.expert = false ∧ s.takes 513 r = true ∧ r.fn = 0 ∧ 0 < r.target.toNat ∧
      r.target.toNat < 128 ∧ strayByte [(0, 8)] r.params = none ∧ (s.fetched 513 r).fnOk 0 (leAt r.params 0 8) 128 false =
      (true, s.fetched 513 r) ∧ profileBad rec = none ∧ s.profileBusy r.target.toNat = none) ∧ (s.fetched 513 r).fnRead 0 (leAt
      r.params 0 8) 128 = (Except.ok rec, s.fetched 513 r)) ∧
    (∃ (s : State) (r : Req), r.expert = false ∧ s.takes 771 r = true ∧ r.target.toNat < 64 ∧ s.owner 0 r.target.toNat = r.fn ∧
      leAt r.params 0 1 = 1 ∧ strayByte [(0, 1), (4, 4)] r.params = none ∧ 9 * 65536 ≤ leAt r.params 4 4 * 10 ∧ leAt r.params 4
      4 * 10 ≤ 11 * 65536 ∧ r.deadline = 0) ∧
    (∃ (s : State) (r : Req) (w : Nat), r.expert = false ∧ s.takes 770 r = true ∧ r.target.toNat < 64 ∧ s.owner 0
      r.target.toNat = r.fn ∧ leAt r.params 0 8 = 0 ∧ strayByte [(0, 8)] r.params = none ∧ s.word r.target.toNat = some w) ∧
    (∃ (s : State) (r : Req), r.expert = false ∧ s.takes 769 r = true ∧ r.target.toNat < 64 ∧ nfind s.pda.streams
      r.target.toNat = none ∧ r.deadline = 0 ∧ (specMeasStreamOpen.check (s.fetched 769 r) (s.cmdOf 769 r)).snd = none ∧ leAt
      r.params 0 1 = 0) ∧
    (∃ (s : State) (r : Req) (x : Machine.Stream), r.expert = false ∧ s.takes 772 r = true ∧ r.target.toNat < 64 ∧ s.owner 2
      r.target.toNat = r.fn ∧ strayByte [] r.params = none ∧ nfind s.pda.streams r.target.toNat = some x ∧ x.ring = true ∧
      s.atGrid = false) :=
  ⟨⟨at0 wR profOk, rq 0 127 adr, profOk, by decide +kernel, okPair (by decide +kernel) (by decide +kernel)⟩,
   ⟨wR, rq 0 63 ([1, 0, 0, 0] ++ leBytes 4 66000), by decide +kernel⟩,
   ⟨{ wR with pda.words := [(63, 12345678901234567890123)] }, rq 0 63 [], 12345678901234567890123, by decide +kernel⟩,
   ⟨wR, rq 0 63 ([0, 1, 10, 0] ++ leBytes 4 5 ++ [1, 0, 0, 0, 0, 3] ++ [0, 0] ++ [0, 0]), by decide +kernel⟩,
   ⟨{ wR.setStream 63 { fn := 0, ring := true, order := 0, batch := 1, period := 7, id := 3, srcs := [0, 64], widx := 9 } with tbu.gridAt := none },
     rq 0 63 [], { fn := 0, ring := true, order := 0, batch := 1, period := 7, id := 3, srcs := [0, 64], widx := 9 }, by
     decide +kernel⟩⟩

theorem wit_ElementAndIngestCommands :
    (∃ (s : State) (r : Req) (x : Inst) (v : State), (r.expert = false ∧ s.takes 1025 r = true ∧ s.peBusy = false ∧ s.inst?
      r.target.toNat = none ∧ specElemCreate.check (s.fetched 1025 r) (s.cmdOf 1025 r) = (s.fetched 1025 r, none)) ∧ (s.fetched
      1025 r).createInst (s.cmdOf 1025 r) = (Except.ok x, s.fetched 1025 r) ∧ (s.fetched 1025 r).elemInstall r.target.toNat x =
      Except.ok v) ∧
    (∃ (s : State) (r : Req) (x y z : Inst), (r.expert = false ∧ s.takes 1026 r = true ∧ s.peBusy = false ∧ specElemParam.check
      (s.fetched 1026 r) (s.cmdOf 1026 r) = (s.fetched 1026 r, none) ∧ s.inst? r.target.toNat = some x ∧ Option.map Copy.bank
      z.a = Option.map Copy.bank x.a ∧ Option.map Copy.bank z.b = Option.map Copy.bank x.b) ∧ (s.fetched 1026 r).paramInst
      (s.cmdOf 1026 r) x = (Except.ok y, s.fetched 1026 r) ∧ (s.fetched 1026 r).refit r.target.toNat y = Except.ok z) ∧
    (∃ (s : State) (r : Req), r.expert = false ∧ s.takes 1027 r = true ∧ r.target.toNat < 2048 ∧ s.owner 3 r.target.toNat =
      r.fn ∧ strayByte [] r.params = none ∧ s.peBusy = false ∧ (s.inst? r.target.toNat).isSome = true) ∧
    (∃ (s : State) (r : Req) (x : Inst), r.expert = false ∧ s.takes 1028 r = true ∧ r.target.toNat < 2048 ∧ s.owner 3
      r.target.toNat = r.fn ∧ strayByte [] r.params = none ∧ s.inst? r.target.toNat = some x) ∧
    (∃ (s : State) (r : Req) (x : Inst), r.expert = false ∧ s.takes 1029 r = true ∧ r.target.toNat < 2048 ∧ s.owner 3
      r.target.toNat = r.fn ∧ strayByte [] r.params = none ∧ s.inst? r.target.toNat = some x) ∧
    (∃ (s : State) (r : Req), r.expert = false ∧ s.takes 1030 r = true ∧ r.target.toNat < 64 ∧ s.owner 0 r.target.toNat = r.fn
      ∧ strayByte [] r.params = none) ∧
    (∃ (s : State) (r : Req), r.expert = false ∧ s.takes 1033 r = true ∧ r.fn = 0 ∧ r.target.toNat = 0 ∧ strayByte [] r.params
      = none ∧ s.peBusy = false) ∧
    (∃ (s : State) (r : Req) (im : List Byte), (r.expert = false ∧ s.takes 1034 r = true ∧ r.fn = 0 ∧ r.target.toNat = 0 ∧
      strayByte [(0, 12)] r.params = none ∧ leAt r.params 8 4 ≤ 66131 ∧ (s.fetched 1034 r).fnOk 0 (leAt r.params 0 8) (leAt
      r.params 8 4) false = (true, s.fetched 1034 r)) ∧ (s.fetched 1034 r).fnRead 0 (leAt r.params 0 8) (leAt r.params 8 4) =
      (Except.ok im, s.fetched 1034 r)) ∧
    (∃ (s : State) (r : Req), r.expert = false ∧ s.takes 1031 r = true ∧ r.target.toNat < 128 ∧ s.owner 4 r.target.toNat = r.fn
      ∧ strayByte (ingNamed r.params) r.params = none ∧ ingFieldsOk r.params = true ∧ bitOf (leAt r.params 0 1) 0 = false ∧
      nfind s.pe.ings r.target.toNat = none) ∧
    (∃ (s : State) (r : Req), r.expert = false ∧ s.takes 1032 r = true ∧ r.target.toNat < 128 ∧ s.owner 4 r.target.toNat = r.fn
      ∧ strayByte [] r.params = none ∧ (nfind s.pe.ings r.target.toNat).isSome = true ∧ s.ingUser r.target.toNat = none) :=
  ⟨⟨at0 wR blk8, rq 0 2047 elc,
     (match (((at0 wR blk8).fetched 0x0401 (rq 0 2047 elc)).createInst ((at0 wR blk8).cmdOf 0x0401 (rq 0 2047 elc))).1 with | .ok v => v | .error _ => { type := 0, cls := 0 }),
     (match (((at0 wR blk8).fetched 0x0401 (rq 0 2047 elc)).elemInstall (rq 0 2047 elc).target.toNat ((match (((at0 wR blk8).fetched 0x0401 (rq 0 2047 elc)).createInst ((at0 wR blk8).cmdOf 0x0401 (rq 0 2047 elc))).1 with | .ok v => v | .error _ => { type := 0, cls := 0 }))) with | .ok v => v | .error _ => (at0 wR blk8)),
     by decide +kernel, okPair (by decide +kernel) (by decide +kernel), okVal (by decide +kernel)⟩,
   ⟨wE, rq 0 2047 (adr ++ leBytes 4 20), (wE.inst? (rq 0 2047 (adr ++ leBytes 4 20)).target.toNat).getD
     { type := 0, cls := 0 },
     (match ((wE.fetched 0x0402 (rq 0 2047 (adr ++ leBytes 4 20))).paramInst (wE.cmdOf 0x0402 (rq 0 2047 (adr ++ leBytes 4 20))) ((wE.inst? (rq 0 2047 (adr ++ leBytes 4 20)).target.toNat).getD { type := 0, cls := 0 })).1 with | .ok v => v | .error _ => { type := 0, cls := 0 }),
     (match ((wE.fetched 0x0402 (rq 0 2047 (adr ++ leBytes 4 20))).refit (rq 0 2047 (adr ++ leBytes 4 20)).target.toNat ((match ((wE.fetched 0x0402 (rq 0 2047 (adr ++ leBytes 4 20))).paramInst (wE.cmdOf 0x0402 (rq 0 2047 (adr ++ leBytes 4 20))) ((wE.inst? (rq 0 2047 (adr ++ leBytes 4 20)).target.toNat).getD { type := 0, cls := 0 })).1 with | .ok v => v | .error _ => { type := 0, cls := 0 }))) with | .ok v => v | .error _ => { type := 0, cls := 0 }),
     by decide +kernel, okPair (by decide +kernel) (by decide +kernel), okVal (by decide +kernel)⟩,
   ⟨wE, rq 0 2047 [], by decide +kernel⟩,
   ⟨wE, rq 0 2047 [], (wE.inst? (rq 0 2047 []).target.toNat).getD { type := 0, cls := 0 }, by decide +kernel⟩,
   ⟨wE, rq 0 2047 [], (wE.inst? (rq 0 2047 []).target.toNat).getD { type := 0, cls := 0 }, by decide +kernel⟩,
   ⟨wE.set PE_TRIPLATCH_HI_LATCH 0x80000000, rq 0 63 [], by decide +kernel⟩,
   ⟨wE, rq 0 0 [], by decide +kernel⟩,
   ⟨at0 wE [1,2,3], rq 0 0 (adr ++ leBytes 4 2000), (((at0 wE [1,2,3]).fetched 0x040A (rq 0 0 (adr ++ leBytes 4 2000))).fnRead
     0 (leAt (rq 0 0 (adr ++ leBytes 4 2000)).params 0 8) (leAt (rq 0 0 (adr ++ leBytes 4 2000)).params 8 4)).1.toOption.getD
     [], by decide +kernel, okPair (by decide +kernel) (by decide +kernel)⟩,
   ⟨wR, rq 0 127 ([0, 15, 50] ++ [13] ++ leBytes 4 7 ++ leBytes 2 3 ++ [0, 0] ++ leBytes 4 99), by decide +kernel⟩,
   ⟨{ wR with pe.ings := [(127, { foreign := false, missing := false, nval := 1, lat := 0, imax := 0, method := false, idle := 0 })] },
     rq 0 127 [], by decide +kernel⟩⟩

theorem wit_NetworkCommands :
    (∃ (s : State) (r : Req), r.expert = false ∧ s.takes 1281 r = true ∧ r.target.toNat < 4096 ∧ s.owner 6 r.target.toNat =
      r.fn ∧ sgPdu r.params < 512 ∧ s.owner 8 (sgPdu r.params) = r.fn ∧ strayByte [(0, 6), (8, 32)] r.params = none ∧
      s.signalOk r.params = true ∧
      ((s.routeWhere fun (x : GwRoute) => x.src == r.target.toNat || x.dst == r.target.toNat) = none)) ∧
    (∃ (s : State) (r : Req), r.expert = false ∧ s.takes 1282 r = true ∧ r.target.toNat < 1024 ∧ s.owner 7 r.target.toNat =
      r.fn ∧ leAt r.params 0 2 < 4096 ∧ leAt r.params 2 2 < 4096 ∧ s.owner 6 (leAt r.params 0 2) = r.fn ∧ s.owner 6 (leAt
      r.params 2 2) = r.fn ∧ strayByte [(0, 6)] r.params = none ∧ s.routeOk r.params = true) ∧
    (∃ (s : State) (r : Req), r.expert = false ∧ r.target.toNat < 1024 ∧ s.owner 7 r.target.toNat = r.fn ∧ strayByte []
      r.params = none ∧ (∀ (x : GwRoute), s.route? r.target.toNat = some x → s.owner 6 x.src = r.fn ∧ s.owner 6 x.dst = r.fn) ∧
      s.takes 1283 r = true) ∧
    (∃ (s : State) (r : Req) (x : GwRoute), r.expert = false ∧ r.target.toNat < 1024 ∧ s.owner 7 r.target.toNat = r.fn ∧
      strayByte [] r.params = none ∧ (∀ (x : GwRoute), s.route? r.target.toNat = some x → s.owner 6 x.src = r.fn ∧ s.owner 6
      x.dst = r.fn) ∧ s.takes 1284 r = true ∧ s.route? r.target.toNat = some x) ∧
    (∃ (s : State) (r : Req), r.expert = false ∧ r.target.toNat < 16 ∧ s.owner 11 r.target.toNat = r.fn ∧ s.netState
      r.target.toNat ≠ 3 ∧ strayByte [] r.params = none ∧ s.takes 1537 r = true) ∧
    (∃ (s : State) (r : Req), r.expert = false ∧ r.target.toNat < 16 ∧ s.owner 11 r.target.toNat = r.fn ∧ s.netState
      r.target.toNat ≠ 3 ∧ strayByte [] r.params = none ∧ s.takes 1538 r = true ∧ s.netNeed r.target.toNat = true) ∧
    (∃ (s : State) (r : Req), r.expert = false ∧ s.takes 1539 r = true ∧ r.target.toNat < 16 ∧ strayByte [] r.params = none) :=
  ⟨⟨wG, rq 0 4095 (leBytes 2 4 ++ [0, 0, 16, 0] ++ [0,0] ++ leBytes 8 0x3FF0000000000000), by decide +kernel⟩,
   ⟨wG, rq 0 1023 ([0, 0] ++ leBytes 2 4095), by decide +kernel⟩,
   ⟨{ wG with sgw.routes := [(1023, rt)] }, rq 0 1023 [], by decide +kernel⟩,
   ⟨{ wG with sgw.routes := [(1023, rt)] }, rq 0 1023 [], rt, by decide +kernel⟩,
   ⟨wG.set FBC_NETn_STATUS_STATE 0 15, rq 0 15 [], by decide +kernel⟩,
   ⟨(wG.set FBC_NETn_STATUS_STATE 1 15).setFlag FBC_NETn_STATUS_NEED true 15, rq 0 15 [], by decide +kernel⟩,
   ⟨wG.set FBC_NETn_STATUS_STATE 1 15, rq 0 15 [], by decide +kernel⟩⟩

theorem wit_ModeImageAndTestCommands :
    (∃ (s : State) (r : Req), r.expert = false ∧ r.fn = 0 ∧ s.takes 1793 r = true ∧ s.flag SF_MODE_NO_CFG = false ∧
      s.modePresent r.target.toNat = true ∧ strayByte [] r.params = none ∧ s.cfg.preparing = none ∧ r.target.toNat ≠ s.get
      SF_MODE_MODE) ∧
    (∃ (s : State) (r : Req), r.expert = false ∧ r.fn = 0 ∧ s.takes 1794 r = true ∧ r.target.toNat ≤ 1 ∧ strayByte [(0, 12)]
      r.params = none ∧ (s.fetched 1794 r).fnOk 0 (leAt r.params 0 8) (leAt r.params 8 4) false = (true, s.fetched 1794 r) ∧
      (s.imageJob? r.target.toNat).isNone = true ∧ s.runsTrial r.target.toNat = false) ∧
    (∃ (s : State) (r : Req), r.expert = false ∧ r.fn = 0 ∧ s.takes 1795 r = true ∧ r.target.toNat ≤ 1 ∧ strayByte [(0, 2)]
      r.params = none ∧ leAt r.params 0 1 ≤ 2 ∧ leAt r.params 1 1 ≤ 1 ∧ ¬(leAt r.params 0 1 = 1 ∧ leAt r.params 1 1 = 1) ∧
      (s.imageJob? r.target.toNat).isNone = true ∧ (if leAt r.params 0 1 = 2 then s.runsTrial r.target.toNat = true else
      s.areaState r.target.toNat (1 - s.runHalf r.target.toNat) = icStaged)) ∧
    (∃ (s : State) (r : Req), r.expert = false ∧ r.fn = 0 ∧ s.takes 1796 r = true ∧ r.target.toNat = 0 ∧ strayByte [] r.params
      = none) ∧
    (∃ (s : State) (r : Req), r.expert = false ∧ r.fn = 0 ∧ s.takes 2049 r = true ∧ testKnown r.target.toNat = true ∧ strayByte
      [] r.params = none ∧ s.testing r.target.toNat = false ∧ s.testReady r.target.toNat = true) ∧
    (∃ (s : State) (r : Req), r.expert = false ∧ r.fn = 0 ∧ s.takes 2050 r = true ∧ testKnown r.target.toNat = true ∧ strayByte
      [] r.params = none) :=
  ⟨⟨(wR.setFlag SF_MODE_NO_CFG false).set SF_MODE_PRESENT 0x80, rq 0 8 [], by decide +kernel⟩,
   ⟨wR, rq 0 1 (adr ++ leBytes 4 100), by decide +kernel⟩,
   ⟨wR.setCommit 1 1 { seq := 4, state := icStaged, len := 100 }, rq 0 1 [0, 1], by decide +kernel⟩,
   ⟨{ wR with cfg.build := 77 }, rq 0 0 [], by decide +kernel⟩,
   ⟨wR, rq 0 0x63F [], by decide +kernel⟩,
   ⟨{ wR with fcu.results := [(0x63F, { pass := false, code := 3, us := 50 })] }, rq 0 0x63F [], by decide +kernel⟩⟩

theorem wit_TimeKeyAndFunctionCommands_1 :
    ∃ (s : State) (r : Req), r.expert = false ∧ s.takes 2305 r = true ∧ r.target.toNat < 4 ∧ strayByte [(0, 8)] r.params = none
      ∧ leAt r.params 0 8 = 0 :=
  ⟨wR, rq 5 3 [], by decide +kernel⟩

theorem wit_TimeKeyAndFunctionCommands_2 :
    ∃ (s : State) (r : Req), r.expert = false ∧ s.takes 2561 r = true ∧ s.lc ≠ lcReturn ∧ r.target.toNat = 0 ∧ strayByte [(0,
      40)] r.params = none ∧ (s.fetched 2561 r).fnOk r.fn (leAt r.params 32 8) 14710 true = (true, s.fetched 2561 r) :=
  ⟨wR, rq 0 0 (List.replicate 32 9 ++ adr), by decide +kernel⟩

theorem wit_TimeKeyAndFunctionCommands_3 :
    ∃ (s : State) (r : Req), r.expert = false ∧ s.takes 2562 r = true ∧ specKeyUse.check (s.fetched 2562 r) (s.cmdOf 2562 r) =
      (s.fetched 2562 r, none) :=
  ⟨wK, rq 0 31 ([1, 0, 0, 0] ++ leBytes 4 16 ++ adr ++ leBytes 8 0x10000100 ++ List.replicate 12 0 ++ leBytes 4 0 ++ leBytes 8
    0x10000200), by decide +kernel⟩

theorem wit_TimeKeyAndFunctionCommands_4 :
    ∃ (s : State) (r : Req), r.expert = false ∧ r.fn = 0 ∧ 0 < r.target.toNat ∧ r.target.toNat ≤ 63 ∧ strayByte [] r.params =
      none ∧ s.takes 3841 r = true ∧ s.fnState r.target.toNat = 1 :=
  ⟨inF wR { cV with fn := 5, desc := descWith 0x0104 (rq 5 63 (leBytes 8 0 ++ leBytes 4 3 ++ leBytes 4 2)) }, rq 0 5 [], by
    decide +kernel⟩

theorem wit_TimeKeyAndFunctionCommands_5 :
    ∃ (s : State) (r : Req), r.expert = false ∧ r.fn = 0 ∧ 0 < r.target.toNat ∧ r.target.toNat ≤ 63 ∧ strayByte [] r.params =
      none ∧ s.takes 3842 r = true ∧ s.fnState r.target.toNat ≠ 0 :=
  ⟨inF (wR.set SF_FNn_STATE_STATE 2 5) { cW 0x0F01 .started with desc := descWith 0x0F01 (rq 0 5 []) }, rq 0 5 [], by
    decide +kernel⟩

theorem wit_TimeKeyAndFunctionCommands_6 :
    ∃ (s : State) (r : Req), r.expert = false ∧ r.fn = 0 ∧ 0 < r.target.toNat ∧ r.target.toNat ≤ 63 ∧ strayByte [] r.params =
      none ∧ s.takes 3845 r = true ∧ s.fnState r.target.toNat = 3 :=
  ⟨wR.set SF_FNn_STATE_STATE 3 63, rq 0 63 [], by decide +kernel⟩

theorem wit_TimeKeyAndFunctionCommands_7 :
    ∃ (s : State) (r : Req) (t : List Byte), (r.expert = false ∧ r.fn = 0 ∧ 0 < r.target.toNat ∧ r.target.toNat ≤ 63 ∧ s.takes
      3844 r = true ∧ s.fnState r.target.toNat = 0 ∧ strayByte [(0, 11), (12, 2), (16, 8)] r.params = none ∧ (leAt r.params 10
      1 = 0 ∨ leAt r.params 10 1 = 1 ∧ s.fnSecure 0 = true) ∧ 1 ≤ leAt r.params 8 1 ∧ leAt r.params 8 1 ≤ 16 ∧ 1 ≤ leAt
      r.params 9 1 ∧ leAt r.params 9 1 ≤ 8 ∧ leAt r.params 12 2 ≤ 256 ∧ isImsicFile (leAt r.params 16 8) = true ∧ (s.fetched
      3844 r).fnOk 0 (leAt r.params 0 8) (32 * leAt r.params 8 1) false = (true, s.fetched 3844 r) ∧ (∀ i < leAt r.params 8 1,
      windowBad t i = false)) ∧ (s.fetched 3844 r).fnRead 0 (leAt r.params 0 8) (32 * leAt r.params 8 1) = (Except.ok t,
      s.fetched 3844 r) :=
  ⟨wVf, rVf, ((wVf.fetched 0x0F04 rVf).fnRead 0 0x10000000 32).1.toOption.getD [], by decide +kernel, okPair (by
    decide +kernel) (by decide +kernel)⟩

theorem wit_TimeKeyAndFunctionCommands_8 :
    ∃ (s : State) (r : Req), r.expert = false ∧ s.takes 3843 r = true ∧ r.fn = 0 ∧ r.target.toNat = 0 ∧ strayByte [(0, 2), (4,
      8)] r.params = none ∧ ownFieldsOk r.params = true :=
  ⟨wR, rq 0 0 ([0, 5, 0, 0] ++ leBytes 4 3 ++ leBytes 4 61), by decide +kernel⟩

theorem wit_CommandInterface :
    (∃ (s : State) (a : Init) (fn q : Nat) (v : Word), fn < 64 ∧ q < 8 ∧ s.reaches a SF_QPq_SQ_TAIL fn q true = true ∧
      BitVec.toNat v % 4096 < s.sqDepth fn q ∧ ((s.qp fn q).tail + s.sqDepth fn q - (s.qp fn q).head) % s.sqDepth fn q +
      (BitVec.toNat v % 4096 + s.sqDepth fn q - (s.qp fn q).tail % s.sqDepth fn q) % s.sqDepth fn q ≤ s.sqDepth fn q - 1) ∧
    (∃ (s : State) (a : Init) (fn q : Nat) (v : Word), fn < 64 ∧ q < 8 ∧ s.reaches a SF_QPq_CQ_HEAD fn q true = true ∧
      BitVec.toNat v % 4096 < s.cqDepth fn q ∧ (BitVec.toNat v % 4096 + s.cqDepth fn q - (s.qp fn q).cqHead % s.cqDepth fn q) %
      s.cqDepth fn q ≤ ((s.qp fn q).cqTail + s.cqDepth fn q - (s.qp fn q).cqHead % s.cqDepth fn q) % s.cqDepth fn q) ∧
    (∃ (s : State) (a : Init) (fn q : Nat) (v : Word), fn < 64 ∧ q < 8 ∧ s.reaches a SF_QPq_CFG fn q true = true ∧ s.qpActive
      fn q = false ∧ bitOf (BitVec.toNat (SF_QPq_CFG.written (s.rd SF_QPq_CFG fn q) v)) 31 = true) ∧
    (∃ (s : State) (a : Init) (fn : Nat), fn < 64 ∧ s.reaches a SF_MBX_RESULTw fn 0 false = true) ∧
    (∃ (s : State) (fn : Nat), fn < 64 ∧ s.fcu.svpFence = none ∧ (s.fn fn).mbx.result.length = 16 ∧ (s.fn fn).mbx.st =
      MbxState.fresh) ∧
    (∃ (s : State) (fn : Nat), fn < 64 ∧ s.fcu.svpFence = none ∧ (s.fn fn).mbx.result.length = 16 ∧ (s.fn fn).mbx.st =
      MbxState.seen) ∧
    (∃ (s : State) (fn k : Nat), fn < 64 ∧ s.fcu.svpFence = none ∧ (s.fn fn).mbx.result.length = 16 ∧ (s.fn fn).mbx.st =
      MbxState.seen ∧ k < 16) :=
  ⟨⟨wR, svp, 5, 0, 15, by decide +kernel⟩,
   ⟨wR.setQp 5 0 { cqTail := 9, cqHead := 3 }, svp, 5, 0, 9, by decide +kernel⟩,
   ⟨wR.setFlag SF_QPq_CFG_EN false 5 0, svp, 5, 0, 0x80000003, by decide +kernel⟩,
   ⟨mb .fresh, svp, 5, by decide +kernel⟩,
   ⟨mb .fresh, 5, by decide +kernel⟩,
   ⟨mb .seen, 5, by decide +kernel⟩,
   ⟨mb .seen, 5, 4, by decide +kernel⟩⟩

theorem wit_CommandsInFlight_1 :
    ∃ (s u : State) (c : Cmd) (status result : Nat), (s.cmd? c.seq = some c ∧ c.src < 8 ∧ c.mute = false ∧ s.fcu.svpFence =
      none) ∧ (s.count 423).fnWrite c.fn (BitVec.toNat (s.rd SF_QPq_CQ_BASE_LO c.fn c.src) + BitVec.toNat (s.rd
      SF_QPq_CQ_BASE_HI c.fn c.src) * 4294967296 + 16 * (s.qp c.fn c.src).cqTail) (completionBytes c.desc.tag.toNat status
      (s.qp c.fn c.src).phase false c.fn result) = (Except.ok (), u) :=
  ⟨{ wR with sf := { wR.sf with cmds := [{ seq := 3, fn := 5, src := 0, desc := descWith 0x0101 (rq 5 9 []), at_ := 7, stage := .started }], fns := nset wR.sf.fns 5 { wR.fn 5 with windows := [{ base := 0, size := 0x1000, phys := 0x10000000, r := true, w := true }] } } },
    ((({ wR with sf := { wR.sf with cmds := [{ seq := 3, fn := 5, src := 0, desc := descWith 0x0101 (rq 5 9 []), at_ := 7, stage := .started }], fns := nset wR.sf.fns 5 { wR.fn 5 with windows := [{ base := 0, size := 0x1000, phys := 0x10000000, r := true, w := true }] } } }).count
    423).fnWrite 5 0 (completionBytes 7 0x101 true false 5 99)).2,
    { seq := 3, fn := 5, src := 0, desc := descWith 0x0101 (rq 5 9 []), at_ := 7, stage := .started }, 0x101, 99, by
    decide +kernel, okPair (by decide +kernel) (by decide +kernel)⟩

theorem wit_CommandsInFlight_2 :
    ∃ (s : State) (fn q : Nat) (hi : Bool) (b : List Byte) (v : State), (s.nextFn = some (fn, q, hi) ∧ q < 8) ∧
      ({ s with sf := { s.sf with rrFn := fn : Sf } : State }.setFn fn (if hi = true then { (s.fn fn) with rrHi := q : Fn }
      else { (s.fn fn) with rrLo := q : Fn })).fnRead fn (BitVec.toNat (s.rd SF_QPq_SQ_BASE_LO fn q) + BitVec.toNat (s.rd
      SF_QPq_SQ_BASE_HI fn q) * 4294967296 + 64 * (s.qp fn q).head) 64 = (Except.ok b, v) :=
  ⟨wF, 5, 0, false, ((({ wF with sf := { wF.sf with rrFn := 5 } } : State).setFn 5 { wF.fn 5 with rrLo := 0 }).fnRead 5
    0x10000000 64).1.toOption.getD [], ((({ wF with sf := { wF.sf with rrFn := 5 } } : State).setFn 5
    { wF.fn 5 with rrLo := 0 }).fnRead 5 0x10000000 64).2, by decide +kernel, okPair (by decide +kernel) (by decide +kernel)⟩

theorem wit_CommandsInFlight_3 :
    ∃ (s : State) (c : Cmd) (u : State), s.cmd? c.seq = some c ∧ s.canStart c = true ∧ c.fin = none ∧ c.desc.atomic = false ∧
      s.modeHolds c = false ∧ Option.any OpSpec.waits (specOf c.op) = true ∧ s.stepErr c = (u, none) :=
  ⟨(inF wR (cW 0x0101 .waiting)).set PDA_CHn_PROFILE_PROFILE 1 63, cW 0x0101 .waiting, (((inF wR (cW 0x0101 .waiting)).set
    PDA_CHn_PROFILE_PROFILE 1 63).stepErr (cW 0x0101 .waiting)).1, by decide +kernel⟩

theorem wit_CommandsInFlight_4 :
    ∃ (s : State) (fn q : Nat) (g : Machine.Group) (u : State),
      (List.find? (fun (g : Machine.Group) => g.fn == fn && g.src == q && g.closed.isSome) s.sf.groups = some g) ∧ s.groupDue g
      = true ∧ (((s.members g).any fun (c : Cmd) => c.late s.effectNs) = false) ∧ s.membersRun (s.members g) = ([], u) :=
  ⟨gS 1, 0, 0, gG, ((gS 1).membersRun ((gS 1).members gG)).2, by decide +kernel⟩

theorem wit_CommandsInFlight_5 :
    ∃ (s : State) (fn q : Nat) (g : Machine.Group) (b : List (Nat × Res)) (u : State),
      (List.find? (fun (g : Machine.Group) => g.fn == fn && g.src == q && g.closed.isSome) s.sf.groups = some g) ∧ s.groupDue g
      = true ∧ (((s.members g).any fun (c : Cmd) => c.late s.effectNs) = false) ∧ s.membersRun (s.members g) = (b, u) ∧ b ≠ [] :=
  ⟨gS 0, 0, 0, gG, ((gS 0).membersRun ((gS 0).members gG)).1, ((gS 0).membersRun ((gS 0).members gG)).2, by decide +kernel⟩

theorem wit_CommandsInFlight_6 :
    ∃ (s : State) (fn q : Nat) (g : Machine.Group), s.openGroup fn q = some g ∧
      (((s.groupWaits g).any fun (c : Cmd) => c.desc.fence) = false) :=
  ⟨{ gS 1 with sf.groups := [{ gG with closed := none }] }, 0, 0, { gG with closed := none }, by decide +kernel⟩

theorem wit_CommandsInFlight_7 :
    ∃ (s : State) (c : Cmd), s.cmd? c.seq = some c ∧ c.desc.deadline.toNat ≠ 0 ∧ (c.stage = Stage.withheld ∨ c.stage =
      Stage.held ∨ c.stage = Stage.started ∧ gridOps.contains c.op = true) ∧ s.cfg.preparing = none ∧ c.late (s.untilTd 0
      (c.desc.deadline.toNat + 1)).td0 = true ∧ (s.untilTd 0 (c.desc.deadline.toNat + 1)).cfg.preparing = none :=
  ⟨inF wR cD, cD, by decide +kernel⟩

theorem wit_CommandsInFlight_8 :
    ∃ (s : State) (n fn : Nat) (c : Cmd),
      (List.find? (fun (c : Cmd) => c.stage == Stage.withheld && c.fn == fn && c.op == 260 && c.tgt == n) s.sf.cmds = some c) ∧
      s.faults n &&& c.p 12 4 ≠ 0 ∧ c.late s.td0 = false ∧ c.p 0 8 = 0 ∧ s.modeHolds c = false ∧ s.sf.running = true :=
  ⟨(inF wR cV).set PDA_CHn_FAULT_FAULT 6 63, 63, 0, cV, by decide +kernel⟩

theorem wit_ChangesAndLongCommands :
    (∃ (s : State) (x : OwnChange) (c : Cmd), s.atGrid = true ∧ s.sf.ownPend = [x] ∧ s.cmd? x.cmd = some c ∧ c.aux < s.now ∧
      c.late s.effectNs = false ∧ s.modeHolds c = false) ∧
    (∃ (s : State) (fn : Nat), s.fnState fn = 2 ∧ s.fnInflight fn = 0) ∧
    (∃ (s : State) (fn q disc : Nat) (run : List Nat), (s.fn fn).dirty = [(q, disc, run)] ∧ ((s.sf.cmds.any fun (c : Cmd) =>
      run.contains c.seq) = false)) ∧
    (∃ (s : State) (m : Nat) (c : Cmd) (t : State), (s.cfg.preparing = some (m, c.seq) ∧ s.cmd? c.seq = some c ∧ s.atGrid =
      true ∧ c.aux < s.now ∧ s.sf.running = true ∧ s.pe.reflow = false ∧ s.pe.rebal = none ∧ s.cfg.tookAt ≠ some s.now ∧ c.late
      s.effectNs = false) ∧ s.modeTrial m = Except.ok t) ∧
    (∃ (s : State) (n p : Nat), n < 64 ∧ nfind s.cfg.pendProf n = some p ∧ ((s.chan n).state = chOff ∨ (s.chan n).state =
      chLatched)) ∧
    (∃ (s : State) (kind : Nat) (j : ImageJob) (d : List Byte) (v : State), (s.imageJob? kind = some j ∧ s.sf.running = true ∧
      j.op = 0 ∧ j.len ≤ areaRoom kind) ∧ (s.dropJob kind).fnRead 0 j.src j.len = (Except.ok d, v)) ∧
    (∃ (s : State) (kind : Nat) (j : ImageJob) (c : Commit), s.imageJob? kind = some j ∧ s.sf.running = true ∧ j.op = 1 ∧
      j.action ≤ 1 ∧ j.advance = false ∧ (s.dropJob kind).commitOf kind (1 - (s.dropJob kind).runHalf kind) = some c) ∧
    (∃ (s : State) (id code us t q : Nat), nfind s.fcu.testAt id = some t ∧ nfind (s.until (t + us * 1000)).fcu.tests id = some
      q ∧ code ≤ 6 ∧ id / 256 ≠ 1) ∧
    (∃ (s : State) (id code us t q : Nat), nfind s.fcu.testAt id = some t ∧ nfind (s.until (t + us * 1000)).fcu.tests id = some
      q ∧ code ≤ 6 ∧ id / 256 ≠ 1) ∧
    (∃ (s : State) (k : SecCall) (c : Cmd), (List.find? (fun (k : SecCall) => k.cmd == c.seq) s.sec.calls = some k) ∧ s.cmd?
      c.seq = some c ∧ c.desc.opcode = 2561 ∧ s.sec.rngFail = false) :=
  ⟨⟨{ inF (wR.set PDA_CHn_PROFILE_PROFILE 1 63) { cW 0x0F03 .started with aux := 999000 } with sf.ownPend := [{ cmd := 3, kind := 0, owner := 5, first := 62, count := 2 }] },
     { cmd := 3, kind := 0, owner := 5, first := 62, count := 2 }, { cW 0x0F03 .started with aux := 999000 }, by
     decide +kernel⟩,
   ⟨inF ((wR.set SF_FNn_STATE_STATE 2 5).setFn 5 { wR.fn 5 with done := 9 })
     { cW 0x0F01 .started with desc := descWith 0x0F01 (rq 0 5 []), aux := 2 }, 5, by decide +kernel⟩,
   ⟨inF (wR.setFn 5 { wR.fn 5 with dirty := [(3, 2, [1])], done := 8 })
     { cW 0x0F05 .started with desc := descWith 0x0F05 (rq 0 5 []), aux := 2 }, 5, 3, 2, [1], by decide +kernel⟩,
   ⟨{ inF (wR.set SF_MODE_MODE 2) cM with cfg.preparing := some (0, 3) }, 0, cM, match
     ({ inF (wR.set SF_MODE_MODE 2) cM with cfg.preparing := some (0, 3) }).modeTrial 0 with | .ok t => t | .error _ => run, by
     decide +kernel, okVal (by decide +kernel)⟩,
   ⟨{ wR with cfg.pendProf := [(63, 1)], pda.profiles := [(1, profOk)] }, 63, 1, by decide +kernel⟩,
   ⟨{ inF wR { cW 0x0702 .long with desc := descWith 0x0702 (rq 0 1 []) } with cfg.jobs := [jb] }, 1, jb,
     ((({ inF wR { cW 0x0702 .long with desc := descWith 0x0702 (rq 0 1 []) } with cfg.jobs := [jb] }).dropJob 1).fnRead 0
     0x10000000 100).1.toOption.getD [],
     ((({ inF wR { cW 0x0702 .long with desc := descWith 0x0702 (rq 0 1 []) } with cfg.jobs := [jb] }).dropJob 1).fnRead 0
     0x10000000 100).2, by decide +kernel, okPair (by decide +kernel) (by decide +kernel)⟩,
   ⟨{ (inF wR { cW 0x0703 .long with desc := descWith 0x0703 (rq 0 0 []) }).setCommit 0 1 { seq := 4, state := icStaged, len := 100 } with cfg.jobs := [jc] },
     0, jc,
     ((({ (inF wR { cW 0x0703 .long with desc := descWith 0x0703 (rq 0 0 []) }).setCommit 0 1 { seq := 4, state := icStaged, len := 100 } with cfg.jobs := [jc] }).dropJob
     0).commitOf 0 1).getD { seq := 0, state := 0, len := 0 }, by decide +kernel⟩,
   ⟨{ inF wR { cW 0x0801 .long with desc := descWith 0x0801 (rq 0 0x63F []) } with fcu.tests := [(0x63F, 3)], fcu.testAt := [(0x63F, 990000)] },
     0x63F, 0, 50, 990000, 3, by decide +kernel⟩,
   ⟨{ inF wR { cW 0x0801 .long with desc := descWith 0x0801 (rq 0 0x63F []) } with fcu.tests := [(0x202, 3)], fcu.testAt := [(0x202, 990000)] },
     0x202, 6, 50, 990000, 3, by decide +kernel⟩,
   ⟨{ inF wR cASf with sec.calls := [{ seq := 0, cmd := 3, at_ := 900000 }] }, { seq := 0, cmd := 3, at_ := 900000 }, cASf, by
     decide +kernel⟩⟩

theorem wit_PortsAndTransmission :
    (∃ (s : State) (p q : Nat) (b : List Byte), p < 10 ∧ s.portNet p = none ∧ s.eswUp = true ∧ s.linkUp p = true) ∧
    (∃ (s : State) (p q : Nat) (b : List Byte), p < 10 ∧ s.portNet p = none ∧ s.eswUp = true ∧ s.linkUp p = true ∧ b.length + 4
      < 64) ∧
    (∃ (s : State) (p q : Nat) (b : List Byte), p < 10 ∧ s.portNet p = none ∧ s.eswUp = true ∧ s.linkUp p = true ∧ 64 ≤
      b.length + 4 ∧ (s.stamps p q false).snd.maxFrame p < b.length + 4) ∧
    (∃ (s : State) (p q : Nat) (b : List Byte), p < 10 ∧ s.portNet p = none ∧ s.eswUp = true ∧ s.linkUp p = true ∧ 64 ≤
      b.length + 4 ∧ b.length + 4 ≤ (s.stamps p q false).snd.maxFrame p ∧ (s.stamps p q false).snd.secyOn p = false) ∧
    (∃ (s : State) (p q : Nat), p < 10 ∧ s.portNet p = none ∧ s.eswUp = true ∧ s.linkUp p = false ∧ s.portOff p = false ∧
      s.phyUp p = true ∧ nfind s.fcu.tests (1280 + p) = none) ∧
    (∃ (s : State) (p q : Nat), p < 10 ∧ s.portNet p = none ∧ s.eswUp = true ∧ s.linkUp p = true) ∧
    (∃ (s : State) (p q : Nat), p < 10 ∧ s.portNet p = none ∧ s.eswUp = true ∧ s.plcaOn p = true ∧ s.plcaNode p ≠ 0 ∧ s.linkUp
      p = true ∧ s.flag ESW_PORTp_LINK_PLCA_FALLBACK p = false) ∧
    (∃ (s : State) (p q : Nat), p < 10 ∧ s.portNet p = none ∧ s.eswUp = true ∧ s.plcaOn p = true ∧ s.plcaNode p ≠ 0 ∧ s.linkUp
      p = true) ∧
    (∃ (s : State) (p q k : Nat) (f : EthFrame) (l : List EthFrame), p < 10 ∧ s.portNet p = none ∧ s.eswUp = true ∧ s.linkUp p
      = true ∧ s.plcaOn p = false ∧ s.secyOn p = false ∧
      (List.find? (fun (k : Nat) => (((s.until (s.port p).busy).creditTo p).each (((s.until (s.port p).busy).creditTo p).port p).queues fun (w : State) (e : Nat × List EthFrame) => w.dropUnsendable p e.fst e.snd).maySend p k) [7, 6, 5, 4, 3, 2, 1, 0] = some k)
      ∧
      (ngetD ((((s.until (s.port p).busy).creditTo p).each (((s.until (s.port p).busy).creditTo p).port p).queues fun (w : State) (e : Nat × List EthFrame) => w.dropUnsendable p e.fst e.snd).port p).queues k [] = f :: l)
      ∧ f.wb = none) :=
  ⟨⟨u10, 9, 5, frm, by decide +kernel⟩,
   ⟨u10, 0, 5, [1,2,3], by decide +kernel⟩,
   ⟨u10, 9, 5, List.replicate 1600 3, by decide +kernel⟩,
   ⟨u10, 9, 5, frm, by decide +kernel⟩,
   ⟨run, 0, 0, by decide +kernel⟩,
   ⟨uQ, 9, 0, by decide +kernel⟩,
   ⟨{ uP with esw.ports := [(9, { beacon := 900000 })] }, 9, 0, by decide +kernel⟩,
   ⟨uP, 9, 0, by decide +kernel⟩,
   ⟨uQ, 9, 3, 5, fr0, [fr0], by decide +kernel⟩⟩

theorem wit_AgingGatesAndRegisters :
    (∃ (s : State) (vid mac p t : Nat), nfind s.esw.learned (vid * 281474976710656 + mac) = some (p, t)) ∧
    (∃ (s : State) (h : Nat) (r : Recovery) (raw : List Byte), nfind s.esw.recov h = some r ∧ s.cfgData 257 10 h = some raw ∧
      r.any = false) ∧
    (∃ (s : State) (p : Nat) (r : GateRun), (s.port p).run = some r ∧ (s.port p).next = none ∧ r.hold = false ∧ s.coreRuns =
      true ∧ r.till ≤ ((s.untilTd (s.tasTd p) r.till).td (s.tasTd p)).ns ∧ r.idx + 1 < r.list.length) ∧
    (∃ (s : State) (p : Nat) (r : GateRun), (s.port p).run = some r ∧ (s.port p).next = none ∧ r.hold = false ∧ s.coreRuns =
      true ∧ r.till ≤ ((s.untilTd (s.tasTd p) r.till).td (s.tasTd p)).ns ∧ r.list.length ≤ r.idx + 1) ∧
    (∃ (s : State) (p : Nat) (n : GateRun), (s.port p).next = some n ∧ s.coreRuns = true ∧ n.till ≤ ((s.untilTd (s.tasTd p)
      n.till).td (s.tasTd p)).ns) ∧
    (∃ (s : State) (a : Init) (fn q : Nat) (v : Word), s.reaches a ESW_DEV_ETYPE 0 0 true = true ∧ s.etypeRefused (BitVec.toNat
      v % 65536) = false) ∧
    (∃ (s : State) (a : Init) (fn q : Nat) (v : Word) (t : Nat), s.esw.etypeAt = some t ∧ s.atGrid = true ∧ t < s.now) ∧
    (∃ (s : State) (a : Init) (fn q : Nat) (v : Word) (w : Nat), w < 8 ∧ s.reaches a ESW_SF_BLOCKEDw w 0 true = true) ∧
    (∃ (s : State) (a : Init) (fn q : Nat) (v : Word), fn < 64 ∧ q < 64 ∧ s.reaches a ESW_Qq_CFG fn q true = true ∧ s.flag
      ESW_Qq_CFG_EN 0 q = false ∧ bitOf (BitVec.toNat v) 16 = true) ∧
    (∃ (s : State) (a : Init) (fn q : Nat) (v : Word), fn < 64 ∧ q < 64 ∧ s.reaches a ESW_Qq_TX_TAIL fn q true = true ∧
      BitVec.toNat v % 4096 < s.txDepth q) ∧
    (∃ (s : State) (a : Init) (fn q : Nat) (v : Word), fn < 64 ∧ q < 64 ∧ s.reaches a ESW_Qq_RX_TAIL fn q true = true ∧
      BitVec.toNat v % 4096 < s.rxDepth q) ∧
    (∃ (s : State) (a : Init) (fn q : Nat) (v : Word) (p c : Nat), p < 12 ∧ c < 32 ∧ s.reaches a ESW_PORTp_CNTc_LO p c false =
      true) :=
  ⟨⟨{ run with esw.learned := [(5 * 281474976710656 + 7, (3, 900000))] }, 5, 7, 3, 900000, by decide +kernel⟩,
   ⟨{ run with esw.recov := [(3, { any := false, at_ := 900000, seq := 5 })], cfg.tables := [{ type := 0x0101, rtype := 10, key := 3, data := List.replicate 12 0 ++ [5, 0, 0, 0] }] },
     3, { any := false, at_ := 900000, seq := 5 }, List.replicate 12 0 ++ [5, 0, 0, 0], by decide +kernel⟩,
   ⟨run.modPort 9 fun x => { x with run := some (gr 0) }, 9, gr 0, by decide +kernel⟩,
   ⟨run.modPort 9 fun x => { x with run := some (gr 1) }, 9, gr 1, by decide +kernel⟩,
   ⟨run.modPort 9 fun x => { x with next := some (gr 0), run := some (gr 1) }, 9, gr 0, by decide +kernel⟩,
   ⟨run, svp, 0, 0, 0x1234, by decide +kernel⟩,
   ⟨{ (run.set ESW_DEV_ETYPE_ETYPE 0x1234) with esw.etypeAt := some 999000 }, svp, 0, 0, 0, 999000, by decide +kernel⟩,
   ⟨run.wr ESW_SF_BLOCKEDw 0xFF 7, svp, 0, 0, 0x3C, 7, by decide +kernel⟩,
   ⟨wOwn, svp, 5, 63, 0x10000, by decide +kernel⟩,
   ⟨wOwn, svp, 5, 63, 15, by decide +kernel⟩,
   ⟨wOwn, svp, 5, 63, 15, by decide +kernel⟩,
   ⟨(run.wr ESW_PORTp_CNTc_LO 77 11 31).wr ESW_PORTp_CNTc_HI 7 11 31, svp, 0, 0, 0, 11, 31, by decide +kernel⟩⟩

theorem wit_GuestQueues :
    (∃ (s : State) (q : Nat) (d : List Byte) (u : State), (s.eswUp = true ∧ s.qRuns q = true ∧ (s.ethq q).txHead ≠ s.get
      ESW_Qq_TX_TAIL_INDEX 0 q ∧ bitOf (byteAt d 10) 0 = true ∧ (leAt d 8 2 < 14 ∨ (u.modEthq q fun (x : EthQ) =>
      { x with txHead := if (s.ethq q).txHead + 1 ≥ u.txDepth q then 0 else (s.ethq q).txHead + 1 : EthQ }).maxFrame portH - 8
      < leAt d 8 2)) ∧ s.fnRead (s.qOwner q) (s.txDesc q (s.ethq q).txHead) 16 = (Except.ok d, u)) ∧
    (∃ (s : State) (q : Nat) (d : List Byte) (u : State) (e : FnErr) (w : State), (s.eswUp = true ∧ s.qRuns q = true ∧ (s.ethq
      q).txHead ≠ s.get ESW_Qq_TX_TAIL_INDEX 0 q ∧ bitOf (byteAt d 10) 0 = true ∧ 14 ≤ leAt d 8 2 ∧ (leAt d 8 2 ≤ (u.modEthq q
      fun (x : EthQ) =>
      { x with txHead := if (s.ethq q).txHead + 1 ≥ u.txDepth q then 0 else (s.ethq q).txHead + 1 : EthQ }).maxFrame portH -
      8)) ∧ s.fnRead (s.qOwner q) (s.txDesc q (s.ethq q).txHead) 16 = (Except.ok d, u) ∧ ((u.modEthq q fun (x : EthQ) =>
      { x with txHead := if (s.ethq q).txHead + 1 ≥ u.txDepth q then 0 else (s.ethq q).txHead + 1 : EthQ }).fnRead (s.qOwner q)
      (leAt d 0 8) (leAt d 8 2) = (Except.error e, w))) ∧
    (∃ (s : State) (q : Nat) (d : List Byte) (u : State) (b : List Byte) (w : State), (s.eswUp = true ∧ s.qRuns q = true ∧
      (s.ethq q).txHead ≠ s.get ESW_Qq_TX_TAIL_INDEX 0 q ∧ bitOf (byteAt d 10) 0 = true ∧ 14 ≤ leAt d 8 2 ∧ (leAt d 8 2 ≤
      (u.modEthq q fun (x : EthQ) =>
      { x with txHead := if (s.ethq q).txHead + 1 ≥ u.txDepth q then 0 else (s.ethq q).txHead + 1 : EthQ }).maxFrame portH - 8)
      ∧ (beAt b 6 6 ≠ w.qMac q ∨ [33024, 34984, 35045, 61889].contains (beAt b 12 2) = true)) ∧ s.fnRead (s.qOwner q) (s.txDesc
      q (s.ethq q).txHead) 16 = (Except.ok d, u) ∧ ((u.modEthq q fun (x : EthQ) =>
      { x with txHead := if (s.ethq q).txHead + 1 ≥ u.txDepth q then 0 else (s.ethq q).txHead + 1 : EthQ }).fnRead (s.qOwner q)
      (leAt d 0 8) (leAt d 8 2) = (Except.ok b, w))) ∧
    (∃ (s : State) (q : Nat) (d : List Byte) (u : State) (b : List Byte) (w : State), (s.eswUp = true ∧ s.qRuns q = true ∧
      (s.ethq q).txHead ≠ s.get ESW_Qq_TX_TAIL_INDEX 0 q ∧ bitOf (byteAt d 10) 0 = true ∧ 14 ≤ leAt d 8 2 ∧ (leAt d 8 2 ≤
      (u.modEthq q fun (x : EthQ) =>
      { x with txHead := if (s.ethq q).txHead + 1 ≥ u.txDepth q then 0 else (s.ethq q).txHead + 1 : EthQ }).maxFrame portH - 8)
      ∧ beAt b 6 6 = w.qMac q ∧ [33024, 34984, 35045, 61889].contains (beAt b 12 2) = false) ∧ s.fnRead (s.qOwner q) (s.txDesc
      q (s.ethq q).txHead) 16 = (Except.ok d, u) ∧ ((u.modEthq q fun (x : EthQ) =>
      { x with txHead := if (s.ethq q).txHead + 1 ≥ u.txDepth q then 0 else (s.ethq q).txHead + 1 : EthQ }).fnRead (s.qOwner q)
      (leAt d 0 8) (leAt d 8 2) = (Except.ok b, w))) ∧
    (∃ (s : State) (q : Nat) (e : FnErr) (u : State), (s.eswUp = true ∧ s.qRuns q = true ∧ (s.ethq q).txHead ≠ s.get
      ESW_Qq_TX_TAIL_INDEX 0 q) ∧ s.fnRead (s.qOwner q) (s.txDesc q (s.ethq q).txHead) 16 = (Except.error e, u)) ∧
    (∃ (s : State) (q : Nat) (d : List Byte) (u : State) (b : List Byte) (w : State) (p : Nat), (s.eswUp = true ∧ s.qRuns q =
      true ∧ (s.ethq q).txHead ≠ s.get ESW_Qq_TX_TAIL_INDEX 0 q ∧ bitOf (byteAt d 10) 0 = true ∧ 14 ≤ leAt d 8 2 ∧ (leAt d 8 2
      ≤ (u.modEthq q fun (x : EthQ) =>
      { x with txHead := if (s.ethq q).txHead + 1 ≥ u.txDepth q then 0 else (s.ethq q).txHead + 1 : EthQ }).maxFrame portH - 8)
      ∧ beAt b 6 6 = w.qMac q ∧ [33024, 34984, 35045, 61889].contains (beAt b 12 2) = false ∧ bitOf (byteAt d 10) 1 = false ∧
      (List.find? (fun (p : Nat) => w.boundQueue p == some q) (List.range 10) = some p)) ∧ s.fnRead (s.qOwner q) (s.txDesc q
      (s.ethq q).txHead) 16 = (Except.ok d, u) ∧ ((u.modEthq q fun (x : EthQ) =>
      { x with txHead := if (s.ethq q).txHead + 1 ≥ u.txDepth q then 0 else (s.ethq q).txHead + 1 : EthQ }).fnRead (s.qOwner q)
      (leAt d 0 8) (leAt d 8 2) = (Except.ok b, w))) ∧
    (∃ (s : State) (q : Nat) (e : TxWait), (s.ethq q).wait = [e] ∧ s.txStored (some (q, e.id)) = false) ∧
    (∃ (s : State) (q : Nat) (e : TxWait), (s.ethq q).wait = [e] ∧ s.txStored (some (q, e.id)) = true) :=
  ⟨⟨qS 13 3, 63, qD 13 3, ((qS 13 3).fnRead 5 0x10000000 16).2, by decide +kernel, okPair (by decide +kernel) (by
     decide +kernel)⟩,
   ⟨(qS 60 3).setBytes 0x10000003 [0xFF], 63, leBytes 8 0x0FF000100 ++ (qD 60 3).drop 8, (((qS 60 3).setBytes 0x10000003
     [0xFF]).fnRead 5 0x10000000 16).2, .xlate, ((((((qS 60 3).setBytes 0x10000003 [0xFF]).fnRead 5 0x10000000 16).2).modEthq
     63 fun x =>
     { x with txHead := if (((qS 60 3).setBytes 0x10000003 [0xFF]).ethq 63).txHead + 1 ≥ ((((qS 60 3).setBytes 0x10000003 [0xFF]).fnRead 5 0x10000000 16).2).txDepth 63 then 0 else (((qS 60 3).setBytes 0x10000003 [0xFF]).ethq 63).txHead + 1 }).fnRead
     5 (leAt (leBytes 8 0x0FF000100 ++ (qD 60 3).drop 8) 0 8) 60).2, by decide +kernel, okPair (by decide +kernel) (by
     decide +kernel), errPair (by decide +kernel) (by decide +kernel)⟩,
   ⟨(qS 60 3), 63, qD 60 3, (((qS 60 3)).fnRead 5 0x10000000 16).2, (((qS 60 3)).fnRead 5 (leAt (qD 60 3) 0 8)
     60).1.toOption.getD [], ((((((qS 60 3)).fnRead 5 0x10000000 16).2).modEthq 63 fun x =>
     { x with txHead := if (((qS 60 3)).ethq 63).txHead + 1 ≥ ((((qS 60 3)).fnRead 5 0x10000000 16).2).txDepth 63 then 0 else (((qS 60 3)).ethq 63).txHead + 1 }).fnRead
     5 (leAt (qD 60 3) 0 8) 60).2, by decide +kernel, okPair (by decide +kernel) (by decide +kernel), okPair (by
     decide +kernel) (by decide +kernel)⟩,
   ⟨qT, 63, qD 60 3, (qT.fnRead 5 0x10000000 16).2, (qT.fnRead 5 (leAt (qD 60 3) 0 8) 60).1.toOption.getD [], ((((qT.fnRead 5
     0x10000000 16).2).modEthq 63 fun x =>
     { x with txHead := if (qT.ethq 63).txHead + 1 ≥ ((qT.fnRead 5 0x10000000 16).2).txDepth 63 then 0 else (qT.ethq 63).txHead + 1 }).fnRead
     5 (leAt (qD 60 3) 0 8) 60).2, by decide +kernel, okPair (by decide +kernel) (by decide +kernel), okPair (by
     decide +kernel) (by decide +kernel)⟩,
   ⟨(qS 60 3).wr ESW_Qq_BASE 0x20000 0 63, 63, .xlate, (((qS 60 3).wr ESW_Qq_BASE 0x20000 0 63).fnRead 5 (((qS 60 3).wr
     ESW_Qq_BASE 0x20000 0 63).txDesc 63 0) 16).2, by decide +kernel, errPair (by decide +kernel) (by decide +kernel)⟩,
   ⟨qU, 63, qD 60 1, (qU.fnRead 5 0x10000000 16).2, (qU.fnRead 5 (leAt (qD 60 1) 0 8) 60).1.toOption.getD [], ((((qU.fnRead 5
     0x10000000 16).2).modEthq 63 fun x =>
     { x with txHead := if (qU.ethq 63).txHead + 1 ≥ ((qU.fnRead 5 0x10000000 16).2).txDepth 63 then 0 else (qU.ethq 63).txHead + 1 }).fnRead
     5 (leAt (qD 60 1) 0 8) 60).2, 9, by decide +kernel, okPair (by decide +kernel) (by decide +kernel), okPair (by
     decide +kernel) (by decide +kernel)⟩,
   ⟨run.modEthq 63 fun x => { x with wait := [{ id := 2, addr := 0x10000000, desc := qD 60 3 }] }, 63,
     { id := 2, addr := 0x10000000, desc := qD 60 3 }, by decide +kernel⟩,
   ⟨(run.modEthq 63 fun x => { x with wait := [{ id := 2, addr := 0x10000000, desc := qD 60 3 }] }).modPort 9 fun x =>
     { x with queues := [(5, [{ fr0 with wb := some (63, 2) }])] }, 63, { id := 2, addr := 0x10000000, desc := qD 60 3 }, by
     decide +kernel⟩⟩

theorem wit_CanRegisters :
    (∃ (s : State) (a : Init) (c b : Nat) (v : Word), c < 8 ∧ b < 32 ∧ s.reaches a FBC_CANc_TXREQ_LO c 0 true = true ∧
      BitVec.toNat v = 2 ^ b ∧ s.gwReserved c b = false) ∧
    (∃ (s : State) (a : Init) (c b : Nat) (v : Word), c < 8 ∧ b < 32 ∧ s.reaches a FBC_CANc_TXREQ_HI c 0 true = true) ∧
    (∃ (s : State) (a : Init) (c b : Nat) (v : Word) (f : CanFrame), c < 8 ∧ b < 32 ∧ s.reaches a FBC_CANc_TXABORT_LO c 0 true
      = true ∧ BitVec.toNat v = 2 ^ b ∧ s.gwReserved c b = false ∧ nfind (s.can c).pend b = some f ∧ (s.can c).cur = none) ∧
    (∃ (s : State) (a : Init) (c b : Nat) (v : Word), c < 8 ∧ b < 32 ∧ s.reaches a FBC_CANc_TXABORT_HI c 0 true = true) ∧
    (∃ (s : State) (a : Init) (c b : Nat) (v : Word), c < 8 ∧ b < 32 ∧ s.reaches a FBC_CANc_CTRL c 0 true = true ∧ s.get
      FBC_CANc_ERR_STATE c = 2 ∧ s.canFlag c 4 = true ∧ s.flag FBC_CANc_ERR_COUNTING c = false) ∧
    (∃ (s : State) (a : Init) (c b : Nat) (v : Word), c < 8 ∧ b < 32 ∧ s.reaches a FBC_CANc_RXF_RIDX c 0 true = true ∧
      (BitVec.toNat v % 128 + 128 - s.get FBC_CANc_RXF_RIDX_INDEX c) % 128 ≤ (s.get FBC_CANc_RXF_WIDX_INDEX c + 128 - s.get
      FBC_CANc_RXF_RIDX_INDEX c) % 128) :=
  ⟨⟨cF 0x20, svp, 7, 31, 0x80000000, by decide +kernel⟩,
   ⟨cF 0x20, svp, 7, 0, 0x80000001, by decide +kernel⟩,
   ⟨cP, svp, 7, 31, 0x80000000, fr, by decide +kernel⟩,
   ⟨cP, svp, 7, 0, 0x80000001, by decide +kernel⟩,
   ⟨(cF 0x30).set FBC_CANc_ERR_STATE 2 7, svp, 7, 0, 1, by decide +kernel⟩,
   ⟨((cF 0x30).set FBC_CANc_RXF_WIDX_INDEX 5 7), svp, 7, 0, 5, by decide +kernel⟩⟩

theorem wit_CanAttemptsAndSchedule :
    (∃ (s : State) (c b : Nat) (f : CanFrame), c < 8 ∧ s.canMaySend c = true ∧ (s.can c).cur = none ∧ s.canChoice c = some (b,
      f)) ∧
    (∃ (s : State) (c : Nat) (t : CanTx), c < 8 ∧ (s.can c).cur = some t ∧ t.uv = true) ∧
    (∃ (s : State) (c : Nat) (t : CanTx), c < 8 ∧ (s.can c).cur = some t ∧ s.pcs.vcanUv = true) ∧
    (∃ (s : State) (c : Nat) (t : CanTx), c < 8 ∧ (s.can c).cur = some t ∧ t.uv = false ∧ s.pcs.vcanUv = false ∧ t.replaced =
      false ∧ t.buf < 64) ∧
    (∃ (s : State) (c : Nat) (t : CanTx) (f : CanFrame), c < 8 ∧ (s.can c).cur = some t ∧ t.uv = false ∧ s.pcs.vcanUv = false ∧
      t.replaced = false ∧ t.buf < 64 ∧ nfind (s.can c).pend t.buf = some f ∧ f.expired = false ∧ f.aborted = false) ∧
    (∃ (s : State) (c : Nat) (t : CanTx) (f : CanFrame) (inc : Nat), c < 8 ∧ (s.can c).cur = some t ∧ t.uv = false ∧
      s.pcs.vcanUv = false ∧ t.replaced = false ∧ t.buf < 64 ∧ nfind (s.can c).pend t.buf = some f ∧ f.expired = false ∧
      f.aborted = false) ∧
    (∃ (s : State) (c b : Nat) (f : CanFrame), c < 8 ∧ nfind (s.can c).pend b = some f ∧ leAt f.hdr 10 2 ≠ 0 ∧ s.fbcUp = true ∧
      ((s.until (f.req + leAt f.hdr 10 2 * 1000000)).can c).cur = none ∧ nfind ((s.until (f.req + leAt f.hdr 10 2 *
      1000000)).can c).pend b = some f) ∧
    (∃ (s : State) (c : Nat), c < 8 ∧ s.fbcUp = true ∧ s.get FBC_CANc_ERR_STATE c = 2 ∧ s.flag FBC_CANc_ERR_COUNTING c = true) ∧
    (∃ (s : State) (c : Nat), c < 8 ∧ s.fbcUp = true ∧ s.flag PCS_STATE_DONE = true ∧ s.get FBC_CANc_ERR_STATE c = 3 ∧
      s.canTested c = false ∧ s.netState c ≠ 0) ∧
    (∃ (s : State) (c : Nat) (m : MatRun), (c < 8 ∧ s.fbcUp = true ∧ (s.can c).mat = some m ∧ m.next ≤ ((s.untilTd m.td
      m.next).td m.td).ns) ∧ ((s.can c).matNext = none ∨ ∃ (n : MatRun), (s.can c).matNext = some n ∧ s.oldColumnFirst m n =
      true)) ∧
    (∃ (s : State) (c : Nat) (m : MatRun), (c < 8 ∧ s.fbcUp = true ∧ (s.can c).mat = some m ∧ m.next ≤ ((s.untilTd m.td
      m.next).td m.td).ns) ∧ ((s.can c).matNext = none ∨ ∃ (n : MatRun), (s.can c).matNext = some n ∧ s.oldColumnFirst m n =
      true)) ∧
    (∃ (s : State) (c : Nat) (m n : MatRun), c < 8 ∧ s.fbcUp = true ∧ (s.can c).mat = some m ∧ (s.can c).matNext = some n ∧
      s.oldColumnFirst m n = false ∧ n.next ≤ ((s.untilTd n.td n.next).td n.td).ns) ∧
    (∃ (s : State) (c : Nat) (m : MatRun), c < 8 ∧ s.fbcUp = true ∧ (s.can c).mat = some m ∧ matCell m.raw m.row m.col % 4 = 1
      ∧ m.missed = false ∧ m.begun = true ∧ m.col < matNcol m.raw ∧ m.start + matLatest m.raw m.col < m.next ∧ m.start +
      matLatest m.raw m.col < ((s.untilTd m.td (m.start + matLatest m.raw m.col + 1)).td m.td).ns ∧ ((s.untilTd m.td (m.start +
      matLatest m.raw m.col + 1)).can c).cur = none ∧ (nfind ((s.untilTd m.td (m.start + matLatest m.raw m.col + 1)).can
      c).pend (bitsOf (matCell m.raw m.row m.col) 9 4)).isSome = true ∧ (s.untilTd m.td (m.start + matLatest m.raw m.col +
      1)).scheduled c (bitsOf (matCell m.raw m.row m.col) 9 4) = true) :=
  ⟨⟨cP, 7, 31, fr, by decide +kernel⟩,
   ⟨cP.modCan 7 fun x => { x with cur := some { tx with uv := true } }, 7, { tx with uv := true }, by decide +kernel⟩,
   ⟨{ cC with pcs.vcanUv := true }, 7, tx, by decide +kernel⟩,
   ⟨cC, 7, tx, by decide +kernel⟩,
   ⟨cC, 7, tx, fr, by decide +kernel⟩,
   ⟨cC, 7, tx, fr, 8, by decide +kernel⟩,
   ⟨cP, 7, 31, fr, by decide +kernel⟩,
   ⟨((cF 0x30).set FBC_CANc_ERR_STATE 2 7).setFlag FBC_CANc_ERR_COUNTING true 7, 7, by decide +kernel⟩,
   ⟨(((cF 0x30).set FBC_CANc_ERR_STATE 3 7).set FBC_CANc_ERR_TEC 128 7).set FBC_NETn_STATUS_STATE 1 7, 7, by decide +kernel⟩,
   ⟨cP.modCan 7 fun x => { x with mat := some mr }, 7, mr, by decide +kernel, Or.inl (by decide +kernel)⟩,
   ⟨cP.modCan 7 fun x => { x with mat := some mr, matNext := some { mr with start := 2000000, next := 2000000 } }, 7, mr, by
     decide +kernel, Or.inr ⟨{ mr with start := 2000000, next := 2000000 }, by decide +kernel⟩⟩,
   ⟨cP.modCan 7 fun x => { x with mat := some mr, matNext := some { mr with start := 1200000, next := 1200000 } }, 7, mr,
     { mr with start := 1200000, next := 1200000 }, by decide +kernel⟩,
   ⟨(cP.modCan 7 fun x => { x with mat := some { mr with col := 1, start := 1500000, next := 2000000 }}).wr FBC_CANc_SCHED_LO
     0x80000000 7, 7, { mr with col := 1, start := 1500000, next := 2000000 }, by decide +kernel⟩⟩

theorem wit_ReceptionAndLin :
    (∃ (s : State) (c : Nat) (f : CanRx), c < 8 ∧ s.fbcUp = true ∧ s.pcs.vcanUv = true) ∧
    (∃ (s : State) (c : Nat) (f : CanRx), c < 8 ∧ s.fbcUp = true ∧ s.pcs.vcanUv = false ∧ rxKind f = 0 ∧ (s.netActivity c
      (s.now - f.ago)).fbcUp = true ∧ (s.netActivity c (s.now - f.ago)).pcs.vcanUv = false ∧ (s.netActivity c (s.now -
      f.ago)).canFlag c 5 = true ∧ (s.netActivity c (s.now - f.ago)).canTested c = false ∧ (s.netActivity c (s.now -
      f.ago)).get FBC_CANc_ERR_STATE c < 2 ∧ (s.netActivity c (s.now - f.ago)).netState c ≠ 0 ∧ ((s.netActivity c (s.now -
      f.ago)).net c).commit = none ∧ f.errs ≠ 0) ∧
    (∃ (s : State) (c : Nat) (f : CanRx) (i : Nat) (r : List Byte), c < 8 ∧ s.fbcUp = true ∧ s.pcs.vcanUv = false ∧ rxKind f =
      0 ∧ (s.netActivity c (s.now - f.ago)).fbcUp = true ∧ (s.netActivity c (s.now - f.ago)).pcs.vcanUv = false ∧
      (s.netActivity c (s.now - f.ago)).canFlag c 5 = true ∧ (s.netActivity c (s.now - f.ago)).canTested c = false ∧
      (s.netActivity c (s.now - f.ago)).get FBC_CANc_ERR_STATE c < 2 ∧ (s.netActivity c (s.now - f.ago)).netState c ≠ 0 ∧
      ((s.netActivity c (s.now - f.ago)).net c).commit = none ∧ f.errs = 0 ∧ (s.netActivity c (s.now - f.ago)).get
      FBC_CANc_ERR_REC c ≤ 127 ∧ ((((s.netActivity c (s.now - f.ago)).canCounters c ((s.netActivity c (s.now - f.ago)).get
      FBC_CANc_ERR_TEC c) ((s.netActivity c (s.now - f.ago)).get FBC_CANc_ERR_REC c - 1)).count (448 + c)).canBell c
      f).filterOn 3 (8 * c) 8 0 f = none ∧ ((((s.netActivity c (s.now - f.ago)).canCounters c ((s.netActivity c (s.now -
      f.ago)).get FBC_CANc_ERR_TEC c) ((s.netActivity c (s.now - f.ago)).get FBC_CANc_ERR_REC c - 1)).count (448 + c)).canBell
      c f).filterOn 4 (256 * c) 256 2 f = some (i, r) ∧ byteAt r 9 % 4 = 1) ∧
    (∃ (s : State) (c : Nat) (f : CanRx), c < 8 ∧ s.fbcUp = true ∧ s.pcs.vcanUv = false ∧ rxKind f = 0 ∧ (s.netActivity c
      (s.now - f.ago)).fbcUp = true ∧ (s.netActivity c (s.now - f.ago)).pcs.vcanUv = false ∧ (s.netActivity c (s.now -
      f.ago)).canFlag c 5 = true ∧ (s.netActivity c (s.now - f.ago)).canTested c = false ∧ (s.netActivity c (s.now -
      f.ago)).get FBC_CANc_ERR_STATE c < 2 ∧ (s.netActivity c (s.now - f.ago)).netState c ≠ 0 ∧ ((s.netActivity c (s.now -
      f.ago)).net c).commit = none ∧ f.errs = 0 ∧ (s.netActivity c (s.now - f.ago)).get FBC_CANc_ERR_REC c ≤ 127 ∧
      ((((s.netActivity c (s.now - f.ago)).canCounters c ((s.netActivity c (s.now - f.ago)).get FBC_CANc_ERR_TEC c)
      ((s.netActivity c (s.now - f.ago)).get FBC_CANc_ERR_REC c - 1)).count (448 + c)).canBell c f).filterOn 3 (8 * c) 8 0 f =
      none ∧ ((((s.netActivity c (s.now - f.ago)).canCounters c ((s.netActivity c (s.now - f.ago)).get FBC_CANc_ERR_TEC c)
      ((s.netActivity c (s.now - f.ago)).get FBC_CANc_ERR_REC c - 1)).count (448 + c)).canBell c f).filterOn 4 (256 * c) 256 2
      f = none) ∧
    (∃ (s : State) (l t : Nat), l < 4 ∧ s.fbcUp = true ∧ s.linOn l = true ∧ (s.lin l).slotAt = some t ∧ s.linCommander l = true
      ∧ leAt (s.fbcRec 7 l) 0 2 ≠ 0 ∧ s.netState (8 + l) = 1) ∧
    (∃ (s : State) (l id ago : Nat), l < 4 ∧ s.fbcUp = true ∧ s.linOn l = true ∧ id < 64 ∧ ((s.lin l).gts = false ∨ id ≠ 60) ∧
      s.netState (8 + l) ≠ 0 ∧ (s.net (8 + l)).commit = none ∧
      (byteAt (((s.netActivity (8 + l) (s.now - ago)).modLin l fun (x : Lin) => { x with act := (s.netActivity (8 + l) (s.now - ago)).now, cur := none : Lin }).linEntry l id) 0 % 4 = 1)) ∧
    (∃ (s : State) (l id ago st : Nat), l < 4 ∧ s.fbcUp = true ∧ s.linOn l = true ∧ id < 64 ∧ ((s.lin l).gts = false ∨ id ≠ 60)
      ∧ s.netState (8 + l) ≠ 0 ∧ (s.net (8 + l)).commit = none ∧
      (byteAt (((s.netActivity (8 + l) (s.now - ago)).modLin l fun (x : Lin) => { x with act := (s.netActivity (8 + l) (s.now - ago)).now, cur := none : Lin }).linEntry l id) 0 % 4 = 1)
      ∧ st ≠ 1) ∧
    (∃ (s : State) (l id ago : Nat), l < 4 ∧ s.fbcUp = true ∧ s.linOn l = true ∧ id < 64 ∧ ((s.lin l).gts = false ∨ id ≠ 60) ∧
      s.netState (8 + l) ≠ 0 ∧ (s.net (8 + l)).commit = none ∧
      (byteAt (((s.netActivity (8 + l) (s.now - ago)).modLin l fun (x : Lin) => { x with act := (s.netActivity (8 + l) (s.now - ago)).now, cur := none : Lin }).linEntry l id) 0 % 4 = 2)) ∧
    (∃ (s : State) (l id ago st : Nat), l < 4 ∧ s.fbcUp = true ∧ s.linOn l = true ∧ id < 64 ∧ ((s.lin l).gts = false ∨ id ≠ 60)
      ∧ s.netState (8 + l) ≠ 0 ∧ (s.net (8 + l)).commit = none ∧
      (byteAt (((s.netActivity (8 + l) (s.now - ago)).modLin l fun (x : Lin) => { x with act := (s.netActivity (8 + l) (s.now - ago)).now, cur := none : Lin }).linEntry l id) 0 % 4 = 2)
      ∧ st ≠ 1) ∧
    (∃ (s : State) (l : Nat), l < 4 ∧ s.fbcUp = true ∧ s.linOn l = true ∧ (s.lin l).gts = true) ∧
    (∃ (s : State) (l : Nat), l < 4 ∧ s.fbcUp = true ∧ s.linOn l = true ∧ s.linCommander l = false ∧ s.netState (8 + l) = 1 ∧
      s.netNeed (8 + l) = false ∧ (s.net (8 + l)).commit = none) ∧
    (∃ (s : State) (l : Nat), l < 4 ∧ s.fbcUp = true ∧ s.linOn l = true ∧ s.linCommander l = false ∧ s.netState (8 + l) = 1 ∧
      ((((s.until ((s.lin l).act + dflt (byteAt (s.fbcRec 5 l) 4) 4 * 1000000000)).modLin l fun (x : Lin) => { x with act := (s.until ((s.lin l).act + dflt (byteAt (s.fbcRec 5 l) 4) 4 * 1000000000)).now : Lin }).linEvt l 2).netState (8 + l) = 1)
      ∧
      ((((s.until ((s.lin l).act + dflt (byteAt (s.fbcRec 5 l) 4) 4 * 1000000000)).modLin l fun (x : Lin) => { x with act := (s.until ((s.lin l).act + dflt (byteAt (s.fbcRec 5 l) 4) 4 * 1000000000)).now : Lin }).linEvt l 2).netNeed (8 + l) = false)
      ∧
      (((((s.until ((s.lin l).act + dflt (byteAt (s.fbcRec 5 l) 4) 4 * 1000000000)).modLin l fun (x : Lin) => { x with act := (s.until ((s.lin l).act + dflt (byteAt (s.fbcRec 5 l) 4) 4 * 1000000000)).now : Lin }).linEvt l 2).net (8 + l)).commit = none)) :=
  ⟨⟨{ cF 0x20 with pcs.vcanUv := true }, 7, rxf, by decide +kernel⟩,
   ⟨(cF 0x20).set FBC_NETn_STATUS_STATE 1 7, 7, { rxf with errs := 1 }, by decide +kernel⟩,
   ⟨(cF 0x20).set FBC_NETn_STATUS_STATE 1 7, 7, rxf, 3, [0,0,0,0, 0,0,0,0, 0, 5, 0, 0], by decide +kernel⟩,
   ⟨{ cF 0x20 with cfg.tables := [{ type := 0x0102, rtype := 1, key := 7, data := canRec 0x20 }] }, 7, rxf, by decide +kernel⟩,
   ⟨(lS 1).modLin 3 fun x => { x with slotAt := some 1005000, idx := 1 }, 3, 1005000, by decide +kernel⟩,
   ⟨(lS 1).set FBC_NETn_STATUS_STATE 3 11, 3, 6, 100, by decide +kernel⟩,
   ⟨lS 1, 3, 6, 100, 4, by decide +kernel⟩,
   ⟨lS 1, 3, 5, 100, by decide +kernel⟩,
   ⟨(lS 1).set FBC_NETn_STATUS_STATE 3 11, 3, 5, 100, 4, by decide +kernel⟩,
   ⟨(lS 1).modLin 3 fun x => { x with gts := true }, 3, by decide +kernel⟩,
   ⟨lS 0, 3, by decide +kernel⟩,
   ⟨lS 0, 3, by decide +kernel⟩⟩

theorem wit_NetworksAndTransceivers :
    (∃ (s : State) (n t fl : Nat), n < 16 ∧ s.fbcUp = true ∧ (s.net n).due = some (t, fl) ∧ s.netState n = 1 ∧ n < 8) ∧
    (∃ (s : State) (n t fl : Nat), n < 16 ∧ s.fbcUp = true ∧ (s.net n).due = some (t, fl) ∧ s.netState n = 1 ∧ 12 ≤ n) ∧
    (∃ (s : State) (n : Nat) (f : EthFrame), n < 16 ∧ s.fbcUp = true ∧
      (List.find? (fun (f : EthFrame) => f.etype == s.esw.etype && f.kind == 3) s.esw.mq = some f)) ∧
    (∃ (s : State) (n : Nat), n < 16 ∧ s.fbcUp = true ∧ s.netState n = 1 ∧ (s.until (s.net n).idleAt).netNeed n = false ∧
      (isLinNet n = true → (s.until (s.net n).idleAt).linCommander (n - 8) = true)) ∧
    (∃ (s : State) (n t : Nat), n < 16 ∧ s.fbcUp = true ∧ (s.net n).prepAt = some t ∧ s.netState n = 2 ∧ (s.net n).commit =
      none ∧ isLinNet n = false) ∧
    (∃ (s : State) (n t : Nat), n < 16 ∧ s.fbcUp = true ∧ (s.net n).commit = some t ∧ s.netState n = 2 ∧ n < 8 ∧
      (((((((s.until (t + 10000)).set FBC_NETn_STATUS_STATE 0 n).xcvrSleep n true).modNet n fun (x : Net) => { x with errSt := (((s.until (t + 10000)).set FBC_NETn_STATUS_STATE 0 n).xcvrSleep n true).get FBC_CANc_ERR_STATE n : Net }).canLeave n).net n).wakeSeen = false)
      ∧
      (((((((s.until (t + 10000)).set FBC_NETn_STATUS_STATE 0 n).xcvrSleep n true).modNet n fun (x : Net) => { x with errSt := (((s.until (t + 10000)).set FBC_NETn_STATUS_STATE 0 n).xcvrSleep n true).get FBC_CANc_ERR_STATE n : Net }).canLeave n).net n).needSeen = false)) ∧
    (∃ (s : State) (n : Nat), n < 16 ∧ s.fbcUp = true ∧ s.asleep = false ∧ s.netState n = 0 ∧ bitOf s.fbc.armed n = true) ∧
    (∃ (s : State), s.fbcUp = true ∧ s.fbc.fs = 0 ∧
      ((s.until (List.foldl (fun (m x : Nat) => max m (ngetD s.fbc.refresh x 0)) 0 (List.range 12) + 100000000)).fbc.fs = 0) ∧
      ((s.until (List.foldl (fun (m x : Nat) => max m (ngetD s.fbc.refresh x 0)) 0 (List.range 12) + 100000000)).fcu.tests = [])) ∧
    (∃ (s : State) (x : Nat), x < 12 ∧ bitOf s.fbc.fs x = false ∧ s.pcs.vbat = true) ∧
    (∃ (s : State) (below : Bool), s.pcs.vbat = true) :=
  ⟨⟨(nD 7).setFlag FBC_NETn_STATUS_NEED true 7, 7, 1100000, 2, by decide +kernel⟩,
   ⟨nD 15, 15, 1100000, 2, by decide +kernel⟩,
   ⟨{ nS 15 1 with esw.mq := [ethN 3 4 []] }, 15, ethN 3 4 [], by decide +kernel⟩,
   ⟨(nS 15 1).modNet 15 fun x => { x with idleAt := 1200000 }, 15, by decide +kernel⟩,
   ⟨(nS 15 2).modNet 15 fun x => { x with prepAt := some 1200000 }, 15, 1200000, by decide +kernel⟩,
   ⟨(nS 7 2).modNet 7 fun x => { x with commit := some 1000000 }, 7, 1000000, by decide +kernel⟩,
   ⟨{ nS 15 0 with fbc.armed := 0xFFFF }, 15, by decide +kernel⟩,
   ⟨run, by decide +kernel⟩,
   ⟨run, 11, by decide +kernel⟩,
   ⟨run, true, by decide +kernel⟩⟩

theorem wit_SignalGateway :
    (∃ (s : State) (p : Nat) (r : List Byte), s.sgwUp = true ∧ s.pduRec p = some r ∧ pduTx r = true ∧ pduOnUpdate r = false ∧
      (s.pdu p).next.getD s.td0 ≤ (s.untilTd 0 ((s.pdu p).next.getD s.td0)).td0) ∧
    (∃ (s : State) (p : Nat) (r : List Byte) (t : Nat) (d : GwImage) (q : List GwImage), s.sgwUp = true ∧ s.pduRec p = some r ∧
      pduTx r = true ∧ (s.pdu p).last = some t ∧ (s.pdu p).queue ≠ [] ∧ ((s.until (t + pduGap r)).pdu p).queue = d :: q) ∧
    (∃ (s : State) (p : Nat) (r : List Byte) (t : Nat), s.sgwUp = true ∧ s.pduRec p = some r ∧ pduTx r = true ∧ (s.pdu p).last
      = some t ∧ (s.pdu p).wait = true ∧ ((s.until (t + pduGap r)).pdu p).queue = []) ∧
    (∃ (s : State) (p : Nat) (r : List Byte), s.sgwUp = true ∧ s.pduRec p = some r ∧ pduTx r = false ∧ leAt r 16 2 ≠ 0 ∧ (s.pdu
      p).timedOut = false) ∧
    (∃ (s : State) (p : Nat) (x : GwRoute) (a b : GwSignal), s.sgwUp = true ∧ s.sig? x.src = some a ∧ s.sig? x.dst = some b ∧
      sgPdu a.raw ≠ p) ∧
    (∃ (s : State) (p : Nat) (x : GwRoute) (a b : GwSignal), s.sgwUp = true ∧ s.sig? x.src = some a ∧ s.sig? x.dst = some b ∧
      sgPdu a.raw = p ∧ x.onTimeout = 0) ∧
    (∃ (s : State) (p : Nat) (x : GwRoute) (a b : GwSignal), s.sgwUp = true ∧ s.sig? x.src = some a ∧ s.sig? x.dst = some b ∧
      sgPdu a.raw = p ∧ x.onTimeout = 1) ∧
    (∃ (s : State) (p : Nat) (x : GwRoute) (a b : GwSignal), s.sgwUp = true ∧ s.sig? x.src = some a ∧ s.sig? x.dst = some b ∧
      sgPdu a.raw = p ∧ x.onTimeout = 2 ∧ sgHasInvalid b.raw = true) ∧
    (∃ (s : State) (k t : Nat), s.sgwUp = true ∧ (s.cont k).since = some t) ∧
    (∃ (s : State) (f : EthFrame), s.sgwUp = true ∧ (List.find? (fun (f : EthFrame) => f.etype == s.esw.etype && f.kind == 4)
      s.esw.mq = some f)) ∧
    (∃ (s : State) (c : Cmd), s.sgwUp = true ∧ s.atGrid = true ∧ s.sf.cmds = [c] ∧ c.stage = Stage.started ∧ c.at_ < s.now ∧
      s.modeHolds c = false ∧ c.late s.effectNs = false ∧ c.desc.opcode = 1282 ∧ s.route? c.tgt = none ∧
      ((s.routeWhere fun (x : GwRoute) => x.dst == c.p 2 2) = none)) ∧
    (∃ (s : State) (c : Cmd), s.sgwUp = true ∧ s.atGrid = true ∧ s.sf.cmds = [c] ∧ c.stage = Stage.started ∧ c.at_ < s.now ∧
      s.modeHolds c = false ∧ c.late s.effectNs = false ∧ c.desc.opcode = 1283 ∧ (s.route? c.tgt).isSome = true) ∧
    (∃ (r d : List Byte), pduLen r ≤ d.length) ∧
    (∃ (s : State) (r d : List Byte) (i : Nat) (a : GwSignal), pduLen r ≤ d.length ∧ s.sig? i = some a) ∧
    (∃ (s : State) (r d : List Byte) (x : GwRoute) (a : GwSignal), pduLen r ≤ d.length ∧ s.sig? x.src = some a) ∧
    (∃ (s : State) (k : Nat) (x : GwRoute) (a b : GwSignal), (s.sig? x.src = some a ∧ s.sig? x.dst = some b ∧ x.mode = 0 ∧
      s.pduRec (sgPdu b.raw) = none) ∧ (∃ (y : GwRoute), s.route? k = some y ∧ y.since = x.since)) ∧
    (∃ (s : State) (k : Nat) (x : GwRoute) (a b : GwSignal) (i : Nat), (s.sig? x.src = some a ∧ s.sig? x.dst = some b ∧ x.mode
      = 0 ∧ s.pduRec (sgPdu b.raw) = none ∧ i ≠ x.dst) ∧ (∃ (y : GwRoute), s.route? k = some y ∧ y.since = x.since)) ∧
    (∃ (s : State) (k : Nat) (x : GwRoute) (a b : GwSignal) (j : Nat), (s.sig? x.src = some a ∧ s.sig? x.dst = some b ∧ x.mode
      = 0 ∧ s.pduRec (sgPdu b.raw) = none ∧ j ≠ k) ∧ (∃ (y : GwRoute), s.route? k = some y ∧ y.since = x.since)) :=
  ⟨⟨{ wG with sgw.pdus := [(4, { next := some 1100000 })] }, 4, pT, by decide +kernel⟩,
   ⟨{ wG with sgw.pdus := [(4, { last := some 995000, queue := [gI, { gI with data := [2] }] })] }, 4, pT, 995000, gI,
     [{ gI with data := [2] }], by decide +kernel⟩,
   ⟨{ wG with sgw.pdus := [(4, { last := some 995000, wait := true })] }, 4, pT, 995000, by decide +kernel⟩,
   ⟨{ wTo with sgw := wSg.sgw }, 3, pRX, by decide +kernel⟩,
   ⟨wSg, 4, r0, { raw := sig 3, val := 5 }, { raw := sigI, val := 6 }, by decide +kernel⟩,
   ⟨wSg, 3, { r0 with onTimeout := 0 }, { raw := sig 3, val := 5 }, { raw := sigI, val := 6 }, by decide +kernel⟩,
   ⟨wSg, 3, { r0 with onTimeout := 1 }, { raw := sig 3, val := 5 }, { raw := sigI, val := 6 }, by decide +kernel⟩,
   ⟨wSg, 3, { r0 with onTimeout := 2 }, { raw := sig 3, val := 5 }, { raw := sigI, val := 6 }, by decide +kernel⟩,
   ⟨{ wR with cfg.tables := [{ type := 0x0104, rtype := 3, key := 63, data := pC }], sgw.conts := [(63, { entries := [(4, [1, 2])], since := some 900000 })] },
     63, 900000, by decide +kernel⟩,
   ⟨{ wR with cfg.tables := [{ type := 0x0104, rtype := 3, key := 63, data := pC }, { type := 0x0104, rtype := 2, key := 3, data := [8] ++ pRX.drop 1 }], esw.mq := [ethN 4 3 [3 + 8 * 65536, 7]] },
     ethN 4 3 [3 + 8 * 65536, 7], by decide +kernel⟩,
   ⟨{ wG with sf.cmds := [cRt 0x0502], sf.nextSeq := 4 }, cRt 0x0502, by decide +kernel⟩,
   ⟨{ wG with sf.cmds := [cRt 0x0503], sf.nextSeq := 4, sgw.routes := [(1023, { src := 0, dst := 4095, mode := 0, onTimeout := 0 })] },
     cRt 0x0503, by decide +kernel⟩,
   ⟨pRX, List.replicate 8 7, by decide +kernel⟩,
   ⟨wSg, pRX, List.replicate 8 7, 4095, { raw := sigI, val := 6 }, by decide +kernel⟩,
   ⟨wSg, pRX, List.replicate 9 7, r0, { raw := sig 3, val := 5 }, by decide +kernel⟩,
   ⟨wSg, 1023, r0, { raw := sig 3, val := 5 }, { raw := sigI, val := 6 }, by decide +kernel, ⟨r0, by decide +kernel⟩⟩,
   ⟨wSg, 1023, r0, { raw := sig 3, val := 5 }, { raw := sigI, val := 6 }, 0, by decide +kernel, ⟨r0, by decide +kernel⟩⟩,
   ⟨wSg, 1023, r0, { raw := sig 3, val := 5 }, { raw := sigI, val := 6 }, 1022, by decide +kernel, ⟨r0, by decide +kernel⟩⟩⟩

theorem wit_PartnerReads :
    (∃ (s : State) (a : Init) (addr w : Nat) (r d : List Byte), s.coreRuns = true ∧ s.powered 40 = true ∧ s.penRuns 31 = true ∧
      s.plbLink = true ∧ s.stalled a = false ∧ s.outAdmit a addr d.length true = (true, s) ∧ s.outWin addr d.length = some (w,
      r) ∧ laneOk (owFlag r 4) (owElem r) (addr - owBase r) d.length = true ∧ s.plb.lines = [] ∧ owFlag r 3 = false ∧ owControl
      r = true) ∧
    (∃ (s : State) (a : Init) (addr w : Nat) (r : List Byte) (n : Nat) (l : PfLine), s.coreRuns = true ∧ s.powered 40 = true ∧
      s.penRuns 31 = true ∧ s.plbLink = true ∧ s.stalled a = false ∧ s.outAdmit a addr n false = (true, s) ∧ s.outWin addr n =
      some (w, r) ∧ laneOk (owFlag r 4) (owElem r) (addr - owBase r) n = true ∧ owControl r = false ∧ s.lineOf w addr n = some
      l) ∧
    (∃ (s : State) (a : Init) (addr w : Nat) (r : List Byte) (n : Nat), s.coreRuns = true ∧ s.powered 40 = true ∧ s.penRuns 31
      = true ∧ s.plbLink = true ∧ s.stalled a = false ∧ s.outAdmit a addr n false = (true, s) ∧ s.outWin addr n = some (w, r) ∧
      laneOk (owFlag r 4) (owElem r) (addr - owBase r) n = true ∧ owControl r = false ∧ owFlag r 2 = false ∧ s.lineOf w addr n
      = none) ∧
    (∃ (s : State) (a : Init) (addr w : Nat) (r : List Byte) (n : Nat), s.coreRuns = true ∧ s.powered 40 = true ∧ s.penRuns 31
      = true ∧ s.plbLink = true ∧ s.stalled a = false ∧ s.outAdmit a addr n false = (true, s) ∧ s.outWin addr n = some (w, r) ∧
      laneOk (owFlag r 4) (owElem r) (addr - owBase r) n = true ∧ owControl r = true) ∧
    (∃ (s : State) (a : Init) (addr n : Nat) (d : List Byte), s.stalled a = true) ∧
    (∃ (s : State) (t : Nat) (x : PlbRead) (w d : List Byte), s.plbUp = true ∧ s.readOf t = some x ∧ s.cfgData 261 2 x.win =
      some w ∧ x.fetch = x.len) ∧
    (∃ (s : State) (t : Nat) (x : PlbRead), s.plbUp = true ∧ s.readOf t = some x) ∧
    (∃ (s : State) (t : Nat) (x : PlbRead), s.plbUp = true ∧ s.readOf t = some x ∧ t < 64) ∧
    (∃ (s : State) (t : Nat) (x : PlbRead), s.plbUp = true ∧ s.readOf (64 + t) = some x) ∧
    (∃ (s : State) (t : Nat) (x : PlbRead) (l : PfLine), s.plbUp = true ∧ s.plb.lines[t]? = some l) ∧
    (∃ (s : State) (t : Nat) (x : PlbRead) (a : Init) (y : PlbDisc) (l : List PlbDisc), s.plbUp = true ∧ s.reaches a
      PLB_DISC_INFO 0 0 false = true ∧ s.plb.disc = y :: l) :=
  ⟨⟨pS 0x33, svp, pB + 4, 5, winX 0x33, [1,2], by decide +kernel⟩,
   ⟨{ pS 1 with plb.lines := [{ win := 5, addr := pB, data := List.replicate 64 3, got := List.replicate 64 false, used := 990000 }] },
     svp, pB + 56, 5, winX 1, 8,
     { win := 5, addr := pB, data := List.replicate 64 3, got := List.replicate 64 false, used := 990000 }, by decide +kernel⟩,
   ⟨pS 1, svp, pB + 4, 5, winX 1, 8, by decide +kernel⟩,
   ⟨pS 3, svp, pB + 4, 5, winX 3, 8, by decide +kernel⟩,
   ⟨{ pS 1 with plb.reads := [rd 64] }, svp, pB, 8, [1], by decide +kernel⟩,
   ⟨{ pS 1 with plb.reads := [rd 63] }, 63, rd 63, winX 1, [1,2,3,4,5,6,7,8], by decide +kernel⟩,
   ⟨{ pS 1 with plb.reads := [rd 63] }, 63, rd 63, by decide +kernel⟩,
   ⟨{ pS 1 with plb.reads := [rd 63], plb.queue := [rd 0] }, 63, rd 63, by decide +kernel⟩,
   ⟨{ pS 1 with plb.reads := [rd 64] }, 16, rd 64, by decide +kernel⟩,
   ⟨{ pS 1 with plb.lines := [ln] }, 0, rd 64, ln, by decide +kernel⟩,
   ⟨{ pS 1 with plb.disc := [{ len := 700, win := 5, addr := 8 }] }, 0, rd 64, svp, { len := 700, win := 5, addr := 8 }, [], by
     decide +kernel⟩⟩

theorem wit_PartnerLink :
    (∃ (s : State) (bar : Nat) (w : Bool) (addr n : Nat) (d : List Byte), s.plbUp = true ∧ s.plbLink = true ∧ (s.plbRoot = true
      ∧ (w = true → s.cfgData 261 4 0 = none)) ∧
      (List.find? (fun (e : Nat × List Byte) => owFlag e.snd 0 && decide (owBase e.snd ≤ addr ∧ (addr + if w = true then d.length else n) ≤ owBase e.snd + owSize e.snd)) (s.cfgAll 261 3) = none)) ∧
    (∃ (s : State) (bar : Nat) (w : Bool) (addr n : Nat) (d : List Byte), s.plbUp = true ∧ s.plbLink = true ∧ (s.plbRoot = false
      ∧ bar ≠ 0 ∧ bar ≠ 6) ∧ 2 ^ clampN 20 32 (byteAt s.plbLinkRec 0) < addr + (if w then d.length else n)) ∧
    (∃ (s : State) (addr n : Nat), s.plbUp = true ∧ s.plbLink = true ∧ s.plbRoot = false ∧ 8192 ≤ addr ∧ addr + n ≤ 9216) ∧
    (∃ (s : State), s.plbUp = true ∧ s.plbRoot = false ∧ s.plbLink = true) ∧
    (∃ (s : State) (speed width : Nat), s.plbUp = true ∧ (s.pcs.bootPins = 1 ∨ s.pcs.bootPins = 2) ∧ s.plbLink = false) ∧
    (∃ (s : State) (speed width : Nat), s.plbUp = true ∧ s.plbLink = true) ∧
    (∃ (s : State) (t : Nat), s.plbUp = true ∧ s.plb.hbDue = some t ∧ leAt s.hbRec 16 2 ≠ 0) ∧
    (∃ (s : State) (d : List Byte), s.plbUp = true ∧ s.plbLink = true ∧ d.length = 16 ∧ s.plbRoot = true ∧ (s.cfgData 261 4
      0).isSome = true) ∧
    (∃ (s : State) (d : List Byte), s.plbUp = true ∧ s.plbLink = true ∧ d.length = 16 ∧ s.plbRoot = false) ∧
    (∃ (s : State), s.plbUp = true ∧ leAt s.hbRec 18 2 ≠ 0 ∧ s.plb.hbLost = false) ∧
    (∃ (s : State) (a : Init) (v : Word), s.plbUp = true ∧ s.reaches a PLB_MSIX_SEND 0 0 true = true ∧ s.plbRoot = false ∧
      s.msixMasked (BitVec.toNat v % 64) = false) :=
  ⟨⟨(pS 1).setFlag PLB_STATUS_ROLE true, 0, true, 0x10000000, 0, [1], by decide +kernel⟩,
   ⟨pH.setFlag PLB_STATUS_ROLE false, 2, false, 0x100000, 1, [], by decide +kernel⟩,
   ⟨pH.setFlag PLB_STATUS_ROLE false, 0x23F0, 16, by decide +kernel⟩,
   ⟨pH.setFlag PLB_STATUS_ROLE false, by decide +kernel⟩,
   ⟨{ pH.setFlag PLB_STATUS_UP false with pcs.bootPins := 2 }, 5, 2, by decide +kernel⟩,
   ⟨{ pH with plb.reads := [rd 63, rd 64], plb.queue := [rd 0] }, 5, 2, by decide +kernel⟩,
   ⟨{ pH with plb.hbDue := some 1100000 }, 1100000, by decide +kernel⟩,
   ⟨pH.setFlag PLB_STATUS_ROLE true, List.replicate 16 3, by decide +kernel⟩,
   ⟨pH.setFlag PLB_STATUS_ROLE false, List.replicate 16 3, by decide +kernel⟩,
   ⟨pH, by decide +kernel⟩,
   ⟨{ pH.setFlag PLB_STATUS_ROLE false with plb.msixTable := (List.range 16).map fun k => (16 * 63 + k, if k = 12 then 0 else 9) },
     svp, 63, by decide +kernel⟩⟩

theorem wit_LockstepPairs :
    (∃ (s : State) (u : Nat), s.unitRuns u = true ∧ 7 ≤ u) ∧
    (∃ (s : State) (u : Nat), s.unitRuns u = true ∧ u < 7 ∧ (s.pair u).returned = none) ∧
    (∃ (s : State) (u : Nat) (main check : List Byte), s.unitRuns u = true ∧ u < 7 ∧ (s.hart (s.pairHart u)).halted = false ∧
      crc32c main = crc32c check) ∧
    (∃ (s : State) (u : Nat) (main check : List Byte), s.unitRuns u = true ∧ u < 7 ∧ (s.hart (s.pairHart u)).halted = false ∧
      crc32c main ≠ crc32c check) ∧
    (∃ (s : State) (a : Init) (p : Nat) (v : Word), p < 7 ∧ s.reaches a CC_PAIRp_CTRL p 0 true = true ∧ s.carrier a.id.toNat =
      some p ∧ s.handoverOk p = true ∧ (s.hart a.id.toNat).halted = false ∧ bitOf (BitVec.toNat v) 1 = false) ∧
    (∃ (s : State) (a : Init) (p : Nat) (v : Word), p < 7 ∧ s.reaches a CC_PAIRp_CTRL p 0 true = true ∧ s.carrier a.id.toNat ≠
      some p ∧ bitOf (BitVec.toNat v) 1 = false) ∧
    (∃ (s : State) (a : Init) (p : Nat) (v : Word), p < 7 ∧ s.reaches a CC_PAIRp_CTRL p 0 true = true ∧ bitOf (BitVec.toNat v)
      0 = false ∧ s.pairState p = prFenced ∧ p < 6 ∧ (s.setPen (1 + p) 0).carrier p = none) ∧
    (∃ (s : State) (p : Nat), p < 6 ∧ (s.pair p).handover = true ∧ s.handoverOk p = true ∧ s.readsOut (s.pairHart p) = false) ∧
    (∃ (s : State) (h : Nat), h ≤ 11 ∧ h ≠ 7 ∧ s.coreRuns = true) :=
  ⟨⟨wP, 7, by decide +kernel⟩,
   ⟨wP, 6, by decide +kernel⟩,
   ⟨wP, 6, List.replicate 508 3, List.replicate 508 3, by decide +kernel⟩,
   ⟨wP, 6, List.replicate 508 3, List.replicate 507 3 ++ [2], by decide +kernel⟩,
   ⟨gk wO, svi, 5, 1, by decide +kernel⟩,
   ⟨gk wO, svi, 6, 0, by decide +kernel⟩,
   ⟨((wP.set CC_PAIRp_STATUS_STATE prFenced 5).set FCU_PENn_STATUS_STATE 1 6).set CC_PAIRp_STATUS_HART 15 5, svp, 5, 2, by
     decide +kernel⟩,
   ⟨wP.modPair 5 fun x => { x with handover := true }, 5, by decide +kernel⟩,
   ⟨wP, 11, by decide +kernel⟩⟩

theorem wit_CachesAndMemories :
    (∃ (s : State) (u kind a : Nat), s.coreRuns = true ∧ u < 8 ∧ s.unitRuns u = true) ∧
    (∃ (s : State) (u kind a : Nat), s.coreRuns = true ∧ 8 ≤ u ∧ u ≤ 12 ∧ s.penRuns 17 = true ∧ s.powered 9 = true ∧ kind < 2) ∧
    (∃ (s : State) (u kind a : Nat), s.coreRuns = true ∧ 8 ≤ u ∧ u ≤ 12 ∧ s.penRuns 17 = true ∧ s.powered 9 = true ∧ 2 ≤ kind ∧
      regionOf a = .sram) ∧
    (∃ (s : State) (a : Init) (v : Word), s.reaches a MS_SPARE_CTRL 0 0 true = true ∧ s.ms.copy = none ∧ s.ms.spare = none ∧
      s.bankOut 16 = false ∧ bitOf (BitVec.toNat v) 5 = false) ∧
    (∃ (s : State) (a : Init) (v : Word), s.reaches a MS_SPARE_CTRL 0 0 true = true ∧ s.ms.copy = none ∧ s.ms.spare = some
      (BitVec.toNat v % 16) ∧ s.bankOut (BitVec.toNat v % 16) = false ∧ bitOf (BitVec.toNat v) 4 = false) ∧
    (∃ (s : State) (a : Init) (v : Word), s.reaches a MS_SPARE_CFG 0 0 true = true) ∧
    (∃ (s : State) (b : Nat), s.ms.copy = some (b, false)) ∧
    (∃ (s : State) (b : Nat), s.ms.copy = some (b, true)) ∧
    (∃ (s : State) (m a : Nat), memIdx a = m ∧ (m = 2 → s.stagingHalf a = false) ∧ s.poisonAt a 1 = none) ∧
    (∃ (s : State) (m a : Nat), memIdx a = m ∧ (m = 2 → s.stagingHalf a = false) ∧ s.memoryUp a = true ∧ s.poisonAt a 1 = none) ∧
    (∃ (s : State) (m a : Nat) (k : Option Nat), memIdx a = m ∧ (m = 2 → s.stagingHalf a = false) ∧ s.memoryUp a = true ∧
      (s.poisonAt a 1).isSome = true) ∧
    (∃ (s : State) (a init kind : Nat), s.memoryUp a = true) ∧
    (∃ (s : State) (a : Init) (x : MsErr) (l : List MsErr), s.reaches a MS_ERR_INFO 0 0 false = true ∧ s.ms.log = x :: l) ∧
    (∃ (s : State) (a : Nat), True) :=
  ⟨⟨wP, 6, 3, 4, by decide +kernel⟩,
   ⟨wP, 12, 1, 4, by decide +kernel⟩,
   ⟨wP, 8, 2, 0x10000040, by decide +kernel⟩,
   ⟨wP, svp, 15, by decide +kernel⟩,
   ⟨{ wP with ms.spare := some 15 }, svp, 15, by decide +kernel⟩,
   ⟨wP, svp, 0x10001, by decide +kernel⟩,
   ⟨{ wP with ms.copy := some (15, false) }, 15, by decide +kernel⟩,
   ⟨{ wP with ms.copy := some (0, true) }, 0, by decide +kernel⟩,
   ⟨wP, 2, 0x20000000, by decide +kernel⟩,
   ⟨wP, 0, 0x10000008, by decide +kernel⟩,
   ⟨{ wP with ms.poison := [(0x10000000, ())] }, 0, 0x10000008, none, by decide +kernel⟩,
   ⟨wP, 0x10000008, 5, 2, by decide +kernel⟩,
   ⟨{ wP with ms.log := [er] }, svp, er, [], by decide +kernel⟩,
   ⟨wP, 0x10000FF8, by decide +kernel⟩⟩

theorem wit_SecureRegisters :
    (∃ (s : State) (a : Init) (v : Word) (g r : Nat) (x : Nat × Reg), g < 22 ∧ r < gkRegions g ∧ a.secure = true ∧ x ∈ [(0,
      SEC_GKg_REGr_BASE), (1, SEC_GKg_REGr_SIZE), (6, SEC_GKg_REGr_CTRL)] ∧ s.reaches a x.2 g r true = true ∧ bitOf
      (BitVec.toNat (s.rd SEC_GKg_REGr_CTRL g r)) 6 = false) ∧
    (∃ (s : State) (a : Init) (v : Word) (g r : Nat) (x : Nat × Reg), g < 22 ∧ r < gkRegions g ∧ a.secure = true ∧ x ∈ [(0,
      SEC_GKg_REGr_BASE), (1, SEC_GKg_REGr_SIZE), (6, SEC_GKg_REGr_CTRL)] ∧ s.reaches a x.2 g r true = true ∧ bitOf
      (BitVec.toNat (s.rd SEC_GKg_REGr_CTRL g r)) 6 = true) ∧
    (∃ (s : State) (a : Init) (v : Word) (x : GkEvent) (l : List GkEvent), s.reaches a SEC_GK_INFO 0 0 false = true ∧
      s.sec.gkLog = x :: l) ∧
    (∃ (s : State) (a : Init) (v : Word), s.reaches a SEC_OTP_CTRL 0 0 true = true ∧ s.sec.otpOp = none ∧ ((fun (c : Word) =>
      (s.wr SEC_OTP_CTRL (SEC_OTP_CTRL.written (s.rd SEC_OTP_CTRL) c)).get SEC_OTP_CTRL_ITEM) (putBits v 9 8 1) ≤ 6)) ∧
    (∃ (s : State) (a : Init) (v : Word), s.reaches a SEC_OTP_CTRL 0 0 true = true ∧ s.sec.otpOp = none ∧ (6 <
      (fun (c : Word) => (s.wr SEC_OTP_CTRL (SEC_OTP_CTRL.written (s.rd SEC_OTP_CTRL) c)).get SEC_OTP_CTRL_ITEM) (putBits v 9 8
      1))) ∧
    (∃ (s : State) (a : Init) (v : Word), s.reaches a SEC_OTP_CTRL 0 0 true = true ∧ s.sec.otpOp = none ∧
      ((fun (c : Word) => (s.wr SEC_OTP_CTRL (SEC_OTP_CTRL.written (s.rd SEC_OTP_CTRL) c)).get SEC_OTP_CTRL_ITEM) (putBits v 9 8 2) ≤ 6)
      ∧ (s.wr SEC_OTP_CTRL (SEC_OTP_CTRL.written (s.rd SEC_OTP_CTRL) (putBits v 9 8 2))).otpRefused ((s.wr SEC_OTP_CTRL
      (SEC_OTP_CTRL.written (s.rd SEC_OTP_CTRL) (putBits v 9 8 2))).get SEC_OTP_CTRL_ITEM) ((s.wr SEC_OTP_CTRL
      (SEC_OTP_CTRL.written (s.rd SEC_OTP_CTRL) (putBits v 9 8 2))).get SEC_OTP_CTRL_WORD) ((s.wr SEC_OTP_CTRL
      (SEC_OTP_CTRL.written (s.rd SEC_OTP_CTRL) (putBits v 9 8 2))).rd SEC_OTP_DATA) = false) ∧
    (∃ (s : State) (a : Init) (v : Word) (item w : Nat), s.sec.otpOp = some (item, w, none)) ∧
    (∃ (s : State) (a : Init) (v : Word) (item w : Nat) (d : Word), s.sec.otpOp = some (item, w, some d)) ∧
    (∃ (s : State) (a : Init) (v : Word), s.reaches a SEC_DBG_CTRL 0 0 true = true) ∧
    (∃ (s : State) (a : Init) (v : Word), s.coreRuns = true ∧ s.sec.rngFail = false) ∧
    (∃ (s : State) (a : Init), s.reaches a SEC_RNG_DATA 0 0 false = true) ∧
    (∃ (s : State), s.sec.rngFail = true ∧ s.sec.rngLeft = 0) ∧
    (∃ (s : State), s.sec.rngFail = true ∧ s.sec.rngLeft ≠ 0) ∧
    (∃ (s : State), s.sec.rngFail = false ∧ s.sec.rngLeft ≤ 16) :=
  ⟨⟨wR, svp, 0x1234, 21, 7, (6, SEC_GKg_REGr_CTRL), by decide +kernel⟩,
   ⟨wR.wr SEC_GKg_REGr_CTRL 0x41 21 7, svp, 0x1234, 21, 7, (0, SEC_GKg_REGr_BASE), by decide +kernel⟩,
   ⟨{ wR with sec.gkLog := [gE] }, svp, 0, gE, [], by decide +kernel⟩,
   ⟨wR, svp, 0x16, by decide +kernel⟩,
   ⟨wR, svp, 0x17, by decide +kernel⟩,
   ⟨wR.set SEC_STATUS_LC lcManufacture, svp, 0x13, by decide +kernel⟩,
   ⟨{ wR with sec.otpOp := some (5, 3, none) }, svp, 5, 5, 3, by decide +kernel⟩,
   ⟨{ wR with sec.otpOp := some (5, 0, some 0xF1) }, svp, 5, 5, 0, 0xF1, by decide +kernel⟩,
   ⟨{ wR with sec.grants := some 5 }, svp, 1, by decide +kernel⟩,
   ⟨wR, svp, 1, by decide +kernel⟩,
   ⟨wR, svp, by decide +kernel⟩,
   ⟨{ wR with sec.rngFail := true }, by decide +kernel⟩,
   ⟨{ wR with sec.rngFail := true, sec.rngLeft := 1 }, by decide +kernel⟩,
   ⟨{ wR with sec.rngLeft := 16 }, by decide +kernel⟩⟩

theorem wit_KeysCallsAndIslands :
    (∃ (s : State) (a : Init) (v : Word) (ok : Bool), s.coreRuns = true ∧ s.stalled a = false ∧ s.accessOk a (SEC_LC_CTRL.addr
      0 0) 4 true = (true, s) ∧ a.secure = true ∧ bitsOf (BitVec.toNat v) 15 8 ≠ 165) ∧
    (∃ (s : State) (a : Init) (v : Word) (ok : Bool), s.coreRuns = true ∧ s.stalled a = false ∧ s.accessOk a (SEC_LC_CTRL.addr
      0 0) 4 true = (true, s) ∧ a.secure = true ∧ bitsOf (BitVec.toNat v) 15 8 = 165) ∧
    (∃ (s : State) (a : Init) (v : Word), s.reaches a SEC_KEY_CTRL 0 0 true = true) ∧
    (∃ (s : State) (a : Init) (v : Word), s.reaches a SEC_JOB_CTRL 0 0 true = true ∧ s.sec.job.isSome = true) ∧
    (∃ (s : State) (a : Init) (v : Word), s.reaches a SEC_JOB_CTRL 0 0 true = true ∧ s.sec.job = none ∧ s.penRuns 32 = false) ∧
    (∃ (s : State) (a : Init) (v : Word), s.reaches a SEC_JOB_CTRL 0 0 true = true ∧ s.sec.job = none ∧ s.penRuns 32 = true) ∧
    (∃ (s : State) (a : Init) (v : Word) (l : List Word), s.sec.job = some l) ∧
    (∃ (s : State) (tok : List Byte), s.powerUp = true ∧ s.powered 43 = true ∧ byteAt tok 6 < 16) ∧
    (∃ (s : State) (a : Init) (v : Word), s.reaches a SEC_CALL_ANSw 3 0 true = true ∧
      { s with sec := { s.sec with ans := s.sec.ans.set 3 v : Sec } : State }.sec.calls.any
      { s with sec := { s.sec with ans := s.sec.ans.set 3 v : Sec } : State }.overdue = false ∧
      (List.find? (fun (k : SecCall) => k.seq == (fun (i : Nat) => BitVec.toNat ({ s with sec := { s.sec with ans := s.sec.ans.set 3 v : Sec } : State }.sec.ans.getD i 0)) 0) { s with sec := { s.sec with ans := s.sec.ans.set 3 v : Sec } : State }.sec.calls = none)) ∧
    (∃ (s : State) (a : Init) (v : Word) (k : SecCall), s.reaches a SEC_CALL_ANSw 3 0 true = true ∧
      { s with sec := { s.sec with ans := s.sec.ans.set 3 v : Sec } : State }.sec.calls.any
      { s with sec := { s.sec with ans := s.sec.ans.set 3 v : Sec } : State }.overdue = false ∧
      (List.find? (fun (k : SecCall) => k.seq == (fun (i : Nat) => BitVec.toNat ({ s with sec := { s.sec with ans := s.sec.ans.set 3 v : Sec } : State }.sec.ans.getD i 0)) 0) { s with sec := { s.sec with ans := s.sec.ans.set 3 v : Sec } : State }.sec.calls = some k)) ∧
    (∃ (s : State) (k : SecCall) (l : List SecCall), s.sec.calls = k :: l ∧ s.sec.down = false ∧ (s.until (k.at_ + s.sec.callTo
      * 1000000 + 2)).sec.down = false) ∧
    (∃ (s : State) (a : Init) (v : Word) (i : Nat), i < 46 ∧ s.reaches a PCS_ISLi_VOTE i 0 true = true ∧ a.secure = true) ∧
    (∃ (s : State) (a : Init) (v : Word) (i : Nat), s.coreRuns = true ∧ 18 ≤ i ∧ i ≤ 25 ∧ s.powered i = false ∧ s.pwrVoted i =
      true ∧ islPen i = none) :=
  ⟨⟨wR, svp, 0xA602, true, by decide +kernel⟩,
   ⟨wR, svp, 0xA502, true, by decide +kernel⟩,
   ⟨{ wR with sec.keyData := List.replicate 8 7 }, svp, 31, by decide +kernel⟩,
   ⟨{ wR with sec.job := some [] }, svp, 1, by decide +kernel⟩,
   ⟨wR.set FCU_PENn_STATUS_STATE 1 32, svp, 1, by decide +kernel⟩,
   ⟨wR, svp, 1, by decide +kernel⟩,
   ⟨{ wR with sec.job := some (List.replicate 16 1) }, svp, 1, List.replicate 16 1, by decide +kernel⟩,
   ⟨wR, [0, 0, 0, 0, 1, 0, 15], by decide +kernel⟩,
   ⟨wR, svp, 1, by decide +kernel⟩,
   ⟨wC, svp, 1, { seq := 0, cmd := 3, at_ := 900000 }, by decide +kernel⟩,
   ⟨wC, { seq := 0, cmd := 3, at_ := 900000 }, [], by decide +kernel⟩,
   ⟨wR, svp, 0xFFFFFFF2, 45, by decide +kernel⟩,
   ⟨wR.setFlag PCS_ISLi_STATUS_PWR false 25, svp, 0, 25, by decide +kernel⟩⟩

theorem wit_FaultSources :
    (∃ (s : State) (i : Nat), s.coreRuns = true ∧ srcUsed i = true ∧ s.flag FCU_SRCi_STATE_ACTIVE i = false ∧ (∀ (k : Nat),
      mismatchUnit i = some k → ({ s with fcu := { s.fcu with brokenNow := nerase s.fcu.brokenNow i : Fcu } : State }.setFlag
      FCU_SRCi_STATE_ACTIVE true i).unitRuns k = false)) ∧
    (∃ (s : State) (i k : Nat), s.coreRuns = true ∧ srcUsed i = true ∧ s.flag FCU_SRCi_STATE_ACTIVE i = false ∧ mismatchUnit i
      = some k ∧ ({ s with fcu := { s.fcu with brokenNow := nerase s.fcu.brokenNow i : Fcu } : State }.setFlag
      FCU_SRCi_STATE_ACTIVE true i).unitRuns k = true) ∧
    (∃ (s : State) (a : Init) (i : Nat) (v : Word), s.coreRuns = true ∧ srcUsed i = true ∧ nfind s.fcu.brokenNow i = none) ∧
    (∃ (s : State) (a : Init) (i : Nat) (v : Word), s.coreRuns = true ∧ srcUsed i = true) ∧
    (∃ (s : State) (a : Init) (i : Nat) (v : Word), i < 1024 ∧ s.reaches a FCU_SRCi_CFG i 0 true = true) ∧
    (∃ (s : State) (a : Init) (i : Nat) (v : Word), i < 1024 ∧ s.reaches a FCU_SRCi_STATE i 0 true = true ∧ bitOf (BitVec.toNat
      v) 1 = true ∧ bitOf (BitVec.toNat v) 2 = false ∧ s.flag FCU_SRCi_STATE_LATCHED i = true ∧ s.flag FCU_SRCi_STATE_ACTIVE i
      = true) ∧
    (∃ (s : State) (a : Init) (i : Nat) (v : Word), i < 1024 ∧ s.reaches a FCU_SRCi_STATE i 0 true = true ∧ bitOf (BitVec.toNat
      v) 1 = true ∧ bitOf (BitVec.toNat v) 2 = false ∧ s.flag FCU_SRCi_STATE_LATCHED i = true ∧ s.flag FCU_SRCi_STATE_ACTIVE i
      = false) ∧
    (∃ (s : State) (a : Init) (i : Nat) (v : Word) (p : Nat), 9 ≤ p ∧ p ≤ 35 ∧ s.reaches a FCU_PENn_CTRL p 0 true = true ∧
      s.get FCU_PENn_STATUS_STATE p = 1) ∧
    (∃ (s : State) (a : Init) (i : Nat) (v : Word), s.reaches a FCU_FATAL_SRC 0 0 true = true) ∧
    (∃ (s : State) (a : Init) (i : Nat) (v : Word) (x : FcuEntry) (l : List FcuEntry), s.reaches a FCU_LOG_INFO 0 0 false =
      true ∧ s.fcu.log = x :: l) ∧
    (∃ (s : State) (i : Nat), srcUsed i = true ∧ s.penFenced (s.get FCU_SRCi_CFG_PEN i) = false ∧ s.get FCU_SRCi_CFG_CLASS i =
      0 ∧ s.get FCU_SRCi_CFG_ESC_N i = 0) ∧
    (∃ (s : State) (i : Nat), srcUsed i = true ∧ s.penFenced (s.get FCU_SRCi_CFG_PEN i) = false ∧ s.get FCU_SRCi_CFG_CLASS i =
      1 ∧ s.get FCU_SRCi_CFG_PEN i ≠ 0 ∧ s.flag FCU_SRCi_CFG_FENCE i = true) ∧
    (∃ (s : State) (i : Nat), srcUsed i = true ∧ s.penFenced (s.get FCU_SRCi_CFG_PEN i) = false) ∧
    (∃ (s : State) (i : Nat), srcUsed i = true ∧ s.penFenced (s.get FCU_SRCi_CFG_PEN i) = false ∧ s.flag FCU_SRCi_CFG_ERRN i =
      true) :=
  ⟨⟨wR, 0x180, by decide +kernel⟩,
   ⟨wP, 0x31, 6, by decide +kernel⟩,
   ⟨wR, svp, 0x180, 0, by decide +kernel⟩,
   ⟨(wR.setFlag FCU_SRCi_STATE_ACTIVE true 0x180), svp, 0x180, 0, by decide +kernel⟩,
   ⟨wR, svp, 1023, 0xFFFFFFFF, by decide +kernel⟩,
   ⟨(wR.setFlag FCU_SRCi_STATE_ACTIVE true 0x180).setFlag FCU_SRCi_STATE_LATCHED true 0x180, svp, 0x180, 2, by decide +kernel⟩,
   ⟨(wR.set FCU_LATCHEDw_LATCHED 3 12).setFlag FCU_SRCi_STATE_LATCHED true 0x180, svp, 0x180, 2, by decide +kernel⟩,
   ⟨wR.set FCU_PENn_STATUS_STATE 1 35, svp, 0, 1, 35, by decide +kernel⟩,
   ⟨wR.wr FCU_FATAL_SRC 0x80000005, svp, 0, 0, by decide +kernel⟩,
   ⟨{ wR with fcu.log := [le] }, svp, 0, 0, le, [], by decide +kernel⟩,
   ⟨(wR.set FCU_SRCi_CFG_CLASS 0 0x180).set FCU_SRCi_CFG_ESC_N 0 0x180, 0x180, by decide +kernel⟩,
   ⟨((wR.set FCU_SRCi_CFG_CLASS 1 0x180).set FCU_SRCi_CFG_PEN 20 0x180).setFlag FCU_SRCi_CFG_FENCE true 0x180, 0x180, by
     decide +kernel⟩,
   ⟨wR, 0x180, by decide +kernel⟩,
   ⟨wR.setFlag FCU_SRCi_CFG_ERRN true 0x180, 0x180, by decide +kernel⟩⟩

theorem wit_RecoveryEvents :
    (∃ (s : State), s.fcu.errn = true) ∧
    (∃ (s : State), s.fcu.errn = true ∧ ((s.freeIn (-↑(clampN 1 10000 (s.get FCU_ERRN_CFG_MIN_PULSE) * 1000 / 20)) ↑(clampN 1
      10000 (s.get FCU_ERRN_CFG_MIN_PULSE) * 1000 / 20)).2.until (↑s.fcu.errnAt + ↑(clampN 1 10000 (s.get
      FCU_ERRN_CFG_MIN_PULSE) * 1000) + (s.freeIn (-↑(clampN 1 10000 (s.get FCU_ERRN_CFG_MIN_PULSE) * 1000 / 20)) ↑(clampN 1
      10000 (s.get FCU_ERRN_CFG_MIN_PULSE) * 1000 / 20)).1).toNat).errnWanted = false) ∧
    (∃ (s : State), s.fcu.errn = true ∧ ((s.freeIn (-↑(clampN 1 10000 (s.get FCU_ERRN_CFG_MIN_PULSE) * 1000 / 20)) ↑(clampN 1
      10000 (s.get FCU_ERRN_CFG_MIN_PULSE) * 1000 / 20)).2.until (↑s.fcu.errnAt + ↑(clampN 1 10000 (s.get
      FCU_ERRN_CFG_MIN_PULSE) * 1000) + (s.freeIn (-↑(clampN 1 10000 (s.get FCU_ERRN_CFG_MIN_PULSE) * 1000 / 20)) ↑(clampN 1
      10000 (s.get FCU_ERRN_CFG_MIN_PULSE) * 1000 / 20)).1).toNat).errnWanted = true) ∧
    (∃ (s : State) (pins rails t : Nat), s.fcu.fatalDue = some t ∧ s.releaseWaits = true ∧ suppliesGood pins rails = true) ∧
    (∃ (s : State) (t : Nat), s.fcu.svpFence = some t ∧ t < s.now) ∧
    (∃ (s : State) (c : Cmd), c.mute = false ∧ ¬(c.op = 3845 ∧ c.stage = Stage.started) ∧ c.fin = none ∧ c.stage ≠
      Stage.effected ∧ (c.stage = Stage.waiting → c.src = 8 ∨ s.cqRoom c.fn c.src 1 = true)) ∧
    (∃ (c : Cmd) (st r : Nat), c.mute = false ∧ ¬(c.op = 3845 ∧ c.stage = Stage.started) ∧ c.fin = some (st, r)) ∧
    (∃ (c : Cmd), c.mute = false ∧ ¬(c.op = 3845 ∧ c.stage = Stage.started) ∧ c.fin = none ∧ c.stage = Stage.effected) ∧
    (∃ (c : Cmd), c.mute = false ∧ c.op = 3845 ∧ c.stage = Stage.started) ∧
    (∃ (s : State) (n : Nat), s.fnState n = 2) ∧
    (∃ (s : State) (n : Nat), s.fnState n ≠ 2) :=
  ⟨⟨{ run with fcu.errn := true, fcu.errnAt := 500000 }, by decide +kernel⟩,
   ⟨{ run with fcu.errn := true, fcu.errnAt := 500000 }, by decide +kernel, (until_errnWanted _ _).trans (by decide +kernel)⟩,
   ⟨{ run.setFlag FCU_STATUS_BOOT_HOLD true with fcu.errn := true, fcu.errnAt := 500000 }, by decide +kernel, (until_errnWanted
     _ _).trans (by decide +kernel)⟩,
   ⟨{ run with fcu.fatalDue := some 1200000, pcs.boot := .held, pcs.power := .waking, pcs.porst := true }, 1, 0xFF, 1200000, by
     decide +kernel⟩,
   ⟨{ inF (wR.set FCU_PENn_STATUS_STATE 1 8) { cW 0x0101 .withheld with fn := 5 } with fcu.svpFence := some 900000, cfg.preparing := some (0, 9) },
     900000, by decide +kernel⟩,
   ⟨wR, { cW 0x0101 .waiting with fn := 5 }, by decide +kernel⟩,
   ⟨{ cW 0x0101 .effected with fin := some (0x101, 9) }, 0x101, 9, by decide +kernel⟩,
   ⟨cW 0x0101 .effected, by decide +kernel⟩,
   ⟨cW 0x0F05 .started, by decide +kernel⟩,
   ⟨wR.set SF_FNn_STATE_STATE 2 63, 63, by decide +kernel⟩,
   ⟨wR.set SF_FNn_STATE_STATE 3 63, 63, by decide +kernel⟩⟩

theorem wit_ResetsAndBoot :
    (∃ (s : State), s.pcs.power = Power.off) ∧
    (∃ (s : State), s.pcs.power ≠ Power.off) ∧
    (∃ (s : State), s.asleep = false ∧ s.pcs.power ≠ Power.off ∧ s.coreRuns = true) ∧
    (∃ (s : State) (a : Init) (v : Word), s.reaches a PCS_RESET_CTRL 0 0 true = true ∧ bitsOf (BitVec.toNat v) 15 8 = 165) ∧
    (∃ (s : State) (pins rails : Nat), s.releaseWaits = true ∧ s.fcu.fatalDue = none ∧ suppliesGood pins rails = true) ∧
    (∃ (s : State) (pins rails : Nat), s.releaseWaits = true ∧ s.fcu.fatalDue = none ∧ suppliesGood pins rails = false) ∧
    (∃ (s : State), s.pcs.boot = Boot.configured) ∧
    (∃ (s : State), s.pcs.boot = Boot.protection) ∧
    (∃ (s : State), s.cfg.bootHalf = none) ∧
    (∃ (s : State) (h : Nat) (c : Commit) (b : BootImg), s.cfg.bootHalf = some h ∧ s.commitOf 1 h = some c ∧ parseBoot
      (s.imageOf 1 h c.len) = some b) ∧
    (∃ (s : State), s.pcs.boot = Boot.harts) :=
  ⟨⟨off, by decide +kernel⟩,
   ⟨wR, by decide +kernel⟩,
   ⟨wR, by decide +kernel⟩,
   ⟨wR, svp, 0xA501, by decide +kernel⟩,
   ⟨{ run with pcs.boot := .held, pcs.power := .waking, pcs.porst := true }, 1, 0xFF, by decide +kernel⟩,
   ⟨{ run with pcs.boot := .held, pcs.power := .waking, pcs.porst := true }, 1, 0x3DF, by decide +kernel⟩,
   ⟨{ run with pcs.boot := .configured, pcs.power := .waking }, by decide +kernel⟩,
   ⟨wBoot, by decide +kernel⟩,
   ⟨run, by decide +kernel⟩,
   ⟨wBoot, 1, { seq := 4, state := 3, len := 14787 }, imgB, by decide +kernel⟩,
   ⟨{ run with pcs.boot := .harts, pcs.power := .waking }, by decide +kernel⟩⟩

theorem wit_SleepAndWake :
    (∃ (s : State), s.pcs.power = Power.run ∧ s.sleepCondition = true) ∧
    (∃ (s : State), s.pcs.power = Power.prepareSleep ∧ s.sleepCondition = false) ∧
    (∃ (s : State) (t : Nat), s.pcs.power = Power.prepareSleep ∧ s.pcs.prepAt = some t ∧ s.sleepCondition = true) ∧
    (∃ (s : State) (t : Nat), s.pcs.inhFall = some t) ∧
    (∃ (s : State), s.asleep = true ∧ s.pcs.wake.isSome = true ∧ s.pcs.inhFall = none) ∧
    (∃ (s : State), s.sdRuns = true) ∧
    (∃ (s : State) (c i : Nat) (q : Rule), nfind s.pcs.rules i = some q ∧ rlKind q.raw ≠ 2 ∧ rlKind q.raw ≠ 7 ∧ (rlIn q.raw
      s.pcs.sdMode = false ∨ c % rlDiv q.raw ≠ 0)) ∧
    (∃ (s : State) (y : SdIn) (c i : Nat) (q : Rule), nfind s.pcs.rules i = some q ∧ rlKind q.raw ≠ 2 ∧ rlKind q.raw ≠ 7 ∧ rlIn
      q.raw s.pcs.sdMode = true ∧ c % rlDiv q.raw = 0 ∧ (rlTrigger q.raw = 0 ∧ (q.filter (s.ruleTrue y q.raw)).1.value = true ∨
      rlTrigger q.raw = 1 ∧ (q.filter (s.ruleTrue y q.raw)).2 = true ∧ (q.filter (s.ruleTrue y q.raw)).1.value = true ∨
      rlTrigger q.raw = 2 ∧ (q.filter (s.ruleTrue y q.raw)).2 = true ∧ (q.filter (s.ruleTrue y q.raw)).1.value = false ∨ 3 ≤
      rlTrigger q.raw ∧ (q.filter (s.ruleTrue y q.raw)).2 = true)) ∧
    (∃ (s : State) (y : SdIn) (c i : Nat) (q : Rule), nfind s.pcs.rules i = some q ∧ rlKind q.raw ≠ 2 ∧ rlKind q.raw ≠ 7 ∧ rlIn
      q.raw s.pcs.sdMode = true ∧ c % rlDiv q.raw = 0 ∧ (¬(rlTrigger q.raw = 0 ∧ (q.filter (s.ruleTrue y q.raw)).1.value = true
      ∨ rlTrigger q.raw = 1 ∧ (q.filter (s.ruleTrue y q.raw)).2 = true ∧ (q.filter (s.ruleTrue y q.raw)).1.value = true ∨
      rlTrigger q.raw = 2 ∧ (q.filter (s.ruleTrue y q.raw)).2 = true ∧ (q.filter (s.ruleTrue y q.raw)).1.value = false ∨ 3 ≤
      rlTrigger q.raw ∧ (q.filter (s.ruleTrue y q.raw)).2 = true))) ∧
    (∃ (s : State) (r : List Byte), rlAction r = 1 ∧ s.asleep = true ∧ s.pcs.wake = none) ∧
    (∃ (r : List Byte), rlAction r = 2) ∧
    (∃ (r : List Byte), rlAction r = 3) ∧
    (∃ (r : List Byte) (k : Nat), k < 2 ∧ rlAction r = 4 + k) ∧
    (∃ (s : State) (i : Nat) (q : Rule) (up : Bool), nfind s.pcs.rules i = some q ∧ s.sdRuns = true ∧ rlIn q.raw s.pcs.sdMode =
      true ∧ rlKind q.raw = 2 ∧ (rlTrigger q.raw = 3 ∨ rlTrigger q.raw = 1 ∧ up = true ∨ rlTrigger q.raw = 2 ∧ up = false)) ∧
    (∃ (s : State) (n : Nat), n < 16 ∧ s.asleep = true ∧ bitOf s.fbc.armed n = true ∧ s.pcs.wake = none) :=
  ⟨⟨slp, by decide +kernel⟩,
   ⟨{ run with pcs.power := .prepareSleep, pcs.prepAt := some 2000000 }, by decide +kernel⟩,
   ⟨prp, 2000000, by decide +kernel⟩,
   ⟨asl, 1100000, by decide +kernel⟩,
   ⟨{ asl with pcs.inhFall := none, pcs.wake := some (5, 3), pcs.wakeAt := 1000000, pcs.inh := false, pcs.boot := .unpowered },
     by decide +kernel⟩,
   ⟨{ asl with pcs.rules := [(63, { raw := door, begun := true, value := false, run := 1 })], pcs.sdMode := 1 }, by
     decide +kernel⟩,
   ⟨{ asl with pcs.rules := [(63, { raw := door, begun := true, value := false, run := 1 })], pcs.sdMode := 0 }, 5, 63,
     { raw := door, begun := true, value := false, run := 1 }, by decide +kernel⟩,
   ⟨{ asl with pcs.rules := [(63, { raw := door, begun := true, value := false, run := 1 })], pcs.sdMode := 1 },
     { wk := [(2, 10)] }, 4, 63, { raw := door, begun := true, value := false, run := 1 }, by decide +kernel⟩,
   ⟨{ asl with pcs.rules := [(63, { raw := door, begun := true, value := false, run := 0 })], pcs.sdMode := 1 },
     { wk := [(2, 10)] }, 4, 63, { raw := door, begun := true, value := false, run := 0 }, by decide +kernel⟩,
   ⟨asl, doorShut.set 10 1, by decide +kernel⟩,
   ⟨doorShut.set 10 2, by decide +kernel⟩,
   ⟨doorShut, by decide +kernel⟩,
   ⟨doorShut.set 10 5, 1, by decide +kernel⟩,
   ⟨{ asl with pcs.rules := [(63, rul)] }, 63, rul, true, by decide +kernel⟩,
   ⟨{ asl with fbc.armed := 0x8000 }, 15, by decide +kernel⟩⟩

theorem wit_RunControl :
    (∃ (s : State) (h : Nat), s.dbgUp = true ∧ s.dbgOpen h = true ∧ (s.hart h).halted = false ∧ s.justTaken h = false) ∧
    (∃ (s : State) (h : Nat), s.coreRuns = true ∧ (s.hart h).running = true ∧ (s.hart h).haltReq = true ∧ s.readsOut h = false) ∧
    (∃ (s : State) (h : Nat), s.coreRuns = true ∧ (s.hart h).running = true ∧ (s.hart h).haltReq = true ∧ s.readsOut h = true) ∧
    (∃ (s : State) (h : Nat), s.dbgUp = true ∧ userHart h = true ∧ (s.hart h).halted = true) ∧
    (∃ (s : State) (h : Nat), s.dbgUp = true ∧ s.dbgOpen h = true) ∧
    (∃ (s : State) (h : Nat), s.dbgUp = true) ∧
    (∃ (s : State) (h : Nat), s.coreRuns = true ∧ userHart h = true ∧ (s.hart h).running = true ∧ (s.hart h).halted = false) ∧
    (∃ (s : State), s.dbgUp = false ∧ s.coreRuns = true) ∧
    (∃ (s : State) (h : Nat), s.coreRuns = true ∧ userHart h = true ∧ (s.hart h).running = true ∧ (s.hart h).halted = false ∧
      s.hasDmode h = true ∧ s.invasive (s.hartSecure h) = true) ∧
    (∃ (s : State), s.tapUp = true) :=
  ⟨⟨wH, 11, by decide +kernel⟩,
   ⟨{ wH with cc.harts := [(11, { running := true, haltReq := true })] }, 11, by decide +kernel⟩,
   ⟨{ wH with cc.harts := [(11, { running := true, haltReq := true })], plb.queue := [{ rd 0 with init := 11 }] }, 11, by
     decide +kernel⟩,
   ⟨wHH, 11, by decide +kernel⟩,
   ⟨wH, 11, by decide +kernel⟩,
   ⟨wH, 11, by decide +kernel⟩,
   ⟨wH, 11, by decide +kernel⟩,
   ⟨wH.set FCU_PENn_STATUS_STATE 1 34, by decide +kernel⟩,
   ⟨{ wH with dbg.trig := [(11 * 16, (2 ^ 59, 0, 0))] }, 11, by decide +kernel⟩,
   ⟨wH, by decide +kernel⟩⟩

theorem wit_DebugAccess :
    (∃ (s : State) (h : Nat) (mem : Bool) (at_ : Nat) (w : Bool) (size v : Nat), s.dbgUp = true ∧ (userHart h = false ∨ (s.hart
      h).halted = false)) ∧
    (∃ (s : State) (h n size : Nat), s.dbgUp = true ∧ userHart h = true ∧ (s.hart h).halted = true ∧ 4096 < n ∧ n < 4160 ∧
      (size = 2 ∨ size = 3)) ∧
    (∃ (s : State) (h n size x : Nat), s.dbgUp = true ∧ userHart h = true ∧ (s.hart h).halted = true ∧ 4096 < n ∧ n < 4160 ∧
      (size = 2 ∨ size = 3) ∧ nfind s.cc.gpr (h * 65536 + n) = some x) ∧
    (∃ (s : State) (w : Bool) (addr size v : Nat), s.dbgUp = true ∧ (s.invasive (s.flag DBG_SBA_WORLD) = false ∨ size ≤ 3 ∧
      addr % 2 ^ size ≠ 0)) ∧
    (∃ (s : State) (addr size : Nat) (d : List Byte) (t : State), s.dbgUp = true ∧ s.invasive (s.flag DBG_SBA_WORLD) = true ∧
      size ≤ 3 ∧ addr % 2 ^ size = 0 ∧ s.dmActive.busRead { id := 32, secure := s.flag DBG_SBA_WORLD : Init } addr (2 ^ size) =
      (some d, t)) ∧
    (∃ (s : State), s.tapUp = true) ∧
    (∃ (s : State), s.tapUp = true ∧ s.loaderServes = false) ∧
    (∃ (s : State) (w : Word), s.tapUp = true ∧ s.loaderServes = true ∧ s.get DBG_LOADER_STATUS_PHASE < 2 ∧ s.dbg.loaderLen = 0
      ∧ BitVec.toNat w ≠ 0 ∧ BitVec.toNat w % 16 = 0 ∧ BitVec.toNat w ≤ areaRoom 1) ∧
    (∃ (s : State), s.tapUp = true ∧ s.loaderServes = true ∧ s.get DBG_LOADER_STATUS_PHASE < 2 ∧ s.dbg.loaderLen ≠ 0) ∧
    (∃ (s : State), s.loaderServes = true ∧ s.get DBG_LOADER_STATUS_PHASE = 2) ∧
    (∃ (s : State) (k : Nat), k < 8 ∧ s.coreRuns = true ∧ s.flag DBG_SMPs_CFG_EN k = true ∧ neverCounts (s.get
      DBG_SMPs_CFG_EVENT k) = false ∧ (countsExactly (s.get DBG_SMPs_CFG_EVENT k) = true → max 1 (s.get DBG_SMPs_PERIOD_PERIOD
      k) ≤ countFrom (s.dbg.sampleBase.getD k 0) (ngetD s.dbg.counters (s.get DBG_SMPs_CFG_EVENT k) 0))) ∧
    (∃ (k e : Nat), k < 8 ∧ e < 384) ∧
    (∃ (s : State) (r : Sample), s.dbg.samples.length < 64 ∧ (∀ x ∈ s.dbg.samples, x.time ≠ r.time)) ∧
    (∃ (s : State), 64 ≤ s.dbg.samples.length) ∧
    (∃ (s : State) (a : Init) (x : Sample) (l : List Sample), s.reaches a DBG_SMP_INFO 0 0 false = true ∧ s.dbg.samples = x ::
      l) :=
  ⟨⟨wH, 11, false, 0x1001, true, 3, 77, by decide +kernel⟩,
   ⟨wHH, 11, 0x103F, 3, by decide +kernel⟩,
   ⟨{ wHH with cc.gpr := [(11 * 65536 + 0x101F, 77)] }, 11, 0x101F, 2, 77, by decide +kernel⟩,
   ⟨wH, false, 0x10000001, 3, 77, by decide +kernel⟩,
   ⟨wH, 0x10000008, 3, ((wH.dmActive).busRead { id := 0x20, secure := wH.flag DBG_SBA_WORLD } 0x10000008 8).1.getD [],
     ((wH.dmActive).busRead { id := 0x20, secure := wH.flag DBG_SBA_WORLD } 0x10000008 8).2, by decide +kernel⟩,
   ⟨wH, by decide +kernel⟩,
   ⟨wH, by decide +kernel⟩,
   ⟨ld, 0x100, by decide +kernel⟩,
   ⟨{ ld.set DBG_LOADER_STATUS_PHASE 1 with dbg.loaderLen := 16, dbg.loader := List.replicate 12 0 }, by decide +kernel⟩,
   ⟨{ ld.set DBG_LOADER_STATUS_PHASE 2 with dbg.loaderLen := 16, dbg.loader := List.replicate 16 0 }, by decide +kernel⟩,
   ⟨{ ((wH.setFlag DBG_SMPs_CFG_EN true 7).set DBG_SMPs_CFG_EVENT 428 7) with dbg.counters := [(428, 9)] }, 7, by
     decide +kernel⟩,
   ⟨7, 383, by decide +kernel⟩,
   ⟨{ wH with dbg.samples := List.replicate 63 sm }, { sm with time := 8 }, by decide +kernel⟩,
   ⟨{ wH with dbg.samples := List.replicate 64 sm }, by decide +kernel⟩,
   ⟨{ wH with dbg.samples := [sm] }, svp, sm, [], by decide +kernel⟩⟩

end Sys2Proof.Tests
end

section
/-! Chapter 00: the layouts of descriptors and completions (R22, R23) and the queue depths (R26). The facts about little-endian
bytes come first, then what each layout puts where, then the statements. -/

namespace Sys2Proof.Machine

/-! ### Little-endian bytes -/

theorem leNat_leBytes_append {n v : Nat} (h : v < 256 ^ n) (t : List Byte) :
    leNat (leBytes n v ++ t) = v + 256 ^ n * leNat t := by
  induction n generalizing v with
  | zero => simp_all [leBytes]
  | succ n ih =>
    rw [leBytes, List.cons_append, leNat, BitVec.toNat_ofNat, ih (by omega)]
    have hv := Nat.mod_add_div v 256
    grind

theorem leNat_leBytes {n v : Nat} (h : v < 256 ^ n) : leNat (leBytes n v) = v := by
  simpa [leNat] using leNat_leBytes_append h []

/-- A field at the front of a layout reads back. -/
theorem leAt_leBytes_append {n v : Nat} (h : v < 256 ^ n) (t : List Byte) : leAt (leBytes n v ++ t) 0 n = v := by
  rw [leAt, List.drop_zero, List.take_left' (leBytes_length n v), leNat_leBytes h]

/-- A field behind another one is read in what follows that one. -/
theorem leAt_leBytes_append_of_le {m o : Nat} (h : m ≤ o) (v n : Nat) (t : List Byte) :
    leAt (leBytes m v ++ t) o n = leAt t (o - m) n := by
  rw [leAt, leAt, List.drop_append, leBytes_length, List.drop_of_length_le (by rwa [leBytes_length]), List.nil_append]

theorem byteAt_eq_leAt (l : List Byte) (o : Nat) : byteAt l o = leAt l o 1 := by
  rw [byteAt, leAt, List.getD_eq_getElem?_getD, ← List.head?_drop]
  cases l.drop o <;> simp [leNat]

theorem padTo_of_length {n : Nat} {l : List Byte} (h : l.length = n) : padTo n l = l := by
  rw [padTo, h, Nat.sub_self, List.replicate_zero, List.append_nil, List.take_of_length_le h.le]

/-! ### Single bits -/

theorem b2n_lt_two (b : Bool) : b2n b < 2 := by cases b <;> decide

theorem bitOf_of_b2n {v i : Nat} {b : Bool} (h : v / 2 ^ i % 2 = b2n b) : bitOf v i = b := by
  rw [bitOf, h]; cases b <;> rfl

/-! ### Command descriptors (R22) -/

/-- Bits [39:32] of word 0: the four flags, and the reserved bits above them. -/
def descFlags (d : Desc) : Nat := b2n d.fence + 2 * b2n d.atomic + 4 * b2n d.notify + 8 * b2n d.expert + 16 * d.rsvd.toNat

theorem descFlags_lt (d : Desc) : descFlags d < 256 := by
  have hf := b2n_lt_two d.fence
  have ha := b2n_lt_two d.atomic
  have hn := b2n_lt_two d.notify
  have he := b2n_lt_two d.expert
  unfold descFlags
  omega

/-- Each flag is one bit of the flag byte, and the reserved bits are its upper half. -/
theorem descFlags_bits (d : Desc) :
    bitOf (descFlags d) 0 = d.fence ∧ bitOf (descFlags d) 1 = d.atomic ∧ bitOf (descFlags d) 2 = d.notify ∧
      bitOf (descFlags d) 3 = d.expert ∧ descFlags d / 16 = d.rsvd.toNat := by
  have hf := b2n_lt_two d.fence
  have ha := b2n_lt_two d.atomic
  have hn := b2n_lt_two d.notify
  have he := b2n_lt_two d.expert
  unfold descFlags
  refine ⟨bitOf_of_b2n ?_, bitOf_of_b2n ?_, bitOf_of_b2n ?_, bitOf_of_b2n ?_, ?_⟩ <;> omega

/-- The fields of a descriptor's bytes in their order, the parameters last. -/
theorem descBytes_eq {d : Desc} (h : d.params.length = 48) :
    descBytes d = leBytes 2 d.opcode.toNat ++ (leBytes 2 d.tag.toNat ++ (leBytes 1 (descFlags d) ++ (leBytes 1 d.group.toNat ++
      (leBytes 2 d.target.toNat ++ (leBytes 8 d.deadline.toNat ++ d.params))))) := by
  simp only [descBytes, descFlags, padTo_of_length h, List.append_assoc]

theorem descBytes_length {d : Desc} (h : d.params.length = 48) : (descBytes d).length = 64 := by
  simp [descBytes_eq h, leBytes_length, h]

/-- What R22's table says of each byte of a descriptor. -/
theorem descBytes_fields {d : Desc} (h : d.params.length = 48) :
    leAt (descBytes d) 0 2 = d.opcode.toNat ∧ leAt (descBytes d) 2 2 = d.tag.toNat ∧ byteAt (descBytes d) 4 = descFlags d ∧
      byteAt (descBytes d) 5 = d.group.toNat ∧ leAt (descBytes d) 6 2 = d.target.toNat ∧
      leAt (descBytes d) 8 8 = d.deadline.toNat ∧ (descBytes d).drop 16 = d.params := by
  have hflags := descFlags_lt d
  rw [byteAt_eq_leAt, byteAt_eq_leAt, descBytes_eq h]
  refine ⟨?_, ?_, ?_, ?_, ?_, ?_, ?params⟩
  case params => simp [List.drop_append, leBytes_length, List.drop_of_length_le]
  all_goals
    repeat rw [leAt_leBytes_append_of_le (by decide)]
    exact leAt_leBytes_append (by omega) _

theorem descOf_descBytes {d : Desc} (h : d.params.length = 48) : descOf (descBytes d) = d := by
  obtain ⟨hop, htag, hflags, hgroup, htarget, hdeadline, hparams⟩ := descBytes_fields h
  obtain ⟨hfence, hatomic, hnotify, hexpert, hrsvd⟩ := descFlags_bits d
  simp only [descOf, hop, htag, hflags, hgroup, htarget, hdeadline, hparams, hfence, hatomic, hnotify, hexpert, hrsvd,
    BitVec.ofNat_toNat, BitVec.setWidth_eq, List.take_of_length_le h.le]

/-- Settles O12: every field is read at its place, and so the descriptor read back is the one written. -/
theorem descriptorLayout : Obligations.DescriptorLayout := by
  intro d h
  obtain ⟨hop, htag, hflags, hgroup, htarget, hdeadline, hparams⟩ := descBytes_fields h
  obtain ⟨hfence, hatomic, hnotify, hexpert, hrsvd⟩ := descFlags_bits d
  dsimp only
  rw [hflags]
  exact ⟨descBytes_length h, descOf_descBytes h, hop, htag, hfence, hatomic, hnotify, hexpert, hrsvd, hgroup, htarget,
    hdeadline, hparams⟩

/-! ### Completions (R23) and what a read of the mailbox result returns (R231) -/

/-- Bytes 4 and 5 of a completion: the phase and REPEAT. -/
def completionFlags (phase rep : Bool) : Nat := b2n phase + 2 * b2n rep

/-- A completion's 128 bits, as one number. -/
theorem leNat_completionBytes {tag status fn result : Nat} (phase rep : Bool) (htag : tag < 65536) (hstatus : status < 65536)
    (hfn : fn < 64) (hresult : result < 2 ^ 64) :
    leNat (completionBytes tag status phase rep fn result) =
      tag + 65536 * (status + 65536 * (completionFlags phase rep + 65536 * (fn + 65536 * result))) := by
  have hp := b2n_lt_two phase
  have hr := b2n_lt_two rep
  simp only [completionBytes, completionFlags, List.append_assoc]
  rw [leNat_leBytes_append (by omega), leNat_leBytes_append (by omega), leNat_leBytes_append (by omega),
    leNat_leBytes_append (by omega), leNat_leBytes (by omega)]
  rfl

/-- What R23's table says of each bit of a completion. -/
theorem completionBytes_fields {tag status fn result : Nat} (phase rep : Bool) (htag : tag < 65536) (hstatus : status < 65536)
    (hfn : fn < 64) (hresult : result < 2 ^ 64) :
    let v := leNat (completionBytes tag status phase rep fn result)
    bitsOf v 15 0 = tag ∧ bitsOf v 31 16 = status ∧ bitOf v 32 = phase ∧ bitOf v 33 = rep ∧ bitsOf v 47 34 = 0 ∧
      bitsOf v 63 48 = fn ∧ bitsOf v 127 64 = result := by
  have hp := b2n_lt_two phase
  have hr := b2n_lt_two rep
  dsimp only
  rw [leNat_completionBytes phase rep htag hstatus hfn hresult]
  unfold completionFlags bitsOf
  refine ⟨?_, ?_, bitOf_of_b2n ?_, bitOf_of_b2n ?_, ?_, ?_, ?_⟩ <;> omega

theorem completionBytes_length (tag status : Nat) (phase rep : Bool) (fn result : Nat) :
    (completionBytes tag status phase rep fn result).length = 16 := by
  simp [completionBytes, leBytes_length]

/-- The bytes of the later reads: the result's own with bit 33, REPEAT, set. -/
def withRepeat (b : List Byte) : List Byte := patchAt b 4 (leBytes 1 (byteAt b 4 ||| 2))

/-- REPEAT is a bit of byte 4, and no other byte changes. -/
theorem withRepeat_append_cons {a : List Byte} (h : a.length = 4) (x : Byte) (t : List Byte) :
    withRepeat (a ++ x :: t) = a ++ (x ||| 2) :: t := by
  have hbyte : byteAt (a ++ x :: t) 4 = x.toNat := by simp [byteAt, h]
  have hor : BitVec.ofNat 8 (x.toNat ||| 2) = x ||| 2 := by simp [BitVec.ofNat_or]
  simp [withRepeat, hbyte, leBytes, hor, patchAt, List.drop_append, h]

/-- A completion with byte 4 between the four bytes before it and what follows. -/
theorem completionBytes_eq (tag status : Nat) (phase rep : Bool) (fn result : Nat) :
    completionBytes tag status phase rep fn result = (leBytes 2 tag ++ leBytes 2 status) ++
      BitVec.ofNat 8 (completionFlags phase rep) :: 0 :: (leBytes 2 fn ++ leBytes 8 result) := by
  have hflags : leBytes 2 (completionFlags phase rep) = [BitVec.ofNat 8 (completionFlags phase rep), 0] := by
    cases phase <;> cases rep <;> rfl
  rw [completionBytes, ← completionFlags, hflags]
  simp only [List.append_assoc, List.cons_append, List.nil_append]

theorem withRepeat_completionBytes (tag status : Nat) (phase : Bool) (fn result : Nat) :
    withRepeat (completionBytes tag status phase false fn result) = completionBytes tag status phase true fn result := by
  have hrepeat : BitVec.ofNat 8 (completionFlags phase false) ||| 2 = BitVec.ofNat 8 (completionFlags phase true) := by
    cases phase <;> rfl
  rw [completionBytes_eq, withRepeat_append_cons (by simp [leBytes_length]), hrepeat, completionBytes_eq]

@[simp] theorem State.fn_setFn_same (s : State) (n : Nat) (f : Fn) : (s.setFn n f).fn n = f := by
  simp only [State.fn, State.setFn, ngetD_nput, if_true]

/-- The first read returns the result as it stands, and marks it as seen. -/
theorem State.readMbx_fresh {s : State} {n : Nat} (hfence : s.fcu.svpFence = none) (hst : (s.fn n).mbx.st = .fresh) :
    s.readMbx n = ((s.fn n).mbx.result, s.setFn n { s.fn n with mbx := { (s.fn n).mbx with st := .seen } }) := by
  simp [State.readMbx, hfence, hst]

/-- A later read returns the result with REPEAT set, and changes nothing. -/
theorem State.readMbx_seen {s : State} {n : Nat} (hfence : s.fcu.svpFence = none) (hst : (s.fn n).mbx.st = .seen) :
    s.readMbx n = (withRepeat (s.fn n).mbx.result, s) := by
  simp [State.readMbx, hfence, hst, withRepeat]

/-- Settles O13: a completion's bits are those of one number, and a read of the result either marks it or sets REPEAT. -/
theorem completionLayout : Obligations.CompletionLayout := by
  refine ⟨fun tag status fn result phase rep htag hstatus hfn hresult =>
    ⟨completionBytes_length tag status phase rep fn result, completionBytes_fields phase rep htag hstatus hfn hresult⟩, ?_⟩
  intro s fn tag status result phase hfence htag hstatus hfn hresult hres
  constructor
  · intro hst
    obtain ⟨-, -, -, hrepeat, -⟩ := completionBytes_fields phase false htag hstatus hfn hresult
    rw [State.readMbx_fresh hfence hst, hres, State.fn_setFn_same]
    exact ⟨hrepeat, rfl⟩
  · intro hst
    rw [State.readMbx_seen hfence hst, hres, withRepeat_completionBytes]
    exact ⟨rfl, hst⟩

/-! ### Queue depths (R26) -/

/-- A depth given by an order field, which counts no further than 8. -/
theorem depth_of_order (order : Nat) : ∃ k, 4 ≤ k ∧ k ≤ 12 ∧ 16 * 2 ^ min 8 order = 2 ^ k :=
  ⟨4 + min 8 order, by omega, by omega, by rw [Nat.pow_add]⟩

/-- Settles O14: both depths come from an order field of the queue pair's configuration. -/
theorem queueDepths : Obligations.QueueDepths := fun s fn q =>
  ⟨depth_of_order (s.get SF_QPq_CFG_SQ_ORDER fn q), depth_of_order (s.get SF_QPq_CFG_CQ_ORDER fn q)⟩

end Sys2Proof.Machine
end

section
/-! Chapter 02: who may write, read and assign a profile (R120). What a request that the service takes meets in its checks comes
first, beside `request_takes`, then the definitions of the three opcodes, then the statement. -/

namespace Sys2Proof.Machine

/-! ### A request that the service takes -/

@[simp] theorem State.fetched_owner (s : State) (opcode : Nat) (r : Req) (kind i : Nat) :
    (s.fetched opcode r).owner kind i = s.owner kind i := by
  simp [State.owner, State.fetched]

@[simp] theorem State.fetched_profile (s : State) (opcode : Nat) (r : Req) (p : Nat) :
    (s.fetched opcode r).profile p = s.profile p := by
  simp [State.profile]

/-- What `State.takes` asks, condition by condition. -/
theorem State.takes_iff {s : State} {opcode : Nat} {r : Req} : s.takes opcode r = true ↔
    s.fnTakes r.fn = true ∧ r.src < 8 ∧ r.src < s.get SF_FNn_STATE_NQP r.fn ∧ s.flag SF_QPq_CFG_EN r.fn r.src = true ∧
      s.get SF_QPq_STATUS_ERR r.fn r.src < 2 ∧ (∀ k ∈ s.sf.cmds, k.seq < s.sf.nextSeq) ∧
      (s.fetched opcode r).canStart (s.cmdOf opcode r) = true ∧ (s.fetched opcode r).modeHolds (s.cmdOf opcode r) = false ∧
      (s.cmdOf opcode r).late (s.fetched opcode r).td0 = false ∧ r.atomic = false ∧ r.rsvd.toNat = 0 ∧
      (r.expert = false ∨ ∃ o, specOf opcode = some o ∧ o.expert = true) := by
  cases hspec : specOf opcode <;> simp [State.takes, hspec, and_assoc]

/-- The deadline of a request that the service takes has not passed (R239). -/
theorem not_late_of_takes {s : State} {opcode : Nat} {r : Req} (ht : s.takes opcode r = true) :
    (s.cmdOf opcode r).late (s.fetched opcode r).td0 = false := by
  obtain ⟨-, -, -, -, -, -, -, -, hlate, -⟩ := State.takes_iff.mp ht
  exact hlate

/-- The command that entered flight last is the one of its fetch number. -/
theorem find_cmd_fetched {s : State} {opcode : Nat} {r : Req} (hseq : ∀ k ∈ s.sf.cmds, k.seq < s.sf.nextSeq) :
    (s.fetched opcode r).cmd? s.sf.nextSeq = some (s.cmdOf opcode r) := by
  have hnew : (s.sf.cmds.find? fun c => c.seq == s.sf.nextSeq) = none :=
    List.find?_eq_none.mpr fun k hk => by simp [(hseq k hk).ne]
  simp [State.cmd?, State.fetched, List.find?_append, hnew, State.cmdOf]

/-- A request that the service takes is checked at once (R228, R233, R234). -/
theorem request_eq_execute {s : State} {opcode : Nat} {r : Req} (hop : opcode < 65536) (ht : s.takes opcode r = true) :
    s.request opcode r = (s.fetched opcode r).execute s.sf.nextSeq := by
  obtain ⟨hfn, hsrc, hnqp, hen, herr, hseq, hstart, -, -, hatomic, -⟩ := State.takes_iff.mp ht
  have hsubmit : s.request opcode r = (s.fetched opcode r).commandStart s.sf.nextSeq := by
    rw [← enter_fetched s opcode r hop]
    simp [State.request, State.submit, descWith, hfn, hsrc.ne, hnqp, hen, herr]
  have hfin : (s.cmdOf opcode r).fin = none := rfl
  have hplain : (s.cmdOf opcode r).desc.atomic = false := hatomic
  simp [hsubmit, State.commandStart, find_cmd_fetched hseq, hstart, hfin, hplain]

/-- The first checks of R243 pass a request that the service takes, and those of its opcode decide. -/
theorem stepErr_eq_check {s : State} {opcode : Nat} {r : Req} {o : OpSpec} (hop : opcode < 65536)
    (ht : s.takes opcode r = true) (ho : specOf opcode = some o) :
    (s.fetched opcode r).stepErr (s.cmdOf opcode r) = o.check (s.fetched opcode r) (s.cmdOf opcode r) := by
  obtain ⟨-, -, -, -, -, -, -, -, -, hatomic, hrsvd, hexpert⟩ := State.takes_iff.mp ht
  have hplain : (s.cmdOf opcode r).desc.atomic = false := hatomic
  have hform : ((s.cmdOf opcode r).desc.expert && !o.expert) = false := by
    rcases hexpert with h | ⟨o', ho', h⟩
    · simp [State.cmdOf, descWith, h]
    · obtain rfl : o = o' := Option.some.inj (ho.symm.trans ho')
      simp [h]
  have hbits : rsvdBit (s.cmdOf opcode r).desc = none := by
    rw [rsvdBit, show (s.cmdOf opcode r).desc.rsvd.toNat = 0 from hrsvd, find_range_bit 0 rfl, Option.map_none]
  simp [State.stepErr, cmdOf_op s opcode r hop, ho, hbits, hplain, hform]

/-- A request that its opcode's checks refuse completes with their status and has no other effect (R243). -/
theorem request_refused {s t : State} {opcode : Nat} {r : Req} {o : OpSpec} {e : Res} (hop : opcode < 65536)
    (ht : s.takes opcode r = true) (ho : specOf opcode = some o)
    (hc : o.check (s.fetched opcode r) (s.cmdOf opcode r) = (t, some e)) :
    s.request opcode r = t.finish s.sf.nextSeq e := by
  obtain ⟨-, -, -, -, -, hseq, -, hholds, -⟩ := State.takes_iff.mp ht
  simp [request_eq_execute hop ht, State.execute, find_cmd_fetched hseq, hholds, stepErr_eq_check hop ht ho, hc]

/-! ### The commands' own checks and effects -/

theorem exec_profileWrite (r : Req) (s : State) : exec (.profileWrite r) s = s.ends (s.request 0x0201 r) := rfl
theorem exec_profileRead (r : Req) (s : State) : exec (.profileRead r) s = s.ends (s.request 0x0202 r) := rfl
theorem exec_chAssignProfile (r : Req) (s : State) : exec (.chAssignProfile r) s = s.ends (s.request 0x0105 r) := rfl

theorem specOf_profileWrite : specOf 0x0201 = some specProfileWrite := rfl
theorem specOf_profileRead : specOf 0x0202 = some specProfileRead := rfl
theorem specOf_chAssignProfile : specOf 0x0105 = some specChAssignProfile := rfl

/-- PROFILE_WRITE of a virtual function fails before anything else is looked at (R120). -/
theorem specProfileWrite_check_of_vf (s : State) {c : Cmd} (hfn : c.fn ≠ 0) :
    specProfileWrite.check s c = (s, some (bad stNotOwner)) := by
  simp [specProfileWrite, firstErr, hfn, orErr, State.thenXlate]

/-- PROFILE_READ asks for a defined profile and an address that the issuer may write; it does not ask who the issuer is. -/
theorem specProfileRead_check_ok {s : State} {c : Cmd} {rec : List Byte} (htgt : c.tgt < 128)
    (hstray : strayByte [(0, 8)] c.desc.params = none) (hrec : s.profile c.tgt = some rec)
    (hok : s.fnOk c.fn (c.p 0 8) 128 true = (true, s)) : specProfileRead.check s c = (s, none) := by
  simp [specProfileRead, firstErr, strayErr, orErr, State.thenXlate, State.xlateCheck, htgt.not_ge, hstray, hrec, hok]

/-- The record is written where the command says, and the command completes. -/
theorem specProfileRead_run_ok {s v : State} {c : Cmd} {rec : List Byte} (hrec : s.profile c.tgt = some rec)
    (hwrite : s.fnWrite c.fn (c.p 0 8) rec = (.ok (), v)) : specProfileRead.run s c = v.finish c.seq (stOk, none) := by
  simp [specProfileRead, State.writeRecord, hrec, hwrite]

/-- CH_ASSIGN_PROFILE asks that the issuer owns the channel and that the profile is defined. -/
theorem specChAssignProfile_check_ok {s : State} {c : Cmd} (hexpert : c.desc.expert = false) (htgt : c.tgt < 64)
    (hown : s.owner 0 c.tgt = c.fn) (hlimp : (s.chan c.tgt).state ≠ chLimp)
    (hstray : strayByte [(0, 2)] c.desc.params = none) (hdef : (s.profile (c.p 0 2)).isSome = true) :
    specChAssignProfile.check s c = (s, none) := by
  have howner : s.notOwner c 0 c.tgt = false := by simp [State.notOwner, hexpert, hown]
  have hrange : outOfRange c 64 = (false, bad stBadParam) := by simp [outOfRange, htgt]
  obtain ⟨rec, hrec⟩ := Option.isSome_iff_exists.mp hdef
  simp [specChAssignProfile, checks, firstErr, orErr, strayErr, howner, hrange, hlimp, hstray, hrec]

/-! ### The statement -/

/-- Settles O16: the issuer's number decides a write alone; a read and an assignment pass their checks and run. -/
theorem profileRights : Obligations.ProfileRights := by
  intro s r hexpert
  dsimp only
  refine ⟨fun ht hfn => ?write, fun ht htgt hstray rec v hrec hok hwrite => ?read,
    fun ht htgt hown hstate hstray hdef => ?assign⟩
  case write =>
    have hcheck := specProfileWrite_check_of_vf (s.fetched 0x0201 r) (c := s.cmdOf 0x0201 r) hfn
    rw [exec_profileWrite, request_refused (by decide) ht specOf_profileWrite hcheck]
    rfl
  case read =>
    have hrec' : (s.fetched 0x0202 r).profile r.target.toNat = some rec := by rw [State.fetched_profile, hrec]
    have hcheck := specProfileRead_check_ok (c := s.cmdOf 0x0202 r) htgt hstray hrec' hok
    have hrun := specProfileRead_run_ok (c := s.cmdOf 0x0202 r) hrec' hwrite
    rw [exec_profileRead, request_takes (by decide) ht specOf_profileRead hcheck (not_late_of_takes ht) rfl, hrun]
    rfl
  case assign =>
    have hlimp : ((s.fetched 0x0105 r).chan r.target.toNat).state ≠ chLimp := by
      rw [State.fetched_chan]
      rcases hstate with h | h <;> rw [h] <;> decide
    have hcheck := specChAssignProfile_check_ok (s := s.fetched 0x0105 r) (c := s.cmdOf 0x0105 r) hexpert htgt
      (by rw [State.fetched_owner]; exact hown) hlimp hstray (by rw [State.fetched_profile]; exact hdef)
    have houtcome : specChAssignProfile.outcome (s.fetched 0x0105 r) (s.cmdOf 0x0105 r) = none :=
      if_pos (by rw [State.fetched_chan]; exact hstate)
    rw [exec_chAssignProfile, request_takes (by decide) ht specOf_chAssignProfile hcheck (not_late_of_takes ht) houtcome]
    rfl

end Sys2Proof.Machine
end

section
/-! Chapter 04: when an ingest handle is STALE (R164). A fast tick also carries out the element removals that are due, and what
follows depends on whether protection is active; so the lemmas come first that no completion of a command changes that. -/

namespace Sys2Proof.Machine

/-! ### Lookups and one-bit fields -/

theorem nfind_nmap {α β : Type} (f : Nat → α → β) (m : NMap α) (k : Nat) : nfind (nmap f m) k = (nfind m k).map (f k) := by
  induction m with
  | nil => rfl
  | cons e m ih =>
    change (if e.1 = k then some (f e.1 e.2) else nfind (nmap f m) k) = (if e.1 = k then some e.2 else nfind m k).map (f k)
    by_cases h : e.1 = k
    · subst h; simp
    · rw [if_neg h, if_neg h, ih]

theorem bitsOf_bit (v lo : Nat) : bitsOf v lo lo = (v.testBit lo).toNat := by
  simp [bitsOf, Nat.toNat_testBit]

theorem b2n_mod_two (b : Bool) : b2n b % 2 = b2n b := Nat.mod_eq_of_lt (b2n_lt_two b)

/-- A number split at bit `lo`: `a` above it, `d` at it, `r` below it. -/
theorem bitsOf_split {lo a d r : Nat} (hd : d < 2) (hr : r < 2 ^ lo) : bitsOf (2 ^ lo * (2 * a + d) + r) lo lo = d := by
  rw [bitsOf, Nat.mul_add_div (Nat.two_pow_pos lo), Nat.div_eq_of_lt hr, Nat.add_sub_cancel_left]
  omega

/-- Putting a bit replaces the middle of the three parts alone. -/
theorem bitsOf_setBits_bit (v lo : Nat) (b : Bool) : bitsOf (setBits v lo lo (b2n b)) lo lo = b2n b := by
  obtain ⟨a, d, r, hd, hr, rfl⟩ : ∃ a d r, d < 2 ∧ r < 2 ^ lo ∧ v = 2 ^ lo * (2 * a + d) + r :=
    ⟨v / 2 ^ lo / 2, v / 2 ^ lo % 2, v % 2 ^ lo, Nat.mod_lt _ Nat.two_pos, Nat.mod_lt _ (Nat.two_pow_pos lo), by
      rw [Nat.div_add_mod, Nat.div_add_mod]⟩
  have hset : setBits (2 ^ lo * (2 * a + d) + r) lo lo (b2n b) = 2 ^ lo * (2 * a + b2n b) + r := by
    simp only [setBits, bitsOf_split hd hr, Nat.add_sub_cancel_left, Nat.pow_one, b2n_mod_two]
    rw [Nat.mul_add, Nat.mul_add, Nat.mul_comm d, Nat.mul_comm (b2n b)]
    omega
  rw [hset, bitsOf_split (b2n_lt_two b) hr]

/-- A one-bit field reads the flag last put there. -/
theorem State.flag_setFlag_same (s : State) {f : Fld} (hbit : f.hi = f.lo) (hlo : f.lo < 32) (b : Bool) (i j : Nat) :
    (s.setFlag f b i j).flag f i j = b := by
  have hget : (s.setFlag f b i j).get f i j = b2n b := by
    rw [State.setFlag, State.set, State.get, rd_wr_self, hbit, bitsOf_bit, w32, BitVec.toNat_ofNat,
      Nat.testBit_mod_two_pow, decide_eq_true hlo, Bool.true_and, ← bitsOf_bit, bitsOf_setBits_bit]
  rw [State.flag, hget]
  cases b <;> rfl

/-! ### What leaves protection as it is: registers, counts and reports -/

/-- Whether protection is active rests on the boot state and PCS_STATE alone. -/
theorem State.prot_congr {s t : State} (hpcs : t.pcs = s.pcs) (hrd : t.rd PCS_STATE_PROT.reg = s.rd PCS_STATE_PROT.reg) :
    t.prot = s.prot := by
  simp only [State.prot, State.flag, State.get, coreRuns_congr hpcs, hrd]

theorem State.prot_congr_regs {s t : State} (hpcs : t.pcs = s.pcs) (hregs : t.regs = s.regs) : t.prot = s.prot :=
  State.prot_congr hpcs (by rw [State.rd, State.rd, hregs])

theorem State.wr_prot (s : State) (r : Reg) (v : Word) (i j : Nat) (h : PCS_STATE.addr 0 0 ≠ r.addr i j) :
    (s.wr r v i j).prot = s.prot := State.prot_congr rfl (rd_wr_other s v h)

theorem State.set_prot (s : State) (f : Fld) (v i j : Nat) (h : PCS_STATE.addr 0 0 ≠ f.reg.addr i j) :
    (s.set f v i j).prot = s.prot := s.wr_prot f.reg _ i j h

theorem State.setFlag_prot (s : State) (f : Fld) (b : Bool) (i j : Nat) (h : PCS_STATE.addr 0 0 ≠ f.reg.addr i j) :
    (s.setFlag f b i j).prot = s.prot := s.set_prot f _ i j h

theorem State.setBitOf_prot (s : State) (f : Fld) (k i j : Nat) (h : PCS_STATE.addr 0 0 ≠ f.reg.addr i j) :
    (s.setBitOf f k i j).prot = s.prot := s.set_prot f _ i j h

theorem State.ite_prot {c : Prop} [Decidable c] {s t u : State} (ht : t.prot = s.prot) (hu : u.prot = s.prot) :
    (if c then t else u).prot = s.prot := by
  split
  · exact ht
  · exact hu

theorem State.foldl_prot {α : Type} {f : State → α → State} (hf : ∀ s a, (f s a).prot = s.prot) (l : List α) (s : State) :
    (l.foldl f s).prot = s.prot := by
  induction l generalizing s with
  | nil => rfl
  | cons a l ih => rw [List.foldl_cons, ih, hf]

theorem State.each_prot {α : Type} {f : State → α → State} (hf : ∀ s a, (f s a).prot = s.prot) (s : State) (l : List α) :
    (s.each l f).prot = s.prot := State.foldl_prot hf l s

@[simp] theorem State.bump_prot (s : State) (e n : Nat) : (s.bump e n).prot = s.prot := State.prot_congr_regs rfl rfl
@[simp] theorem State.report_prot (s : State) (src : Nat) : (s.report src).prot = s.prot := State.prot_congr_regs rfl rfl
@[simp] theorem State.setByte_prot (s : State) (a : Nat) (b : Byte) : (s.setByte a b).prot = s.prot :=
  State.prot_congr_regs rfl rfl
@[simp] theorem State.unpoison_prot (s : State) (a n : Nat) : (s.unpoison a n).prot = s.prot := State.prot_congr_regs rfl rfl
@[simp] theorem State.setFn_prot (s : State) (n : Nat) (f : Fn) : (s.setFn n f).prot = s.prot := State.prot_congr_regs rfl rfl
@[simp] theorem State.setQp_prot (s : State) (fn q : Nat) (x : Qp) : (s.setQp fn q x).prot = s.prot := s.setFn_prot fn _
@[simp] theorem State.mapCmds_prot (s : State) (f : Cmd → Cmd) : (s.mapCmds f).prot = s.prot := State.prot_congr_regs rfl rfl
@[simp] theorem State.freeNat_prot (s : State) : s.freeNat.2.prot = s.prot := State.prot_congr_regs rfl rfl

@[simp] theorem State.count_prot (s : State) (e n : Nat) : (s.count e n).prot = s.prot :=
  State.prot_congr_regs (State.count_pcs ..) (State.count_regs ..)

@[simp] theorem State.countAccess_prot (s : State) (e init : Nat) (secure : Bool) (addr cls : Nat) :
    (s.countAccess e init secure addr cls).prot = s.prot := by
  unfold State.countAccess
  extract_lets
  exact State.ite_prot rfl (s.bump_prot e 1)

@[simp] theorem State.msi_prot (s : State) (a id : Nat) : (s.msi a id).prot = s.prot :=
  State.ite_prot (State.prot_congr_regs rfl rfl) rfl

@[simp] theorem State.sfEvt_prot (s : State) (bit : Nat) : (s.sfEvt bit).prot = s.prot := by
  unfold State.sfEvt
  extract_lets t
  have ht : t.prot = s.prot := s.wr_prot SF_EVT _ 0 0 (by decide)
  exact State.ite_prot ((t.msi_prot ..).trans ht) ht

@[simp] theorem State.gatedAccess_prot (s : State) : s.gatedAccess.prot = s.prot := s.setFlag_prot _ _ 0 0 (by decide)
@[simp] theorem State.unmapped_prot (s : State) : s.unmapped.prot = s.prot := s.report_prot 0x0C0

@[simp] theorem State.gkEvent_prot (s : State) (e : GkEvent) : (s.gkEvent e).prot = s.prot := by
  have hlog (t : State) (x : Sec) : { t with sec := x }.prot = t.prot := State.prot_congr_regs rfl rfl
  unfold State.gkEvent
  extract_lets s1 full log _ s2 s3
  have h1 : s1.prot = s.prot := State.ite_prot (s.countAccess_prot ..) rfl
  have h2 : s2.prot = s.prot := (hlog s1 _).trans h1
  have h3 : s3.prot = s.prot := State.ite_prot ((s2.setFlag_prot _ _ 0 0 (by decide)).trans h2) h2
  exact (s3.setFlag_prot _ _ 0 0 (by decide)).trans h3

/-! ### What leaves protection as it is: writes of memory and to the partner -/

@[simp] theorem State.setBytes_prot (s : State) (a : Nat) (d : List Byte) : (s.setBytes a d).prot = s.prot := by
  induction d generalizing s a with
  | nil => rfl
  | cons b d ih => rw [State.setBytes, ih, State.setByte_prot]

@[simp] theorem State.setBytesBut_prot (s : State) (skip : List Nat) (a : Nat) (d : List Byte) :
    (s.setBytesBut skip a d).prot = s.prot := by
  induction d generalizing s a with
  | nil => rfl
  | cons b d ih =>
    rw [State.setBytesBut, ih]
    split
    · rfl
    · exact s.setByte_prot a b

/-- An uncorrectable error is logged and reported. -/
theorem State.memError_uncorrectable_prot (s : State) (a init : Nat) : (s.memError a init 1).prot = s.prot := by
  have hlog (t : State) (x : Ms) : { t with ms := x }.prot = t.prot := State.prot_congr_regs rfl rfl
  unfold State.memError
  extract_lets m s1 src s2 _ _ _ _ e full log _ s3
  have h1 : s1.prot = s.prot := State.ite_prot (s.setBitOf_prot _ _ 0 0 (by decide)) (s.setBitOf_prot _ _ 0 0 (by decide))
  have h2 : s2.prot = s.prot := (s1.report_prot src).trans h1
  have h3 : s3.prot = s.prot := (hlog s2 _).trans h2
  rw [if_neg Nat.one_ne_zero]
  exact State.ite_prot ((s3.setFlag_prot _ _ 0 0 (by decide)).trans h3) h3

@[simp] theorem State.physWrite_prot (s : State) (init a : Nat) (d : List Byte) : (s.physWrite init a d).2.prot = s.prot := by
  unfold State.physWrite
  extract_lets n a' bad t
  split
  · exact s.gatedAccess_prot
  split
  · rfl
  split
  · exact s.unmapped_prot
  split
  · rfl
  split
  · exact s.report_prot 0xAC
  split
  · rw [State.setBytes_prot, State.unpoison_prot]
  · rw [State.foldl_prot fun s w => s.memError_uncorrectable_prot w init, State.setBytesBut_prot, State.unpoison_prot]

@[simp] theorem State.toPartner_prot (s : State) (x : PlbSent) : (s.toPartner x).prot = s.prot :=
  State.ite_prot (State.prot_congr_regs rfl rfl) rfl

@[simp] theorem State.discard_prot (s : State) (l : PfLine) : (s.discard l).prot = s.prot := by
  have hplb (t : State) (p : Plb) : { t with plb := p }.prot = t.prot := State.prot_congr_regs rfl rfl
  unfold State.discard
  extract_lets left _ s1 full _
  have h1 : s1.prot = s.prot := hplb s _
  split
  · exact h1
  · extract_lets ring s2 s3
    have h2 : s2.prot = s.prot := (hplb s1 _).trans h1
    have h3 : s3.prot = s.prot := State.ite_prot ((s2.setFlag_prot _ _ 0 0 (by decide)).trans h2) h2
    exact (s3.setFlag_prot _ _ 0 0 (by decide)).trans h3

@[simp] theorem State.outWrite_prot (s : State) (a : Nat) (d : List Byte) : (s.outWrite a d).2.prot = s.prot := by
  unfold State.outWrite
  split
  · exact s.gatedAccess_prot
  split
  · rfl
  split
  · exact s.unmapped_prot
  extract_lets o above t
  have ht : t.prot = s.prot := State.foldl_prot State.discard_prot above s
  split
  · rfl
  split
  split
  · exact (t.toPartner_prot _).trans ht
  split
  · exact (t.toPartner_prot _).trans ht
  · exact (State.foldl_prot (fun s e => s.toPartner_prot _) _ t).trans ht

/-! ### What leaves protection as it is: a function's write and a command's completion -/

theorem State.writePieces_prot (s : State) (init : Nat) (l : List (Nat × Nat)) (d : List Byte) :
    (s.writePieces init l d).2.prot = s.prot := by
  induction l generalizing s d with
  | nil => rfl
  | cons e l ih =>
    obtain ⟨a, n⟩ := e
    unfold State.writePieces
    extract_lets r
    have hr : r.2.prot = s.prot := by
      show (if _ then _ else _ : Bool × State).2.prot = _
      split
      · exact s.outWrite_prot a _
      · exact s.physWrite_prot init a _
    obtain ⟨ok, t⟩ := r
    cases ok <;> exact (ih ..).trans hr

theorem State.fnGate_prot (s : State) (fn : Nat) (write : Bool) (l : List (Nat × Nat)) :
    (s.fnGate fn write l).2.prot = s.prot := by
  induction l with
  | nil => rfl
  | cons e l ih =>
    unfold State.fnGate
    split
    · exact ih
    · exact s.gkEvent_prot _

theorem State.fnTranslate_prot (s : State) (fn a n : Nat) (write : Bool) : (s.fnTranslate fn a n write).2.prot = s.prot := by
  unfold State.fnTranslate
  split
  · rfl
  · next l _ =>
    have hgate := s.fnGate_prot fn write l
    generalize s.fnGate fn write l = r at hgate ⊢
    obtain ⟨ok, t⟩ := r
    cases ok <;> exact hgate

@[simp] theorem State.fnWrite_prot (s : State) (fn a : Nat) (d : List Byte) : (s.fnWrite fn a d).2.prot = s.prot := by
  have htrans := s.fnTranslate_prot fn a d.length true
  unfold State.fnWrite
  generalize s.fnTranslate fn a d.length true = r at htrans ⊢
  obtain ⟨_ | l, t⟩ := r
  · exact htrans
  · have hwrite := (t.writePieces_prot (0x40 + fn) l d).trans htrans
    dsimp only
    generalize t.writePieces (0x40 + fn) l d = r at hwrite ⊢
    obtain ⟨ok, u⟩ := r
    cases ok <;> exact hwrite

/-- SF_QPq_STATUS shares no address with PCS_STATE, whatever function and queue are named: it lies 28 bytes past a multiple
of 64. -/
theorem State.qpErr_prot (s : State) (fn q code : Nat) : (s.qpErr fn q code).prot = s.prot := by
  have haddr : PCS_STATE.addr 0 0 ≠ SF_QPq_STATUS.addr fn q := by
    simp only [Reg.addr, PCS_STATE, SF_QPq_STATUS]; omega
  rw [State.qpErr, State.sfEvt_prot, State.set_prot _ _ _ _ _ haddr]

theorem State.writeCompletion_prot (s : State) (c : Cmd) (status result : Nat) :
    (s.writeCompletion c status result).prot = s.prot := by
  unfold State.writeCompletion
  extract_lets x d base b t wrap x'
  have hwr : (t.fnWrite c.fn (base + 16 * x.cqTail) b).2.prot = s.prot := by rw [State.fnWrite_prot, State.count_prot]
  split
  · next u hu =>
    rw [hu] at hwr
    rw [State.qpErr_prot, State.setQp_prot, hwr]
  · next u hu =>
    rw [hu] at hwr
    extract_lets v id
    have hv : v.prot = s.prot := (u.setQp_prot ..).trans hwr
    split
    · rw [State.msi_prot, hv]
    · exact hv

/-- SF_MBX_STATUS shares no address with PCS_STATE, whatever function is named: their last twelve bits differ. -/
theorem State.writeMailbox_prot (s : State) (c : Cmd) (status result : Nat) : (s.writeMailbox c status result).prot = s.prot := by
  have haddr : PCS_STATE.addr 0 0 ≠ SF_MBX_STATUS_BUSY.reg.addr c.fn 0 := by
    simp only [Reg.addr, PCS_STATE, SF_MBX_STATUS_BUSY, SF_MBX_STATUS]; omega
  unfold State.writeMailbox
  extract_lets f b t u v
  rw [State.msi_prot, State.setFlag_prot _ _ _ _ _ haddr, State.setFn_prot, State.count_prot]

theorem State.retire_prot (s : State) (c : Cmd) : (s.retire c).prot = s.prot := by
  unfold State.retire
  exact (State.setFn_prot ..).trans (State.prot_congr_regs rfl rfl)

@[simp] theorem State.complete_prot (s : State) (seq status result : Nat) : (s.complete seq status result).prot = s.prot := by
  unfold State.complete
  split
  · rfl
  split
  · exact s.mapCmds_prot _
  · rw [State.retire_prot]
    split
    · rfl
    split
    · exact s.writeMailbox_prot ..
    · exact s.writeCompletion_prot ..

@[simp] theorem State.finish_prot (s : State) (seq : Nat) (r : Res) : (s.finish seq r).prot = s.prot := by
  unfold State.finish
  split
  · exact s.complete_prot ..
  · exact (State.complete_prot ..).trans s.freeNat_prot

/-! ### Removals at a fast tick -/

theorem State.peTrack_prot (s : State) : s.peTrack.prot = s.prot := State.prot_congr_regs rfl rfl

theorem State.removeInst_prot (s : State) (h : Nat) : (s.removeInst h).prot = s.prot := by
  unfold State.removeInst State.bumpGen
  rw [State.peTrack_prot, State.set_prot _ _ _ _ _ (by decide)]
  exact State.prot_congr_regs rfl rfl

theorem State.deletesDue_prot (s : State) : s.deletesDue.prot = s.prot := by
  unfold State.deletesDue
  split
  · rfl
  · refine State.each_prot (fun t c => ?_) s _
    split
    · exact t.finish_prot ..
    split
    · exact t.finish_prot ..
    · rw [State.complete_prot, State.removeInst_prot]

theorem State.pruneWindows_prot (s : State) (k : Nat) : (s.pruneWindows k).prot = s.prot := State.prot_congr_regs rfl rfl

/-! ### Ingest handles -/

theorem exec_ingestStale (h : Nat) (s : State) : exec (.ingestStale h) s = s.ends (s.ingestStale h) := rfl
theorem exec_fastTick (s : State) : exec .fastTick s = s.ends s.fastTick := rfl

theorem State.ingestStale_open {s : State} {h : Nat} {x : Ing} (hx : nfind s.pe.ings h = some x) :
    s.ingestStale h = if 64 ≤ x.idle then s.setFlag PE_INGh_STATUS_STALE true h else s := by
  rw [State.ingestStale, hx]

/-- Each fast tick counts one more tick without a sample, up to 64. -/
theorem State.pruneWindows_idle (s : State) (k h : Nat) :
    (nfind (s.pruneWindows k).pe.ings h).map Ing.idle = (nfind s.pe.ings h).map fun x => min 64 (x.idle + 1) := by
  simp only [State.pruneWindows, nfind_nmap, Option.map_map]
  rfl

/-- A sample within the limits of R162 is accepted: it leaves the handle's flag clear and its count at 0. -/
theorem State.ingSample_accepted {s : State} {h : Nat} {x : Ing} (hx : nfind s.pe.ings h = some x) {t : Nat}
    (hold : s.td0 / 10000 * 10000 ≤ t + 640000) (hnew : t ≤ s.td0 + 1000) (i w q : Nat) (v : Int) (ok : Bool) :
    (s.ingSample h i t w v q ok).flag PE_INGh_STATUS_STALE h = false ∧
      (nfind (s.ingSample h i t w v q ok).pe.ings h).map Ing.idle = some 0 := by
  unfold State.ingSample
  simp only [hx, if_neg (Nat.not_lt.mpr hold), if_neg (Nat.not_lt.mpr hnew)]
  refine ⟨State.flag_setFlag_same _ rfl (by decide) false h 0, ?_⟩
  rw [State.setFlag_pe, State.setIng, nfind_nset, if_pos rfl]
  rfl

/-- Before protection is active, a fast tick counts, ages the windows and carries out the removals due. -/
theorem State.fastTick_inactive {s : State} (hgrid : s.atGrid = true) (hnew : s.peTickNo ≠ s.tbu.grid)
    (hprot : s.prot = false) :
    s.fastTick = (((s.wr PE_TICK_LO (w32 s.tbu.grid)).wr PE_TICK_HI (w32 (s.tbu.grid / 4294967296))).pruneWindows
      s.tbu.grid).deletesDue := by
  unfold State.fastTick
  extract_lets k t u
  have hu : u.prot = false := by
    rw [State.deletesDue_prot, State.pruneWindows_prot, State.wr_prot _ _ _ _ _ (by decide),
      State.wr_prot _ _ _ _ _ (by decide), hprot]
  rw [if_neg (by simp [hgrid, k, hnew]), if_pos (by simp [hu])]

/-! ### The statement -/

/-- Settles O17: the count of ticks decides, an accepted sample starts it anew, a fast tick moves it on. -/
theorem ingestStale : Obligations.IngestStale := by
  intro s h x hx
  refine ⟨fun hidle => ?stale, fun hidle => ?fresh, fun i t w q v ok hold hnew => ?sample, fun k => ?tick,
    fun hgrid hnew hprot => ?inactive⟩
  case stale => rw [exec_ingestStale, State.ingestStale_open hx, if_pos hidle]; rfl
  case fresh => rw [exec_ingestStale, State.ingestStale_open hx, if_neg (Nat.not_le.mpr hidle)]; rfl
  case sample => exact State.ingSample_accepted hx hold hnew i w q v ok
  case tick => rw [State.pruneWindows_idle, hx]; rfl
  case inactive => rw [exec_fastTick, State.fastTick_inactive hgrid hnew hprot]; rfl

end Sys2Proof.Machine
end

section
/-! Chapter 06: writes of a mailbox and the command they form (R232). What a map reads after two writes of one key comes first,
then the mailbox of a function, then its registers on the bus, then the fetch, then the statement. -/

namespace Sys2Proof.Machine

/-! ### Two writes of one key -/

/-- A second write of a key leaves nothing of the first. -/
theorem nset_nset {α : Type} (m : NMap α) (k : Nat) (v w : α) : nset (nset m k v) k w = nset m k w := by
  induction m with
  | nil => simp [nset]
  | cons e m ih =>
    obtain ⟨j, u⟩ := e
    by_cases hlt : k < j
    · simp [nset, hlt]
    by_cases heq : k = j
    · simp [nset, heq]
    · simp [nset, hlt, heq, ih]

/-- Erasing a key erases what was just written there. -/
theorem nerase_nset {α : Type} (m : NMap α) (k : Nat) (v : α) : nerase (nset m k v) k = nerase m k := by
  induction m with
  | nil => simp [nset, nerase]
  | cons e m ih =>
    obtain ⟨j, u⟩ := e
    by_cases hlt : k < j
    · simp [nset, nerase, hlt]
    by_cases heq : k = j
    · simp [nset, nerase, heq]
    · simp [nset, nerase, hlt, heq, ih]

/-- The second of two writes of a function stands alone. The first is not the default, so that it lists the function: where it
erased it instead, a map with unordered keys could end in another order. -/
theorem State.setFn_setFn (s : State) (n : Nat) {f : Fn} (hf : f ≠ {}) (g : Fn) : (s.setFn n f).setFn n g = s.setFn n g := by
  simp only [State.setFn, nput, if_neg hf, nset_nset, nerase_nset]

/-! ### A write of a mailbox word (R232) -/

/-- While the mailbox is BUSY the word is dropped and OVERWRITE set. -/
theorem State.writeMbxCmd_busy {s : State} {fn : Nat} (hbusy : s.flag SF_MBX_STATUS_BUSY fn = true) (w : Nat) (v : Word) :
    s.writeMbxCmd fn w v = s.setFlag SF_MBX_STATUS_OVERWRITE true fn := by
  rw [State.writeMbxCmd, if_pos hbusy]

/-- A word below the last is held. -/
theorem State.writeMbxCmd_held {s : State} {fn w : Nat} (hfree : s.flag SF_MBX_STATUS_BUSY fn = false) (hw : w ≠ 15) (v : Word) :
    s.writeMbxCmd fn w v =
      s.setFn fn { s.fn fn with mbx := { (s.fn fn).mbx with words := (s.fn fn).mbx.words.set w v } } := by
  simp [State.writeMbxCmd, hfree, hw]

/-- The last word submits: the mailbox is BUSY and waits for its fetch. -/
theorem State.writeMbxCmd_submit {s : State} {fn : Nat} (hfree : s.flag SF_MBX_STATUS_BUSY fn = false) (v : Word) :
    s.writeMbxCmd fn 15 v =
      (s.setFn fn { s.fn fn with mbx := { (s.fn fn).mbx with
        words := (s.fn fn).mbx.words.set 15 v, st := .busy, sent := true } }).setFlag SF_MBX_STATUS_BUSY true fn := by
  simp [State.writeMbxCmd, hfree]

@[simp] theorem State.writeMbxCmd_coreRuns (s : State) (fn w : Nat) (v : Word) :
    (s.writeMbxCmd fn w v).coreRuns = s.coreRuns := by
  unfold State.writeMbxCmd
  extract_lets f m
  split
  · exact s.setFlag_coreRuns ..
  split
  · exact s.setFn_coreRuns ..
  · rw [State.setFlag_coreRuns, State.setFn_coreRuns]

/-! ### The mailbox's command words on the bus -/

theorem mem_slotRegs_mbxCmd : SF_MBX_CMDw ∈ slotRegs 2 := by decide

theorem inSlot_mbxCmd : SF_MBX_CMDw.inSlot 2 = true := by decide

/-- The command words lie below the message areas of the FBC. -/
theorem isBuffer_mbxCmd {fn w : Nat} (hfn : fn < 64) (hw : w < 16) : isBuffer (SF_MBX_CMDw.addr fn w) = false := by
  have hbelow : ¬ 0x47100000 ≤ SF_MBX_CMDw.addr fn w := by simp only [Reg.addr, SF_MBX_CMDw]; omega
  simp [isBuffer, inArea, hbelow]

/-- A write within the line's indices is the write at that address. -/
theorem State.rowWrite_eq_answerWrite (s : State) (i : Init) (r : Reg) (v : Word) {x j : Nat} (hx : x < r.n1) (hj : j < r.n2) :
    s.rowWrite i r v x j = s.answerWrite i (r.addr x j) (leBytes 4 v.toNat) := by
  simp [State.rowWrite, hx, hj]

theorem State.writeReg_mbxCmd (s : State) (i : Init) {fn w : Nat} (hfn : fn < 64) (hw : w < 16) (v : Word) :
    s.writeReg i SF_MBX_CMDw (SF_MBX_CMDw.addr fn w) fn w v = s.writeMbxCmd fn w v := by
  have hslot : slotOf (SF_MBX_CMDw.addr fn w) = some 2 := Reg.slotOf_addr inSlot_mbxCmd hfn hw
  simp only [State.writeReg, hslot, if_true]
  exact if_neg (by decide)

/-- A write that reaches a command word has the mailbox's effect, and its initiator gets the answer. -/
theorem rowWrite_mbxCmd {s : State} {a : Init} {fn w : Nat} (hfn : fn < 64) (hw : w < 16)
    (hreach : s.reaches a SF_MBX_CMDw fn w true = true) (v : Word) :
    s.rowWrite a SF_MBX_CMDw v fn w = (s.writeMbxCmd fn w v).answer (some []) := by
  rw [rowWrite_reaches (by decide) mem_slotRegs_mbxCmd inSlot_mbxCmd (by decide) (by decide) (isBuffer_mbxCmd hfn hw) hfn hw v
    hreach, State.writeReg_mbxCmd s a hfn hw]
  simp [reaches_runs hreach]

theorem exec_mbxSubmit (a : Init) (fn : Nat) (v : Word) (s : State) :
    exec (.mbxSubmit a fn v) s = s.ends (s.rowWrite a SF_MBX_CMDw v fn 15) := rfl
theorem exec_registerWrite (a : Init) (addr : Nat) (v : Word) (s : State) :
    exec (.registerWrite a addr v) s = s.ends (s.answerWrite a addr (leBytes 4 v.toNat)) := rfl
theorem exec_descriptorFetch (s : State) : exec .descriptorFetch s = s.ends s.fetch := rfl

/-- REGISTER_WRITE of a command word. -/
theorem exec_registerWrite_mbxCmd {s : State} {a : Init} {fn w : Nat} (hfn : fn < 64) (hw : w < 16)
    (hreach : s.reaches a SF_MBX_CMDw fn w true = true) (v : Word) :
    exec (.registerWrite a (SF_MBX_CMDw.addr fn w) v) s = s.ends ((s.writeMbxCmd fn w v).answer (some [])) := by
  rw [exec_registerWrite, ← State.rowWrite_eq_answerWrite s a SF_MBX_CMDw v hfn hw, rowWrite_mbxCmd hfn hw hreach]

/-! ### The fetch of a mailbox's command (R225, R232) -/

/-- A function whose queue `q` the round has just served, at high or at low priority. -/
def Fn.served (f : Fn) (q : Nat) (hi : Bool) : Fn := if hi then { f with rrHi := q } else { f with rrLo := q }

@[simp] theorem Fn.served_mbx (f : Fn) (q : Nat) (hi : Bool) : (f.served q hi).mbx = f.mbx := by cases hi <;> rfl

/-- Serving the mailbox leaves its number, 8, behind: the function is listed from then on. -/
theorem Fn.served_mailbox_ne (f : Fn) (hi : Bool) : f.served 8 hi ≠ {} := by
  cases hi
  · exact fun h => absurd (congrArg Fn.rrLo h) (by simp [Fn.served])
  · exact fun h => absurd (congrArg Fn.rrHi h) (by simp [Fn.served])

/-- Where the mailbox is next in the round, its words as they stand enter flight, and it has nothing more to fetch. -/
theorem State.fetch_mailbox {s : State} {fn : Nat} {hi : Bool} (hnext : s.nextFn = some (fn, 8, hi)) :
    s.fetch = (({ s with sf := { s.sf with rrFn := fn } } : State).setFn fn
        { (s.fn fn).served 8 hi with mbx := { (s.fn fn).mbx with sent := false } }).enter fn 8
      (descOf ((s.fn fn).mbx.words.flatMap fun w => leBytes 4 w.toNat)) := by
  have hfetch : s.fetch =
      (let t := ({ s with sf := { s.sf with rrFn := fn } } : State).setFn fn ((s.fn fn).served 8 hi)
       (t.setFn fn { t.fn fn with mbx := { (t.fn fn).mbx with sent := false } }).enter fn 8
        (descOf ((t.fn fn).mbx.words.flatMap fun w => leBytes 4 w.toNat))) := by
    rw [State.fetch, hnext]
    rfl
  rw [hfetch]
  simp only [State.fn_setFn_same, Fn.served_mbx, State.setFn_setFn _ _ (Fn.served_mailbox_ne _ _)]

/-! ### The statement -/

/-- Settles O18: each write has the one effect of `State.writeMbxCmd`, and the fetch takes the words where they stand. -/
theorem mailboxWords : Obligations.MailboxWords := by
  intro s a fn w v hfn hw hreach
  refine ⟨fun hbusy => ?busy, fun hfree hlow => ?held, fun hfree hlast => ?submit, fun hi hnext => ?fetch⟩
  case busy => rw [exec_registerWrite_mbxCmd hfn hw hreach, State.writeMbxCmd_busy hbusy]; rfl
  case held => rw [exec_registerWrite_mbxCmd hfn hw hreach, State.writeMbxCmd_held hfree hlow.ne]; rfl
  case submit =>
    subst hlast
    rw [exec_mbxSubmit, rowWrite_mbxCmd hfn hw hreach, State.writeMbxCmd_submit hfree]; rfl
  case fetch => rw [exec_descriptorFetch, State.fetch_mailbox hnext, Fn.served]; cases hi <;> rfl

end Sys2Proof.Machine
end

section
/-! Chapter 08: the message interrupt of a guest queue (R303). What a write-back notes comes first, then what the grid point
makes of it, then the statement. -/

namespace Sys2Proof.Machine

/-! ### The instant a write-back notes -/

/-- A change of one queue is read at that queue alone. -/
@[simp] theorem State.ethq_modEthq (s : State) (q r : Nat) (f : EthQ → EthQ) :
    (s.modEthq q f).ethq r = if r = q then f (s.ethq q) else s.ethq r :=
  ngetD_nput ..

/-- A queue without an identity notes nothing. -/
theorem State.qWroteBack_of_silent {s : State} {q : Nat} (hid : s.get ESW_Qq_CFG_IDENTITY 0 q = 0) : s.qWroteBack q = s := by
  rw [State.qWroteBack, if_pos hid]

/-- A queue with an identity notes the instant of the first write-back, and a later one leaves it standing. -/
theorem State.qWroteBack_irq {s : State} {q : Nat} (hid : s.get ESW_Qq_CFG_IDENTITY 0 q ≠ 0) :
    ((s.qWroteBack q).ethq q).irq = some ((s.ethq q).irq.getD s.now) := by
  rw [State.qWroteBack, if_neg hid, State.ethq_modEthq, if_pos rfl]

/-! ### The grid point -/

theorem exec_queueInterrupt (q : Nat) (s : State) : exec (.queueInterrupt q) s = s.ends (s.queueIrq q) := rfl

/-- Without a write-back there is nothing to send. -/
theorem State.queueIrq_none {s : State} {q : Nat} (hirq : (s.ethq q).irq = none) : s.queueIrq q = s := by
  rw [State.queueIrq, hirq]

/-- Between grid points, and at one no later than the write-back, the interrupt waits. -/
theorem State.queueIrq_waits {s : State} {q t : Nat} (hirq : (s.ethq q).irq = some t) (hwait : s.atGrid = false ∨ s.now ≤ t) :
    s.queueIrq q = s := by
  have hdue : ¬ (s.atGrid = true ∧ t < s.now) := by
    rcases hwait with h | h <;> simp [h]
  simp only [State.queueIrq, hirq, if_pos hdue]

/-- At a grid point after the write-back the note is taken away and the message is sent; taking it away leaves the owner, its
file and the identity as they were. -/
theorem State.queueIrq_sends {s : State} {q t : Nat} (hirq : (s.ethq q).irq = some t) (hgrid : s.atGrid = true)
    (hlate : t < s.now) :
    s.queueIrq q =
      (s.modEthq q fun x => { x with irq := none }).msi (s.fnFile (s.qOwner q)) (s.get ESW_Qq_CFG_IDENTITY 0 q) := by
  simp only [State.queueIrq, hirq, if_neg (not_not_intro (And.intro hgrid hlate))]
  rfl

/-! ### The statement -/

/-- Settles O19: the first write-back decides the instant, and the first grid point after it sends the one message. -/
theorem queueInterrupts : Obligations.QueueInterrupts := by
  intro s q
  refine ⟨fun hid => ?silent, fun hid hirq => ?first, fun t hid hirq => ?shared, fun t hirq hgrid hlate => ?sent,
    fun t hirq hwait => ?waits, fun hirq => ?nothing⟩
  case silent => exact State.qWroteBack_of_silent hid
  case first => rw [State.qWroteBack_irq hid, hirq, Option.getD_none]
  case shared => rw [State.qWroteBack_irq hid, hirq, Option.getD_some]
  case sent => rw [exec_queueInterrupt, State.queueIrq_sends hirq hgrid hlate]; rfl
  case waits => rw [exec_queueInterrupt, State.queueIrq_waits hirq hwait]; rfl
  case nothing => rw [exec_queueInterrupt, State.queueIrq_none hirq]; rfl

end Sys2Proof.Machine
end

section
/-! Chapter 09: the increment of a time domain (R309) and the read of the stamp queue (R324). The slot of the time bases on
the bus comes first, then the write of INC, then what a tick adds, then the oldest stamp entry, then the two statements. -/

namespace Sys2Proof.Machine

/-! ### The slot of the time bases on the bus -/

/-- The message areas of the FBC begin at 0x47100000. -/
theorem isBuffer_of_lt {a : Nat} (h : a < 0x47100000) : isBuffer a = false := by
  have harea : inArea a = false := decide_eq_false (by omega)
  rw [isBuffer, harea, Bool.false_and]

theorem mem_slotRegs_incNs : TBU_TDd_INC_NS ∈ slotRegs 5 := by decide

theorem inSlot_incNs : TBU_TDd_INC_NS.inSlot 5 = true := by decide

theorem mem_slotRegs_tsqInfo : TBU_TSQ_INFO ∈ slotRegs 5 := by decide

theorem inSlot_tsqInfo : TBU_TSQ_INFO.inSlot 5 = true := by decide

theorem isBuffer_incNs {d : Nat} (hd : d < 4) : isBuffer (TBU_TDd_INC_NS.addr d 0) = false :=
  isBuffer_of_lt (by simp only [Reg.addr, TBU_TDd_INC_NS]; omega)

theorem isBuffer_tsqInfo : isBuffer (TBU_TSQ_INFO.addr 0 0) = false := isBuffer_of_lt (by decide)

/-- INC_FRAC lies one word below INC_NS. -/
theorem incNs_addr (d : Nat) : TBU_TDd_INC_NS.addr d 0 = TBU_TDd_INC_FRAC.addr d 0 + 4 := by
  simp only [Reg.addr, TBU_TDd_INC_NS, TBU_TDd_INC_FRAC]; omega

/-- INC is one value of two words, the lower of them INC_FRAC (R13). -/
theorem group_incNs (d : Nat) : TBU_TDd_INC_NS.group (TBU_TDd_INC_NS.addr d 0) 0 = (TBU_TDd_INC_FRAC.addr d 0, 2) := by
  rw [incNs_addr]; rfl

/-! ### The write of INC (R309) -/

/-- An increment within ±1000 ppm is the domain's from now on, and refreshes it. -/
theorem State.tdInc_accepted {inc : Nat} (hin : 1998 * fracOne ≤ inc * 1000 ∧ inc * 1000 ≤ 2002 * fracOne) (s : State)
    (d : Nat) : s.tdInc d inc = (s.setTd d { s.td d with inc := inc }).refresh d :=
  if_pos hin

/-- Any other sets INC_REFUSED and nothing else. -/
theorem State.tdInc_refused {inc : Nat} (hout : ¬ (1998 * fracOne ≤ inc * 1000 ∧ inc * 1000 ≤ 2002 * fracOne)) (s : State)
    (d : Nat) : s.tdInc d inc = s.setBitOf TBU_EVT_INC_REFUSED d :=
  if_neg hout

@[simp] theorem State.refresh_coreRuns (s : State) (d : Nat) : (s.refresh d).coreRuns = s.coreRuns := s.setTd_coreRuns ..

@[simp] theorem State.dropHold_coreRuns (s : State) (a : Init) (low : Nat) : (s.dropHold a low).coreRuns = s.coreRuns := rfl

@[simp] theorem State.tdInc_coreRuns (s : State) (d inc : Nat) : (s.tdInc d inc).coreRuns = s.coreRuns := by
  unfold State.tdInc
  split
  · rw [State.refresh_coreRuns, State.setTd_coreRuns]
  · exact s.setBitOf_coreRuns ..

@[simp] theorem State.dropHold_td (s : State) (a : Init) (low d : Nat) : (s.dropHold a low).td d = s.td d := rfl

@[simp] theorem State.setBitOf_td (s : State) (f : Fld) (k i j d : Nat) : (s.setBitOf f k i j).td d = s.td d := rfl

/-- A write of INC_NS makes one value of the fraction held for its initiator and of its own four bits. -/
theorem State.writeValue_incNs (s : State) (low d : Nat) (f v : Word) :
    s.writeValue TBU_TDd_INC_NS low d 0 [f, v] = s.tdInc d (f.toNat + v.toNat % 16 * 4294967296) := by
  rw [State.writeValue, if_neg (by decide), if_neg (by decide), if_pos rfl]
  simp only [List.getD_cons_zero, List.getD_cons_succ]

/-- A write that reaches INC_NS consumes the held fraction and offers the value to the domain. -/
theorem rowWrite_incNs {s : State} {a : Init} {d : Nat} {f : Word} (hd : d < 4)
    (hreach : s.reaches a TBU_TDd_INC_NS d 0 true = true)
    (hheld : s.heldWords a.id.toNat (TBU_TDd_INC_FRAC.addr d 0) [0] = [f]) (v : Word) :
    s.rowWrite a TBU_TDd_INC_NS v d =
      ((s.dropHold a (TBU_TDd_INC_FRAC.addr d 0)).tdInc d (f.toNat + v.toNat % 16 * 4294967296)).answer (some []) := by
  have hpos : (TBU_TDd_INC_NS.addr d 0 - TBU_TDd_INC_FRAC.addr d 0) / 4 + 1 = 2 := by rw [incNs_addr]; omega
  rw [rowWrite_value (by decide) mem_slotRegs_incNs inSlot_incNs (by decide) (group_incNs d) (by decide) hpos
    (isBuffer_incNs hd) hd (by decide) v hreach]
  simp only [show List.range (2 - 1) = [0] from rfl, hheld, List.singleton_append, State.writeValue_incNs,
    State.tdInc_coreRuns, State.dropHold_coreRuns, reaches_runs hreach, if_true]

theorem exec_incWrite (a : Init) (d : Nat) (v : Word) (s : State) :
    exec (.incWrite a d v) s = s.ends (s.rowWrite a TBU_TDd_INC_NS v d) := rfl

/-! ### What a tick adds (R308) -/

/-- While the core die runs, each of `k` ticks adds INC to a domain, which wraps with its seconds; nothing else of it changes. -/
theorem State.ticks_td {s : State} {d : Nat} (hd : d < s.tbu.td.length) (hrun : s.coreRuns = true) (k : Nat) :
    (s.ticks k).td d = { s.td d with val := ((s.td d).val + k * (s.td d).inc) % tdWrap } := by
  have hmoved : ({ s with now := s.now + 2 * k } : State).coreRuns = true := hrun
  simp [State.ticks, hmoved, State.td, List.getD_eq_getElem?_getD, List.getElem?_eq_getElem hd]

/-! ### The oldest stamp entry (R323, R324) -/

/-- The stamp queue's window is one value of twenty words from INFO on (R13). -/
theorem valueOf_tsqInfo : valueOf TBU_TSQ_INFO (TBU_TSQ_INFO.addr 0 0) 0 = (TBU_TSQ_INFO.addr 0 0, 20) := rfl

theorem State.logHead_tsq_cons {s : State} {e : TsqEntry} {l : List TsqEntry} (hq : s.tbu.tsq = e :: l) :
    s.logHead (TBU_TSQ_INFO.addr 0 0) = some (tsqWords e, { s with tbu := { s.tbu with tsq := l } }) := by
  simp only [State.logHead, Reg.addr, TBU_TSQ_INFO, hq]

theorem State.logHead_tsq_nil {s : State} (hq : s.tbu.tsq = []) :
    s.logHead (TBU_TSQ_INFO.addr 0 0) = some (List.replicate 20 0, s) := by
  simp only [State.logHead, Reg.addr, TBU_TSQ_INFO, hq]

/-- The debug module is blind to counters and samples, not to the stamp queue (R466). -/
theorem State.blind_tsqInfo (s : State) (a : Init) : s.blind a TBU_TSQ_INFO 0 = false := by
  have hcounter : ¬ (TBU_TSQ_INFO.base = DBG_CNTe_LO.base ∨ TBU_TSQ_INFO.base = DBG_CNTe_HI.base) := by decide
  have hsample : ¬ (DBG_SMP_INFO.base ≤ TBU_TSQ_INFO.base ∧ TBU_TSQ_INFO.base < DBG_SMP_INFO.base + 20) := by decide
  rw [State.blind]
  cases s.dbg.samples <;> simp [hcounter, hsample]

/-- The words of an entry whose INFO word is not zero are told from those of an empty queue. -/
theorem tsqWords_not_all_zero {e : TsqEntry} (he : w32 e.info ≠ 0) : (tsqWords e).all (· == 0) = false := by
  have hinfo : (w32 e.info == 0) = false := beq_eq_false_iff_ne.mpr he
  simp only [tsqWords, List.cons_append, List.all_cons, hinfo, Bool.false_and]

/-- The oldest entry leaves the queue, its words stay latched for the reader, and INFO is the answer. -/
theorem rowRead_tsqInfo_cons {s : State} {a : Init} (hreach : s.reaches a TBU_TSQ_INFO 0 0 false = true) {e : TsqEntry}
    {l : List TsqEntry} (hq : s.tbu.tsq = e :: l) (he : w32 e.info ≠ 0) :
    s.rowRead a TBU_TSQ_INFO =
      (({ s with tbu := { s.tbu with tsq := l } } : State).latchFor a (TBU_TSQ_INFO.addr 0 0) (tsqWords e)).answer
        (some (leBytes 4 (w32 e.info).toNat)) := by
  rw [rowRead_log (by decide) mem_slotRegs_tsqInfo inSlot_tsqInfo valueOf_tsqInfo (by decide) (State.logHead_tsq_cons hq) rfl
    (s.blind_tsqInfo a) (by rw [tsqWords_not_all_zero he, Bool.and_false]) isBuffer_tsqInfo (by decide) (by decide) hreach]
  rfl

/-- Of an empty queue INFO reads zero, and the reader's latched words stay as they are. -/
theorem State.readReg_tsqInfo_nil {s : State} {a : Init} (hreach : s.reaches a TBU_TSQ_INFO 0 0 false = true)
    (hq : s.tbu.tsq = []) : s.readReg a (TBU_TSQ_INFO.addr 0 0) = (0, s) := by
  obtain ⟨-, -, -, -, hlive⟩ := reaches_parts hreach
  have hvalue : s.readValue a.secure TBU_TSQ_INFO (TBU_TSQ_INFO.addr 0 0) 20 0 = (List.replicate 20 0, s) := by
    rw [State.readValue, State.logHead_tsq_nil hq]
  have hclear : s.clearRead TBU_TSQ_INFO 0 0 = s := if_pos rfl
  have hworld : ¬ (TBU_TSQ_INFO.world = .S ∧ a.secure = false) := fun h => absurd h.1 (by decide)
  have hempty : (decide (TBU_TSQ_INFO.addr 0 0 = 0x45000040) && (List.replicate 20 (0 : Word)).all (· == 0)) = true := by decide
  rw [State.readReg, regAt_addr (by decide) mem_slotRegs_tsqInfo inSlot_tsqInfo (by decide) (by decide)]
  simp only [if_neg hworld, hlive, Bool.not_true, Bool.false_eq_true, if_false, valueOf_tsqInfo,
    if_neg (show ¬ 20 ≤ 1 by decide), if_true, State.blind_tsqInfo, hvalue, hclear]
  exact congrArg (Prod.mk 0) (if_pos hempty)

theorem rowRead_tsqInfo_nil {s : State} {a : Init} (hreach : s.reaches a TBU_TSQ_INFO 0 0 false = true)
    (hq : s.tbu.tsq = []) : s.rowRead a TBU_TSQ_INFO = s.answer (some (leBytes 4 0)) := by
  rw [rowRead_reaches (by decide) mem_slotRegs_tsqInfo inSlot_tsqInfo isBuffer_tsqInfo (by decide) (by decide) hreach,
    State.readReg_tsqInfo_nil hreach hq]
  rfl

theorem exec_tsqInfoRead (a : Init) (s : State) : exec (.tsqInfoRead a) s = s.ends (s.rowRead a TBU_TSQ_INFO) := rfl

/-! ### The statements -/

/-- Settles O20: the write of INC_NS ends in `State.tdInc`, whose one condition decides, and a tick adds the INC in force. -/
theorem timeIncrement : Obligations.TimeIncrement := by
  refine ⟨?nominal, fun s a d v f hd hreach hheld => ⟨fun hin => ?accepted, fun hout => ⟨?refused, ?kept⟩⟩,
    fun s d hd hlen hrun => ?tick⟩
  case nominal => decide
  case accepted =>
    rw [exec_incWrite, rowWrite_incNs hd hreach hheld, State.tdInc_accepted hin, State.dropHold_td]
    rfl
  case refused => rw [exec_incWrite, rowWrite_incNs hd hreach hheld, State.tdInc_refused hout]; rfl
  case kept => rw [State.setBitOf_td, State.dropHold_td]
  case tick => rw [State.ticks_td (hlen ▸ hd) hrun, Nat.one_mul]

/-- Settles O21: the read removes and latches the oldest entry, or finds none and leaves the state but for its answer. -/
theorem stampQueueRead : Obligations.StampQueueRead := by
  refine fun s a hreach => ⟨fun e l hq he => ?oldest, fun hq => ?empty⟩
  case oldest => rw [exec_tsqInfoRead, rowRead_tsqInfo_cons hreach hq he]; rfl
  case empty => rw [exec_tsqInfoRead, rowRead_tsqInfo_nil hreach hq]; rfl

end Sys2Proof.Machine
end

section
/-! Chapter 16: an active debug module keeps the device awake (R523). When the module is active comes first, then what that does
to the sleep condition (R494) and to PREPARE_SLEEP. -/

namespace Sys2Proof.Machine

/-! ### The active debug module (R523) -/

theorem State.dbgActive_iff (s : State) :
    s.dbgActive = true ↔ s.dbg.dmactive = true ∨ ∃ e ∈ s.cc.harts, e.2.halted = true := by
  rw [State.dbgActive, Bool.or_eq_true, List.any_eq_true]

/-! ### The sleep condition (R494) -/

/-- The debug module's part of the sleep condition. -/
theorem State.dbgActive_of_sleepCondition {s : State} (h : s.sleepCondition = true) : s.dbgActive = false := by
  rw [State.sleepCondition, Bool.and_eq_true] at h
  obtain ⟨-, hidle⟩ := h
  rwa [Bool.not_eq_true'] at hidle

theorem State.sleepCondition_of_dbgActive {s : State} (h : s.dbgActive = true) : s.sleepCondition = false :=
  Bool.eq_false_of_not_eq_true fun hsleep => Bool.false_ne_true (State.dbgActive_of_sleepCondition hsleep ▸ h)

/-! ### PREPARE_SLEEP -/

/-- Without the sleep condition PREPARE_SLEEP leaves the state, whatever the device's power state is. -/
theorem State.prepareSleep_of_not_sleepCondition {s : State} (h : s.sleepCondition = false) : s.prepareSleep = s := by
  rw [State.prepareSleep, if_pos (Or.inr (by rw [h, Bool.not_false]))]

theorem exec_prepareSleep (s : State) : exec .prepareSleep s = s.ends s.prepareSleep := rfl

/-! ### The statement -/

/-- Settles O22: the module's being active contradicts one part of the sleep condition, which PREPARE_SLEEP asks for. -/
theorem debugKeepsAwake : Obligations.DebugKeepsAwake := by
  refine fun s => ⟨s.dbgActive_iff, State.sleepCondition_of_dbgActive, fun hactive => ?stays⟩
  case stays =>
    have hcond : s.sleepCondition = false := State.sleepCondition_of_dbgActive hactive
    rw [exec_prepareSleep, State.prepareSleep_of_not_sleepCondition hcond, State.ends]

end Sys2Proof.Machine
end

section
/-! Every step keeps the invariant of ERR_N, debug and sleep (R482, R513, R525). Who is held, and by which right, rests on a few
parts of the state, its view; the lemmas come first that nothing that ends a command after the debugger's holds are dropped
changes that view, the frames that leave port M included. -/

namespace Sys2Proof.Machine

/-! ### What a debugger's hold rests on -/

/-- Everything that decides which hart a debugger may hold, and which is held: the boot and power state, the debug grants, the
lifecycle and the world map in force, the harts and the triggers. The configuration in force stands with them: what keeps the
view keeps it too. -/
def State.holdView (s : State) : Pcs × Option Nat × Nat × Nat × NMap Hart × NMap (Nat × Nat × Nat) × Cfg :=
  (s.pcs, s.sec.grants, s.get SEC_STATUS_LC, s.get SEC_WORLD_MAP_MAP, s.cc.harts, s.dbg.trig, s.cfg)

theorem State.wr_holdView (s : State) (r : Reg) (v : Word) (i j : Nat) (hlc : SEC_STATUS.addr 0 0 ≠ r.addr i j)
    (hmap : SEC_WORLD_MAP.addr 0 0 ≠ r.addr i j) : (s.wr r v i j).holdView = s.holdView := by
  have h1 : (s.wr r v i j).rd SEC_STATUS = s.rd SEC_STATUS := rd_wr_other s v hlc
  have h2 : (s.wr r v i j).rd SEC_WORLD_MAP = s.rd SEC_WORLD_MAP := rd_wr_other s v hmap
  simp [State.holdView, State.get, SEC_STATUS_LC, SEC_WORLD_MAP_MAP, h1, h2]

theorem State.set_holdView (s : State) (f : Fld) (v i j : Nat) (hlc : SEC_STATUS.addr 0 0 ≠ f.reg.addr i j)
    (hmap : SEC_WORLD_MAP.addr 0 0 ≠ f.reg.addr i j) : (s.set f v i j).holdView = s.holdView :=
  s.wr_holdView f.reg _ i j hlc hmap

theorem State.setFlag_holdView (s : State) (f : Fld) (b : Bool) (i j : Nat) (hlc : SEC_STATUS.addr 0 0 ≠ f.reg.addr i j)
    (hmap : SEC_WORLD_MAP.addr 0 0 ≠ f.reg.addr i j) : (s.setFlag f b i j).holdView = s.holdView :=
  s.set_holdView f _ i j hlc hmap

theorem State.setBitOf_holdView (s : State) (f : Fld) (k i j : Nat) (hlc : SEC_STATUS.addr 0 0 ≠ f.reg.addr i j)
    (hmap : SEC_WORLD_MAP.addr 0 0 ≠ f.reg.addr i j) : (s.setBitOf f k i j).holdView = s.holdView :=
  s.set_holdView f _ i j hlc hmap

/-- Putting a field leaves the bits below it. -/
theorem setBits_mod {n lo : Nat} (h : n ≤ lo) (v hi x : Nat) : setBits v hi lo x % 2 ^ n = v % 2 ^ n := by
  obtain ⟨d, rfl⟩ := Nat.exists_eq_add_of_le h
  have hle : 2 ^ n * (2 ^ d * bitsOf v hi (n + d)) ≤ v := by
    rw [← Nat.mul_assoc, ← Nat.pow_add]
    exact (Nat.mul_le_mul_left _ (Nat.mod_le _ _)).trans (Nat.mul_div_le _ _)
  rw [setBits, Nat.pow_add, Nat.mul_comm (bitsOf _ _ _), Nat.mul_comm (_ % _), Nat.mul_assoc, Nat.mul_assoc,
    Nat.add_mul_mod_self_left, Nat.sub_mul_mod hle]

/-- The fields of a guest queue's configuration that hardware puts lie above the lifecycle field, so that no queue number
brings them near it. -/
theorem State.set_queueCfg_holdView (s : State) (f : Fld) (v q : Nat) (hreg : f.reg = ESW_Qq_CFG) (hlo : 3 ≤ f.lo) :
    (s.set f v 0 q).holdView = s.holdView := by
  have hmap : SEC_WORLD_MAP.addr 0 0 ≠ f.reg.addr 0 q := by
    rw [hreg]; simp only [Reg.addr, SEC_WORLD_MAP, ESW_Qq_CFG]; omega
  have hlc : (s.set f v 0 q).get SEC_STATUS_LC = s.get SEC_STATUS_LC := by
    by_cases h : SEC_STATUS.addr 0 0 = f.reg.addr 0 q
    · have hrd : (s.set f v 0 q).rd SEC_STATUS = w32 (setBits (s.rd f.reg 0 q).toNat f.hi f.lo v) := by
        rw [State.set, rd_wr, if_pos h]
        split
        · next he => rw [he, hreg]; rfl
        · rfl
      have hold : s.rd f.reg 0 q = s.rd SEC_STATUS := by
        rw [State.rd, State.rd, h, hreg]; rfl
      simp only [State.get, SEC_STATUS_LC, bitsOf, hrd, hold, w32, BitVec.toNat_ofNat, Nat.pow_zero, Nat.div_one]
      rw [Nat.mod_mod_of_dvd _ (by decide)]
      exact setBits_mod hlo _ _ _
    · simp only [State.get, State.set, SEC_STATUS_LC, rd_wr_other s _ h]
  have hm : (s.set f v 0 q).get SEC_WORLD_MAP_MAP = s.get SEC_WORLD_MAP_MAP := by
    simp only [State.get, State.set, SEC_WORLD_MAP_MAP, rd_wr_other s _ hmap]
  simp only [State.holdView, hlc, hm, State.set_pcs, State.set_sec, State.set_cc, State.set_dbg, State.set_cfg]

theorem State.ite_keeps {β : Type} {p : State → β} {c : Prop} [Decidable c] {s t u : State} (ht : p t = p s)
    (hu : p u = p s) : p (if c then t else u) = p s := by
  split
  · exact ht
  · exact hu

theorem State.foldl_keeps {α β : Type} {p : State → β} {f : State → α → State} (hf : ∀ s a, p (f s a) = p s) (l : List α)
    (s : State) : p (l.foldl f s) = p s := by
  induction l generalizing s with
  | nil => rfl
  | cons a l ih => rw [List.foldl_cons, ih, hf]

theorem State.ite_holdView {c : Prop} [Decidable c] {s t u : State} (ht : t.holdView = s.holdView)
    (hu : u.holdView = s.holdView) : (if c then t else u).holdView = s.holdView := State.ite_keeps ht hu

theorem State.foldl_holdView {α : Type} {f : State → α → State} (hf : ∀ s a, (f s a).holdView = s.holdView) (l : List α)
    (s : State) : (l.foldl f s).holdView = s.holdView := State.foldl_keeps hf l s

/-! ### What an access to memory or to the partner leaves

Such an access leaves more than the view: the instant too, and the words in which hardware shows how far boot has come. -/

/-- The view, the instant, and the words of the power and fault registers that tell of boot. -/
def State.busView (s : State) :
    (Pcs × Option Nat × Nat × Nat × NMap Hart × NMap (Nat × Nat × Nat) × Cfg) × Nat × Word × Word :=
  (s.holdView, s.now, s.rd PCS_STATE, s.rd FCU_STATUS)

/-- The registers of which `busView` speaks. -/
def busViewRegs : List Reg := [SEC_STATUS, SEC_WORLD_MAP, PCS_STATE, FCU_STATUS]

theorem State.wr_busView (s : State) (r : Reg) (v : Word) (i j : Nat) (h : ∀ q ∈ busViewRegs, q.addr 0 0 ≠ r.addr i j) :
    (s.wr r v i j).busView = s.busView := by
  simp only [busViewRegs, List.forall_mem_cons] at h
  obtain ⟨hlc, hmap, hpcs, hfcu, -⟩ := h
  have hview := s.wr_holdView r v i j hlc hmap
  have hstate : (s.wr r v i j).rd PCS_STATE = s.rd PCS_STATE := rd_wr_other s v hpcs
  have hstatus : (s.wr r v i j).rd FCU_STATUS = s.rd FCU_STATUS := rd_wr_other s v hfcu
  rw [State.busView, State.busView, hview, hstate, hstatus]
  rfl

theorem State.setFlag_busView (s : State) (f : Fld) (b : Bool) (i j : Nat) (h : ∀ q ∈ busViewRegs, q.addr 0 0 ≠ f.reg.addr i j) :
    (s.setFlag f b i j).busView = s.busView :=
  s.wr_busView f.reg _ i j h

theorem State.setBitOf_busView (s : State) (f : Fld) (k i j : Nat) (h : ∀ q ∈ busViewRegs, q.addr 0 0 ≠ f.reg.addr i j) :
    (s.setBitOf f k i j).busView = s.busView :=
  s.wr_busView f.reg _ i j h

/-! ### Counts, reports and free values -/

@[simp] theorem State.bump_busView (s : State) (e n : Nat) : (s.bump e n).busView = s.busView := rfl
@[simp] theorem State.report_busView (s : State) (src : Nat) : (s.report src).busView = s.busView := rfl
@[simp] theorem State.setByte_busView (s : State) (a : Nat) (b : Byte) : (s.setByte a b).busView = s.busView := rfl
@[simp] theorem State.unpoison_busView (s : State) (a n : Nat) : (s.unpoison a n).busView = s.busView := rfl
@[simp] theorem State.freeNat_busView (s : State) : s.freeNat.2.busView = s.busView := rfl
@[simp] theorem State.freeBytes_busView (s : State) (n : Nat) : (s.freeBytes n).2.busView = s.busView := rfl

@[simp] theorem State.count_busView (s : State) (e n : Nat) : (s.count e n).busView = s.busView := by
  unfold State.count
  exact State.ite_keeps rfl (s.bump_busView e n)

@[simp] theorem State.countAccess_busView (s : State) (e init : Nat) (secure : Bool) (addr cls : Nat) :
    (s.countAccess e init secure addr cls).busView = s.busView := by
  unfold State.countAccess
  exact State.ite_keeps rfl (s.bump_busView e 1)

@[simp] theorem State.gatedAccess_busView (s : State) : s.gatedAccess.busView = s.busView :=
  s.setFlag_busView _ _ 0 0 (by decide)
@[simp] theorem State.unmapped_busView (s : State) : s.unmapped.busView = s.busView := s.report_busView 0x0C0
@[simp] theorem State.plbReport_busView (s : State) (k : Nat) : (s.plbReport k).busView = s.busView := s.report_busView _

@[simp] theorem State.gkEvent_busView (s : State) (e : GkEvent) : (s.gkEvent e).busView = s.busView := by
  unfold State.gkEvent
  extract_lets s1 full log _ s2 s3
  have h1 : s1.busView = s.busView := State.ite_keeps (s.countAccess_busView ..) rfl
  have h2 : s2.busView = s.busView := h1
  have h3 : s3.busView = s.busView :=
    State.ite_keeps ((s2.setFlag_busView _ _ 0 0 (by decide)).trans h2) h2
  exact (s3.setFlag_busView _ _ 0 0 (by decide)).trans h3

/-! ### Memory and the partner -/

@[simp] theorem State.setBytes_busView (s : State) (a : Nat) (d : List Byte) : (s.setBytes a d).busView = s.busView := by
  induction d generalizing s a with
  | nil => rfl
  | cons b d ih => rw [State.setBytes, ih, State.setByte_busView]

@[simp] theorem State.setBytesBut_busView (s : State) (skip : List Nat) (a : Nat) (d : List Byte) :
    (s.setBytesBut skip a d).busView = s.busView := by
  induction d generalizing s a with
  | nil => rfl
  | cons b d ih =>
    rw [State.setBytesBut, ih]
    exact State.ite_keeps rfl (s.setByte_busView a b)

theorem State.memError_uncorrectable_busView (s : State) (a init : Nat) : (s.memError a init 1).busView = s.busView := by
  unfold State.memError
  extract_lets m s1 src s2 _ _ _ _ e full log _ s3
  have h1 : s1.busView = s.busView := State.ite_keeps (s.setBitOf_busView _ _ 0 0 (by decide))
    (s.setBitOf_busView _ _ 0 0 (by decide))
  have h3 : s3.busView = s.busView := h1
  rw [if_neg Nat.one_ne_zero]
  exact State.ite_keeps ((s3.setFlag_busView _ _ 0 0 (by decide)).trans h3) h3

@[simp] theorem State.physWrite_busView (s : State) (init a : Nat) (d : List Byte) :
    (s.physWrite init a d).2.busView = s.busView := by
  unfold State.physWrite
  extract_lets n a' bad t
  split
  · exact s.gatedAccess_busView
  split
  · rfl
  split
  · exact s.unmapped_busView
  split
  · rfl
  split
  · exact s.report_busView 0xAC
  split
  · exact (State.setBytes_busView ..).trans (s.unpoison_busView ..)
  · rw [State.foldl_keeps fun s w => s.memError_uncorrectable_busView w init, State.setBytesBut_busView,
      State.unpoison_busView]

@[simp] theorem State.physRead_busView (s : State) (init a n : Nat) : (s.physRead init a n).2.busView = s.busView := by
  unfold State.physRead
  extract_lets a' bad
  split
  · exact s.gatedAccess_busView
  split
  · rfl
  split
  · exact s.unmapped_busView
  split
  · exact s.freeBytes_busView n
  split
  · exact s.memError_uncorrectable_busView _ init
  · rfl

@[simp] theorem State.toPartner_busView (s : State) (x : PlbSent) : (s.toPartner x).busView = s.busView :=
  State.ite_keeps rfl rfl

@[simp] theorem State.discard_busView (s : State) (l : PfLine) : (s.discard l).busView = s.busView := by
  unfold State.discard
  extract_lets left _ s1 full _
  have h1 : s1.busView = s.busView := rfl
  split
  · exact h1
  · extract_lets ring s2 s3
    have h2 : s2.busView = s.busView := h1
    have h3 : s3.busView = s.busView :=
      State.ite_keeps ((s2.setFlag_busView _ _ 0 0 (by decide)).trans h2) h2
    exact (s3.setFlag_busView _ _ 0 0 (by decide)).trans h3

@[simp] theorem State.outWrite_busView (s : State) (a : Nat) (d : List Byte) : (s.outWrite a d).2.busView = s.busView := by
  unfold State.outWrite
  split
  · exact s.gatedAccess_busView
  split
  · rfl
  split
  · exact s.unmapped_busView
  extract_lets o above t
  have ht : t.busView = s.busView := State.foldl_keeps State.discard_busView above s
  split
  · rfl
  split
  split
  · exact (t.toPartner_busView _).trans ht
  split
  · exact (t.toPartner_busView _).trans ht
  · exact (State.foldl_keeps (fun s e => s.toPartner_busView _) _ t).trans ht

@[simp] theorem State.askPartner_busView (s : State) (w : List Byte) (a n : Nat) :
    (s.askPartner w a n).busView = s.busView := by
  unfold State.askPartner
  exact State.ite_keeps (s.toPartner_busView _) (State.ite_keeps (s.toPartner_busView _)
    (State.foldl_keeps (fun s e => s.toPartner_busView _) _ s))

@[simp] theorem State.partnerAnswers_busView (s : State) (held : Bool) (n : Nat) :
    (s.partnerAnswers held n).2.busView = s.busView := by
  have hfree := s.freeNat_busView
  unfold State.partnerAnswers
  generalize s.freeNat = r at hfree ⊢
  obtain ⟨k, t⟩ := r
  dsimp only at hfree ⊢
  split
  · exact hfree
  split
  · exact hfree
  split
  · rw [State.plbReport_busView, State.setFlag_busView _ _ _ _ _ (by decide), hfree]
  · rw [State.plbReport_busView, State.setFlag_busView _ _ _ _ _ (by decide), hfree]

@[simp] theorem State.keepLine_busView (s : State) (w a n : Nat) (d : List Byte) :
    (s.keepLine w a n d).busView = s.busView := by
  unfold State.keepLine State.newLine
  refine State.ite_keeps ?_ rfl
  extract_lets t
  have ht : t.busView = s.busView := by
    refine State.ite_keeps rfl ?_
    split
    · exact s.discard_busView _
    · rfl
  exact ht

@[simp] theorem State.outRead_busView (s : State) (a n : Nat) : (s.outRead a n).2.busView = s.busView := by
  unfold State.outRead
  split
  · exact s.gatedAccess_busView
  split
  · rfl
  split
  · exact s.unmapped_busView
  next w r _ =>
    split
    · rfl
    split
    · exact s.plbReport_busView 3
    split
    · rw [State.partnerAnswers_busView, State.askPartner_busView]
    split
    · rfl
    · have hfetch : (s.fetchLen r a n).2.busView = s.busView := s.freeNat_busView
      generalize s.fetchLen r a n = x at hfetch ⊢
      obtain ⟨k, t⟩ := x
      have hans := ((t.askPartner r a k).partnerAnswers_busView false k).trans ((t.askPartner_busView r a k).trans hfetch)
      dsimp only
      generalize (t.askPartner r a k).partnerAnswers false k = y at hans ⊢
      obtain ⟨_ | d, u⟩ := y
      · exact hans
      · exact (u.keepLine_busView w a n d).trans hans

/-! ### A function's accesses -/

theorem State.readPieces_busView (s : State) (init : Nat) (l : List (Nat × Nat)) :
    (s.readPieces init l).2.busView = s.busView := by
  induction l generalizing s with
  | nil => rfl
  | cons e l ih =>
    obtain ⟨a, n⟩ := e
    unfold State.readPieces
    extract_lets r
    have hr : r.2.busView = s.busView := by
      show (if _ then _ else _ : Option (List Byte) × State).2.busView = _
      split
      · exact s.outRead_busView a n
      · exact s.physRead_busView init a n
    obtain ⟨_ | b, t⟩ := r
    · exact hr
    · have hrest := (ih t).trans hr
      dsimp only
      generalize t.readPieces init l = x at hrest ⊢
      obtain ⟨_ | c, u⟩ := x <;> exact hrest

theorem State.writePieces_busView (s : State) (init : Nat) (l : List (Nat × Nat)) (d : List Byte) :
    (s.writePieces init l d).2.busView = s.busView := by
  induction l generalizing s d with
  | nil => rfl
  | cons e l ih =>
    obtain ⟨a, n⟩ := e
    unfold State.writePieces
    extract_lets r
    have hr : r.2.busView = s.busView := by
      show (if _ then _ else _ : Bool × State).2.busView = _
      split
      · exact s.outWrite_busView a _
      · exact s.physWrite_busView init a _
    obtain ⟨ok, t⟩ := r
    cases ok <;> exact (ih ..).trans hr

theorem State.fnGate_busView (s : State) (fn : Nat) (write : Bool) (l : List (Nat × Nat)) :
    (s.fnGate fn write l).2.busView = s.busView := by
  induction l with
  | nil => rfl
  | cons e l ih =>
    unfold State.fnGate
    split
    · exact ih
    · exact s.gkEvent_busView _

theorem State.fnTranslate_busView (s : State) (fn a n : Nat) (write : Bool) :
    (s.fnTranslate fn a n write).2.busView = s.busView := by
  unfold State.fnTranslate
  split
  · rfl
  · next l _ =>
    have hgate := s.fnGate_busView fn write l
    generalize s.fnGate fn write l = r at hgate ⊢
    obtain ⟨ok, t⟩ := r
    cases ok <;> exact hgate

@[simp] theorem State.fnRead_busView (s : State) (fn a n : Nat) : (s.fnRead fn a n).2.busView = s.busView := by
  have htrans := s.fnTranslate_busView fn a n false
  unfold State.fnRead
  generalize s.fnTranslate fn a n false = r at htrans ⊢
  obtain ⟨_ | l, t⟩ := r
  · exact htrans
  · have hread := (t.readPieces_busView (0x40 + fn) l).trans htrans
    dsimp only
    generalize t.readPieces (0x40 + fn) l = r at hread ⊢
    obtain ⟨_ | b, u⟩ := r <;> exact hread

@[simp] theorem State.fnWrite_busView (s : State) (fn a : Nat) (d : List Byte) :
    (s.fnWrite fn a d).2.busView = s.busView := by
  have htrans := s.fnTranslate_busView fn a d.length true
  unfold State.fnWrite
  generalize s.fnTranslate fn a d.length true = r at htrans ⊢
  obtain ⟨_ | l, t⟩ := r
  · exact htrans
  · have hwrite := (t.writePieces_busView (0x40 + fn) l d).trans htrans
    dsimp only
    generalize t.writePieces (0x40 + fn) l d = r at hwrite ⊢
    obtain ⟨ok, u⟩ := r
    cases ok <;> exact hwrite

/-! #### The view is a part of it -/

@[simp] theorem State.bump_holdView (s : State) (e n : Nat) : (s.bump e n).holdView = s.holdView := rfl
@[simp] theorem State.report_holdView (s : State) (src : Nat) : (s.report src).holdView = s.holdView := rfl
@[simp] theorem State.setByte_holdView (s : State) (a : Nat) (b : Byte) : (s.setByte a b).holdView = s.holdView := rfl
@[simp] theorem State.unpoison_holdView (s : State) (a n : Nat) : (s.unpoison a n).holdView = s.holdView := rfl
@[simp] theorem State.freeNat_holdView (s : State) : s.freeNat.2.holdView = s.holdView := rfl
@[simp] theorem State.freeBytes_holdView (s : State) (n : Nat) : (s.freeBytes n).2.holdView = s.holdView := rfl
@[simp] theorem State.modPort_holdView (s : State) (p : Nat) (f : Port → Port) : (s.modPort p f).holdView = s.holdView := rfl
@[simp] theorem State.modEthq_holdView (s : State) (q : Nat) (f : EthQ → EthQ) : (s.modEthq q f).holdView = s.holdView := rfl
@[simp] theorem State.setStream_holdView (s : State) (h : Nat) (x : Stream) : (s.setStream h x).holdView = s.holdView := rfl
@[simp] theorem State.creditTo_holdView (s : State) (p : Nat) : (s.creditTo p).holdView = s.holdView := rfl

@[simp] theorem State.count_holdView (s : State) (e n : Nat) : (s.count e n).holdView = s.holdView :=
  congrArg Prod.fst (s.count_busView e n)
@[simp] theorem State.gkEvent_holdView (s : State) (e : GkEvent) : (s.gkEvent e).holdView = s.holdView :=
  congrArg Prod.fst (s.gkEvent_busView e)
@[simp] theorem State.fnRead_holdView (s : State) (fn a n : Nat) : (s.fnRead fn a n).2.holdView = s.holdView :=
  congrArg Prod.fst (s.fnRead_busView fn a n)
@[simp] theorem State.fnWrite_holdView (s : State) (fn a : Nat) (d : List Byte) : (s.fnWrite fn a d).2.holdView = s.holdView :=
  congrArg Prod.fst (s.fnWrite_busView fn a d)

/-! ### A frame that the device sends -/

/-- The counters of the twelve ports lie in the slot of the switch. -/
theorem State.cnt_holdView (s : State) {p c : Nat} (hp : p < 12) (hc : c < 32) (n : Nat) :
    (s.cnt p c n).holdView = s.holdView := by
  unfold State.cnt
  extract_lets v t
  have ht : t.holdView = s.holdView := State.ite_holdView (s.count_holdView _ n) rfl
  rw [State.wr_holdView, State.wr_holdView, ht] <;>
    simp only [Reg.addr, SEC_STATUS, SEC_WORLD_MAP, ESW_PORTp_CNTc_LO, ESW_PORTp_CNTc_HI] <;> omega

@[simp] theorem State.qStop_holdView (s : State) (q : Nat) : (s.qStop q).holdView = s.holdView := by
  unfold State.qStop
  rw [State.setFlag_holdView _ _ _ _ _ (by decide) (by decide), State.setFlag,
    State.set_queueCfg_holdView _ _ _ _ rfl (by decide), State.set_queueCfg_holdView _ _ _ _ rfl (by decide)]

@[simp] theorem State.qWroteBack_holdView (s : State) (q : Nat) : (s.qWroteBack q).holdView = s.holdView :=
  State.ite_holdView rfl (s.modEthq_holdView q _)

theorem State.deliverTo_holdView (s : State) (q : Nat) (f : EthFrame) : (s.deliverTo q f).2.holdView = s.holdView := by
  have hlost (t : State) : (t.cnt portH 16).holdView = t.holdView := t.cnt_holdView (by decide) (by decide) 1
  unfold State.deliverTo
  extract_lets x o data lost a k
  split
  · exact hlost s
  have hread := s.fnRead_holdView o a 16
  generalize s.fnRead o a 16 = r at hread ⊢
  obtain ⟨_ | d, t⟩ := r
  · exact (hlost _).trans ((t.qStop_holdView q).trans hread)
  dsimp only at hread ⊢
  split
  · exact (hlost t).trans hread
  have hdata := (t.fnWrite_holdView o (leAt d 0 8) data).trans hread
  generalize t.fnWrite o (leAt d 0 8) data = r at hdata ⊢
  obtain ⟨_ | _, u⟩ := r
  · exact (hlost _).trans ((u.qStop_holdView q).trans hdata)
  dsimp only
  generalize List.take 8 d ++ leBytes 2 data.length ++ [0, BitVec.ofNat 8 f.pcp] ++ leBytes 4 f.rxTd = b
  have hback := (u.fnWrite_holdView o a b).trans hdata
  generalize u.fnWrite o a b = r at hback ⊢
  obtain ⟨_ | _, v⟩ := r
  · exact (hlost _).trans ((v.qStop_holdView q).trans hback)
  · exact (State.qWroteBack_holdView _ q).trans hback

/-- A fold that carries an answer beside the state. -/
theorem State.foldl_pair_holdView {α : Type} {g : State → α → Bool × State} (l : List α)
    (hg : ∀ s, ∀ a ∈ l, (g s a).2.holdView = s.holdView) (x : Bool × State) :
    (l.foldl (fun (y : Bool × State) a => (y.1 || (g y.2 a).1, (g y.2 a).2)) x).2.holdView = x.2.holdView := by
  induction l generalizing x with
  | nil => rfl
  | cons a l ih =>
    rw [List.foldl_cons, ih fun s b hb => hg s b (List.mem_cons_of_mem a hb)]
    exact hg _ a List.mem_cons_self

theorem State.deliverH_holdView (s : State) (f : EthFrame) (qs : List Nat) :
    (s.deliverH f qs).2.holdView = s.holdView := by
  have hfold := State.foldl_pair_holdView qs (fun s q _ => s.deliverTo_holdView q f) (false, s)
  unfold State.deliverH
  dsimp only
  refine State.ite_holdView ?_ hfold
  rw [State.cnt_holdView _ (by decide) (by decide), State.cnt_holdView _ (by decide) (by decide)]
  exact hfold

theorem State.deliverM_holdView (s : State) (f : EthFrame) : (s.deliverM f).2.holdView = s.holdView := by
  unfold State.deliverM
  split
  · exact s.cnt_holdView (by decide) (by decide) 1
  split
  · exact s.cnt_holdView (by decide) (by decide) 1
  · dsimp only
    rw [State.cnt_holdView _ (by decide) (by decide), State.cnt_holdView _ (by decide) (by decide)]
    rfl

theorem State.storeFor_holdView (s : State) {p : Nat} (hp : p < 12) (f : EthFrame) :
    (s.storeFor p f).2.holdView = s.holdView := by
  unfold State.storeFor
  split
  · exact s.cnt_holdView hp (by decide) 1
  split
  · exact s.cnt_holdView hp (by decide) 1
  · rfl

theorem State.sendTo_holdView (s : State) (f : EthFrame) (m : Nat) : (s.sendTo f m).2.holdView = s.holdView := by
  have hports := State.foldl_pair_holdView (g := fun s p => s.storeFor p f) ((List.range 10).filter (bitOf m))
    (fun t p hp => t.storeFor_holdView ((List.mem_range.mp (List.mem_filter.mp hp).1).trans (by decide)) f) (false, s)
  unfold State.sendTo
  dsimp only
  generalize List.foldl _ (false, s) _ = x at hports ⊢
  obtain ⟨a, t⟩ := x
  dsimp only at hports ⊢
  have hguests : (if bitOf m 10 then t.deliverH f (t.queuesFor f) else (false, t)).2.holdView = s.holdView := by
    split
    · exact (t.deliverH_holdView f _).trans hports
    · exact hports
  generalize (if bitOf m 10 then t.deliverH f (t.queuesFor f) else (false, t)) = y at hguests ⊢
  obtain ⟨b, u⟩ := y
  dsimp only at hguests ⊢
  split
  · exact (u.deliverM_holdView f).trans hguests
  · exact hguests

theorem State.learn_holdView (s : State) (f : EthFrame) : (s.learn f).holdView = s.holdView := State.ite_holdView rfl rfl

/-- A frame that no guest queue sent. -/
theorem State.forward_holdView (s : State) {f : EthFrame} (hing : f.ing < 12) (hwb : f.wb = none) (n : Nat) (gen : Bool) :
    (s.forward f n gen).holdView = s.holdView := by
  unfold State.forward
  extract_lets t m down
  have ht : t.holdView = s.holdView := s.learn_holdView f
  have received (x : Bool × State) (hx : x.2.holdView = s.holdView) :
      (if x.1 then (x.2.cnt f.ing 0).cnt f.ing 1 n else x.2).holdView = s.holdView := by
    refine State.ite_holdView ?_ hx
    rw [State.cnt_holdView _ hing (by decide), State.cnt_holdView _ hing (by decide), hx]
  rw [hwb]
  split
  next stored u hx =>
    refine received (stored, u) ?_
    split at hx
    · rw [← hx]; exact (t.deliverH_holdView f _).trans ht
    · rw [← hx]; exact (t.sendTo_holdView f m).trans ht

theorem State.meterFrame_holdView (s : State) (k n : Nat) (dei : Bool) : (s.meterFrame k n dei).2.2.holdView = s.holdView := by
  unfold State.meterFrame
  split
  · rfl
  · extract_lets
    split_ifs <;> rfl

/-- The first filter that matches is one of the 256. -/
theorem State.filterOf_lt {s : State} {handle : Option Nat} {dst vid pcp i : Nat} {r : List Byte}
    (h : s.filterOf handle dst vid pcp = some (i, r)) : i < 256 := by
  obtain ⟨j, hj, hs⟩ := List.exists_of_findSome?_eq_some h
  split at hs
  · cases hs
  · extract_lets at hs
    split at hs <;> cases hs
    exact List.mem_range.mp hj

theorem State.policeFrame_holdView (s : State) {f : Option (Nat × List Byte)} (hf : ∀ i r, f = some (i, r) → i < 256)
    (sdu n : Nat) (dei : Bool) : (s.policeFrame f sdu n dei).2.2.holdView = s.holdView := by
  unfold State.policeFrame
  split
  · rfl
  next i r =>
    have hi := hf i r rfl
    split
    · rfl
    split
    · rw [State.setFlag_holdView _ _ _ _ _ (by decide) (by decide), State.setBitOf_holdView] <;>
        simp only [Reg.addr, SEC_STATUS, SEC_WORLD_MAP, ESW_SF_BLOCKEDw_BLOCKED, ESW_SF_BLOCKEDw] <;> omega
    split
    · rfl
    split
    · rfl
    · exact s.meterFrame_holdView _ n dei

/-- A frame enters the bridge at port M. -/
theorem State.ingress_holdView (s : State) (n : Nat) (b : List Byte) (exemptOk : Nat → Bool) :
    (s.ingress portM n b none none exemptOk []).holdView = s.holdView := by
  unfold State.ingress
  have hdrop (t : State) {c : Nat} (hc : c < 32) : ((t.cnt portM c).txRelease none 0 none).holdView = t.holdView :=
    t.cnt_holdView (by decide) hc 1
  extract_lets f drop done tagged seq
  have hdone (u : State) {e : EthFrame} {gen : Bool} (hing : e.ing = portM) (hwb : e.wb = none) :
      (done u e gen).holdView = u.holdView := u.forward_holdView (hing ▸ by decide) hwb n gen
  have hgen (u : State) (x : Esw) {e : EthFrame} {gen : Bool} (hing : e.ing = portM) (hwb : e.wb = none) :
      (done { u with esw := x } e gen).holdView = u.holdView := hdone { u with esw := x } hing hwb
  split
  next vid pcp dei _ =>
  split
  · exact hdrop s (by decide)
  split
  · exact hdrop s (by decide)
  extract_lets stream
  clear_value stream
  have hpol := s.policeFrame_holdView (fun i r => State.filterOf_lt (s := s) (handle := stream.map Prod.fst) (dst := f.dst)
    (vid := vid) (pcp := pcp)) f.body.length n dei
  generalize s.policeFrame (s.filterOf (stream.map Prod.fst) f.dst vid pcp) f.body.length n dei = r at hpol ⊢
  obtain ⟨bad, dei, t⟩ := r
  dsimp only at hpol ⊢
  split
  · exact (hdrop t (by decide)).trans hpol
  split
  · exact (hdone t rfl rfl).trans hpol
  split
  · exact (State.ite_holdView (hgen t _ rfl rfl) (hdone t rfl rfl)).trans hpol
  split
  · have hrecov (x : Esw) : ({ t with esw := x } : State).holdView = s.holdView := hpol
    split
    · exact (hdrop { t with esw := _ } (by decide)).trans (hrecov _)
    · exact (hdrop { t with esw := _ } (by decide)).trans (hrecov _)
    · exact (State.ite_holdView (hgen t _ rfl rfl) (hgen t _ rfl rfl)).trans hpol
  split
  · exact (State.ite_holdView (hgen t _ rfl rfl) (hdone t rfl rfl)).trans hpol
  · exact (hdrop t (by decide)).trans hpol

theorem State.mSend_holdView (s : State) (dst : Nat) (tag : Option Nat) (kind sid seq flags : Nat) (words : List Nat) :
    (s.mSend dst tag kind sid seq flags words).holdView = s.holdView := by
  unfold State.mSend State.mIngress
  exact State.ite_holdView rfl (State.ite_holdView (s.cnt_holdView (by decide) (by decide) 1) (s.ingress_holdView ..))

/-- The frames of measurement streams that waited for port M leave. -/
theorem State.streamsHand_holdView (s : State) : s.streamsHand.holdView = s.holdView := by
  refine State.foldl_holdView (fun t e => ?_) _ s
  unfold State.streamHand
  split
  · rfl
  · exact State.ite_holdView (t.mSend_holdView ..) rfl

/-! ### What ends a command -/

theorem State.msi_holdView (s : State) (a id : Nat) : (s.msi a id).holdView = s.holdView := State.ite_holdView rfl rfl

theorem State.setAplic_holdView (s : State) (sup : Bool) (x : Aplic) : (s.setAplic sup x).holdView = s.holdView :=
  State.ite_holdView rfl rfl

theorem State.aplicStep_holdView (s : State) : s.aplicStep.holdView = s.holdView := by
  refine State.foldl_holdView (fun t sup => State.foldl_holdView (fun u i => ?_) _ t) _ s
  have hsend (v : State) : (v.aplicSend sup i).holdView = v.holdView :=
    State.ite_holdView ((State.msi_holdView ..).trans (v.setAplic_holdView ..)) rfl
  exact (hsend _).trans (u.setAplic_holdView ..)

/-- No hart and no trigger is held by a debugger that may not hold it (R525). -/
def State.HeldByRight (s : State) : Prop :=
  (∀ h, ((s.hart h).halted || (s.hart h).haltReq) = true → s.invasive (s.hartSecure h) = true) ∧
  (∀ e ∈ s.dbg.trig, bitOf e.2.1 59 = true → s.invasive (s.hartSecure (e.1 / 16)) = true)

/-- Who is held, and by which right, rests on the view alone. -/
theorem State.invasive_congr {s t : State} (h : t.holdView = s.holdView) (secure : Bool) :
    t.invasive secure = s.invasive secure := by
  simp only [State.holdView, Prod.mk.injEq] at h
  obtain ⟨hpcs, hgrants, hlc, -⟩ := h
  simp only [State.invasive, State.dbgEn, State.powerUp, State.lc, coreRuns_congr hpcs, hpcs, hgrants, hlc]
  rfl

theorem State.hartSecure_congr {s t : State} (h : t.holdView = s.holdView) (n : Nat) : t.hartSecure n = s.hartSecure n := by
  simp only [State.holdView, Prod.mk.injEq] at h
  rw [State.hartSecure, State.hartSecure, h.2.2.2.1]

theorem State.HeldByRight.congr {s t : State} (h : t.holdView = s.holdView) (hs : s.HeldByRight) : t.HeldByRight := by
  have hinv := State.invasive_congr h
  have hsec := State.hartSecure_congr h
  simp only [State.holdView, Prod.mk.injEq] at h
  obtain ⟨-, -, -, -, hharts, htrig, -⟩ := h
  obtain ⟨hh, ht⟩ := hs
  constructor
  · intro n hn
    rw [hinv, hsec]
    exact hh n (by simpa only [State.hart, hharts] using hn)
  · rw [htrig]
    intro e he hb
    rw [hinv, hsec]
    exact ht e he hb

/-! ### The debugger's holds that have lost their right are dropped (R525) -/

theorem State.hart_modHart (s : State) (h n : Nat) (f : Hart → Hart) :
    (s.modHart h f).hart n = if n = h then f (s.hart h) else s.hart n := by
  unfold State.modHart State.hart; exact ngetD_nput {} s.cc.harts h n _

/-- A resume holds back nothing of its hart and leaves the others. -/
theorem State.hart_hartResume (s : State) (h n : Nat) :
    (s.hartResume h).hart n = if n = h then { s.hart h with halted := false, haltReq := false } else s.hart n :=
  s.hart_modHart h n fun x => { x with halted := false, haltReq := false }

/-- After resumes a hart is held only if it was before and is none of those resumed. -/
theorem State.held_each_hartResume {s : State} {l : List Nat} {n : Nat}
    (h : (((s.each l State.hartResume).hart n).halted || ((s.each l State.hartResume).hart n).haltReq) = true) :
    ((s.hart n).halted || (s.hart n).haltReq) = true ∧ n ∉ l := by
  induction l generalizing s with
  | nil => exact ⟨h, List.not_mem_nil⟩
  | cons a l ih =>
    obtain ⟨hheld, hnot⟩ := ih (s := s.hartResume a) h
    rw [State.hart_hartResume] at hheld
    by_cases ha : n = a
    · simp [ha] at hheld
    · rw [if_neg ha] at hheld
      exact ⟨hheld, by simp [ha, hnot]⟩

theorem State.each_hartResume_keeps (s : State) (l : List Nat) :
    (s.each l State.hartResume).pcs = s.pcs ∧ (s.each l State.hartResume).sec = s.sec ∧
      (s.each l State.hartResume).regs = s.regs := by
  induction l generalizing s with
  | nil => exact ⟨rfl, rfl, rfl⟩
  | cons a l ih => exact ih (s.hartResume a)

/-- A hart that is held has an entry of its own. -/
theorem mem_of_nfind {α : Type} {m : NMap α} {k : Nat} {v : α} (h : nfind m k = some v) : (k, v) ∈ m := by
  induction m with
  | nil => cases h
  | cons e m ih =>
    unfold nfind at h
    split at h
    · next hk => cases h; rw [← hk]; exact List.mem_cons_self
    · exact List.mem_cons_of_mem _ (ih h)

theorem State.hart_mem_of_held {s : State} {n : Nat} (h : ((s.hart n).halted || (s.hart n).haltReq) = true) :
    (n, s.hart n) ∈ s.cc.harts := by
  cases hn : nfind s.cc.harts n with
  | none => simp [State.hart, ngetD, hn] at h
  | some x => rw [State.hart, ngetD, hn]; exact mem_of_nfind hn

theorem State.dbgSettle_heldByRight (s : State) : s.dbgSettle.HeldByRight := by
  unfold State.dbgSettle
  extract_lets shut u
  obtain ⟨hpcs, hsec, hregs⟩ : u.pcs = s.pcs ∧ u.sec = s.sec ∧ u.regs = s.regs := s.each_hartResume_keeps _
  generalize hv : ({ u with dbg := _ } : State) = v
  have hinv (b : Bool) : v.invasive b = s.invasive b := by
    subst hv
    simp only [State.invasive, State.dbgEn, State.powerUp, State.lc, State.get, State.rd, State.coreRuns, hpcs, hsec, hregs]
    rfl
  have hworld (n : Nat) : v.hartSecure n = s.hartSecure n := by
    subst hv
    simp only [State.hartSecure, State.get, State.rd, hregs]
  have hright {n : Nat} (h : shut n ≠ true) : v.invasive (v.hartSecure n) = true := by
    rw [hinv, hworld]; simpa [shut] using h
  refine ⟨fun n hn => ?_, fun e he hb => ?_⟩
  · have hu : ((u.hart n).halted || (u.hart n).haltReq) = true := by subst hv; exact hn
    obtain ⟨hheld, hnot⟩ := State.held_each_hartResume hu
    refine hright fun hshut => hnot ?_
    exact List.mem_map_of_mem (List.mem_filter.mpr ⟨State.hart_mem_of_held hheld, by simp [hheld, hshut]⟩)
  · subst hv
    have hkeep := (List.mem_filter.mp he).2
    exact hright fun hshut => by simp [hb, hshut] at hkeep

/-! ### The power state of a sleeping device and the error pin -/

theorem State.sdPower_asleep (s : State) : s.sdPower.asleep = s.asleep := by
  unfold State.sdPower
  split
  · next h => rw [h]; simp only [State.asleep]; split <;> rfl
  · rfl

theorem State.sdPower_power {s : State} (h : s.sdPower.asleep = true) :
    s.sdPower.pcs.power = if s.sdPower.sentinelNeeded then .sentinel else .stowed := by
  rw [State.sdPower_asleep] at h
  rw [State.sdPower, if_pos h]
  rfl

/-- The pin is not among the conditions that call for it. -/
theorem State.errnEval_asserts {s : State} (h : s.errnEval.errnWanted = true) : s.errnEval.fcu.errn = true := by
  unfold State.errnEval at h ⊢
  split
  · rfl
  · next hn => simp_all

theorem State.errnEval_holdView (s : State) : s.errnEval.holdView = s.holdView := State.ite_holdView rfl rfl
theorem State.errnEval_pcs (s : State) : s.errnEval.pcs = s.pcs := by unfold State.errnEval; split <;> rfl
theorem State.errnEval_pda (s : State) : s.errnEval.pda = s.pda := by unfold State.errnEval; split <;> rfl

theorem bitOf_zero (i : Nat) : bitOf 0 i = false := by simp [bitOf]

/-- Nobody has a debug right over a sleeping device. -/
theorem State.invasive_of_asleep {s : State} (h : s.asleep = true) (secure : Bool) : s.invasive secure = false := by
  have hdown : s.powerUp = false := by
    simp only [State.asleep, Bool.or_eq_true, beq_iff_eq] at h
    rcases h with h | h <;> simp [State.powerUp, h]
  rw [State.invasive, State.dbgEn, hdown, if_pos (by simp), bitOf_zero]

theorem State.HeldByRight.sdPower {s : State} (h : s.HeldByRight) : s.sdPower.HeldByRight := by
  by_cases hs : s.asleep = true
  · obtain ⟨hh, ht⟩ := h
    simp only [State.invasive_of_asleep hs, Bool.false_eq_true] at hh ht
    rw [State.sdPower, if_pos hs]
    exact ⟨fun n hn => (hh n hn).elim, fun e he hb => (ht e he hb).elim⟩
  · rwa [State.sdPower, if_neg hs]

theorem State.sdPower_coreRuns (s : State) : s.sdPower.coreRuns = s.coreRuns := by
  unfold State.sdPower
  split <;> rfl

/-! ### The invariant -/

theorem State.safe_iff (s : State) : s.Safe ↔ (s.errnWanted = true → s.fcu.errn = true) ∧
    (s.coreRuns = true → s.HeldByRight) ∧
    (s.asleep = true → s.pcs.power = if s.sentinelNeeded then .sentinel else .stowed) := by
  unfold State.Safe State.HeldByRight
  constructor
  · rintro ⟨herrn, hharts, htrig, hpower⟩
    exact ⟨herrn, fun h => ⟨hharts h, htrig h⟩, hpower⟩
  · rintro ⟨herrn, hheld, hpower⟩
    exact ⟨herrn, fun h => (hheld h).1, fun h => (hheld h).2, hpower⟩

/-- What ends every command brings the invariant about, whatever the command has left. -/
theorem State.settle_safe (b s : State) : (State.settle b s).Safe := by
  unfold State.settle
  extract_lets s1 _ s2 s3
  have hheld : s3.coreRuns = true → s3.HeldByRight := by
    intro hrun
    have h3 : s3.holdView = s2.holdView :=
      State.ite_holdView (s2.setFlag_holdView PCS_EVT_LIMP true 0 0 (by decide) (by decide)) rfl
    have hrun2 : s2.coreRuns = true := (coreRuns_congr (congrArg Prod.fst h3)).symm.trans hrun
    refine State.HeldByRight.congr h3 ?_
    by_cases h1 : s1.coreRuns = true
    · have h2 : s2 = s1.gatesDue.dbgSettle.streamsHand := if_pos h1
      rw [h2]
      exact (State.dbgSettle_heldByRight s1.gatesDue).congr (State.streamsHand_holdView _)
    · have h2 : s2 = { s1 with fcu := { s1.fcu with todo := [] } } := if_neg h1
      rw [h2] at hrun2
      exact absurd hrun2 h1
  have h4 : (if s3.coreRuns then s3.aplicStep else s3).holdView = s3.holdView :=
    State.ite_holdView s3.aplicStep_holdView rfl
  generalize (if s3.coreRuns then s3.aplicStep else s3) = s4 at h4 ⊢
  rw [State.safe_iff]
  refine ⟨State.errnEval_asserts, fun hrun => ?_, fun hs => ?_⟩
  · refine State.HeldByRight.congr (State.errnEval_holdView _) ?_
    rw [coreRuns_congr (State.errnEval_pcs _), State.sdPower_coreRuns, coreRuns_congr (congrArg Prod.fst h4)] at hrun
    exact ((hheld hrun).congr h4).sdPower
  · rw [asleep_congr (State.errnEval_pcs _)] at hs
    have hpower := State.sdPower_power hs
    have hneed : s4.sdPower.errnEval.sentinelNeeded = s4.sdPower.sentinelNeeded := by
      simp only [State.sentinelNeeded, State.chan, State.errnEval_pcs, State.errnEval_pda]
    rw [State.errnEval_pcs, hneed, hpower]

/-- A tick of the time base touches nothing that the invariant speaks of. -/
theorem State.ticks_safe {s : State} (h : s.Safe) (k : Nat) : (s.ticks k).Safe := by
  rw [State.safe_iff] at h ⊢
  obtain ⟨herrn, hheld, hpower⟩ := h
  have hview : (s.ticks k).holdView = s.holdView := State.ite_holdView rfl rfl
  refine ⟨fun hw => ?_, fun hrun => (hheld (by simpa using hrun)).congr hview, fun hs => ?_⟩
  · rw [State.ticks_fcu]
    exact herrn (by simpa [State.errnWanted, State.latchedErrn] using hw)
  · have hneed : (s.ticks k).sentinelNeeded = s.sentinelNeeded := by
      simp only [State.sentinelNeeded, State.ticks_pcs, State.ticks_chan]
    rw [State.ticks_pcs, hneed, hpower (by simpa using hs)]

/-! ### Every command ends -/

/-- Every command of the table ends in what follows its effect. -/
theorem exec_ends (c : Instr) (s : State) : ∃ t, exec c s = s.ends t := by
  cases c <;> exact ⟨_, rfl⟩

theorem State.ticks_one (s : State) : s.ticks 1 = { s with
    now := s.now + 2
    tbu := if s.coreRuns = true then
      { s.tbu with td := s.tbu.td.map fun d => { d with val := (d.val + d.inc) % tdWrap } } else s.tbu } := by
  have hrun : ({ s with now := s.now + 2 * 1 } : State).coreRuns = s.coreRuns := rfl
  unfold State.ticks
  simp only [hrun, Nat.one_mul]
  split <;> rfl

/-- A step runs the command in front, and what follows it, or lets one tick pass. -/
theorem step_cases (s : State) : step s = .next (s.ticks 1) ∨ ∃ b t, step s = .next (State.settle b t) := by
  cases h : s.pending with
  | nil => exact .inl (step_idle h)
  | cons c rest =>
    obtain ⟨t, ht⟩ := exec_ends c { s with pending := rest }
    exact .inr ⟨_, t, by rw [step, h]; exact ht⟩

/-- Settles O10: a command ends in `settle`, which brings the invariant about; a tick keeps it. -/
theorem stepKeepsSafe : Obligations.StepKeepsSafe := by
  intro s t hs ht
  rcases step_cases s with h | ⟨b, u, h⟩
  · rw [h] at ht; cases ht; exact State.ticks_safe hs 1
  · rw [h] at ht; cases ht; exact State.settle_safe b u

/-- Settles O2: every command ends in `settle` of its effect, and an empty queue gives a tick. -/
theorem everyStepCompletes : Obligations.EveryStepCompletes := by
  refine ⟨fun s => ?_, exec_ends, fun s h => ?_⟩
  · rcases step_cases s with h | ⟨b, u, h⟩
    · exact ⟨_, h⟩
    · exact ⟨_, h⟩
  · rw [step_idle h, State.ticks_one]

end Sys2Proof.Machine
end

section
/-! The block as a whole: the register map and the bits that a write sets (R8, R12, R15), register writes over the bus (R14, R17,
R248, R444), values wider than a word (R13), memory, the state after reset, and a command that leaves nothing to handle. -/

namespace Sys2Proof.Machine

/-! ### The register map (R8, R12) -/

/-- A line lies in its own slot; the guest queues' registers, listed with the switch, lie on the function pages (R299). -/
theorem regs_home : ∀ k < 14, (slotRegs k).all (fun r => r.inSlot k || ((slotRegs 2).contains r && r.inSlot 2)) = true := by
  decide +kernel

/-- The slot whose addresses a line takes. -/
theorem slotRegs_home {k : Nat} (hk : k < 14) {r : Reg} (hr : r ∈ slotRegs k) : ∃ m < 14, r ∈ slotRegs m ∧ r.inSlot m = true := by
  have h := List.all_eq_true.mp (regs_home k hk) r hr
  simp only [Bool.or_eq_true, Bool.and_eq_true, List.contains_iff_mem] at h
  rcases h with h | ⟨hmem, h⟩
  · exact ⟨k, hk, hr, h⟩
  · exact ⟨2, by decide, hmem, h⟩

/-- Settles O5: a line lies in the slot that lists it or, for the guest queues, in that of the function pages. -/
theorem registerMap : Obligations.RegisterMap := by
  intro k hk r hr i hi j hj
  obtain ⟨m, hm, hmem, hslot⟩ := slotRegs_home hk hr
  exact regAt_addr hm hmem hslot hi hj

/-! ### Steps, memory, reset -/

/-- Settles O1: it is what a step with a command in front is defined to be. -/
theorem stepRunsFront : Obligations.StepRunsFront := fun _ _ => rfl

theorem State.setBytes_regs (s : State) (a : Nat) (d : List Byte) : (s.setBytes a d).regs = s.regs := by
  induction d generalizing s a with
  | nil => rfl
  | cons b d ih => exact ih (s.setByte a b) (a + 1)

/-- Settles O9: by the laws of a write of bytes. -/
theorem memoryBytes : Obligations.MemoryBytes := fun s a d =>
  ⟨fun k h => byte_setBytes_in s a k d h, fun x h => byte_setBytes_out s a x d h, fun h => setBytes_wf h a d,
    s.setBytes_regs a d⟩

/-- Settles O11: after reset ERR_N is asserted, the core die is held and the device is awake. -/
theorem resetIsSafe : Obligations.ResetIsSafe :=
  (State.safe_iff _).mpr ⟨fun _ => rfl, fun h => absurd h (by decide), fun h => absurd h (by decide)⟩

/-- Settles O4: the register file lists nothing after reset, and every other part has its default. -/
theorem resetState : Obligations.ResetState := by
  refine ⟨rfl, rfl, rfl, rfl, rfl, rfl, rfl, fun _ _ _ => rfl, ?domains, fun _ _ => ⟨rfl, rfl⟩, ?balls, fun s hp hc => ?perst⟩
  case domains => decide
  case balls => exact ⟨rfl, rfl, rfl, rfl, rfl, rfl, fun _ _ => rfl, fun _ _ => rfl⟩
  case perst => simp [State.ballPerst, hp, hc]

/-! ### A command that leaves nothing to handle -/

theorem sdPower_awake {s : State} (h : s.asleep = false) : s.sdPower = s := by rw [State.sdPower, h]; rfl

theorem errnEval_met {s : State} (h : s.errnWanted = true → s.fcu.errn = true) : s.errnEval = s := by
  unfold State.errnEval
  split
  · next hn => simp_all
  · rfl

/-- Settles O3: each of the steps that end a command finds nothing to do. -/
theorem quietEnd : Obligations.QuietEnd := by
  rintro b e ⟨htodo, hdrain, hharts, htrig, hstreams, hm, hs, hlimp, hawake, herrn⟩
  have hloop : (if e.coreRuns then e.fcuLoop 1024 else e) = e := by rw [fcuLoop_nil htodo, ite_self]
  have hdrop : ({ e with fcu := { e.fcu with todo := [] } } : State) = e := by rw [← htodo]
  unfold State.settle
  simp only [hloop, gatesDue_nil hdrain, dbgSettle_idle hharts htrig, streamsHand_idle hstreams, hdrop, ite_self, hlimp,
    bne_self_eq_false, Bool.and_false, Bool.false_eq_true, if_false, aplicStep_idle hm hs, sdPower_awake hawake,
    errnEval_met herrn]

/-! ### The bits that a write sets (R15) -/

theorem bitOf_eq_testBit (v i : Nat) : bitOf v i = v.testBit i := by
  rw [bitOf, Nat.testBit_eq_decide_div_mod_eq]
  rfl

/-- Bit `b` of what a write makes of a register. -/
theorem bitOf_written (r : Reg) (old v : Word) {b : Nat} (hb : b < 32) :
    bitOf (r.written old v).toNat b =
      ((((bitOf old.toNat b && !bitOf r.rw b) || (bitOf v.toNat b && bitOf r.rw b)) && !(bitOf v.toNat b && bitOf r.w1c b)) ||
        (bitOf v.toNat b && bitOf r.w1s b)) := by
  have hw (n : Nat) : (w32 n).toNat.testBit b = n.testBit b := by
    rw [w32, BitVec.toNat_ofNat, Nat.testBit_mod_two_pow, decide_eq_true hb, Bool.true_and]
  simp only [bitOf_eq_testBit, Reg.written, ← hw r.rw, ← hw r.w1c, ← hw r.w1s]
  simp only [BitVec.testBit_toNat, BitVec.getLsbD_or, BitVec.getLsbD_and, BitVec.getLsbD_not, decide_eq_true hb, Bool.true_and]

/-- Settles O6: the bit of the old word, of the new word and of the line's types decide. -/
theorem writtenBits : Obligations.WrittenBits := by
  intro r old v b hb hrw hw1
  simp only [bitOf_written r old v hb]
  refine ⟨fun h => ?_, fun h => ?_, fun h => ?_, fun h1 h2 h3 => ?_⟩ <;> simp_all

/-! ### A write of a register over the bus (R12, R17, R248, R444) -/

/-- Where a register of a listed line lies: in one slot, on a word boundary. -/
theorem slotReg_place {k : Nat} (hk : k < 14) {r : Reg} (hr : r ∈ slotRegs k) {i j : Nat} (hi : i < r.n1) (hj : j < r.n2) :
    ∃ m, regionOf (r.addr i j) = .slot m ∧ regionOf (r.addr i j + 3) = .slot m ∧ r.addr i j % 4 = 0 := by
  obtain ⟨m, hm, hmem, hslot⟩ := slotRegs_home hk hr
  obtain ⟨h0, h3⟩ := regionOf_addr hm hmem hslot hi hj
  exact ⟨m, h0, h3, Reg.addr_mod (List.all_eq_true.mp (regs_aligned k hk) r hr) i j⟩

theorem State.gkEvent_coreRuns (s : State) (e : GkEvent) : (s.gkEvent e).coreRuns = s.coreRuns :=
  coreRuns_congr (congrArg Prod.fst (s.gkEvent_holdView e))

theorem State.slotEvent_coreRuns (s : State) (a : Init) (p kind : Nat) (write : Bool) :
    (s.slotEvent a p kind write).coreRuns = s.coreRuns := s.gkEvent_coreRuns _

section
variable {s : State} {a : Init} {r : Reg} {k i j : Nat} (hk : k < 14) (hr : r ∈ slotRegs k) (hi : i < r.n1) (hj : j < r.n2)
include hk hr hi hj

/-- A register behind a gatekeeper that refuses the access. -/
theorem State.accessOk_refused {write : Bool} (hgk : s.gkAdmits a.id.toNat a.secure (r.addr i j) 4 write = false) :
    s.accessOk a (r.addr i j) 4 write = (false, s.slotEvent a (r.addr i j) 0 write) := by
  obtain ⟨m, h0, h3, -⟩ := slotReg_place hk hr hi hj
  simp [State.accessOk, State.slotEvent, slotOf, gkOf, h0, h3, hgk]

/-- A register that no gatekeeper, island or pen shuts off. -/
theorem State.accessOk_admitted {write : Bool} (hgk : s.gkAdmits a.id.toNat a.secure (r.addr i j) 4 write = true)
    (hpow : s.powered (s.islandOf (r.addr i j)) = true) (hpen : s.penRuns (penOf (r.addr i j)) = true) :
    s.accessOk a (r.addr i j) 4 write = (true, s) := by
  obtain ⟨m, h0, h3, -⟩ := slotReg_place hk hr hi hj
  simp [State.accessOk, h0, h3, hgk, hpow, hpen]

/-- A refused write ends with a bus error. -/
theorem State.answerWrite_refused (hrun : s.coreRuns = true)
    (hstall : s.stalled a = false) (hgk : s.gkAdmits a.id.toNat a.secure (r.addr i j) 4 true = false) (v : Word) :
    s.answerWrite a (r.addr i j) (leBytes 4 v.toNat) = (s.slotEvent a (r.addr i j) 0 true).answer none := by
  obtain ⟨m, h0, -, -⟩ := slotReg_place hk hr hi hj
  simp [State.answerWrite, State.busWrite, State.busWritePart, pageCross, hstall, leBytes_length, hrun, h0,
    State.accessOk_refused hk hr hi hj hgk, State.slotEvent_coreRuns]

/-- An admitted write is that of the register's word. -/
theorem State.answerWrite_admitted (hbuf : isBuffer (r.addr i j) = false) (hrun : s.coreRuns = true)
    (hstall : s.stalled a = false) (hgk : s.gkAdmits a.id.toNat a.secure (r.addr i j) 4 true = true)
    (hpow : s.powered (s.islandOf (r.addr i j)) = true) (hpen : s.penRuns (penOf (r.addr i j)) = true) (v : Word)
    (hkeep : (s.writeWord a (r.addr i j) v).coreRuns = true) :
    s.answerWrite a (r.addr i j) (leBytes 4 v.toNat) = (s.writeWord a (r.addr i j) v).answer (some []) := by
  obtain ⟨m, h0, -, hal⟩ := slotReg_place hk hr hi hj
  simp [State.answerWrite, State.busWrite, State.busWritePart, pageCross, hstall, leBytes_length, hrun, h0, hbuf, wordForm,
    hal, leAt_leBytes4, State.accessOk_admitted hk hr hi hj hgk hpow hpen, hkeep]

theorem State.writeWord_foreign (hworld : r.world = .S) (hsec : a.secure = false) (v : Word) :
    s.writeWord a (r.addr i j) v = s.slotEvent a (r.addr i j) 1 true := by
  simp [State.writeWord, registerMap k hk r hr i hi j hj, hworld, hsec]

theorem State.writeWord_shut (hworld : r.world = .SN ∨ a.secure = true) (hshut : s.windowShut a (r.addr i j) r = true) (v : Word) :
    s.writeWord a (r.addr i j) v = s.slotEvent a (r.addr i j) 2 true := by
  have hpermit : ¬ (r.world = .S ∧ a.secure = false) := by
    rintro ⟨h1, h2⟩
    rcases hworld with h | h
    · rw [h1] at h; cases h
    · rw [h2] at h; cases h
  simp [State.writeWord, registerMap k hk r hr i hi j hj, hpermit, hshut]

end

theorem State.busWrite_held {s : State} (hrun : s.coreRuns = false) (a : Init) (p : Nat) (d : List Byte) :
    s.busWrite a p d = (false, s) := by
  simp [State.busWrite, State.busWritePart, hrun]

/-- A write of a device that does not run, or of a port that is stalled, does nothing. -/
theorem State.answerWrite_silent {s : State} {a : Init} (h : s.coreRuns = false ∨ s.stalled a = true) (p : Nat) (d : List Byte) :
    s.answerWrite a p d = s := by
  unfold State.answerWrite
  split
  · rfl
  · next hstall =>
    have hrun : s.coreRuns = false := by simpa [hstall] using h
    simp [State.busWrite_held hrun, hrun]

/-- The lines whose write `RegisterWrites` states, each with its slot. -/
def plainLines : List (Nat × Reg) :=
  [(3, PDA_CHn_THRESH), (3, PDA_CHn_DIAG_ON), (3, PDA_CHn_DIAG_OFF), (4, PE_TRIP_IRQ_EN_LO), (5, TBU_TS_EN), (6, ESW_NODE_ID),
    (8, SGW_EVT_EN), (9, PLB_HB_CTRL), (0, CC_SPX_CFG), (1, MS_EVT_EN)]

/-- Each is a line of one word in its slot, outside the gatekeepers' regions, the function pages and the message areas. -/
theorem plainLines_place : ∀ e ∈ plainLines, (e.1 < 14 ∧ e.2 ∈ slotRegs e.1 ∧ e.2.inSlot e.1 = true) ∧
    (e.2.mwLen ≤ 1 ∧ e.2.mwAbs = 0) ∧ e.2.base / 0x1000 ≠ 0x4A001 ∧ 0 < e.2.n2 ∧
    (e.2.addr (e.2.n1 - 1) 0 < 0x47100000 ∨ 0x48000000 ≤ e.2.base) := by
  decide +kernel

/-- A write of such a line sets the bits that R15 says and has no effect beside. -/
theorem State.writeReg_plainLine {e : Nat × Reg} (he : e ∈ plainLines) {s : State} {a : Init} {p x j : Nat}
    (hslot : slotOf p = some e.1) (v : Word) :
    s.writeReg a e.2 p x j v = s.wr e.2 (e.2.written (s.rd e.2 x j) v) x j := by
  unfold State.writeReg
  rw [hslot]
  simp only [plainLines, List.mem_cons, List.not_mem_nil, or_false] at he
  rcases he with rfl | rfl | rfl | rfl | rfl | rfl | rfl | rfl | rfl | rfl <;> rfl

/-- The message areas of the FBC lie within its slot. -/
theorem isBuffer_of_outside {a : Nat} (h : a < 0x47100000 ∨ 0x48000000 ≤ a) : isBuffer a = false := by
  have harea : inArea a = false := decide_eq_false (by omega)
  rw [isBuffer, harea, Bool.false_and]

theorem exec_registerWrite_plainLine {e : Nat × Reg} (he : e ∈ plainLines) {s : State} {a : Init} {n : Nat} (hn : n < e.2.n1)
    (hreach : s.reaches a e.2 n 0 true = true) (v : Word) :
    exec (.registerWrite a (e.2.addr n 0) v) s =
      s.ends ((s.wr e.2 (e.2.written (s.rd e.2 n) v) n).answer (some [])) := by
  obtain ⟨⟨hk, hmem, hslot⟩, hone, hgk, hj, hplace⟩ := plainLines_place e he
  have hbuf : isBuffer (e.2.addr n 0) = false := by
    refine isBuffer_of_outside (hplace.imp (fun h => ?_) fun h => ?_)
    · have : e.2.s1 * n ≤ e.2.s1 * (e.2.n1 - 1) := Nat.mul_le_mul_left _ (by omega)
      simp only [Reg.addr] at h ⊢
      omega
    · simp only [Reg.addr]
      omega
  rw [exec_registerWrite, ← State.rowWrite_eq_answerWrite s a e.2 v hn hj,
    rowWrite_reaches hk hmem hslot hone hgk hbuf hn hj v hreach,
    State.writeReg_plainLine he (Reg.slotOf_addr hslot hn hj) v]
  simp [reaches_runs hreach]

/-- Settles O7: a plain line's write, the two events of an admitted write, a gatekeeper's refusal, and silence. -/
theorem registerWrites : Obligations.RegisterWrites := by
  intro s a v
  refine ⟨fun r hr n hn hreach => ?plain, fun k hk r hr i hi j hj hbuf hrun hstall =>
    ⟨fun hgk hpow hpen => ⟨fun hworld hsec => ?foreign, fun hworld hshut => ?shut⟩, fun hgk => ?refused⟩, fun p h => ?silent⟩
  case plain =>
    obtain ⟨e, he, rfl⟩ := List.mem_map.mp (show r ∈ plainLines.map Prod.snd from hr)
    exact exec_registerWrite_plainLine he hn hreach v
  case foreign =>
    have hw := State.writeWord_foreign (s := s) hk hr hi hj hworld hsec v
    rw [exec_registerWrite, State.answerWrite_admitted hk hr hi hj hbuf hrun hstall hgk hpow hpen v
      (by rw [hw, State.slotEvent_coreRuns, hrun]), hw]
    rfl
  case shut =>
    have hw := State.writeWord_shut (s := s) hk hr hi hj hworld hshut v
    rw [exec_registerWrite, State.answerWrite_admitted hk hr hi hj hbuf hrun hstall hgk hpow hpen v
      (by rw [hw, State.slotEvent_coreRuns, hrun]), hw]
    rfl
  case refused =>
    rw [exec_registerWrite, State.answerWrite_refused hk hr hi hj hrun hstall hgk]
    rfl
  case silent =>
    rw [exec_registerWrite, State.answerWrite_silent h]
    rfl

/-! ### Values wider than a word (R13) -/

theorem mwGet_mwPut_other (l : List MwHold) {i j low low' : Nat} (ws : NMap Word) (h : ¬ (i = j ∧ low = low')) :
    mwGet (mwPut l i low ws) j low' = mwGet l j low' := by
  have hnew : (i == j && low == low') = false := by simpa [← not_and] using h
  have hdrop : (mwDrop l i low).find? (fun x => x.init == j && x.low == low') = l.find? (fun x => x.init == j && x.low == low') := by
    rw [mwDrop, List.find?_filter]
    congr 1
    funext x
    grind
  rw [mwGet, mwPut, List.find?_append, hdrop, mwGet]
  simp [hnew]

theorem mem_slotRegs_timeFrac : TBU_TDd_TIME_FRAC ∈ slotRegs 5 := by decide
theorem mem_slotRegs_measCur : PDA_MEAS_CURn ∈ slotRegs 3 := by decide

/-- A write of the lowest word of a time is held for its initiator. -/
theorem State.writeWord_timeFrac {s : State} {a : Init} {d : Nat} (hd : d < 4) (v : Word)
    (hreach : s.reaches a TBU_TDd_TIME_FRAC d 0 true = true) :
    s.writeWord a (TBU_TDd_TIME_FRAC.addr d 0) v = { s with bus := { s.bus with
      holds := mwPut s.bus.holds a.id.toNat (TBU_TDd_TIME_FRAC.addr d 0)
        (nset ((mwGet s.bus.holds a.id.toNat (TBU_TDd_TIME_FRAC.addr d 0)).getD []) 0 v) } } := by
  obtain ⟨-, -, -, hwin, hlive⟩ := reaches_parts hreach
  have hwin : s.windowShut a (TBU_TDd_TIME_FRAC.addr d 0) TBU_TDd_TIME_FRAC = false := by simpa using hwin
  have hgroup : TBU_TDd_TIME_FRAC.group (TBU_TDd_TIME_FRAC.addr d 0) 0 = (TBU_TDd_TIME_FRAC.addr d 0, 4) := rfl
  unfold State.writeWord
  rw [registerMap 5 (by decide) _ mem_slotRegs_timeFrac d hd 0 (by decide)]
  simp only [hwin, hlive, hgroup, Nat.sub_self]
  rfl

theorem valueOf_measCur (n k : Nat) : valueOf PDA_MEAS_CURn (PDA_MEAS_CURn.addr n k) k = (PDA_MEAS_CURn.addr n 0, 4) := by
  have haddr : PDA_MEAS_CURn.addr n k - 4 * (0 + k) = PDA_MEAS_CURn.addr n 0 := by
    simp only [Reg.addr, PDA_MEAS_CURn]; omega
  rw [valueOf, if_neg (by decide), Reg.group, if_neg (by decide)]
  exact congrArg (·, 4) haddr

/-- A higher word of a measurement reads what the initiator's read of the lowest word latched. -/
theorem State.readReg_measCur {s : State} {a : Init} {n k : Nat} {m : NMap Word} (hn : n < 64) (hk1 : 1 ≤ k) (hk : k < 4)
    (hreach : s.reaches a PDA_MEAS_CURn n k false = true)
    (hlatch : mwGet s.bus.latches a.id.toNat (PDA_MEAS_CURn.addr n 0) = some m) :
    s.readReg a (PDA_MEAS_CURn.addr n k) = (ngetD m k 0, s) := by
  obtain ⟨-, -, -, -, hlive⟩ := reaches_parts hreach
  have haddr : PDA_MEAS_CURn.addr n k = PDA_MEAS_CURn.addr n 0 + 4 * k := by simp only [Reg.addr, PDA_MEAS_CURn]; omega
  have hworld : ¬ (PDA_MEAS_CURn.world = .S ∧ a.secure = false) := by rintro ⟨h, -⟩; cases h
  have hword : (PDA_MEAS_CURn.addr n k - PDA_MEAS_CURn.addr n 0) / 4 = k := by omega
  unfold State.readReg
  rw [registerMap 3 (by decide) _ mem_slotRegs_measCur n hn k hk]
  simp only [if_neg hworld, hlive, valueOf_measCur, hlatch, hword]
  rw [if_neg (by simp), if_neg (by decide), if_neg (by omega)]

/-- What each step of a walk over a list leaves, the whole walk leaves. -/
theorem State.each_keeps {α β : Type} {p : State → β} {f : State → α → State} (hf : ∀ s a, p (f s a) = p s) (s : State)
    (l : List α) : p (s.each l f) = p s :=
  State.foldl_keeps hf l s

theorem State.senseFault_bus (s : State) : s.senseFault.bus = s.bus :=
  State.each_keeps (p := State.bus) (fun s k => by dsimp only; split <;> rfl) s _

theorem State.coreClear_bus (s : State) : s.coreClear.bus = {} := rfl

/-- A core-die reset starts the fabric anew. -/
theorem State.coreReset_bus (s : State) (k : Nat) : (s.coreReset k).bus = {} := by
  simp only [State.coreReset, State.dieDown, State.senseFault_bus, State.coreClear_bus]

/-- Settles O8: the lowest word is held, a higher one comes from the latch, and both belong to one initiator. -/
theorem multiWordValues : Obligations.MultiWordValues := by
  refine ⟨fun s a d v hd hreach => ?hold, fun s a n k m hn hk1 hk hreach hlatch => ?latch, fun l i j low low' ws h => ?other,
    fun s k => ?reset⟩
  case hold =>
    obtain ⟨⟨hrun, hstall, hgk⟩, ⟨hpow, hpen⟩, -⟩ := reaches_parts hreach
    have hword := State.writeWord_timeFrac hd v hreach
    intro low h
    rw [exec_registerWrite, State.answerWrite_admitted (by decide) mem_slotRegs_timeFrac hd (by decide)
      (isBuffer_of_lt (by simp only [Reg.addr, TBU_TDd_TIME_FRAC]; omega)) hrun (by simpa using hstall) hgk hpow hpen v
      (by rw [hword]; exact hrun), hword]
    rfl
  case latch => exact State.readReg_measCur hn hk1 hk hreach hlatch
  case other => exact mwGet_mwPut_other l ws h
  case reset => rw [State.coreReset_bus]; exact ⟨rfl, rfl⟩

end Sys2Proof.Machine
end

section
/-! Chapters 01 and 02: requests and trips of a channel, the charge pump, groups, PWM, off-state tests, restarts, loss of the core
die and limp (R35–R73, R112–R118). What a register field reads after it was put comes first, then what an operation on one channel
leaves of the others. -/

namespace Sys2Proof.Machine
/-! ### Fields put and read -/

/-- A field put replaces its own bits and no other. -/
theorem testBit_setBits (v x j : Nat) {hi lo : Nat} (h : lo ≤ hi) :
    (setBits v hi lo x).testBit j = if lo ≤ j ∧ j ≤ hi then x.testBit (j - lo) else v.testBit j := by
  obtain ⟨w, rfl⟩ : ∃ w, hi = lo + w := ⟨hi - lo, by omega⟩
  have hw : lo + w + 1 - lo = w + 1 := by omega
  have hr : v % 2 ^ lo < 2 ^ lo := Nat.mod_lt _ (Nat.two_pow_pos lo)
  have hx : x % 2 ^ (w + 1) < 2 ^ (w + 1) := Nat.mod_lt _ (Nat.two_pow_pos _)
  have hsplit : v = 2 ^ lo * (2 ^ (w + 1) * (v / 2 ^ lo / 2 ^ (w + 1)) + v / 2 ^ lo % 2 ^ (w + 1)) + v % 2 ^ lo := by
    rw [Nat.div_add_mod, Nat.div_add_mod]
  have hset : setBits v (lo + w) lo x =
      2 ^ lo * (2 ^ (w + 1) * (v / 2 ^ lo / 2 ^ (w + 1)) + x % 2 ^ (w + 1)) + v % 2 ^ lo := by
    have hb : bitsOf v (lo + w) lo = v / 2 ^ lo % 2 ^ (w + 1) := by rw [bitsOf, hw]
    rw [setBits, hb, hw]
    rw [Nat.mul_add] at hsplit ⊢
    generalize v / 2 ^ lo % 2 ^ (w + 1) = a at *
    have := Nat.mul_comm a (2 ^ lo)
    have := Nat.mul_comm (x % 2 ^ (w + 1)) (2 ^ lo)
    omega
  have hv : v.testBit j = if j < lo then (v % 2 ^ lo).testBit j else (v / 2 ^ lo).testBit (j - lo) := by
    conv_lhs => rw [← Nat.div_add_mod v (2 ^ lo)]
    exact Nat.testBit_two_pow_mul_add _ hr j
  rw [hset, Nat.testBit_two_pow_mul_add _ hr, Nat.testBit_two_pow_mul_add _ hx, hv]
  by_cases hj : j < lo
  · simp [hj]
  · by_cases hjw : j - lo < w + 1
    · simp [hj, hjw, Nat.testBit_mod_two_pow]
      omega
    · simp [hj, hjw]
      rw [if_neg (by omega)]
      simp only [Nat.testBit_div_two_pow]
      congr 1
      omega

theorem testBit_bitsOf (v hi lo j : Nat) : (bitsOf v hi lo).testBit j = (decide (j < hi + 1 - lo) && v.testBit (lo + j)) := by
  rw [bitsOf, Nat.testBit_mod_two_pow, Nat.testBit_div_two_pow, Nat.add_comm j lo]

theorem bitOf_mod_two_pow {k n : Nat} (h : k < n) (v : Nat) : bitOf (v % 2 ^ n) k = bitOf v k := by
  rw [bitOf_eq_testBit, bitOf_eq_testBit, Nat.testBit_mod_two_pow, decide_eq_true h, Bool.true_and]

/-! ### Channels -/

/-- What the channel itself takes from a change of its state. -/
def Ch.enters (c : Ch) (st : Nat) (grid : Bool) : Ch :=
  let c := { c with state := st, smpState := if grid then st else c.smpState }
  let c := if st = chOn ∨ st = chPwm then c else { c with desat := 0, olon := none, olonDue := false }
  let c := if st = chOff ∨ st = chLatched then { c with fixed := none } else c
  if st = chOff then c else { c with stuck := 0 }

@[simp] theorem Ch.enters_act (c : Ch) (st : Nat) (grid : Bool) : (c.enters st grid).act = c.act := by
  unfold Ch.enters; split_ifs <;> rfl

@[simp] theorem State.rangeChange_chan (s : State) (n m : Nat) (p : List Byte) : (s.rangeChange n p).chan m = s.chan m := by
  unfold State.rangeChange; split <;> rfl

theorem State.setChState_chan {s : State} {n st : Nat} (h : (s.chan n).state ≠ chPwm ∨ st = chPwm) (m : Nat) :
    (s.setChState n st).chan m = if m = n then (s.chan n).enters st s.atGrid else s.chan m := by
  have hleave : ¬ ((s.chan n).state = chPwm ∧ st ≠ chPwm) := by rcases h with h | h <;> simp [h]
  unfold State.setChState Ch.enters
  simp only [if_neg hleave]
  split_ifs <;> simp_all
@[simp] theorem Ch.discharge_state (c : Ch) (fast : Bool) : (c.discharge fast).state = c.state := by
  unfold Ch.discharge; split <;> rfl

theorem State.setChState_regs {s : State} {n st : Nat} (h : (s.chan n).state ≠ chPwm ∨ st = chPwm) :
    (s.setChState n st).regs = s.regs := by
  have hleave : ¬ ((s.chan n).state = chPwm ∧ st ≠ chPwm) := by rcases h with h | h <;> simp [h]
  have hrange (u : State) (p : List Byte) : (u.rangeChange n p).regs = u.regs := by
    unfold State.rangeChange; split <;> rfl
  unfold State.setChState
  simp only [if_neg hleave]
  split_ifs <;> simp [hrange]

theorem State.get_congr {s t : State} (h : t.regs = s.regs) (f : Fld) (i j : Nat) : t.get f i j = s.get f i j := by
  rw [State.get, State.get, State.rd, State.rd, h]

/-- A state that differs from another at most in channel `n` and in registers, measurement and streams. -/
structure State.Within (n : Nat) (s e : State) : Prop where
  chan : ∀ m, m ≠ n → e.chan m = s.chan m
  mem : e.mem = s.mem
  sf : e.sf = s.sf
  tbu : e.tbu = s.tbu
  pcs : e.pcs = s.pcs
  now : e.now = s.now
  fcu : e.fcu = s.fcu
  cal : e.pda.cal = s.pda.cal
  lost : e.pda.lost = s.pda.lost

namespace State.Within

theorem refl (n : Nat) (s : State) : State.Within n s s := ⟨fun _ _ => rfl, rfl, rfl, rfl, rfl, rfl, rfl, rfl, rfl⟩

theorem trans {n : Nat} {s t u : State} (h : State.Within n s t) (k : State.Within n t u) : State.Within n s u :=
  ⟨fun m hm => (k.chan m hm).trans (h.chan m hm), k.mem.trans h.mem, k.sf.trans h.sf, k.tbu.trans h.tbu, k.pcs.trans h.pcs,
    k.now.trans h.now, k.fcu.trans h.fcu, k.cal.trans h.cal, k.lost.trans h.lost⟩

variable {n : Nat} {s t : State} (h : State.Within n s t)
include h

theorem atGrid : t.atGrid = s.atGrid := by rw [State.atGrid, State.atGrid, h.tbu, h.now]

theorem modChan (f : Ch → Ch) : State.Within n s (t.modChan n f) :=
  h.trans ⟨fun m hm => by rw [chan_modChan, if_neg hm], rfl, rfl, rfl, rfl, rfl, rfl, rfl, rfl⟩

theorem setChan (c : Ch) : State.Within n s (t.setChan n c) := h.modChan fun _ => c

theorem set (f : Fld) (v i j : Nat) : State.Within n s (t.set f v i j) := h.trans ⟨fun _ _ => rfl, rfl, rfl, rfl, rfl, rfl, rfl, rfl, rfl⟩

theorem ite {c : Prop} [Decidable c] {u : State} (k : State.Within n s u) : State.Within n s (if c then t else u) := by
  split
  · exact h
  · exact k

theorem dutyFollow : State.Within n s (t.dutyFollow n) := by
  unfold State.dutyFollow
  exact ite ((h.set ..).set ..) h

theorem setFault (b : Nat) : State.Within n s (t.setFault n b) := by
  unfold State.setFault
  extract_lets u v
  have hu : State.Within n s u := ite (h.modChan _) h
  exact ite (ite ((hu.set ..).set ..) ((hu.set ..).set ..)) hu

theorem rangeChange (p : List Byte) : State.Within n s (t.rangeChange n p) := by
  unfold State.rangeChange
  exact ite h (h.trans ⟨fun _ _ => rfl, rfl, rfl, rfl, rfl, rfl, rfl, rfl, rfl⟩)

theorem setChState (st : Nat) (hst : (t.chan n).state ≠ chPwm ∨ st = chPwm) : State.Within n s (t.setChState n st) := by
  have hleave : ¬ ((t.chan n).state = chPwm ∧ st ≠ chPwm) := by rcases hst with h | h <;> simp [h]
  unfold State.setChState
  extract_lets old u v w x
  have hu : State.Within n s u := h.modChan _
  have hv : State.Within n s v := by rw [show v = u from if_neg hleave]; exact hu
  have hw : State.Within n s w := ite hv (hv.modChan _)
  have hx : State.Within n s x := by
    exact ite ((hw.modChan _).rangeChange _) hw
  exact ite hx (hx.modChan _)

theorem turnOff (fast : Bool) (hst : (t.chan n).state ≠ chPwm) : State.Within n s (t.turnOff n fast) :=
  (h.modChan _).setChState _ (.inl (by rw [chan_modChan, if_pos rfl]; simpa using hst))

theorem clockRestart : State.Within n s (t.clockRestart n) := by
  unfold State.clockRestart
  exact ite (h.modChan _) (h.modChan _)

theorem turnOnEffects (hcal : nfind t.pda.cal n = none) : State.Within n s (t.turnOnEffects n) := by
  unfold State.turnOnEffects State.endOffset
  rw [show nfind (t.modChan n _).pda.cal n = none from hcal]
  exact h.modChan _

end State.Within

/-! ### Requests (R36, R37, R39) -/

/-- The owner's request is noted on the channel and shown in its register. -/
def State.asks (s : State) (n req : Nat) : State :=
  let u := s.dutyFollow n
  (u.modChan n fun c => { c with req := req, reqAt := some u.now, orphanHold := false, holdEnd := none }).set
    PDA_CHn_CTRL_REQ req n

@[simp] theorem State.dutyFollow_chan (s : State) (n m : Nat) : (s.dutyFollow n).chan m = s.chan m := by
  unfold State.dutyFollow; split <;> rfl

@[simp] theorem State.dutyFollow_pda (s : State) (n : Nat) : (s.dutyFollow n).pda = s.pda := by
  unfold State.dutyFollow; split <;> rfl

@[simp] theorem State.dutyFollow_now (s : State) (n : Nat) : (s.dutyFollow n).now = s.now := by
  unfold State.dutyFollow; split <;> rfl

@[simp] theorem State.dutyFollow_tbu (s : State) (n : Nat) : (s.dutyFollow n).tbu = s.tbu := by
  unfold State.dutyFollow; split <;> rfl

theorem State.asks_chan (s : State) (n req : Nat) :
    (s.asks n req).chan n = { s.chan n with req := req, reqAt := some s.now, orphanHold := false, holdEnd := none } := by
  simp [State.asks]

theorem State.Within.asks {n : Nat} {s t : State} (h : State.Within n s t) (req : Nat) : State.Within n s (t.asks n req) :=
  (h.dutyFollow.modChan _).set ..

/-- A request for ON takes effect on a channel that is OFF. -/
theorem State.applyReq_on {s : State} {n : Nat} (hst : (s.chan n).state = chOff) (hgate : (s.chan n).gate = .off) (f : Bool) :
    s.applyReq n 1 f none = (s.asks n 1).turnOn n := by
  unfold State.applyReq State.asks
  simp [hst, hgate, chOff, chLatched, chTurningOn, chOn, chPwm, chHeld]

/-- A request for OFF takes effect on a channel that is ON. -/
theorem State.applyReq_off {s : State} {n : Nat} (hst : (s.chan n).state = chOn) (f : Bool) :
    s.applyReq n 0 f none = ((s.asks n 0).modChan n fun c => { c with restart := false, delay := 0 }).turnOff n f := by
  unfold State.applyReq State.asks
  simp [hst, chLatched, chTripped, chOn]

/-- A request that a register write made takes effect, where no command waits and no check of R91 is due. -/
theorem State.takeRequest_register {s u : State} {n : Nat} {r : PendReq} (hcmd : r.cmd = none)
    (hlimp : (s.chan n).state ≠ chLimp) (hwait : (s.chan n).waitOn = [])
    (hok : (s.modChan n fun c => { c with pend := none }).reqRefused n r.req = false)
    (hu : (s.modChan n fun c => { c with pend := none }).applyReq n r.req r.fast r.duty = u) (hact : (u.chan n).act = none) :
    s.takeRequest n r = u := by
  unfold State.takeRequest
  simp [hcmd, hlimp, hwait, hok, hu, hact]

/-- At a grid point after it was made, a register request takes effect. -/
theorem State.requestDue_register {s : State} {n : Nat} {r : PendReq} (hpend : (s.chan n).pend = some r) (hcmd : r.cmd = none)
    (hgrid : s.atGrid = true) (hat : r.at_ < s.now) (hlimp : (s.chan n).state ≠ chLimp)
    (hpump : ¬ (r.req = 1 ∧ s.pumpDefers (s.chan n) = true)) : s.requestDue n = s.takeRequest n r := by
  unfold State.requestDue State.requestEffect
  simp [hpend, hcmd, hgrid, hat, hlimp, hpump]

@[simp] theorem Ch.charge_gate_off {c : Ch} (h : c.gate = .off) : c.charge = { c with gate := .charging } := by
  unfold Ch.charge Ch.driven
  simp [h]

/-- What a turn-on at a grid point makes of its channel: it charges, blanking runs, the clock and B start (R37, R89, R92). -/
def Ch.turnsOn (c : Ch) (blank : Nat) : Ch :=
  { (c.enters chTurningOn true).charge with
    blank := blank, desat := 0, pwm := none, smpOn := true, clock := 0, b := 0, clockNew := false, clockRuns := true,
    offBusy := none }

theorem Ch.turnsOn_act (c : Ch) (b : Nat) : (c.turnsOn b).act = c.act := by
  unfold Ch.turnsOn Ch.charge Ch.enters
  split_ifs <;> rfl

theorem Ch.turnsOn_fields {c : Ch} (hgate : c.gate = .off) (b : Nat) : (c.turnsOn b).state = chTurningOn ∧
    (c.turnsOn b).gate = .charging ∧ (c.turnsOn b).req = c.req ∧ (c.turnsOn b).pend = c.pend ∧ (c.turnsOn b).reqAt = c.reqAt := by
  have hoff : (c.enters chTurningOn true).gate = .off := hgate
  unfold Ch.turnsOn
  rw [Ch.charge_gate_off hoff]
  exact ⟨rfl, rfl, rfl, rfl, rfl⟩

/-- A turn-on at a grid point, no offset calibration running. -/
theorem State.turnOn_atGrid {s : State} {n : Nat} (hgrid : s.atGrid = true) (hst : (s.chan n).state ≠ chPwm)
    (hcal : nfind s.pda.cal n = none) :
    State.Within n s (s.turnOn n) ∧ (s.turnOn n).chan n = (s.chan n).turnsOn (max 1 (s.get PDA_CHn_DIAG_ON_BLANK n)) := by
  have hwithin : State.Within n s (s.setChState n chTurningOn) := (State.Within.refl n s).setChState _ (.inl hst)
  unfold State.turnOn
  extract_lets t u
  have hu : State.Within n s u := hwithin.modChan _
  have hgridu : u.atGrid = true := hu.atGrid.trans hgrid
  have hv : State.Within n s (u.clockRestart n) := hu.clockRestart
  refine ⟨hv.turnOnEffects (hv.cal ▸ hcal), ?_⟩
  have hend (w : State) (hw : w.pda.cal = s.pda.cal) : w.endOffset n = w := by
    rw [State.endOffset, hw, hcal]
  have hblank : t.get PDA_CHn_DIAG_ON_BLANK n = s.get PDA_CHn_DIAG_ON_BLANK n :=
    State.get_congr (State.setChState_regs (.inl hst)) ..
  have hgridt : t.atGrid = true := hwithin.atGrid.trans hgrid
  rw [State.turnOnEffects, hend _ (hv.modChan _).cal, State.clockRestart, if_pos hgridu]
  simp only [chan_modChan, if_true, u, hblank, hgridt, t, State.setChState_chan (.inl hst), hgrid, Ch.turnsOn]

theorem State.get_set_other {s : State} {f g : Fld} {i j x y : Nat} (h : f.reg.addr i j ≠ g.reg.addr x y) (v : Nat) :
    (s.set g v x y).get f i j = s.get f i j := by
  simp only [State.get, State.set, rd_wr_other s _ h]

theorem State.asks_get {f : Fld} {s : State} {n req i j : Nat} (h1 : f.reg.addr i j ≠ PDA_CHn_CTRL.addr n 0)
    (h2 : f.reg.addr i j ≠ PDA_CHn_PWM_APPLIED.addr n 0) : (s.asks n req).get f i j = s.get f i j := by
  have hduty : (s.dutyFollow n).get f i j = s.get f i j := by
    unfold State.dutyFollow
    split
    · rw [State.get_set_other (by exact h2), State.setFlag, State.get_set_other (by exact h2)]
    · rfl
  rw [State.asks, State.get_set_other (by exact h1), State.modChan_get, hduty]

@[simp] theorem Ch.discharge_on {c : Ch} (h : c.gate = .on) (fast : Bool) :
    c.discharge fast = { c with gate := if fast then .fast else .sink, smpOn := false } := by
  unfold Ch.discharge; simp [h]

/-- A turn-off of a channel whose gate is on. -/
theorem State.turnOff_on {s : State} {n : Nat} (hst : (s.chan n).state ≠ chPwm) (hgate : (s.chan n).gate = .on) (fast : Bool) :
    (s.turnOff n fast).chan n =
      ({ s.chan n with gate := if fast then .fast else .sink, smpOn := false, pwm := none, edge := none } : Ch).enters
        chTurningOff s.atGrid := by
  unfold State.turnOff
  extract_lets t
  have hc : t.chan n = { s.chan n with gate := if fast then .fast else .sink, smpOn := false, pwm := none, edge := none } := by
    simp [t, hgate]
  have ht : (t.chan n).state ≠ chPwm ∨ (if (t.chan n).gate == .off then chOff else chTurningOff) = chPwm :=
    .inl (by rw [hc]; exact hst)
  have hg : ((t.chan n).gate == Gate.off) = false := by rw [hc]; cases fast <;> rfl
  rw [State.setChState_chan ht, if_pos rfl, hg, hc]
  rfl

/-- R36, R37: a register request turns an OFF channel on. -/
theorem channelRequest_on {s : State} {n at_ : Nat} {f : Bool} (hgrid : s.atGrid = true) (hat : at_ < s.now)
    (hpend : (s.chan n).pend = some { req := 1, fast := f, at_ := at_ }) (hst : (s.chan n).state = chOff)
    (hgate : (s.chan n).gate = .off) (hwait : (s.chan n).waitOn = []) (hact : (s.chan n).act = none)
    (hprof : s.profIdx n ≠ 0) (htherm : (s.chan n).thermal = false) (hlatch : s.peLatched n = false)
    (hlow : s.pda.cpLow = false) (hcal : nfind s.pda.cal n = none) :
    State.Within n s (s.requestDue n) ∧ (s.requestDue n).chan n =
      ({ s.chan n with pend := none, req := 1, reqAt := some s.now, orphanHold := false, holdEnd := none } : Ch).turnsOn
        (max 1 (s.get PDA_CHn_DIAG_ON_BLANK n)) := by
  let u := s.modChan n fun c => { c with pend := none }
  have hu : State.Within n s u := (State.Within.refl n s).modChan _
  have huc : u.chan n = { s.chan n with pend := none } := by rw [chan_modChan, if_pos rfl]
  have hasks : State.Within n s (u.asks n 1) := hu.asks 1
  have hac : (u.asks n 1).chan n =
      { s.chan n with pend := none, req := 1, reqAt := some s.now, orphanHold := false, holdEnd := none } := by
    rw [State.asks_chan, huc]; rfl
  have hblank : (u.asks n 1).get PDA_CHn_DIAG_ON_BLANK n = s.get PDA_CHn_DIAG_ON_BLANK n :=
    State.asks_get (s := u) (by simp [Reg.addr, PDA_CHn_DIAG_ON_BLANK, PDA_CHn_DIAG_ON, PDA_CHn_CTRL])
      (by simp [Reg.addr, PDA_CHn_DIAG_ON_BLANK, PDA_CHn_DIAG_ON, PDA_CHn_PWM_APPLIED])
  obtain ⟨hw, hc⟩ := State.turnOn_atGrid (s := u.asks n 1) (n := n) (hasks.atGrid.trans hgrid) (by rw [hac, hst]; decide)
    (hasks.cal ▸ hcal)
  rw [hac, hblank] at hc
  have heq : s.requestDue n = (u.asks n 1).turnOn n := by
    rw [State.requestDue_register hpend rfl hgrid hat (by rw [hst]; decide) (by simp [State.pumpDefers, hlow])]
    refine State.takeRequest_register rfl (by rw [hst]; decide) hwait ?_ ?_ ?_
    · simp [State.reqRefused, State.profIdx, State.peLatched, hst, chOff, chTripped, chLatched, htherm] at hprof hlatch ⊢
      exact ⟨hprof, hlatch⟩
    · exact State.applyReq_on (by rw [huc]; exact hst) (by rw [huc]; exact hgate) f
    · rw [hc, Ch.turnsOn_act]
      exact hact
  rw [heq]
  exact ⟨hasks.trans hw, hc⟩

/-- R36, R39: a register request turns an ON channel off. -/
theorem channelRequest_off {s : State} {n at_ : Nat} {f : Bool} (hgrid : s.atGrid = true) (hat : at_ < s.now)
    (hpend : (s.chan n).pend = some { req := 0, fast := f, at_ := at_ }) (hst : (s.chan n).state = chOn)
    (hgate : (s.chan n).gate = .on) (hwait : (s.chan n).waitOn = []) (hact : (s.chan n).act = none) :
    State.Within n s (s.requestDue n) ∧ ((s.requestDue n).chan n).state = chTurningOff ∧
      ((s.requestDue n).chan n).gate = (if f then .fast else .sink) ∧ ((s.requestDue n).chan n).req = 0 ∧
      ((s.requestDue n).chan n).pend = none := by
  let u := s.modChan n fun c => { c with pend := none }
  have huc : u.chan n = { s.chan n with pend := none } := by rw [chan_modChan, if_pos rfl]
  let v := (u.asks n 0).modChan n fun c => { c with restart := false, delay := 0 }
  have hv : State.Within n s v := (((State.Within.refl n s).modChan _).asks 0).modChan _
  have hvc : v.chan n = { s.chan n with
      pend := none, req := 0, reqAt := some s.now, orphanHold := false, holdEnd := none, restart := false, delay := 0 } := by
    rw [chan_modChan, if_pos rfl, State.asks_chan, huc]; rfl
  have hvst : (v.chan n).state ≠ chPwm := by rw [hvc, hst]; decide
  have hc := State.turnOff_on hvst (by rw [hvc]; exact hgate) f
  have heq : s.requestDue n = v.turnOff n f := by
    rw [State.requestDue_register hpend rfl hgrid hat (by rw [hst]; decide) (by simp)]
    refine State.takeRequest_register rfl (by rw [hst]; decide) hwait (by simp [State.reqRefused]) ?_ ?_
    · exact State.applyReq_off (by rw [huc]; exact hst) f
    · rw [hc, Ch.enters_act, hvc]
      exact hact
  rw [heq]
  refine ⟨hv.turnOff f hvst, ?_⟩
  rw [hc, hvc]
  exact ⟨rfl, rfl, rfl, rfl⟩

/-- R39: the gate has fallen below 1 V. -/
theorem turnOffComplete_off {s : State} {n : Nat} (hgate : (s.chan n).gate = .sink ∨ (s.chan n).gate = .fast)
    (hst : (s.chan n).state = chTurningOff) (hset : (s.chan n).settle = none) :
    let e := s.turnOffComplete n
    State.Within n s e ∧ e.regs = s.regs ∧ (e.chan n).state = chOff ∧ (e.chan n).gate = .off ∧ (e.chan n).offAt = some s.now := by
  let u := s.setChan n { s.chan n with gate := .off, offAt := some s.now, ntr := (s.chan n).ntr + 1 }
  have huc : u.chan n = { s.chan n with gate := .off, offAt := some s.now, ntr := (s.chan n).ntr + 1 } := by
    rw [chan_setChan, if_pos rfl]
  have hust : (u.chan n).state ≠ chPwm ∨ chOff = chPwm := .inl (by rw [huc, hst]; decide)
  have heq : s.turnOffComplete n = u.setChState n chOff := by
    unfold State.turnOffComplete
    rcases hgate with h | h <;> simp [h, hst, hset, u]
  intro e
  rw [show e = u.setChState n chOff from heq]
  refine ⟨((State.Within.refl n s).setChan _).setChState chOff hust, State.setChState_regs hust, ?_⟩
  rw [State.setChState_chan hust, if_pos rfl, huc]
  exact ⟨rfl, rfl, rfl⟩

/-! ### Register writes of a channel (R36, R57, R81) -/

theorem mem_slotRegs_chCtrl : PDA_CHn_CTRL ∈ slotRegs 3 := by decide
theorem mem_slotRegs_chFault : PDA_CHn_FAULT ∈ slotRegs 3 := by decide

/-- A write that makes a request, replacing none that a command waits for. -/
theorem State.writeCtrl_accepted {s : State} {n : Nat} {v : Word} (hreq : v.toNat % 4 ≠ 3) (hlimp : (s.chan n).state ≠ chLimp)
    (hok : v.toNat % 4 ≠ 0 → s.profIdx n ≠ 0 ∧ s.peLatched n = false) (hpend : ∀ r, (s.chan n).pend = some r → r.cmd = none) :
    s.writeCtrl n v = (((s.wr PDA_CHn_CTRL (w32 (setBits (setBit (v.toNat % 262144) 3
        (if (s.chan n).state = chOff then bitOf v.toNat 3 else bitOf (s.rd PDA_CHn_CTRL n).toNat 3)) 1 0
        (bitsOf (s.rd PDA_CHn_CTRL n).toNat 1 0))) n).set PDA_CHn_CTRL_REQ (v.toNat % 4) n).modChan n fun c =>
      { c with pend := some { req := v.toNat % 4, fast := bitOf v.toNat 2, at_ := s.now } }) := by
  have hrefused : (decide (v.toNat % 4 = 3) || decide ((s.chan n).state = chLimp) ||
      (decide (v.toNat % 4 ≠ 0) && (s.profIdx n == 0 || s.peLatched n))) = false := by
    by_cases h0 : v.toNat % 4 = 0
    · simp [h0, hlimp]
    · simp [hreq, hlimp, hok h0]
  unfold State.writeCtrl
  cases h : (s.chan n).pend with
  | none => simp only [hrefused, h]; rfl
  | some r => simp only [hrefused, h, hpend r h]; rfl

theorem rowWrite_chCtrl {s : State} {a : Init} {n : Nat} (hn : n < 64) (hreach : s.reaches a PDA_CHn_CTRL n 0 true = true)
    (v : Word) (hrun : (s.writeCtrl n v).coreRuns = true) :
    s.rowWrite a PDA_CHn_CTRL v n = (s.writeCtrl n v).answer (some []) := by
  have heff : s.writeReg a PDA_CHn_CTRL (PDA_CHn_CTRL.addr n 0) n 0 v = s.writeCtrl n v := by
    unfold State.writeReg
    rw [Reg.slotOf_addr (k := 3) (by decide) hn (by decide)]
    exact if_pos rfl
  rw [rowWrite_reaches (by decide) mem_slotRegs_chCtrl (by decide) (by decide) (by decide)
    (isBuffer_of_lt (by simp only [Reg.addr, PDA_CHn_CTRL]; omega)) hn (by decide) v hreach, heff]
  exact if_pos hrun

theorem rowWrite_chFault {s : State} {a : Init} {n : Nat} (hn : n < 64) (hreach : s.reaches a PDA_CHn_FAULT n 0 true = true)
    (v : Word) : s.rowWrite a PDA_CHn_FAULT v n = (s.clearFaults n v.toNat).answer (some []) := by
  have heff : s.writeReg a PDA_CHn_FAULT (PDA_CHn_FAULT.addr n 0) n 0 v = s.clearFaults n v.toNat := by
    unfold State.writeReg
    rw [Reg.slotOf_addr (k := 3) (by decide) hn (by decide)]
    exact (if_neg (by decide)).trans (if_pos rfl)
  rw [rowWrite_reaches (by decide) mem_slotRegs_chFault (by decide) (by decide) (by decide)
    (isBuffer_of_lt (by simp only [Reg.addr, PDA_CHn_FAULT]; omega)) hn (by decide) v hreach, heff]
  exact if_pos (reaches_runs hreach)

theorem exec_chCtrlReqWrite (a : Init) (n : Nat) (v : Word) (s : State) :
    exec (.chCtrlReqWrite a n v) s = s.ends (s.rowWrite a PDA_CHn_CTRL v n) := rfl
theorem exec_chFaultClear (a : Init) (n : Nat) (v : Word) (s : State) :
    exec (.chFaultClear a n v) s = s.ends (s.rowWrite a PDA_CHn_FAULT v n) := rfl
theorem exec_channelRequestEffect {n : Nat} (hn : n < 64) (s : State) :
    exec (.channelRequestEffect n) s = s.ends (s.requestDue n) := congrArg s.ends (if_pos hn)
theorem exec_turnOffComplete {n : Nat} (hn : n < 64) (s : State) :
    exec (.turnOffComplete n) s = s.ends (s.turnOffComplete n) := congrArg s.ends (if_pos hn)

/-- Settles O23: a register write makes a request, which turns the channel on or off at a later grid point. -/
theorem channelRequests : Obligations.ChannelRequests := by
  refine ⟨fun s a n v hn => ⟨fun hreach hreq hlimp hok hpend => ?ctrl, fun hreach => ?fault⟩, ?on, fun s n at_ f hn => ⟨?off, ?done⟩⟩
  case ctrl =>
    have heq := State.writeCtrl_accepted hreq hlimp hok hpend
    have hrun : (s.writeCtrl n v).coreRuns = true := by
      rw [heq, State.modChan_coreRuns, State.set_coreRuns, State.wr_coreRuns, reaches_runs hreach]
    rw [exec_chCtrlReqWrite, rowWrite_chCtrl hn hreach v hrun, heq]
    rfl
  case fault =>
    rw [exec_chFaultClear, rowWrite_chFault hn hreach]
    rfl
  case on =>
    intro s n at_ f hn hgrid hat hpend hst hgate hwait hact hprof htherm hlatch hlow hcal
    obtain ⟨hw, hc⟩ := channelRequest_on hgrid hat hpend hst hgate hwait hact hprof htherm hlatch hlow hcal
    refine ⟨_, exec_channelRequestEffect hn s, ?_⟩
    rw [hc]
    obtain ⟨hstate, hg, hreq, hnone, hreqAt⟩ := Ch.turnsOn_fields (c := { s.chan n with
      pend := none, req := 1, reqAt := some s.now, orphanHold := false, holdEnd := none }) hgate
      (max 1 (s.get PDA_CHn_DIAG_ON_BLANK n))
    exact ⟨hstate, hg, hreq, hnone, rfl, rfl, rfl, hreqAt, hw.chan, hw.mem, hw.sf, hw.tbu, hw.pcs, hw.now⟩
  case off =>
    intro hgrid hat hpend hst hgate hwait hact
    obtain ⟨hw, hstate, hg, hreq, hnone⟩ := channelRequest_off hgrid hat hpend hst hgate hwait hact
    exact ⟨_, exec_channelRequestEffect hn s, hstate, hg, hreq, hnone, hw.chan, hw.mem, hw.sf⟩
  case done =>
    intro hgate hst hset
    obtain ⟨hw, hregs, hstate, hg, hoff⟩ := turnOffComplete_off hgate hst hset
    exact ⟨_, exec_turnOffComplete hn s, hstate, hg, hoff, hw.chan, hregs, hw.mem, hw.sf⟩

end Sys2Proof.Machine
end

section
/-!
# Trips, minimum on-time, charge pump, supply groups and PWM (O24, O15, O25)

Where a statement's case ends in one line of the model, `ends_of_eq` reduces the command to its effect and the guards of the
case decide that line. A trip that finds its channel marked is the exception that refutes O24.
-/

namespace Sys2Proof.Machine

/-! ### Trips (R112) -/

/-- A channel that is ON, whose mark of a trip under limp stands, and whose last trip was at this very instant: the model takes
a further cause for one more condition of that trip. -/
def markedOn : State :=
  { pcs := { boot := .done, power := .run }
    regs := [(PCS_STATE.addr 0 0, 0x10)]
    pda := { lost := false, ch := [(0, { state := chOn, gate := .on, limpTrip := true, tripAt := some 0 })] } }

/-- A further trip at that instant leaves the channel ON. -/
theorem markedOn_trip_state : ((markedOn.trip 0 [fOvercurrent]).chan 0).state = chOn := by decide

/-- Refutes O24: a trip of a channel that is ON leaves it ON where the mark of a trip under limp and the time of the last trip
say that it tripped at this instant; the statement's hypotheses do not shut that state out. -/
theorem not_channelTrips : ¬ Obligations.ChannelTrips := by
  rintro ⟨-, htrip⟩
  have h := (htrip markedOn 0 fOvercurrent (by decide) (by decide) (by decide) (by decide) (by decide) rfl rfl rfl rfl rfl
    (by decide) (by decide)).1
  rw [markedOn_trip_state] at h
  exact absurd h (by decide)

/-! ### A command's effect -/

/-- Commands end alike where their effects agree. -/
theorem ends_of_eq {s t u : State} (h : t = u) : s.ends t = .next (State.settle s u) := by rw [h]; rfl

theorem exec_pwmPeriodStart {n : Nat} (hn : n < 64) (s : State) :
    exec (.pwmPeriodStart n) s = s.ends (s.pwmPeriodStart n) := congrArg s.ends (if_pos hn)
theorem exec_pwmOffEdge {n : Nat} (hn : n < 64) (s : State) :
    exec (.pwmOffEdge n) s = s.ends (s.pwmOff n) := congrArg s.ends (if_pos hn)

/-! ### PWM (R40, R41) -/

/-- What the start of a period at TD0 time `t` makes of the sequence, with on-time `on`. -/
def State.pwmLatch (s : State) (n t on : Nat) (w : PwmRun) : State :=
  (s.untilTd 0 t).modChan n fun c => { c with pwm := some { w with
    begun := true, period := s.pwmPeriod n, duty := s.dutyApplied n, start := t, phase := t % s.pwmPeriod n,
    startAt := (s.untilTd 0 t).now, minon := s.get PDA_CHn_PWM_CFG_MINON n, onFor := on } }

theorem State.untilTd_pwmPeriod (s : State) (d ns n : Nat) : (s.untilTd d ns).pwmPeriod n = s.pwmPeriod n := by
  simp [State.pwmPeriod]

theorem State.pwmWaiting_nil {s : State} {n : Nat} (h : (s.chan n).pwmCmds = []) : s.pwmWaiting n = [] := by
  simp [State.pwmWaiting, h]

theorem State.pwmDue_nil {s : State} {n : Nat} (h : (s.chan n).pwmCmds = []) : s.pwmDue n = s := by
  rw [State.pwmDue, State.pwmWaiting_nil h]; rfl

/-- The first period of a sequence starts at its start instant. -/
theorem State.pwmPeriodStart_first {s : State} {n : Nat} {w : PwmRun} (hw : (s.chan n).pwm = some w) (hrun : s.coreRuns = true)
    (hst : (s.chan n).state = chPwm) (hbegun : w.begun = false) (hcmds : (s.chan n).pwmCmds = [])
    (hreach : s.pwmStart n w.from_ ≤ (s.untilTd 0 (s.pwmStart n w.from_)).td0) :
    s.pwmPeriodStart n =
      let on := onTime (s.pwmPeriod n) (s.dutyApplied n) (s.get PDA_CHn_PWM_CFG_MINON n)
      let u := s.pwmLatch n (s.pwmStart n w.from_) on w
      if on = 0 then u.pwmOffEdge n else u.pwmOnEdge n := by
  have hkeep : (s.chan n).keepsPwm = false := by simp [Ch.keepsPwm, hst, chPwm, chHeld]
  have hnext : s.pwmNext n w = (s.pwmStart n w.from_, s.pwmStart n w.from_) := by
    simp [State.pwmNext, hkeep, hbegun, State.pwmDue_nil hcmds]
  have hdue : (s.untilTd 0 (s.pwmStart n w.from_)).pwmDue n = s.untilTd 0 (s.pwmStart n w.from_) :=
    State.pwmDue_nil (by rw [State.untilTd_chan]; exact hcmds)
  unfold State.pwmPeriodStart State.pwmPeriodGo
  simp [hw, hst, State.pwmWaiting_nil hcmds, State.each, hnext, hkeep, hrun, hreach, hdue, State.pwmLatch, hcmds,
    State.untilTd_pwmPeriod, State.dutyApplied]
  rfl

/-- The on-time ends before the period does. -/
theorem State.pwmOff_within {s : State} {n : Nat} {w : PwmRun} (hw : (s.chan n).pwm = some w) (hrun : s.coreRuns = true)
    (hbegun : w.begun = true) (hon : w.on = true) (hshort : w.onFor < w.period)
    (hreach : w.start + w.onFor ≤ (s.untilTd 0 (w.start + w.onFor).toNat).td0) :
    s.pwmOff n = (s.untilTd 0 (w.start + w.onFor).toNat).pwmOffEdge n := by
  unfold State.pwmOff
  simp [hw, hbegun, hon, hshort, hrun, Nat.min_eq_left (Nat.le_of_lt hshort), hreach]

/-- An on-time as long as the period has no off-edge while the sequence goes on unchanged. -/
theorem State.pwmOff_full {s : State} {n : Nat} {w : PwmRun} (hw : (s.chan n).pwm = some w) (hbegun : w.begun = true)
    (hfull : w.onFor = w.period) (hcmds : (s.chan n).pwmCmds = []) (hst : (s.chan n).state ≠ chHeld)
    (hnext : ((s.pwmStart n (w.start + w.period).toNat : Nat) : Int) = w.start + w.period) : s.pwmOff n = s := by
  have hkeep : (s.chan n).keepsPwm = false := by simp [Ch.keepsPwm, hst]
  have hsame : s.pwmStart n (w.start + w.period).toNat = (w.start + w.period).toNat := by omega
  unfold State.pwmOff
  simp [hw, hbegun, hfull, State.pwmNext, hkeep, State.pwmDue_nil hcmds, hsame]

/-- Settles O15: the arithmetic of R41, and what the model does with an on-time of none and of the whole period. -/
theorem minimumOnTime : Obligations.MinimumOnTime := by
  refine ⟨fun period duty minon => ?arith, fun s n w hn hw => ⟨?start, ?full⟩⟩
  case arith =>
    intro on
    have hdef : onTime period duty minon = if minon * 1000 = 0 then on else if on < minon * 1000 then 0
        else if period - on < minon * 1000 then period else on := rfl
    rw [hdef]
    refine ⟨fun h => ?_, fun h => ?_, fun h1 h2 => ?_, fun h1 h2 => ?_⟩ <;> split_ifs <;> omega
  case start =>
    intro hrun hst hbegun hcmds t hreach hnone
    rw [exec_pwmPeriodStart hn, State.pwmPeriodStart_first hw hrun hst hbegun hcmds hreach]
    refine ends_of_eq ?_
    dsimp only
    rw [if_pos hnone, hnone]
    rfl
  case full =>
    intro hbegun _ hfull hcmds hst hnext
    rw [exec_pwmOffEdge hn]
    exact ends_of_eq (State.pwmOff_full hw hbegun hfull hcmds hst hnext)

/-! ### The charge pump, groups and compensation (R35, R42, R43, R55, R97) -/

theorem State.keepRegs_running {s : State} (h : s.coreRuns = true) (t : State) : s.keepRegs t = t := if_pos h

/-- Settles O25: the guards of each event hold in its case, and compensation is its formula in usable values. -/
theorem pumpGroupsAndPwm : Obligations.PumpGroupsAndPwm := by
  refine ⟨fun s x hrun => ?pump, fun s k hk hprot => ⟨?uvBegin, ?uvEnd, ?pause⟩,
    fun s n w hn hrun hw hst => ⟨?start, ?off⟩, ?recompute, ?duty, ?hold⟩
  case pump =>
    intro top ref
    have href : pumpRef x = ref := rfl
    refine ⟨fun h => ends_of_eq ?_, fun h => ends_of_eq ?_, fun h => ends_of_eq ?_⟩
    · simp [State.uvDefer, pumpBelow, href, h, State.keepRegs_running hrun]
    · simp [State.cpRecover, pumpBelow, href, Nat.not_lt.mpr h, State.keepRegs_running hrun, hrun]
    · simp [State.pumpFails, pumpBelow, href, h, State.keepRegs_running hrun, State.each, State.cpUv]
  case uvBegin =>
    intro huv hdone
    exact ends_of_eq (by simp [hk, State.groupUvBegin, hprot, huv, hdone, State.each])
  case uvEnd =>
    intro huv hdone
    exact ends_of_eq (by simp [hk, State.groupUvEnd, hprot, huv, hdone])
  case pause =>
    intro sum cnt start hev hlong
    exact ends_of_eq (by simp [hk, State.pauseMaxExpiry, hprot, hev, hlong])
  case start =>
    intro hbegun hcmds t hreach hsome
    rw [exec_pwmPeriodStart hn, State.pwmPeriodStart_first hw hrun hst hbegun hcmds hreach]
    refine ends_of_eq ?_
    dsimp only
    rw [if_neg hsome]
    rfl
  case off =>
    intro hbegun hon hshort hreach
    rw [exec_pwmOffEdge hn]
    exact ends_of_eq (State.pwmOff_within hw hrun hbegun hon hshort hreach)
  case recompute =>
    intro s hprot hgrid hten
    exact ends_of_eq (by simp [State.dutyRecomputes, hprot, hgrid, hten, State.each])
  case duty =>
    intro s n sum cnt hvnom hst hcnt hsum hhist
    unfold State.dutyRecompute
    simp [hvnom, hst, hhist, hcnt, hsum]
  case hold =>
    intro s n t hn hprot hsince hvnom hst
    exact ends_of_eq (by simp [hn, State.compHoldExpiry, hsince, hprot, hvnom, hst])

end Sys2Proof.Machine
end

section
/-!
# Estimates, streams and time domains (O26, O27, O28, O29)

Two refutations by a state that the model evaluates, then the streams and the control of the time domains. `rowWrite_effect` says
once that a write that reaches a register of one word has the register's effect and an answer.
-/

namespace Sys2Proof.Machine

/-- A device of which the core die is lost, with a request for channel 0 that its register shows and a HELD channel 0 whose
hold time ends now. -/
def heldRequest : State :=
  { regs := [(PDA_CHn_CTRL.addr 0 0, 1)]
    pda := { lost := true, ch := [(0, { state := chHeld, gate := .on, holdEnd := some 0 })] } }

/-- The register of channel 0's request where a command ends in a state. -/
def Out.ctrl0 : Out → Option Nat
  | .next s => some (s.rd PDA_CHn_CTRL 0).toNat
  | _ => none

theorem heldRequest_tHoldExpiry : Out.ctrl0 (exec (.tHoldExpiry 0) heldRequest) = some 0 := by decide

/-- Refutes O26: where the orphan state is OFF the model also withdraws the request, so `PDA_CHn_CTRL` reads REQ 0, where the
statement's state still reads the request. -/
theorem not_testsRestartsAndLimp : ¬ Obligations.TestsRestartsAndLimp := by
  rintro ⟨-, -, ⟨htake, -⟩, -⟩
  have h := heldRequest_tHoldExpiry
  rw [htake heldRequest 0 0 (by decide) (by decide) (by decide) (by decide) (by decide)] at h
  exact absurd h (by decide)

/-- A device before protection is active, with a channel in the state ON that the latest sample has not seen so. -/
def unprotected : State :=
  { pcs := { boot := .done, power := .run }
    pda := { lost := false, ch := [(0, { state := chOn, gate := .on })] } }

/-- The state of channel 0 at the latest current sample, where a command ends in a state. -/
def Out.sampledState0 : Out → Option Nat
  | .next s => some (s.chan 0).smpState
  | _ => none
theorem unprotected_gridPoint : Out.sampledState0 (exec (.gridPoint {}) unprotected) = some chOn := by decide +kernel

/-- The samples of that grid point leave the channel's record of its state alone. -/
theorem unprotected_samples :
    (let u := unprotected.untilTd 0 (gridNs unprotected.gridDue)
     let t := { u with tbu := { u.tbu with grid := unprotected.gridDue, gridNext := unprotected.gridDue + 1,
                                           gridAt := some u.now } }
     let v := t.sampleAll {} unprotected.gridDue (gridNs unprotected.gridDue)
     v.prot = false ∧
       Out.sampledState0 (.next (State.settle unprotected (v.peSample unprotected.gridDue))) = some chOff) := by
  decide +kernel

/-- Refutes O27: before protection is active the model also notes, at the grid point, the state each channel is sampled in; the
statement's state has taken the samples only. -/
theorem not_samplesAndWords : ¬ Obligations.SamplesAndWords := by
  rintro ⟨hgrid, -⟩
  obtain ⟨hprot, hsampled⟩ := unprotected_samples
  have h := unprotected_gridPoint
  rw [(hgrid unprotected {} (by decide)).2 hprot, hsampled] at h
  exact absurd h (by decide)
/-! ### Estimates and streams (R100, R122, R133, R134, R141, R319) -/

/-- A stream that is due takes a set of words. -/
theorem State.streamPublish_due {s : State} {h : Nat} {x : Stream} (hx : nfind s.pda.streams h = some x)
    (hgrid : s.atGrid = true) (hper : s.tbu.grid % x.period = 0) (hnew : x.last ≠ some s.tbu.grid) :
    s.streamPublish h = s.streamTake h x := by
  simp [State.streamPublish, State.streamDue, hx, hgrid, hper, hnew]

/-- Settles O28: each event's guard holds or fails in its case, and a due stream takes its set into the ring or towards a
frame. -/
theorem estimatesAndStreams : Obligations.EstimatesAndStreams := by
  refine ⟨fun s hprot hgrid => ⟨?once, ?again⟩, fun s => ⟨?frame, rfl, ?cal⟩, fun s h x hx hgrid hper hnew => ?stream⟩
  case once =>
    intro hdue
    exact ends_of_eq (by simp [State.kettleTick, hprot, hgrid, hdue, State.kettleUpdate, State.each])
  case again =>
    intro hdone
    exact ends_of_eq (by simp [State.kettleTick, hdone])
  case frame =>
    intro chs hrun
    exact ends_of_eq (by simp [State.linkFrameError, hrun])
  case cal =>
    intro sid t seq ofs hcal
    exact ends_of_eq (by simp [State.calDone, hcal])
  case stream =>
    have hdue := State.streamPublish_due hx hgrid hper hnew
    refine ⟨fun hring hroom => ends_of_eq ?_, fun hring hfull => ends_of_eq ?_, fun hring => ends_of_eq ?_⟩ <;>
      rw [hdue]
    · have hshort : ¬ x.batch ≤ x.sets.length + 1 := by omega
      simp [State.streamTake, hring, hshort]
    · simp [State.streamTake, hring, hfull]
    · simp [State.streamTake, hring]
/-! ### Writes of a register of one word (R12, R14) -/

/-- A write that reaches a register of one word has the register's effect, and is answered while the core die runs after it. -/
theorem rowWrite_effect {s t : State} {i : Init} {k : Nat} {r : Reg} {x j : Nat} {v : Word}
    (h : s.reaches i r x j true = true) (heff : s.writeReg i r (r.addr x j) x j v = t) (hrun : t.coreRuns = true)
    (hk : k < 14) (hr : r ∈ slotRegs k) (hs : r.inSlot k = true) (h1 : r.mwLen ≤ 1 ∧ r.mwAbs = 0)
    (hg : r.base / 0x1000 ≠ 0x4A001) (hb : isBuffer (r.addr x j) = false) (hx : x < r.n1) (hj : j < r.n2) :
    s.rowWrite i r v x j = t.answer (some []) := by
  rw [rowWrite_reaches hk hr hs h1 hg hb hx hj v h, heff]
  exact if_pos hrun

/-- A bit of a word of which one bit was put to one. -/
theorem bitOf_putBits_one (v : Word) {k j : Nat} (hj : j < 32) :
    bitOf (putBits v k k 1).toNat j = if j = k then true else bitOf v.toNat j := by
  rw [putBits, w32, BitVec.toNat_ofNat, bitOf_mod_two_pow hj, bitOf_eq_testBit, bitOf_eq_testBit,
    testBit_setBits _ _ _ (Nat.le_refl k)]
  by_cases h : j = k
  · rw [if_pos (by omega), if_pos h, h, Nat.sub_self]; rfl
  · rw [if_neg (by omega), if_neg h]

/-! ### Control of a time domain and the snapshot (R313, R314, R330) -/

theorem rowWrite_tdCtrl {s : State} {a : Init} {d : Nat} (hd : d < 4) (hreach : s.reaches a TBU_TDd_CTRL d 0 true = true)
    (v : Word) : s.rowWrite a TBU_TDd_CTRL v d = (s.tdCtrl d v.toNat).answer (some []) := by
  have heff : s.writeReg a TBU_TDd_CTRL (TBU_TDd_CTRL.addr d 0) d 0 v = s.tdCtrl d v.toNat := by
    unfold State.writeReg
    rw [Reg.slotOf_addr (k := 5) (by decide) hd (by decide)]
    exact (if_neg (by decide)).trans (if_pos rfl)
  have hrun : (s.tdCtrl d v.toNat).coreRuns = true := by
    simp [State.tdCtrl, apply_ite State.coreRuns, reaches_runs hreach]
  exact rowWrite_effect hreach heff hrun (k := 5) (by decide) (by decide) (by decide) (by decide) (by decide)
    (isBuffer_of_lt (by simp only [Reg.addr, TBU_TDd_CTRL]; omega)) hd (by decide)

theorem State.snapCapture_coreRuns (s : State) : s.snapCapture.coreRuns = s.coreRuns :=
  State.each_keeps (p := State.coreRuns) (fun _ _ => by simp only [State.wr_coreRuns]) s _

theorem rowWrite_snap {s : State} {a : Init} (hreach : s.reaches a TBU_SNAP 0 0 true = true) (v : Word) :
    s.rowWrite a TBU_SNAP (putBits v 0 0 1) = s.snapCapture.answer (some []) := by
  have heff : s.writeReg a TBU_SNAP (TBU_SNAP.addr 0 0) 0 0 (putBits v 0 0 1) = s.snapCapture := by
    unfold State.writeReg
    rw [Reg.slotOf_addr (k := 5) (by decide) (by decide) (by decide)]
    exact (if_pos rfl).trans (if_pos (by rw [bitOf_putBits_one v (by decide), if_pos rfl]))
  exact rowWrite_effect hreach heff (s.snapCapture_coreRuns.trans (reaches_runs hreach)) (k := 5) (by decide) (by decide)
    (by decide) (by decide) (by decide) (isBuffer_of_lt (by decide)) (by decide) (by decide)

/-! ### SET and STEP requests (R315, R316) -/

theorem rowWrite_timeSet {s : State} {a : Init} {d : Nat} {f n l : Word} (hd : d < 4)
    (hreach : s.reaches a TBU_TDd_TIME_SEC_HI d 0 true = true)
    (hheld : s.heldWords a.id.toNat (TBU_TDd_TIME_FRAC.addr d 0) [0, 1, 2] = [f, n, l]) (v : Word) :
    s.rowWrite a TBU_TDd_TIME_SEC_HI v d =
      ((s.dropHold a (TBU_TDd_TIME_FRAC.addr d 0)).tdSet d (l.toNat + v.toNat % 65536 * 4294967296) n.toNat f.toNat).answer
        (some []) := by
  have hgroup : TBU_TDd_TIME_SEC_HI.group (TBU_TDd_TIME_SEC_HI.addr d 0) 0 = (TBU_TDd_TIME_FRAC.addr d 0, 4) := by
    simp only [Reg.group, Reg.addr, TBU_TDd_TIME_SEC_HI, TBU_TDd_TIME_FRAC]
    simp
    omega
  have hval : ∀ (u : State) (low : Nat), u.writeValue TBU_TDd_TIME_SEC_HI low d 0 [f, n, l, v] =
      u.tdSet d (l.toNat + v.toNat % 65536 * 4294967296) n.toNat f.toNat := fun u low => by
    rw [State.writeValue, if_pos rfl]
    simp only [List.getD_cons_zero, List.getD_cons_succ]
  have hrun : ∀ u : State, u.coreRuns = true →
      (u.tdSet d (l.toNat + v.toNat % 65536 * 4294967296) n.toNat f.toNat).coreRuns = true := fun u hu => by
    simp [State.tdSet, State.tbuEvt, apply_ite State.coreRuns, hu]
  rw [rowWrite_value (k := 5) (by decide) (by decide) (by decide) (by decide) hgroup (by decide)
    (by simp only [Reg.addr, TBU_TDd_TIME_SEC_HI, TBU_TDd_TIME_FRAC]; omega)
    (isBuffer_of_lt (by simp only [Reg.addr, TBU_TDd_TIME_SEC_HI]; omega)) hd (by decide) v hreach]
  simp only [show List.range (4 - 1) = [0, 1, 2] from rfl, hheld, List.cons_append, List.nil_append, hval]
  exact if_pos (hrun (s.dropHold a _) (reaches_runs hreach))

theorem rowWrite_step {s : State} {a : Init} {d : Nat} {l : Word} (hd : d < 4)
    (hreach : s.reaches a TBU_TDd_STEP_HI d 0 true = true)
    (hheld : s.heldWords a.id.toNat (TBU_TDd_STEP_LO.addr d 0) [0] = [l]) (v : Word) :
    s.rowWrite a TBU_TDd_STEP_HI v d =
      ((s.dropHold a (TBU_TDd_STEP_LO.addr d 0)).tdStep d (signed 64 (l.toNat + v.toNat * 4294967296))).answer (some []) := by
  have hgroup : TBU_TDd_STEP_HI.group (TBU_TDd_STEP_HI.addr d 0) 0 = (TBU_TDd_STEP_LO.addr d 0, 2) := by
    simp only [Reg.group, Reg.addr, TBU_TDd_STEP_HI, TBU_TDd_STEP_LO]
    simp
    omega
  have hval : ∀ (u : State) (low : Nat), u.writeValue TBU_TDd_STEP_HI low d 0 [l, v] =
      u.tdStep d (signed 64 (l.toNat + v.toNat * 4294967296)) := fun u low => by
    rw [State.writeValue, if_neg (by decide), if_pos rfl]
    simp only [List.getD_cons_zero, List.getD_cons_succ]
  have hrun : ∀ u : State, u.coreRuns = true →
      (u.tdStep d (signed 64 (l.toNat + v.toNat * 4294967296))).coreRuns = true := fun u hu => by
    simp [State.tdStep, State.tbuEvt, apply_ite State.coreRuns, hu]
  rw [rowWrite_value (k := 5) (by decide) (by decide) (by decide) (by decide) hgroup (by decide)
    (by simp only [Reg.addr, TBU_TDd_STEP_HI, TBU_TDd_STEP_LO]; omega)
    (isBuffer_of_lt (by simp only [Reg.addr, TBU_TDd_STEP_HI]; omega)) hd (by decide) v hreach]
  simp only [show List.range (2 - 1) = [0] from rfl, hheld, List.cons_append, List.nil_append, hval]
  exact if_pos (hrun (s.dropHold a _) (reaches_runs hreach))

/-! ### SET and STEP applied (R315–R318) -/

/-- What waits on a domain waits still after a tick. -/
theorem State.ticks_td_pending (s : State) (k d : Nat) :
    ((s.ticks k).td d).pendSet = (s.td d).pendSet ∧ ((s.ticks k).td d).pendStep = (s.td d).pendStep ∧
      ((s.ticks k).td d).st = (s.td d).st := by
  unfold State.ticks
  dsimp only
  split
  · simp only [State.td, List.getD_eq_getElem?_getD, List.getElem?_map]
    cases s.tbu.td[d]? <;> exact ⟨rfl, rfl, rfl⟩
  · exact ⟨rfl, rfl, rfl⟩

theorem State.applySet_of {s : State} {d sec ns frac : Nat} (h : (s.td d).pendSet = some (sec, ns, frac)) :
    s.applySet d = (s.setTd d
      { s.td d with val := ((sec * 1000000000 + ns) * fracOne + frac) % tdWrap, st := .free, pendSet := none }).stepped d
        (s.td d).ns := by
  simp only [State.applySet, h]

theorem State.applyStep_of {s : State} {d : Nat} {delta : Int} (h : (s.td d).pendStep = some delta)
    (hst : (s.td d).st ≠ .unset) :
    s.applyStep d false = (((s.setTd d { s.td d with pendStep := none }).setTd d
      { s.td d with val := (((s.td d).val + delta * (fracOne : Int)) % (tdWrap : Int)).toNat, pendStep := none }).refresh
        d).stepped d (s.td d).ns := by
  simp only [State.applyStep, h, Bool.false_and, Bool.false_eq_true, if_false, if_neg hst]

theorem State.tdDue_tick {s : State} {d : Nat} (hrun : s.coreRuns = true) (hd : d ≠ 0) : s.tdDue d = some (s.ticks 1) := by
  rw [State.tdDue, if_neg (not_not.mpr hrun), if_neg hd]

/-! ### Holdover (R313) -/

/-- HOLDOVER is entered and lasts, where its length is not 0. -/
theorem State.holdoverEntry_lasts {s : State} {d : Nat} (hst : (s.td d).st = .locked) (hrun : s.coreRuns = true)
    (hlast : s.holdT d ≠ 0) :
    s.holdoverEntry d =
      let t := max s.now ((s.td d).refresh + s.refreshT d)
      let u := s.until (t + 2)
      (u.setTd d { u.td d with st := .holdover, holdAt := t }).setBitOf TBU_EVT_HOLDOVER d := by
  unfold State.holdoverEntry
  extract_lets t at_ u src v w t' u'
  have hkept : w.holdT d = s.holdT d := by
    have haddr : TBU_TDd_HOLD_HOLD_T.reg.addr d 0 ≠ TBU_EVT_HOLDOVER.reg.addr 0 0 := by
      simp only [Reg.addr, TBU_TDd_HOLD_HOLD_T, TBU_EVT_HOLDOVER, TBU_TDd_HOLD, TBU_EVT]
      omega
    have hget : w.get TBU_TDd_HOLD_HOLD_T d = s.get TBU_TDd_HOLD_HOLD_T d := by
      unfold w v u State.tbuEvt State.setBitOf
      rw [State.get_set_other haddr]
      simp
    rw [State.holdT, State.holdT, hget]
  rw [if_neg (not_or.mpr ⟨not_not.mpr hst, not_not.mpr hrun⟩), if_neg (by rw [hkept]; exact hlast)]
  rfl

theorem exec_lock (a : Init) (d : Nat) (v : Word) (s : State) :
    exec (.lock a d v) s = s.ends (s.rowWrite a TBU_TDd_CTRL (putBits v 0 0 1) d) := rfl
theorem exec_unlock (a : Init) (d : Nat) (v : Word) (s : State) :
    exec (.unlock a d v) s = s.ends (s.rowWrite a TBU_TDd_CTRL (putBits v 1 1 1) d) := rfl
theorem exec_refresh (a : Init) (d : Nat) (v : Word) (s : State) :
    exec (.refresh a d v) s = s.ends (s.rowWrite a TBU_TDd_CTRL (putBits v 2 2 1) d) := rfl
theorem exec_snapCapture (a : Init) (v : Word) (s : State) :
    exec (.snapCapture a v) s = s.ends (s.rowWrite a TBU_SNAP (putBits v 0 0 1)) := rfl
theorem exec_timeSetWrite (a : Init) (d : Nat) (v : Word) (s : State) :
    exec (.timeSetWrite a d v) s = s.ends (s.rowWrite a TBU_TDd_TIME_SEC_HI v d) := rfl
theorem exec_stepWrite (a : Init) (d : Nat) (v : Word) (s : State) :
    exec (.stepWrite a d v) s = s.ends (s.rowWrite a TBU_TDd_STEP_HI v d) := rfl

/-- Settles O29: each write ends in the one operation of its register, and what waits on a domain still waits at the next tick,
where it is applied. -/
theorem timeDomains : Obligations.TimeDomains := by
  refine ⟨fun s a d v hd => ⟨?lock, ?unlock, ?refresh, ?capture⟩, fun s d hd hrun => ⟨?entry, ?expiry⟩,
    fun s a d v f n l hd hreach hheld => ⟨?set, ?setRefused⟩, ?step, fun s d h1 hd hrun => ⟨?setApply, ?stepApply⟩⟩
  case lock =>
    intro hreach hunlock hrefresh hst
    rw [exec_lock, rowWrite_tdCtrl hd hreach]
    exact ends_of_eq (by simp [State.tdCtrl, bitOf_putBits_one, hunlock, hrefresh, hst])
  case unlock =>
    intro hreach hlock hrefresh hst
    rw [exec_unlock, rowWrite_tdCtrl hd hreach]
    exact ends_of_eq (by simp [State.tdCtrl, bitOf_putBits_one, hlock, hrefresh, hst])
  case refresh =>
    intro hreach hlock hunlock
    rw [exec_refresh, rowWrite_tdCtrl hd hreach]
    exact ends_of_eq (by simp [State.tdCtrl, bitOf_putBits_one, hlock, hunlock, State.refresh])
  case capture =>
    intro hreach
    rw [exec_snapCapture, rowWrite_snap hreach]
    exact ends_of_eq (by simp only [State.snapCapture, State.each])
  case entry =>
    intro hst hlast t u
    exact ends_of_eq ((if_pos hd).trans (State.holdoverEntry_lasts hst hrun hlast))
  case expiry =>
    intro hst u
    exact ends_of_eq (by simp [hd, State.holdoverExpiry, hst, hrun, State.goFree, State.tbuEvt, u])
  case set =>
    intro hsync hns
    rw [exec_timeSetWrite, rowWrite_timeSet hd hreach hheld]
    refine ends_of_eq (congrArg (State.answer · (some [])) ?_)
    have hsync' : (s.dropHold a (TBU_TDd_TIME_FRAC.addr d 0)).synced d = false := hsync
    rw [State.tdSet, if_neg (by simp [hsync', hns])]
    rfl
  case setRefused =>
    intro hsync
    rw [exec_timeSetWrite, rowWrite_timeSet hd hreach hheld]
    refine ends_of_eq (congrArg (State.answer · (some [])) ?_)
    have hsync' : (s.dropHold a (TBU_TDd_TIME_FRAC.addr d 0)).synced d = true := hsync
    rw [State.tdSet, if_pos (Or.inl hsync')]
    rfl
  case step =>
    intro s a d v l hd hreach hheld hset hok
    rw [exec_stepWrite, rowWrite_step hd hreach hheld]
    refine ends_of_eq (congrArg (State.answer · (some [])) ?_)
    have hok' : (s.dropHold a (TBU_TDd_STEP_LO.addr d 0)).stepBad d (signed 64 (l.toNat + v.toNat * 4294967296)) = false := hok
    simp only [State.tdStep, hok', State.dropHold_td, hset, Bool.and_false, Bool.false_eq_true, if_false]
    rfl
  case setApply =>
    intro sec ns frac hset hstep
    obtain ⟨hset', -, -⟩ := s.ticks_td_pending 1 d
    refine ends_of_eq ?_
    simp only [hd, if_true, State.timeSetApply, hset, Option.isNone_some, Bool.false_eq_true, if_false,
      State.tdDue_tick hrun (show d ≠ 0 by omega), State.applySet_of (hset'.trans hset)]
  case stepApply =>
    intro delta hstep hset hst
    obtain ⟨-, hstep', hst'⟩ := s.ticks_td_pending 1 d
    refine ends_of_eq ?_
    simp [hd, State.stepApply, hstep, hset, State.tdDue_tick hrun (show d ≠ 0 by omega),
      State.applyStep_of (hstep'.trans hstep) (hst' ▸ hst)]

end Sys2Proof.Machine
end

section
/-!
# Protection engine: ticks, ingest, placement, bulletins (O30, O31)

Each command's guard holds in its case; of a bulletin frame the state word is arithmetic on the bulletin's fields.
-/

namespace Sys2Proof.Machine

/-! ### Fast ticks, stopped elements, ingest frames (R148–R157) -/

theorem State.mTake_some {s : State} {p : EthFrame → Bool} {f : EthFrame} (h : s.esw.mq.find? p = some f) :
    s.mTake p = (some f, { s with esw := { s.esw with mq := s.esw.mq.erase f } }) := by
  simp only [State.mTake, h]

/-- Settles O30: the guard of each command holds in its case, and the frame is the one that port M takes. -/
theorem engineTicksAndIngest : Obligations.EngineTicksAndIngest := by
  refine ⟨fun s hgrid => ⟨?tick, ?again⟩, fun s h x hx hen => ⟨?third, ?before⟩, fun s f => ⟨?native, fun hf => ⟨?taken, ?none⟩⟩⟩
  case tick =>
    intro hnew
    refine ends_of_eq ?_
    simp only [State.fastTick, hgrid, hnew, not_true_eq_false, or_self, if_false]
    exact ite_not ..
  case again =>
    intro hsame
    exact ends_of_eq (if_pos (Or.inr hsame))
  case third =>
    intro hstops
    exact ends_of_eq (by simp [State.userDisabled, hx, hen, hstops])
  case before =>
    intro hstops
    exact ends_of_eq (by simp [State.userDisabled, hx, hstops])
  case native =>
    intro hf u
    refine ends_of_eq ?_
    rw [State.ingestNative, State.mTake_some hf]
    rfl
  case taken =>
    intro e he
    refine ends_of_eq ?_
    rw [State.foreignFrame, State.ingestForeign, State.mTake_some hf]
    simp only [he]
  case none =>
    intro he
    refine ends_of_eq ?_
    rw [State.foreignFrame, State.ingestForeign, State.mTake_some hf]
    simp only [he]

/-! ### Placement events and bulletins (R172–R182) -/

/-- The state word of a frame of bulletin `b`, from the state in which it leaves (R181). -/
def State.bulWord (s : State) (b : Nat) (x : Bul) : Nat :=
  b2n (bitOf (s.get PE_BUL_STATE_ASSERTED) b) + x.count * 65536 +
    (match s.bulRows b with | e :: _ => e.1 | [] => 65535) * 4294967296 + b * 281474976710656 +
    x.td % 1000000000 * 73786976294838206464 + x.td / 1000000000 % 4294967296 * 79228162514264337593543950336

/-- The channels that a frame of bulletin `b` names: those of its rows that are latched. -/
def State.bulHeld (s : State) (b : Nat) : Nat :=
  ((s.bulRows b).foldl (fun m e => m ||| e.2.mask) 0) &&&
    ((s.rd PE_TRIPLATCH_LO).toNat + (s.rd PE_TRIPLATCH_HI).toNat * 4294967296)

/-- The VLAN tag of bulletin frames. -/
def State.bulTag (s : State) : Option Nat :=
  if (s.rd PE_BUL_CFG).toNat % 4096 = 0 then none
  else some ((s.rd PE_BUL_CFG).toNat % 4096 + bitsOf (s.rd PE_BUL_CFG).toNat 15 13 * 8192)

/-- The group address of bulletin frames. -/
def State.bulDst (s : State) : Nat :=
  beNat (leBytes 4 (s.rd PE_BUL_DMAC_LO).toNat ++ leBytes 2 (s.rd PE_BUL_DMAC_HI).toNat)

/-- A bulletin after a frame that was due at `t`: the next number, and the next frame of the burst or the heartbeat. -/
def Bul.sent (x : Bul) (t : Nat) : Bul :=
  { x with seq := (x.seq + 1) % 4294967296
           idx := match x.idx with | some i => if i < 9 then some (i + 1) else none | none => none
           due := match x.idx with
                  | some i => if i < 9 then some (x.at_ + burstDue.getD (i + 1) 0) else some (t + 100000000)
                  | none => some (t + 100000000) }

theorem State.bulletinDue_sent {s : State} {b t : Nat} {x : Bul} (hrun : s.coreRuns = true)
    (hx : nfind s.pe.buls b = some x) (hdue : x.due = some t) :
    s.bulletinDue b =
      let v := s.until t
      let u := v.mSend v.bulDst v.bulTag 2 b x.seq 0 [v.bulWord b x, v.bulHeld b * 18446744073709551616]
      { u with pe := { u.pe with buls := nset u.pe.buls b (x.sent t) } } := by
  unfold State.bulletinDue
  simp only [hx, hdue, hrun, not_true_eq_false, if_false]
  unfold Bul.sent
  cases x.idx with
  | none => rfl
  | some i =>
    by_cases hi : i < 9
    · simp only [if_pos hi]; rfl
    · simp only [if_neg hi]; rfl

theorem State.bulWord_fields (s : State) (b : Nat) (x : Bul) :
    s.bulWord b x % 2 = b2n (bitOf (s.get PE_BUL_STATE_ASSERTED) b) ∧ bitsOf (s.bulWord b x) 31 16 = x.count % 65536 := by
  unfold State.bulWord
  have hon := b2n_lt_two (bitOf (s.get PE_BUL_STATE_ASSERTED) b)
  exact ⟨by omega, by simp only [bitsOf]; omega⟩

/-- A frame that matches a subscription is its latest; another leaves it. -/
theorem State.bulletinRx_taken {s : State} {f : EthFrame}
    (hf : s.esw.mq.find? (fun f => f.etype == s.esw.etype && f.kind == 2) = some f) :
    s.bulletinRx = ({ s with esw := { s.esw with mq := s.esw.mq.erase f } } : State).each (List.range 32) fun v j =>
      if bitOf (v.rd PE_SUBj_SRC j).toNat 31 ∧ (v.rd PE_SUBj_SRC j).toNat % 65536 = f.node ∧
          bitsOf (v.rd PE_SUBj_SRC j).toNat 20 16 = f.streamId ∧ 1 ≤ f.words then
        let on := bitOf (f.word 0 % 65536) 0 && !(bitOf (f.word 0 % 65536) 1)
        let w := ((({ v with pe := { v.pe with subs := nset v.pe.subs j { asserted := on, rx := v.now } } }).setFlag
          PE_SUBj_STAT_STALE false j).set PE_SUBj_STAT_COUNT (bitsOf (f.word 0) 31 16) j)
        w.subRow j
      else v := by
  rw [State.bulletinRx, State.mTake_some hf]
  dsimp only
  refine congrArg (State.each _ _) (funext fun v => funext fun j => ?_)
  exact ite_not ..

/-- Settles O31: the guard of each command holds in its case. -/
theorem placementAndBulletins : Obligations.PlacementAndBulletins := by
  refine ⟨fun s j hj => ⟨?off, ?clear, ?assert, ?wants⟩, fun s => ⟨?reflow, fun k hk hrun => ⟨?full, ?placed⟩, ?pair⟩,
    ?due, ?rx, ?stale⟩
  case off =>
    intro hprot
    exact if_pos (by simp [hprot])
  case clear =>
    intro hprot hwants
    simp [State.subRow, hprot, hwants]
  case assert =>
    intro hprot hwants
    have hmask : (s.setFlag PE_SUBj_STAT_ASSERTED true j).subMask j = s.subMask j := by
      unfold State.subMask State.setFlag State.set
      rw [rd_wr_other, rd_wr_other] <;> simp only [Reg.addr, PE_SUBj_MASK_LO, PE_SUBj_MASK_HI, PE_SUBj_STAT_ASSERTED, PE_SUBj_STAT] <;> omega
    simp [State.subRow, hprot, hwants, hmask, State.td0, State.td]
  case wants =>
    intro hen hstale
    simp [State.subWants, hen, hstale]
  case reflow =>
    intro hreflow hrun
    exact ends_of_eq (by simp [State.reflowDone, hreflow, hrun])
  case full => exact ends_of_eq (by simp [State.rebalanced, hk, hrun])
  case placed =>
    intro u hu
    simp only [State.rebalanceDone, hk, hu]
  case pair =>
    intro p u hin
    exact ends_of_eq (if_pos hin)
  case due =>
    intro s b t x hrun hx hdue y
    have hword := (s.until t).bulWord_fields b x
    rw [State.until_get] at hword
    refine ⟨_, (s.until t).bulDst, _, _, ends_of_eq (State.bulletinDue_sent hrun hx hdue), ?_, hword⟩
    rw [State.bulDst, State.until_rd, State.until_rd]
  case rx =>
    intro s f hf u
    exact ends_of_eq (State.bulletinRx_taken hf)
  case stale =>
    intro s j hen hrun hfresh u
    exact ends_of_eq (by simp [State.subStale, hen, hrun, hfresh, u])

end Sys2Proof.Machine
end

section
/-!
# Commands of channels, profiles, calibration and streams (O32, O33)

`request_runs` says once what the service does with a command that it takes and whose checks pass: the command's own rule runs
on the state with the command in flight.
-/

namespace Sys2Proof.Machine

/-! ### A command that the service takes (R225–R233) -/

@[simp] theorem State.cmdOf_tgt (s : State) (o : Nat) (r : Req) : (s.cmdOf o r).tgt = r.target.toNat := rfl
@[simp] theorem State.cmdOf_p (s : State) (o : Nat) (r : Req) (i n : Nat) : (s.cmdOf o r).p i n = leAt r.params i n := rfl
@[simp] theorem State.cmdOf_fn (s : State) (o : Nat) (r : Req) : (s.cmdOf o r).fn = r.fn := rfl
@[simp] theorem State.cmdOf_seq (s : State) (o : Nat) (r : Req) : (s.cmdOf o r).seq = s.sf.nextSeq := rfl
@[simp] theorem State.cmdOf_expert (s : State) (o : Nat) (r : Req) : (s.cmdOf o r).desc.expert = r.expert := rfl
@[simp] theorem State.cmdOf_params (s : State) (o : Nat) (r : Req) : (s.cmdOf o r).desc.params = r.params := rfl
@[simp] theorem State.cmdOf_deadline (s : State) (o : Nat) (r : Req) : (s.cmdOf o r).desc.deadline = r.deadline := rfl

/-- A command without a deadline is never late. -/
@[simp] theorem State.cmdOf_not_late {r : Req} (h : r.deadline = 0) (s : State) (o t : Nat) : (s.cmdOf o r).late t = false := by
  simp [Cmd.late, h]

/-- The command's own rule runs where its checks pass and no early outcome stands. -/
theorem request_runs {s t : State} {opcode : Nat} {r : Req} {o : OpSpec} (ht : s.takes opcode r = true)
    (ho : specOf opcode = some o) (hc : o.check (s.fetched opcode r) (s.cmdOf opcode r) = (s.fetched opcode r, none))
    (hearly : o.waits = true ∨ o.outcome (s.fetched opcode r) (s.cmdOf opcode r) = none)
    (hrun : o.run (s.fetched opcode r) (s.cmdOf opcode r) = t) (hop : opcode < 65536) : s.request opcode r = t := by
  rw [request_takes hop ht ho hc (by rw [not_late_of_takes ht, Bool.and_false]) ?_, hrun]
  rcases hearly with h | h <;> simp [h]

/-- An issuer's own channel, output, element or handle passes the check of its owner. -/
theorem State.notOwner_own {s : State} {o kind : Nat} {r : Req} (hexpert : r.expert = false)
    (hown : s.owner kind r.target.toNat = r.fn) :
    (s.fetched o r).notOwner (s.cmdOf o r) kind r.target.toNat = false := by
  simp [State.notOwner, hexpert, hown]

theorem State.expertShut_plain {s t : State} {o : Nat} {r : Req} (hexpert : r.expert = false) :
    t.expertShut (s.cmdOf o r) = false := by simp [State.expertShut, hexpert]

/-- The three kinds of checks all pass. -/
theorem checks_pass {s : State} {c : Cmd} {l l6 : List (Bool × Res)} {named : List (Nat × Nat)}
    (h : firstErr l = none) (hstray : strayByte named c.desc.params = none) (h6 : firstErr l6 = none) :
    checks s c l named l6 = (s, none) := by
  simp [checks, h, h6, strayErr, hstray, orErr]

/-! ### Commands on channels (R76–R80, R116) -/

theorem exec_chSet (r : Req) (s : State) : exec (.chSet r) s = s.ends (s.request 0x0101 r) := rfl
theorem exec_chPwmConfig (r : Req) (s : State) : exec (.chPwmConfig r) s = s.ends (s.request 0x0102 r) := rfl
theorem exec_chClearLatch (r : Req) (s : State) : exec (.chClearLatch r) s = s.ends (s.request 0x0103 r) := rfl
theorem exec_chDiagRead (r : Req) (s : State) : exec (.chDiagRead r) s = s.ends (s.request 0x0104 r) := rfl
theorem exec_chSenseoutSelect (r : Req) (s : State) : exec (.chSenseoutSelect r) s = s.ends (s.request 0x0106 r) := rfl

/-- Settles O32: each command passes its checks, and its rule is the effect that the case names. -/
theorem channelCommands : Obligations.ChannelCommands := by
  intro s r hexpert
  dsimp only
  refine ⟨fun ht htgt hown hlimp hfollow hstray hreq hflags hok hpend => ?set,
    fun ht htgt hown hlimp hpwm hstray hmin hmax hdeadline => ?pwm, fun ht htgt hown hstray => ?clear,
    fun ht htgt hown hstray hrec hmask hdeadline => ?diag, fun ht htgt hown hch hown' hstray hmode hfs => ?sense⟩
  case set =>
    rw [exec_chSet]
    refine ends_of_eq (request_runs ht rfl (checks_pass ?_ hstray ?_) (Or.inl rfl) ?_ (by decide))
    · simp [firstErr, State.notOwner_own hexpert hown, State.expertShut_plain hexpert, hlimp, outOfRange, htgt.not_ge]
    · simp [firstErr, hreq.not_gt, hflags.not_ge]
    · have hok' : (s.fetched 0x0101 r).reqRefused r.target.toNat (leAt r.params 0 1) = false := by
        simpa [State.reqRefused, State.profIdx, State.peLatched] using hok
      simp [specChSet, hok', State.endsFollow, hfollow, hpend]
      rfl
  case pwm =>
    rw [exec_chPwmConfig]
    refine ends_of_eq (request_runs ht rfl (checks_pass ?_ hstray ?_) (Or.inl rfl) ?_ (by decide))
    · simp [firstErr, State.notOwner_own hexpert hown, hlimp, outOfRange, htgt.not_ge]
    · simp [firstErr, hmin.not_gt, hmax.not_gt]
    · simp [specChPwmConfig, hpwm, hdeadline, State.pwmConfig]
  case clear =>
    rw [exec_chClearLatch]
    refine ends_of_eq (request_runs ht rfl (checks_pass ?_ hstray rfl) (Or.inr rfl) rfl (by decide))
    simp [firstErr, State.notOwner_own hexpert hown, State.expertShut_plain hexpert, outOfRange, htgt.not_ge]
  case diag =>
    have hwait : (s.fetched 0x0104 r).diagWaits (s.cmdOf 0x0104 r) = false := by simp [State.diagWaits, hmask]
    rw [exec_chDiagRead]
    refine ends_of_eq (request_runs ht rfl ?_ (Or.inl rfl) ?_ (by decide))
    · simp [specChDiagRead, hwait, firstErr, State.notOwner_own hexpert hown, State.expertShut_plain hexpert, outOfRange, htgt.not_ge,
        strayErr, hstray, orErr, State.thenXlate, hrec]
    · simp [specChDiagRead, hwait, hdeadline, State.diagTake, hrec, State.summary, State.faults]
  case sense =>
    rw [exec_chSenseoutSelect]
    refine ends_of_eq (request_runs ht rfl (checks_pass ?_ hstray ?_) (Or.inr rfl) rfl (by decide))
    · simp [firstErr, State.notOwner_own hexpert hown, hown', outOfRange, htgt.not_ge]
    · simp [firstErr, hch.not_ge, hmode.not_ge, hfs.not_ge]

/-! ### A stream opened at a grid point (R141) -/

/-- A stream of one channel's current, by network, every tenth grid point. -/
def streamReq : Req := Tests.rq 0 63 ([0, 1, 10, 0] ++ leBytes 4 5 ++ [1, 0, 0, 0, 0, 3] ++ [0, 0] ++ [0, 0])

/-- A device at a grid point. -/
def onGrid : State := { Tests.wR with tbu := { Tests.wR.tbu with gridAt := some Tests.wR.now } }

/-- The grid point of the last set of stream 63, where a command ends in a state with that stream. -/
def Out.lastSet : Out → Option (Option Nat)
  | .next s => (nfind s.pda.streams 63).map Stream.last
  | _ => none

theorem onGrid_streamOpen : Out.lastSet (exec (.measStreamOpen streamReq) onGrid) = some (some onGrid.tbu.grid) := by
  decide +kernel

/-- Refutes O33: a stream that is opened at a grid point counts that grid point as done, in the model; the statement's stream
has no last set. -/
theorem not_profileAndStreamCommands : ¬ Obligations.ProfileAndStreamCommands := by
  intro h
  obtain ⟨-, -, -, hopen, -⟩ := h onGrid streamReq rfl
  have hlast := onGrid_streamOpen
  rw [hopen (by decide +kernel) (by decide) (by decide +kernel) rfl (by decide +kernel) (by decide)] at hlast
  revert hlast
  decide +kernel

end Sys2Proof.Machine
end

section
/-!
# Commands of the engine, the gateway, modes, images, tests, keys and functions (O34, O35, O36, O37)

Each accepted command runs by `request_runs`. Where a command answers the time of its effect, the model answers the time of the
grid point at which it stands, which need not be TD0's reading at that instant: that refutes O35 and O37.
-/

namespace Sys2Proof.Machine

/-! ### Commands of the protection engine (R178, R183–R186, R216) -/

theorem exec_elemCreate (r : Req) (s : State) : exec (.elemCreate r) s = s.ends (s.request 0x0401 r) := rfl
theorem exec_elemParam (r : Req) (s : State) : exec (.elemParam r) s = s.ends (s.request 0x0402 r) := rfl
theorem exec_elemDelete (r : Req) (s : State) : exec (.elemDelete r) s = s.ends (s.request 0x0403 r) := rfl
theorem exec_elemStatus (r : Req) (s : State) : exec (.elemStatus r) s = s.ends (s.request 0x0404 r) := rfl
theorem exec_placementRead (r : Req) (s : State) : exec (.placementRead r) s = s.ends (s.request 0x0405 r) := rfl
theorem exec_tripReset (r : Req) (s : State) : exec (.tripReset r) s = s.ends (s.request 0x0406 r) := rfl
theorem exec_ingestOpen (r : Req) (s : State) : exec (.ingestOpen r) s = s.ends (s.request 0x0407 r) := rfl
theorem exec_ingestClose (r : Req) (s : State) : exec (.ingestClose r) s = s.ends (s.request 0x0408 r) := rfl
theorem exec_placementRebalance (r : Req) (s : State) :
    exec (.placementRebalance r) s = s.ends (s.request 0x0409 r) := rfl
theorem exec_elemLoad (r : Req) (s : State) : exec (.elemLoad r) s = s.ends (s.request 0x040A r) := rfl

@[simp] theorem State.fetched_inst? (s : State) (o : Nat) (r : Req) (h : Nat) : (s.fetched o r).inst? h = s.inst? h := by
  rw [State.inst?, State.inst?, State.fetched_pe]

@[simp] theorem State.fetched_peBusy (s : State) (o : Nat) (r : Req) : (s.fetched o r).peBusy = s.peBusy := by
  rw [State.peBusy, State.peBusy, State.fetched_pe]

@[simp] theorem State.fetched_ingUser (s : State) (o : Nat) (r : Req) (h : Nat) :
    (s.fetched o r).ingUser h = s.ingUser h := by
  rw [State.ingUser, State.ingUser, State.fetched_pe]

/-- The checks of a command on one of its issuer's own resources, with no parameter. -/
theorem ownChecks_pass {s : State} {o kind n : Nat} {r : Req} (hexpert : r.expert = false)
    (hown : s.owner kind r.target.toNat = r.fn) (htgt : r.target.toNat < n) (hstray : strayByte [] r.params = none) :
    checks (s.fetched o r) (s.cmdOf o r)
      [((s.fetched o r).notOwner (s.cmdOf o r) kind (s.cmdOf o r).tgt, bad stNotOwner), outOfRange (s.cmdOf o r) n] [] [] =
      (s.fetched o r, none) :=
  checks_pass (by simp [firstErr, State.notOwner_own hexpert hown, outOfRange, htgt.not_ge]) hstray rfl

/-- Settles O34: each command passes its checks, and its rule is the effect that the case names. -/
theorem elementAndIngestCommands : Obligations.ElementAndIngestCommands := by
  refine ⟨fun s r hexpert => ?_, fun s r hexpert => ?_⟩ <;> dsimp only
  · refine ⟨fun ht hbusy hnew hcheck x v hx hv => ?create, fun ht hbusy hcheck x y z hx hy hz ha hb => ?param,
      fun ht htgt hown hstray hbusy hsome => ?delete, fun ht htgt hown hstray x hx => ?status,
      fun ht htgt hown hstray x hx => ?placement, fun ht htgt hown hstray => ?trip, fun ht hfn htgt hstray hbusy => ?rebalance,
      fun ht hfn htgt hstray hlen hok im him => ?load⟩
    case create =>
      rw [exec_elemCreate]
      refine ends_of_eq (request_runs ht rfl hcheck (Or.inr rfl) ?_ (by decide))
      simp [specElemCreate, hbusy, hx, hv, hnew] <;> rfl
    case param =>
      rw [exec_elemParam]
      refine ends_of_eq (request_runs ht rfl hcheck (Or.inr ?_) ?_ (by decide))
      · simp [specElemParam, hx, hy, hz]
      · simp [specElemParam, hbusy, hx, hy, hz, ha, hb]
    case delete =>
      rw [exec_elemDelete]
      refine ends_of_eq (request_runs ht rfl (ownChecks_pass hexpert hown htgt hstray) (Or.inl rfl) ?_ (by decide))
      simp [specElemDelete, hbusy, Option.isSome_iff_ne_none.mp hsome]
    case status =>
      rw [exec_elemStatus]
      refine ends_of_eq (request_runs ht rfl (ownChecks_pass hexpert hown htgt hstray) (Or.inr rfl) ?_ (by decide))
      simp [specElemStatus, hx]
    case placement =>
      have hone : ¬ r.target.toNat = 0xFFFF := by omega
      rw [exec_placementRead]
      refine ends_of_eq (request_runs ht rfl ?_ (Or.inr rfl) ?_ (by decide))
      · exact (if_neg hone).trans (ownChecks_pass hexpert hown htgt hstray)
      · simp [specPlacementRead, hone, hx]
    case trip =>
      have hone : ¬ r.target.toNat = 0xFFFF := by omega
      rw [exec_tripReset]
      refine ends_of_eq (request_runs ht rfl (checks_pass ?_ hstray rfl) (Or.inr rfl) ?_ (by decide))
      · simp [firstErr, htgt.not_ge, State.notOwner_own hexpert hown]
      · simp [specTripReset, hone]
    case rebalance =>
      rw [exec_placementRebalance]
      refine ends_of_eq (request_runs ht rfl (checks_pass ?_ hstray rfl) (Or.inr rfl) ?_ (by decide))
      · simp [firstErr, hfn, htgt]
      · simp [specPlacementRebalance, hbusy]
    case load =>
      rw [exec_elemLoad]
      refine ends_of_eq (request_runs ht rfl ?_ (Or.inr rfl) ?_ (by decide))
      · simp [specElemLoad, firstErr, hfn, htgt, strayErr, hstray, hlen.not_gt, orErr, State.thenXlate, State.xlateCheck, hok]
      · simp only [specElemLoad, State.cmdOf_fn, State.cmdOf_p, hfn, him]
        cases (s.fetched 0x040A r).userLoad im <;> rfl
  · refine ⟨fun ht htgt hown hstray hfields hnative hnew => ?opened, fun ht htgt hown hstray hsome huser => ?closed⟩
    case opened =>
      rw [exec_ingestOpen]
      refine ends_of_eq (request_runs ht rfl ?_ (Or.inr ?_) ?_ (by decide))
      · simp [specIngestOpen, firstErr, State.notOwner_own hexpert hown, outOfRange, htgt.not_ge, strayErr, hstray, hfields, orErr,
          State.thenXlate, hnative]
      · simp [specIngestOpen, hnew]
      · simp [specIngestOpen, hnative]
    case closed =>
      rw [exec_ingestClose]
      refine ends_of_eq (request_runs ht rfl (ownChecks_pass hexpert hown htgt hstray) (Or.inr ?_) rfl (by decide))
      simp [specIngestClose, huser, Option.isSome_iff_ne_none.mp hsome]

/-! ### The time of an effect at a grid point (R246, R383) -/

/-- A device at a grid point at which TD0 reads one nanosecond more than the grid point's time; completions go to memory at
0x10001000. -/
def pastGrid (s : State) : State :=
  (s.wr SF_QPq_CQ_BASE_LO 0x10001000 0 0).setTd 0 { val := 1000001 * fracOne, st := .locked }

/-- Network 15 asleep. -/
def needPastGrid : State := pastGrid (Tests.wR.set FBC_NETn_STATUS_STATE 0 15)

/-- The byte at an address, where a command ends in a state. -/
def Out.byteAt (a : Nat) : Out → Option Byte
  | .next s => some (s.byte a)
  | _ => none

theorem needPastGrid_nmNeed :
    Out.byteAt 0x10001008 (exec (.nmNeed (Tests.rq 0 15 [])) needPastGrid) = some (BitVec.ofNat 8 1000000) := by
  decide +kernel

/-- Refutes O35: NM_NEED at a grid point answers the grid point's time, where the statement answers the reading of TD0. -/
theorem not_networkCommands : ¬ Obligations.NetworkCommands := by
  intro h
  obtain ⟨-, -, -, hneed, -⟩ := h needPastGrid (Tests.rq 0 15 []) rfl
  have hbyte := needPastGrid_nmNeed
  rw [(hneed (by decide) (by decide +kernel) (by decide +kernel) (by decide +kernel)).1 (by decide +kernel)] at hbyte
  revert hbyte
  decide +kernel

/-- A function to be switched on, with its window in memory. -/
def enablePastGrid : State := pastGrid Tests.wVf

theorem enablePastGrid_vfEnable :
    Out.byteAt 0x10001008 (exec (.vfEnable Tests.rVf) enablePastGrid) = some (BitVec.ofNat 8 1000000) := by
  decide +kernel

/-- The window record that VF_ENABLE reads. -/
def enableRecord : List Byte := ((enablePastGrid.fetched 0x0F04 Tests.rVf).fnRead 0 0x10000000 32).1.toOption.getD []

/-- Refutes O37: VF_ENABLE at a grid point answers the grid point's time, where the statement answers the reading of TD0. -/
theorem not_timeKeyAndFunctionCommands : ¬ Obligations.TimeKeyAndFunctionCommands := by
  intro h
  obtain ⟨-, -, -, hfn, -⟩ := h enablePastGrid Tests.rVf rfl
  obtain ⟨-, henable⟩ := hfn (by decide) (by decide) (by decide)
  have hbyte := enablePastGrid_vfEnable
  rw [henable (by decide +kernel) (by decide +kernel) (by decide +kernel) (by decide +kernel) (by decide) (by decide) (by decide)
    (by decide) (by decide) (by decide +kernel) enableRecord (by decide +kernel) (by decide +kernel) (by decide +kernel)] at hbyte
  revert hbyte
  decide +kernel

end Sys2Proof.Machine
end

section
/-!
# Commands of modes, images and tests (O36)
-/

namespace Sys2Proof.Machine

theorem exec_modeSelect (r : Req) (s : State) : exec (.modeSelect r) s = s.ends (s.request 0x0701 r) := rfl
theorem exec_imageStage (r : Req) (s : State) : exec (.imageStage r) s = s.ends (s.request 0x0702 r) := rfl
theorem exec_imageCommit (r : Req) (s : State) : exec (.imageCommit r) s = s.ends (s.request 0x0703 r) := rfl
theorem exec_modeRead (r : Req) (s : State) : exec (.modeRead r) s = s.ends (s.request 0x0704 r) := rfl
theorem exec_testRun (r : Req) (s : State) : exec (.testRun r) s = s.ends (s.request 0x0801 r) := rfl
theorem exec_testResult (r : Req) (s : State) : exec (.testResult r) s = s.ends (s.request 0x0802 r) := rfl

@[simp] theorem State.fetched_modePresent (s : State) (o : Nat) (r : Req) (m : Nat) :
    (s.fetched o r).modePresent m = s.modePresent m := by
  rw [State.modePresent, State.modePresent, State.fetched_get]

@[simp] theorem State.fetched_imageJob? (s : State) (o : Nat) (r : Req) (n : Nat) :
    (s.fetched o r).imageJob? n = s.imageJob? n := by
  rw [State.imageJob?, State.imageJob?, State.fetched_cfg]

@[simp] theorem State.fetched_runsTrial (s : State) (o : Nat) (r : Req) (n : Nat) :
    (s.fetched o r).runsTrial n = s.runsTrial n := by
  rw [State.runsTrial, State.runsTrial, State.fetched_cfg]

@[simp] theorem State.fetched_runHalf (s : State) (o : Nat) (r : Req) (n : Nat) :
    (s.fetched o r).runHalf n = s.runHalf n := by
  rw [State.runHalf, State.runHalf, State.fetched_cfg]

@[simp] theorem State.fetched_areaState (s : State) (o : Nat) (r : Req) (n k : Nat) :
    (s.fetched o r).areaState n k = s.areaState n k := by
  have hbytes : (s.fetched o r).bytes = s.bytes := by
    funext a m
    simp [State.bytes, State.byte]
  simp only [State.areaState, State.commitOf, hbytes]

@[simp] theorem State.fetched_testing (s : State) (o : Nat) (r : Req) (n : Nat) :
    (s.fetched o r).testing n = s.testing n := by
  rw [State.testing, State.testing, State.fetched_fcu]

@[simp] theorem State.fetched_testReady (s : State) (o : Nat) (r : Req) (n : Nat) :
    (s.fetched o r).testReady n = s.testReady n := by
  have htesting : (s.fetched o r).testing = s.testing := funext fun m => State.fetched_testing s o r m
  simp [State.testReady, State.pairState, htesting]

/-- Settles O36: each command passes its checks, and its rule is the effect that the case names. -/
theorem modeImageAndTestCommands : Obligations.ModeImageAndTestCommands := by
  intro s r hexpert hfn
  dsimp only
  refine ⟨fun ht hcfg hmode hstray hidle hother => ?select, fun ht htgt hstray hok hjob htrial => ?stage,
    fun ht htgt hstray hact hadv hone hjob hstate => ?commit, fun ht htgt hstray => ?read,
    fun ht hknown hstray hfree hready => ?run, fun ht hknown hstray => ?result⟩
  case select =>
    rw [exec_modeSelect]
    refine ends_of_eq (request_runs ht rfl (checks_pass ?_ hstray rfl) (Or.inl rfl) ?_ (by decide))
    · simp [firstErr, hfn, hcfg, hmode]
    · simp [specModeSelect, hidle, hother]
  case stage =>
    rw [exec_imageStage]
    refine ends_of_eq (request_runs ht rfl ?_ (Or.inr ?_) rfl (by decide))
    · simp [specImageStage, firstErr, hfn, htgt.not_gt, strayErr, hstray, orErr, State.thenXlate, State.xlateCheck, hok]
    · simp [specImageStage, Option.isNone_iff_eq_none.mp hjob, htrial]
  case commit =>
    rw [exec_imageCommit]
    refine ends_of_eq (request_runs ht rfl (checks_pass ?_ hstray ?_) (Or.inr ?_) rfl (by decide))
    · simp [firstErr, hfn, htgt.not_gt]
    · simp [firstErr, hact.not_gt, hadv.not_gt]
      simpa using hone
    · simp only [specImageCommit, State.cmdOf_p, State.cmdOf_tgt, State.fetched_imageJob?, State.fetched_runsTrial,
        State.fetched_runHalf, State.fetched_areaState, Option.isNone_iff_eq_none.mp hjob]
      by_cases h2 : leAt r.params 0 1 = 2
      · simp [h2, by simpa [h2] using hstate]
      · simp [h2, by simpa [h2] using hstate]
  case read =>
    rw [exec_modeRead]
    refine ends_of_eq (request_runs ht rfl (checks_pass ?_ hstray rfl) (Or.inr rfl) ?_ (by decide))
    · simp [firstErr, htgt]
    · simp [specModeRead]
  case run =>
    rw [exec_testRun]
    refine ends_of_eq (request_runs ht rfl (checks_pass ?_ hstray rfl) (Or.inr ?_) rfl (by decide))
    · simp [firstErr, hfn, hknown]
    · simp [specTestRun, hfree, hready]
  case result =>
    rw [exec_testResult]
    refine ends_of_eq (request_runs ht rfl (checks_pass ?_ hstray rfl) (Or.inr rfl) ?_ (by decide))
    · simp [firstErr, hfn, hknown]
    · simp [specTestResult] <;> rfl

end Sys2Proof.Machine
end

section
/-!
# The command interface (O38)

A tail, a head and a configuration that are taken, the read of the mailbox result with its latch, and REPEAT.
-/

namespace Sys2Proof.Machine

/-! ### Doorbells and the configuration of a pair (R222, R224, R227) -/

/-- The registers of a queue pair are words of their own in slot 2, and none of them is an Ethernet queue's. -/
theorem rowWrite_pair {s t : State} {a : Init} {fn q : Nat} {v : Word} {r : Reg}
    (hr : r ∈ [SF_QPq_SQ_TAIL, SF_QPq_CQ_HEAD, SF_QPq_CFG]) (hfn : fn < 64) (hq : q < 8)
    (hreach : s.reaches a r fn q true = true) (heff : s.writeReg a r (r.addr fn q) fn q v = t) (hrun : t.coreRuns = true) :
    s.rowWrite a r v fn q = t.answer (some []) := by
  simp only [List.mem_cons, List.not_mem_nil, or_false] at hr
  have hbuffer : isBuffer (r.addr fn q) = false := by
    refine isBuffer_of_lt ?_
    rcases hr with rfl | rfl | rfl <;> simp only [Reg.addr, SF_QPq_SQ_TAIL, SF_QPq_CQ_HEAD, SF_QPq_CFG] <;> omega
  rcases hr with rfl | rfl | rfl <;>
    exact rowWrite_effect hreach heff hrun (k := 2) (by decide) (by decide) (by decide) (by decide) (by decide) hbuffer hfn hq

theorem State.writeReg_sqTail (s : State) (a : Init) {fn q : Nat} (hfn : fn < 64) (hq : q < 8) (v : Word) :
    s.writeReg a SF_QPq_SQ_TAIL (SF_QPq_SQ_TAIL.addr fn q) fn q v = s.writeSqTail fn q v := by
  unfold State.writeReg
  rw [Reg.slotOf_addr (k := 2) (by decide) hfn hq]
  rfl

theorem State.writeReg_cqHead (s : State) (a : Init) {fn q : Nat} (hfn : fn < 64) (hq : q < 8) (v : Word) :
    s.writeReg a SF_QPq_CQ_HEAD (SF_QPq_CQ_HEAD.addr fn q) fn q v = s.writeCqHead fn q v := by
  unfold State.writeReg
  rw [Reg.slotOf_addr (k := 2) (by decide) hfn hq]
  rfl

theorem State.writeReg_qpCfg (s : State) (a : Init) {fn q : Nat} (hfn : fn < 64) (hq : q < 8) (v : Word) :
    s.writeReg a SF_QPq_CFG (SF_QPq_CFG.addr fn q) fn q v = s.writeQpCfg fn q v := by
  unfold State.writeReg
  rw [Reg.slotOf_addr (k := 2) (by decide) hfn hq]
  rfl

theorem exec_sqTailDoorbell (a : Init) (fn q : Nat) (v : Word) (s : State) :
    exec (.sqTailDoorbell a fn q v) s = s.ends (s.rowWrite a SF_QPq_SQ_TAIL v fn q) := rfl
theorem exec_cqHeadWrite (a : Init) (fn q : Nat) (v : Word) (s : State) :
    exec (.cqHeadWrite a fn q v) s = s.ends (s.rowWrite a SF_QPq_CQ_HEAD v fn q) := rfl
theorem exec_qpCfgWrite (a : Init) (fn q : Nat) (v : Word) (s : State) :
    exec (.qpCfgWrite a fn q v) s = s.ends (s.rowWrite a SF_QPq_CFG v fn q) := rfl
theorem exec_mbxResultRead (a : Init) (fn : Nat) (s : State) :
    exec (.mbxResultRead a fn) s = s.ends (s.rowRead a SF_MBX_RESULTw fn 0) := rfl

/-! ### The mailbox result (R13, R231) -/

/-- No log's window lies between the memory system's and the time bases'. -/
theorem State.logHead_none (s : State) {low : Nat} (h : 0x42000000 ≤ low ∧ low < 0x45000000) : s.logHead low = none := by
  unfold State.logHead
  split
  case h_7 => rfl
  all_goals omega

theorem State.blind_mbxResult (s : State) (a : Init) (n : Nat) : s.blind a SF_MBX_RESULTw n = false := by
  have hcounter : ¬ (SF_MBX_RESULTw.base = DBG_CNTe_LO.base ∨ SF_MBX_RESULTw.base = DBG_CNTe_HI.base) := by decide
  have hsample : ¬ (DBG_SMP_INFO.base ≤ SF_MBX_RESULTw.base ∧ SF_MBX_RESULTw.base < DBG_SMP_INFO.base + 20) := by decide
  rw [State.blind]
  cases s.dbg.samples <;> simp [hcounter, hsample]

/-- A read of the result's first word answers it and latches all four for the reader. -/
theorem State.readReg_mbxResult {s : State} {a : Init} {fn : Nat} (hfn : fn < 64)
    (hreach : s.reaches a SF_MBX_RESULTw fn 0 false = true) :
    s.readReg a (SF_MBX_RESULTw.addr fn 0) =
      (w32 (leAt (s.readMbx fn).1 0 4),
        (s.readMbx fn).2.latchFor a (SF_MBX_RESULTw.addr fn 0)
          ((List.range 4).map fun k => w32 (leAt (s.readMbx fn).1 (4 * k) 4))) := by
  obtain ⟨-, -, -, -, hlive⟩ := reaches_parts hreach
  have haddr : 0x42000000 ≤ SF_MBX_RESULTw.addr fn 0 ∧ SF_MBX_RESULTw.addr fn 0 < 0x45000000 := by
    simp only [Reg.addr, SF_MBX_RESULTw]; omega
  have hvalue : s.readValue a.secure SF_MBX_RESULTw (SF_MBX_RESULTw.addr fn 0) 4 fn =
      ((List.range 4).map fun k => w32 (leAt (s.readMbx fn).1 (4 * k) 4), (s.readMbx fn).2) := by
    rw [State.readValue, s.logHead_none haddr]
    exact if_pos rfl
  have hgroup : valueOf SF_MBX_RESULTw (SF_MBX_RESULTw.addr fn 0) 0 = (SF_MBX_RESULTw.addr fn 0, 4) := rfl
  have hworld : ¬ (SF_MBX_RESULTw.world = .S ∧ a.secure = false) := fun h => absurd h.1 (by decide)
  have htsq : ¬ SF_MBX_RESULTw.addr fn 0 = 0x45000040 := by omega
  rw [State.readReg, regAt_addr (k := 2) (by decide) (by decide) (by decide) hfn (by decide)]
  simp only [if_neg hworld, hlive, Bool.not_true, Bool.false_eq_true, if_false, hgroup, if_neg (show ¬ 4 ≤ 1 by decide),
    if_true, State.blind_mbxResult, hvalue, decide_eq_false htsq, Bool.false_and]
  rfl

/-! ### REPEAT (R23, R231) -/

theorem withRepeat_length {b : List Byte} (h : b.length = 16) : (withRepeat b).length = 16 := by
  simp [withRepeat, patchAt, leBytes_length, h]

/-- REPEAT is bit 33, that is bit 1 of byte 4; every other byte stays. -/
theorem byteAt_withRepeat {b : List Byte} (h : b.length = 16) {k : Nat} (hk : k < 16) :
    byteAt (withRepeat b) k = if k = 4 then byteAt b k ||| 2 else byteAt b k := by
  obtain ⟨l, x, t, rfl, hl⟩ : ∃ l x t, b = l ++ x :: t ∧ l.length = 4 :=
    ⟨b.take 4, b[4], b.drop 5, by simp, by simp [h]⟩
  rw [withRepeat_append_cons hl]
  simp only [byteAt, List.getD_eq_getElem?_getD]
  split
  · next h4 => simp [h4, hl, BitVec.toNat_or]
  · next h4 =>
    rcases Nat.lt_or_ge k 4 with hlt | hge
    · simp [List.getElem?_append_left, hl, hlt]
    · obtain ⟨m, rfl⟩ : ∃ m, k = 4 + (m + 1) := ⟨k - 5, by omega⟩
      simp [List.getElem?_append_right, hl]

/-- Settles O38: each write is taken in its case, and the read of the result is one value of four words. -/
theorem commandInterface : Obligations.CommandInterface := by
  intro s a fn q v hfn
  dsimp only
  refine ⟨fun hq hreach hlt hroom => ?tail, fun hq hreach hlt hroom => ?head, fun hq hreach hidle hen => ?config,
    fun hreach => ?read, fun hfence hlen => ⟨?fresh, ?seen⟩⟩
  case tail =>
    have heff : s.writeSqTail fn q v =
        (s.setQp fn q { s.qp fn q with tail := v.toNat % 4096 }).wr SF_QPq_SQ_TAIL (w32 (v.toNat % 4096)) fn q := by
      have hbits : bitsOf v.toNat 11 0 = v.toNat % 4096 := by simp [bitsOf]
      rw [State.writeSqTail, hbits]
      exact if_neg (by omega)
    rw [exec_sqTailDoorbell]
    exact ends_of_eq (rowWrite_pair (by simp) hfn hq hreach ((s.writeReg_sqTail a hfn hq v).trans heff)
      (by simp [reaches_runs hreach]))
  case head =>
    have heff : s.writeCqHead fn q v =
        (s.setQp fn q { s.qp fn q with cqHead := v.toNat % 4096 }).wr SF_QPq_CQ_HEAD (w32 (v.toNat % 4096)) fn q := by
      have hbits : bitsOf v.toNat 11 0 = v.toNat % 4096 := by simp [bitsOf]
      rw [State.writeCqHead, hbits]
      exact if_neg (by omega)
    rw [exec_cqHeadWrite]
    exact ends_of_eq (rowWrite_pair (by simp) hfn hq hreach ((s.writeReg_cqHead a hfn hq v).trans heff)
      (by simp [reaches_runs hreach]))
  case config =>
    have hoff : s.flag SF_QPq_CFG_EN fn q = false := (Bool.or_eq_false_iff.mp hidle).1
    have heff : s.writeQpCfg fn q v =
        ((((s.wr SF_QPq_CFG (SF_QPq_CFG.written (s.rd SF_QPq_CFG fn q) v) fn q).setQp fn q {}).set SF_QPq_STATUS_ERR 0 fn
          q).wr SF_QPq_SQ_TAIL 0 fn q).wr SF_QPq_CQ_HEAD 0 fn q := by
      simp [State.writeQpCfg, hoff, hen, hidle, w32]
    rw [exec_qpCfgWrite]
    exact ends_of_eq (rowWrite_pair (by simp) hfn hq hreach ((s.writeReg_qpCfg a hfn hq v).trans heff)
      (by simp [reaches_runs hreach]))
  case read =>
    rw [exec_mbxResultRead]
    refine ends_of_eq ?_
    rw [rowRead_reaches (k := 2) (by decide) (by decide) (by decide)
      (isBuffer_of_lt (by simp only [Reg.addr, SF_MBX_RESULTw]; omega)) hfn (by decide) hreach,
      State.readReg_mbxResult hfn hreach]
  case fresh => exact State.readMbx_fresh hfence
  case seen =>
    intro hst
    rw [State.readMbx_seen hfence hst]
    exact ⟨rfl, withRepeat_length hlen, fun k hk => byteAt_withRepeat hlen hk⟩

end Sys2Proof.Machine
end

section
/-!
# Commands in flight (O39)

The final completion of a queue's command, the fetch of a descriptor, the start of a command, and the ends that groups, deadlines
and withheld reads bring.
-/

namespace Sys2Proof.Machine

/-! ### Completion (R226, R227) -/

/-- The indices of a pair after a completion was put at its tail. -/
def Qp.completed (x : Qp) (d : Nat) : Qp :=
  { x with cqTail := if d ≤ x.cqTail + 1 then 0 else x.cqTail + 1
           phase := if d ≤ x.cqTail + 1 then !x.phase else x.phase }

/-- A completion that is written moves the tail and the phase on, and sends the identity where it is asked for. -/
theorem State.writeCompletion_written {s u : State} {c : Cmd} {status result : Nat}
    (hwrite : (s.count 423).fnWrite c.fn
      ((s.rd SF_QPq_CQ_BASE_LO c.fn c.src).toNat + (s.rd SF_QPq_CQ_BASE_HI c.fn c.src).toNat * 4294967296 +
        16 * (s.qp c.fn c.src).cqTail)
      (completionBytes c.desc.tag.toNat status (s.qp c.fn c.src).phase false c.fn result) = (.ok (), u)) :
    s.writeCompletion c status result =
      (let v := u.setQp c.fn c.src ((s.qp c.fn c.src).completed (s.cqDepth c.fn c.src))
       if v.flag SF_QPq_CFG_IRQ_ALL c.fn c.src || c.desc.notify || decide (0x100 ≤ status) then
         v.msi (v.fnFile c.fn) (v.get SF_QPq_CFG_IDENTITY c.fn c.src) else v) := by
  simp only [State.writeCompletion, hwrite, ge_iff_le]
  rfl

/-- Outside a fence of the service pair, a command that is not mute completes with its completion and is retired. -/
theorem State.complete_queue {s : State} {c : Cmd} (hc : s.cmd? c.seq = some c) (hsrc : c.src < 8) (hmute : c.mute = false)
    (hfence : s.fcu.svpFence = none) (status result : Nat) :
    s.complete c.seq status result = (s.writeCompletion c status result).retire c := by
  simp [State.complete, hc, hmute, hfence, hsrc.ne]

/-! ### Fetch and start (R225, R228) -/

/-- Noting which pair of a function the round came to leaves the pairs. -/
theorem State.qp_setFn_round (s : State) (fn q : Nat) (hi : Bool) (k : Nat) :
    (s.setFn fn (if hi then { s.fn fn with rrHi := q } else { s.fn fn with rrLo := q })).qp fn k = s.qp fn k := by
  cases hi <;> simp [State.qp]

/-- The next queue of the round gives the descriptor at its head, which enters flight. -/
theorem State.fetch_queue {s v : State} {fn q : Nat} {hi : Bool} {b : List Byte} (hnext : s.nextFn = some (fn, q, hi))
    (hq : q ≠ 8)
    (hread : (({ s with sf := { s.sf with rrFn := fn } } : State).setFn fn
        (if hi then { s.fn fn with rrHi := q } else { s.fn fn with rrLo := q })).fnRead fn
      ((s.rd SF_QPq_SQ_BASE_LO fn q).toNat + (s.rd SF_QPq_SQ_BASE_HI fn q).toNat * 4294967296 + 64 * (s.qp fn q).head) 64 =
      (.ok b, v)) :
    s.fetch = (v.setQp fn q { s.qp fn q with head := ((s.qp fn q).head + 1) % v.sqDepth fn q }).enter fn q (descOf b) := by
  have hqp : (({ s with sf := { s.sf with rrFn := fn } } : State).setFn fn
      (if hi then { s.fn fn with rrHi := q } else { s.fn fn with rrLo := q })).qp fn q = s.qp fn q :=
    State.qp_setFn_round { s with sf := { s.sf with rrFn := fn } } fn q hi q
  have hfn : ({ s with sf := { s.sf with rrFn := fn } } : State).fn fn = s.fn fn := rfl
  simp only [State.fetch, hnext, if_neg hq, hfn, hqp, State.setFn_rd]
  rw [State.rd, State.rd] at hread
  rw [State.rd, State.rd, hread]

/-- A command that waits for nothing starts with its own rule. -/
theorem State.execute_waits {s u : State} {c : Cmd} (hc : s.cmd? c.seq = some c) (hheld : s.modeHolds c = false)
    (hwaits : (specOf c.op).any OpSpec.waits = true) (hcheck : s.stepErr c = (u, none)) :
    s.execute c.seq = (match specOf c.op with | some o => o.run u c | none => u) := by
  simp only [State.execute, hc, hheld, Bool.false_eq_true, if_false, hcheck]
  cases hspec : specOf c.op with
  | none => rfl
  | some o =>
    have ho : o.waits = true := by simpa [hspec] using hwaits
    simp [ho]

/-! ### Groups, deadlines, withheld reads (R78, R235–R239) -/

/-- A closed group that is due, none of whose members is late, takes effect as its members' run says. -/
theorem State.groupEffect_due {s : State} {g : Group} (hdue : s.groupDue g = true)
    (hlate : ((s.members g).any fun c => c.late s.effectNs) = false) :
    s.groupEffect g = (match s.membersRun (s.members g) with
      | ([], t) => t.dropGroup g.key
      | (b, _) => (s.each (s.members g) fun v c =>
          v.finish c.seq (match b.find? fun e => e.1 == c.seq with | some e => e.2 | none => bad stAborted)).dropGroup g.key) := by
  simp only [State.groupEffect, hdue, Bool.not_true, Bool.false_eq_true, if_false, hlate] <;> rfl

/-- A read that the find among the withheld ones gives is one of the channel it names. -/
theorem withheld_tgt {s : State} {n fn : Nat} {c : Cmd}
    (hc : (s.sf.cmds.find? fun c => c.stage == .withheld && c.fn == fn && c.op == 0x0104 && c.tgt == n) = some c) :
    c.tgt = n := by
  have h := List.find?_some hc
  simp only [Bool.and_eq_true, beq_iff_eq] at h
  exact h.2

/-- Settles O39: a completion, a fetch and a start in one equation each; the groups, deadlines and reads by their guards. -/
theorem commandsInFlight : Obligations.CommandsInFlight := by
  refine ⟨fun s u c status result hc hsrc hmute hfence hwrite => ?complete, fun s => ⟨?fetch, ?start⟩,
    fun s => ⟨fun fn q g hg hdue hlate => ⟨?effect, ?failed⟩, ?timeout, ?deadline, ?release⟩⟩
  case complete =>
    rw [State.complete_queue hc hsrc hmute hfence, State.writeCompletion_written hwrite]
    rfl
  case fetch =>
    intro fn q hi hnext hq f u b v hread
    rw [exec_descriptorFetch]
    exact ends_of_eq (State.fetch_queue hnext hq.ne hread)
  case start =>
    intro c hc hstart hfin hplain hheld u hwaits hcheck
    refine ends_of_eq (Eq.trans ?_ (State.execute_waits hc hheld hwaits hcheck))
    simp [State.commandStart, hc, hstart, hfin, hplain]
  case effect =>
    intro u hrun
    refine ends_of_eq (congrArg s.after ?_)
    simp only [State.groupEffectOf, hg, State.groupEffect_due hdue hlate, hrun]
  case failed =>
    intro b u hrun hb
    refine ends_of_eq (congrArg s.after ?_)
    obtain ⟨e, l, rfl⟩ := List.exists_cons_of_ne_nil hb
    simp only [State.groupEffectOf, hg, State.groupEffect_due hdue hlate, hrun] <;> rfl
  case timeout =>
    intro fn q g hg hfence u v
    refine ends_of_eq ?_
    simp only [State.groupTimeout, hg, hfence, Bool.false_eq_true, if_false]
    rfl
  case deadline =>
    intro c hc hdeadline hstage hidle hlate hidle'
    refine ends_of_eq ?_
    have hcan : (c.desc.deadline.toNat != 0 &&
        (c.stage == .withheld || c.stage == .held || (c.stage == .started && gridOps.contains c.op))) = true := by
      rcases hstage with h | h | ⟨h, h'⟩ <;> simp_all
    simp only [State.deadlineMissed, hc, hcan, hlate, hidle', Bool.not_true, Bool.false_eq_true, if_false]
  case release =>
    intro n fn c hc hmask hlate hrec hheld hrun
    have htgt := withheld_tgt hc
    have hdue : s.diagWaits c = false := by simp [State.diagWaits, htgt, hmask]
    refine ends_of_eq ?_
    simp [State.withheldRelease, hc, hdue, hheld, hrun, hlate, State.diagTake, hrec, htgt]

end Sys2Proof.Machine
end

section
/-!
# Changes that wait and the end of long commands (O40)
-/

namespace Sys2Proof.Machine

/-- A command that is found carries the number that was looked for. -/
theorem State.cmd?_seq {s : State} {seq : Nat} {c : Cmd} (h : s.cmd? seq = some c) : c.seq = seq := by
  rw [State.cmd?] at h
  simpa using List.find?_some h

/-- The only change that waits takes effect where it is not late. -/
theorem State.ownershipDue_one {s : State} {x : OwnChange} {c : Cmd} (hgrid : s.atGrid = true) (hpend : s.sf.ownPend = [x])
    (hc : s.cmd? x.cmd = some c) (hafter : c.aux < s.now) (hlate : c.late s.effectNs = false) (hheld : s.modeHolds c = false) :
    s.ownershipDue s.modeHolds =
      let u : State := { s with sf := { s.sf with ownPend := [] } }
      let v := u.each ((List.range x.count).map fun k => x.first + k) fun w i => w.ownerMove x.kind i x.owner
      v.complete c.seq stOk v.effectNs := by
  have hlist : (s.sf.ownPend.filter fun x => !((s.cmd? x.cmd).any s.modeHolds)) = [x] := by simp [hpend, hc, hheld]
  have hempty : (s.sf.ownPend.filter fun y => y.cmd != x.cmd) = [] := by simp [hpend]
  have hlate' : ∀ l, c.late ({ s with sf := { s.sf with ownPend := l } } : State).effectNs = false := fun _ => hlate
  simp only [State.ownershipDue, hgrid, if_true, hlist, State.each, List.foldl_cons, List.foldl_nil, State.ownChange, hc,
    if_neg (Nat.not_le.mpr hafter), hempty, hlate', Bool.false_eq_true, if_false, State.completeTime]

/-- The one disable that waits for a function's commands is done with the last of them. -/
theorem State.dirtyDone_one {s : State} {fn q disc : Nat} {run : List Nat} (hdirty : (s.fn fn).dirty = [(q, disc, run)])
    (hdone : (s.sf.cmds.any fun c => run.contains c.seq) = false) :
    s.dirtyDone fn = (s.setFn fn { s.fn fn with dirty := [] }).complete q stOk
      (disc % 65536 + run.length % 65536 * 65536 + 2 ^ 63) := by
  simp only [State.dirtyDone, hdirty, State.each, List.foldl_cons, List.foldl_nil, hdone, Bool.false_eq_true, if_false]
  simp

/-- The prepared mode is applied at a grid point with no placement running. -/
theorem State.modeApply_ready {s t : State} {m : Nat} {c : Cmd} (hprep : s.cfg.preparing = some (m, c.seq))
    (hc : s.cmd? c.seq = some c) (hgrid : s.atGrid = true) (hafter : c.aux < s.now) (hreflow : s.pe.reflow = false)
    (hrebal : s.pe.rebal = none) (htook : s.cfg.tookAt ≠ some s.now) (hlate : c.late s.effectNs = false)
    (ht : s.modeTrial m = .ok t) :
    s.modeApply =
      let u := (t.set SF_MODE_MODE m).set SF_EXPERT_ALLOW_ALLOW (modeExpert t.cfg.base t.cfg.overlays m)
      let v : State := ({ u with cfg := { u.cfg with entered := u.effectNs } } : State).prepareOver
      v.complete c.seq stOk v.effectNs := by
  simp [State.modeApply, hprep, hc, hgrid, hafter.not_ge, hreflow, hrebal, htook, hlate, ht, State.completeTime]

/-- ATTEST writes its report and ends with what the write answers. -/
theorem State.attestDone_report {s : State} {k : SecCall} {c : Cmd}
    (hk : (s.sec.calls.find? fun k => k.cmd == c.seq) = some k) (hc : s.cmd? c.seq = some c) (hop : c.desc.opcode = 0x0A01)
    (hrng : s.sec.rngFail = false) :
    s.attestDone c.seq =
      let b := (s.attestReport c.fn (c.desc.params.take 32)).1
      let u := (s.attestReport c.fn (c.desc.params.take 32)).2.writeRecord c (c.p 32 8) b
      u.2.freeNat.2.callEnd k (match u.1 with | none => stOk | some e => e.1) (u.2.freeNat.1 % 18446744073709551616) := by
  simp only [State.attestDone, hk, hc, hop, hrng, ne_eq, not_true_eq_false, if_false, Bool.false_eq_true]
  obtain ⟨b, v⟩ := s.attestReport c.fn (c.desc.params.take 32)
  obtain ⟨e, w⟩ := v.writeRecord c (c.p 32 8) b
  cases e with
  | none => rfl
  | some e => rfl

/-- Settles O40: what each change or end does where its guard holds. -/
theorem changesAndLongCommands : Obligations.ChangesAndLongCommands := by
  refine ⟨fun s => ⟨?owners, ?quiesced, ?disabled, ?mode, ?profile⟩,
    fun s => ⟨fun kind j hj hrun => ⟨?stage, ?commit⟩, ?test, ?attest⟩⟩
  case owners =>
    intro x c hgrid hpend hc hafter hlate hheld u
    exact ends_of_eq (congrArg s.after (State.ownershipDue_one hgrid hpend hc hafter hlate hheld))
  case quiesced =>
    intro fn hst hidle
    exact ends_of_eq (if_neg (by simp [hst, hidle]))
  case disabled =>
    intro fn q disc run hdirty hdone
    exact ends_of_eq (State.dirtyDone_one hdirty hdone)
  case mode =>
    intro m c t hprep hc hgrid hafter hrun hreflow hrebal htook hlate ht u v
    refine ends_of_eq ((if_pos hrun).trans (congrArg State.releaseHeld ?_))
    exact State.modeApply_ready hprep hc hgrid hafter hreflow hrebal htook hlate ht
  case profile =>
    intro n p hn hp hst u
    refine ends_of_eq ((if_pos hn).trans ?_)
    rw [State.profileIndexApply, hp]
    refine (if_pos hst).trans ?_
    rcases hst with h | h <;> simp only [State.cfgIndex, h, true_or, or_true, if_true, u]
  case stage =>
    intro hop hlen u h d v hread w
    refine ends_of_eq ?_
    have hready : ¬ (j.op ≠ 0 ∨ (!s.sf.running) = true) := by simp [hop, hrun]
    simp only [State.imageStageDone, hj, if_neg hready, if_neg hlen.not_gt]
    rw [show (s.dropJob kind).fnRead 0 j.src j.len = (.ok d, v) from hread]
    simp only [Bool.not_true, Bool.false_eq_true, if_false]
    cases w.stageReason kind (w.imageOf kind h j.len) <;> rfl
  case commit =>
    intro hop hact hadv c hc u
    refine ends_of_eq ?_
    have hact2 : j.action ≠ 2 := by omega
    simp [State.imageCommitDone, hj, hop, hrun, hact2, hc, hadv, u]
  case test =>
    intro id code us t q ht hq hcode hid u x y v
    refine ends_of_eq ?_
    have hready : ¬ (id / 256 = 1 ∧ (!(s.epTested (id % 256))) = true ∨ 6 < code) := by omega
    simp only [State.testDone, ht, if_neg hready, State.testEnd, hq] <;> rfl
  case attest =>
    intro k c hk hc hop hrng b u
    refine ends_of_eq ((State.attestDone_report hk hc hop hrng).trans ?_)
    dsimp only [u, b] <;> cases ((s.attestReport c.fn (c.desc.params.take 32)).2.writeRecord c (c.p 32 8)
      (s.attestReport c.fn (c.desc.params.take 32)).1).1 <;> rfl

end Sys2Proof.Machine
end

section
/-!
# Ports and transmission (O41)

Frames received, links and PLCA are their guards. A transmission is a chain of small changes: the frame leaves its queue, a stamp
is taken, the medium is busy, the frame is on the wire and the counters advance; what each link of the chain leaves alone is said
once.
-/

namespace Sys2Proof.Machine

/-! ### What the configuration alone decides -/

theorem State.eswRec_congr {s t : State} (h : t.cfg = s.cfg) (r i : Nat) : t.eswRec r i = s.eswRec r i := by
  rw [State.eswRec, State.eswRec, State.cfgData, State.cfgData, h]

theorem State.plcaOn_congr {s t : State} (h : t.cfg = s.cfg) (p : Nat) : t.plcaOn p = s.plcaOn p := by
  rw [State.plcaOn, State.plcaOn, State.eswRec_congr h]

theorem State.secyOn_congr {s t : State} (h : t.cfg = s.cfg) (p : Nat) : t.secyOn p = s.secyOn p := by
  rw [State.secyOn, State.secyOn, State.eswRec_congr h]

theorem State.wireBytes_congr {s t : State} (h : t.cfg = s.cfg) (p : Nat) (f : EthFrame) :
    t.wireBytes p f = s.wireBytes p f := by
  simp only [State.wireBytes, State.vlanUntagged, State.eswRec_congr h]
  rfl

theorem State.wireOctets_congr {s t : State} (h : t.cfg = s.cfg) (p : Nat) (f : EthFrame) :
    t.wireOctets p f = s.wireOctets p f := by
  simp only [State.wireOctets, State.wireBytes_congr h, State.secyOn_congr h, State.exempt, State.eswRec_congr h]
  rfl

theorem State.octetTime_congr {s t : State} (h : t.cfg = s.cfg) (p n : Nat) : t.octetTime p n = s.octetTime p n := by
  simp only [State.octetTime, State.portRate, State.eswRec_congr h]

/-- PLCA does not run on a port without it. -/
theorem State.plcaRuns_off {s t : State} {p : Nat} (h : t.cfg = s.cfg) (hoff : s.plcaOn p = false) : t.plcaRuns p = false := by
  rw [State.plcaRuns, State.plcaOn_congr h, hoff, Bool.false_and]

/-! ### The port's counters (R305) -/

/-- The 64 bits of a counter of a port. -/
def State.counted (s : State) (p c : Nat) : Nat :=
  (s.rd ESW_PORTp_CNTc_LO p c).toNat + (s.rd ESW_PORTp_CNTc_HI p c).toNat * 4294967296

theorem State.counted_congr {s t : State} (h : t.regs = s.regs) (p c : Nat) : t.counted p c = s.counted p c := by
  simp only [State.counted, State.rd, h]

/-- The two words of two counters of a port are four registers. -/
theorem counter_addr_ne {p c p' c' : Nat} :
    ESW_PORTp_CNTc_LO.addr p c ≠ ESW_PORTp_CNTc_HI.addr p' c' ∧
      (c ≠ c' → ESW_PORTp_CNTc_LO.addr p c ≠ ESW_PORTp_CNTc_LO.addr p c' ∧
        ESW_PORTp_CNTc_HI.addr p c ≠ ESW_PORTp_CNTc_HI.addr p c') := by
  simp only [Reg.addr, ESW_PORTp_CNTc_LO, ESW_PORTp_CNTc_HI]
  exact ⟨by omega, fun h => ⟨by omega, by omega⟩⟩

/-- What neither a register write nor a performance event changes, a port's counter leaves too. -/
theorem State.cnt_keeps {β : Type} {g : State → β} (hwr : ∀ (s : State) r v i j, g (s.wr r v i j) = g s)
    (hcount : ∀ (s : State) e n, g (s.count e n) = g s) (s : State) (p c n : Nat) : g (s.cnt p c n) = g s := by
  unfold State.cnt
  extract_lets v t
  have ht : g t = g s := by
    unfold t
    split
    · exact hcount s _ n
    · rfl
  exact (hwr _ _ _ _ _).trans ((hwr _ _ _ _ _).trans ht)

/-- A counter counts modulo its 64 bits. -/
theorem State.counted_cnt (s : State) (p c n : Nat) :
    (s.cnt p c n).counted p c = (s.counted p c + n) % 2 ^ 64 := by
  obtain ⟨hlohi, -⟩ := counter_addr_ne (p := p) (c := c) (p' := p) (c' := c)
  have hregs : ∀ v w, (((if c = 2 then s.count (428 + p) n else s).wr ESW_PORTp_CNTc_LO v p c).wr ESW_PORTp_CNTc_HI w p c).counted
      p c = v.toNat + w.toNat * 4294967296 := by
    intro v w
    rw [State.counted, rd_wr_other _ _ hlohi, rd_wr_self, rd_wr_self]
  rw [State.cnt, hregs]
  simp only [w32, BitVec.toNat_ofNat, State.counted]
  omega

theorem State.counted_cnt_other (s : State) (p : Nat) {c c' : Nat} (h : c ≠ c') (n : Nat) :
    (s.cnt p c' n).counted p c = s.counted p c := by
  obtain ⟨hlohi, hsame⟩ := counter_addr_ne (p := p) (c := c) (p' := p) (c' := c')
  obtain ⟨hlohi', -⟩ := counter_addr_ne (p := p) (c := c') (p' := p) (c' := c)
  obtain ⟨hlo, hhi⟩ := hsame h
  unfold State.cnt State.counted
  rw [rd_wr_other _ _ hlohi, rd_wr_other _ _ hlo, rd_wr_other _ _ hhi, rd_wr_other _ _ hlohi'.symm]
  split <;> simp

/-! ### Stamps (R323) -/

/-- What neither a field nor the time bases hold, a stamp leaves. -/
theorem State.stampFrame_keeps {β : Type} {g : State → β} (hset : ∀ (s : State) f v i j, g (s.set f v i j) = g s)
    (htbu : ∀ (s : State) t, g { s with tbu := t } = g s) (s : State) (p : Nat) (tx : Bool) (body : List Byte)
    (st : List Nat) : g (s.stampFrame p tx body st) = g s := by
  unfold State.stampFrame
  split
  · extract_lets h info
    split
    · exact (hset _ _ _ _ _).trans (hset _ _ _ _ _)
    · exact htbu _ _
  · rfl

/-! ### Transmission (R288, R289) -/

theorem State.port_modPort (s : State) (p r : Nat) (f : Port → Port) :
    (s.modPort p f).port r = if r = p then f (s.port p) else s.port r :=
  ngetD_nput ..

/-- The head frame of a class has left its queue. -/
def State.takesHead (s : State) (p k : Nat) (l : List EthFrame) : State :=
  s.modPort p fun x => { x with queues := if l.isEmpty then nerase x.queues k else nset x.queues k l }

/-- The stamp of a frame that port `p` sends is taken and, where it is a stamped frame, queued. -/
def State.stampsSent (s : State) (p q : Nat) (f : EthFrame) : State :=
  (s.stamps p q true).2.stampFrame p true (f.onPort p) (s.stamps p q true).1

/-- A frame of `n` octets and `d` ns in class `k` is on the medium of port `p`. -/
def State.occupies (s : State) (p k n d : Nat) : State :=
  (s.modPort p fun x => { x with burst := none }).modPort p fun x =>
    { x with busy := s.now + s.octetTime p (n + 12),
             credit := if s.idleSlope p k = 0 then x.credit else
               let c := (ngetD x.credit k (0, s.now)).1
               nset x.credit k (c - ((s.portRate p - s.idleSlope p k) * d : Nat), s.now + d) }

/-- The head frame of class `k` leaves port `p`, which has neither PLCA nor MACsec. -/
def State.sendsHead (s : State) (p q k : Nat) (f : EthFrame) (l : List EthFrame) : State :=
  let u := s.takesHead p k l
  let n := u.wireOctets p f
  let v := (u.stampsSent p q f).occupies p k n (u.octetTime p n)
  ((({ v with esw := { v.esw with sent := nset v.esw.sent p { bytes := u.wireBytes p f, sa := none } } } : State).cnt p 2).cnt
    p 3 (n - 8))

/-- What a stamp leaves alone: anything but the registers, the time bases and the free values' count. -/
theorem State.stampsSent_keeps {β : Type} {g : State → β} (hset : ∀ (s : State) f v i j, g (s.set f v i j) = g s)
    (htbu : ∀ (s : State) t, g { s with tbu := t } = g s) (hfree : ∀ (s : State) n, g { s with free := n } = g s)
    (s : State) (p q : Nat) (f : EthFrame) : g (s.stampsSent p q f) = g s :=
  (State.stampFrame_keeps hset htbu _ _ _ _ _).trans (hfree _ _)

/-! #### What is dropped before leaves the configuration -/

theorem State.cfg_of_holdView {s t : State} (h : t.holdView = s.holdView) : t.cfg = s.cfg :=
  congrArg (fun v => v.2.2.2.2.2.2) h

theorem State.txWriteBack_holdView (s : State) (q addr : Nat) (d : List Byte) (status stamp : Nat) :
    (s.txWriteBack q addr d status stamp).holdView = s.holdView := by
  unfold State.txWriteBack
  extract_lets b t
  have ht : t.holdView = s.holdView := State.ite_holdView rfl (s.cnt_holdView (by decide) (by decide) 1)
  have hwrite := (t.fnWrite_holdView (t.qOwner q) addr b).trans ht
  generalize t.fnWrite (t.qOwner q) addr b = r at hwrite ⊢
  obtain ⟨_ | _, u⟩ := r
  · exact (u.qStop_holdView q).trans hwrite
  · exact (u.qWroteBack_holdView q).trans hwrite

theorem State.txRelease_holdView (s : State) (wb : Option (Nat × Nat)) (status : Nat) (stamp : Option Nat) :
    (s.txRelease wb status stamp).holdView = s.holdView := by
  unfold State.txRelease
  split
  · rfl
  split
  · rfl
  · exact State.ite_holdView rfl (State.txWriteBack_holdView ..)

theorem State.dropUnsendable_holdView {p : Nat} (hp : p < 12) (k : Nat) (l : List EthFrame) (s : State) :
    (s.dropUnsendable p k l).holdView = s.holdView := by
  induction l generalizing s with
  | nil => rfl
  | cons f l ih =>
    have hdrop : ∀ g : Port → Port, ((((s.cnt p 14).modPort p g).txRelease f.wb 0 none).dropUnsendable p k l).holdView =
        s.holdView := fun g => by
      rw [ih, State.txRelease_holdView, State.modPort_holdView, State.cnt_holdView s hp (by decide)]
    unfold State.dropUnsendable
    split
    · exact State.ite_holdView (hdrop _) rfl
    · rfl

/-- Port `p` when it next begins to send: the medium is free, the credit is counted, and what can never be sent is dropped. -/
def State.readyToSend (s : State) (p : Nat) : State :=
  let u := (s.until (s.port p).busy).creditTo p
  u.each (u.port p).queues fun w (k, l) => w.dropUnsendable p k l

theorem State.readyToSend_cfg (s : State) {p : Nat} (hp : p < 12) : (s.readyToSend p).cfg = s.cfg := by
  have hdrop : (s.readyToSend p).holdView = ((s.until (s.port p).busy).creditTo p).holdView :=
    State.foldl_holdView (fun w (e : Nat × List EthFrame) => State.dropUnsendable_holdView hp e.1 e.2 w) _ _
  exact (State.cfg_of_holdView hdrop).trans (State.until_cfg ..)

theorem State.stampsSent_cfg (s : State) (p q : Nat) (f : EthFrame) : (s.stampsSent p q f).cfg = s.cfg :=
  State.stampsSent_keeps (g := State.cfg) (fun _ _ _ _ _ => rfl) (fun _ _ => rfl) (fun _ _ => rfl) s p q f

theorem State.frameTxStart_sends {s : State} {p q k : Nat} {f : EthFrame} {l : List EthFrame} (hp : p < 10)
    (hup : s.eswUp = true) (hlink : s.linkUp p = true) (hplca : s.plcaOn p = false) (hsec : s.secyOn p = false)
    (hk : (([7, 6, 5, 4, 3, 2, 1, 0] : List Nat).find? fun k => (s.readyToSend p).maySend p k) = some k)
    (hhead : ngetD ((s.readyToSend p).port p).queues k [] = f :: l) (hwb : f.wb = none) :
    s.frameTxStart p q = (s.readyToSend p).sendsHead p q k f l := by
  have hcfg := s.readyToSend_cfg (show p < 12 by omega)
  have hruns : ∀ t : State, t.cfg = s.cfg → t.plcaRuns p = false := fun t h => State.plcaRuns_off h hplca
  have hsends : ∀ e, (((s.readyToSend p).takesHead p k l).stampsSent p q f).plcaSends p e false =
      (((s.readyToSend p).takesHead p k l).stampsSent p q f).modPort p fun x => { x with burst := none } := fun e =>
    if_pos (by
      rw [hruns (((s.readyToSend p).takesHead p k l).stampsSent p q f) ((State.stampsSent_cfg ..).trans hcfg)]
      exact Bool.false_ne_true)
  unfold State.frameTxStart
  rw [if_neg (not_not.mpr ⟨hp, hup, hlink⟩), hruns s rfl, Bool.false_and, if_neg Bool.false_ne_true]
  extract_lets s1 again s2 s3 s4
  have hagain : again = false := by
    unfold again
    rw [hruns s1 (State.until_cfg ..), Bool.false_and]
  have hs2 : s2 = s1 := if_neg (by simp [hruns s1 (State.until_cfg ..)])
  have hs4 : s4 = s.readyToSend p := by
    unfold s4 s3
    rw [hs2]
    rfl
  clear_value again s4
  subst hagain hs4
  simp -zeta only [hk, hhead]
  extract_lets w1 bytes n prot sa stopped d w2 w3 w4 src w5 w6
  have hprot : prot = false := by
    unfold prot
    rw [show w1.secyOn p = false from (State.secyOn_congr hcfg p).trans hsec, Bool.false_and]
  have hw3 : w3 = w2.modPort p fun x => { x with burst := none } := hsends _
  clear_value prot w3
  subst hprot hw3
  rw [Bool.false_and, if_neg Bool.false_ne_true, hwb]
  rfl

/-! #### What a sent frame leaves and changes -/

/-- What neither a register, nor the time bases, the bridge, a performance event or a free value holds, a sent frame leaves. -/
theorem State.sendsHead_keeps {β : Type} {g : State → β} (hwr : ∀ (s : State) r v i j, g (s.wr r v i j) = g s)
    (hcount : ∀ (s : State) e n, g (s.count e n) = g s) (htbu : ∀ (s : State) t, g { s with tbu := t } = g s)
    (hesw : ∀ (s : State) e, g { s with esw := e } = g s) (hfree : ∀ (s : State) n, g { s with free := n } = g s)
    (s : State) (p q k : Nat) (f : EthFrame) (l : List EthFrame) : g (s.sendsHead p q k f l) = g s := by
  unfold State.sendsHead
  extract_lets u n v
  rw [State.cnt_keeps hwr hcount, State.cnt_keeps hwr hcount, hesw]
  unfold v State.occupies State.modPort
  rw [hesw, hesw, State.stampsSent_keeps (fun _ _ _ _ _ => hwr _ _ _ _ _) htbu hfree]
  exact hesw _ _

theorem State.cnt_esw (s : State) (p c n : Nat) : (s.cnt p c n).esw = s.esw :=
  State.cnt_keeps (fun _ _ _ _ _ => rfl) (fun s e n => s.count_esw e n) s p c n

theorem State.stampsSent_esw (s : State) (p q : Nat) (f : EthFrame) : (s.stampsSent p q f).esw = s.esw :=
  State.stampsSent_keeps (g := State.esw) (fun _ _ _ _ _ => rfl) (fun _ _ => rfl) (fun _ _ => rfl) s p q f

theorem State.stampsSent_now (s : State) (p q : Nat) (f : EthFrame) : (s.stampsSent p q f).now = s.now :=
  State.stampsSent_keeps (g := State.now) (fun _ _ _ _ _ => rfl) (fun _ _ => rfl) (fun _ _ => rfl) s p q f

theorem State.port_congr {s t : State} (h : t.esw = s.esw) (p : Nat) : t.port p = s.port p := by
  rw [State.port, State.port, h]

theorem State.occupies_port (s : State) (p k n d r : Nat) :
    ((s.occupies p k n d).port r).queues = (s.port r).queues ∧
      ((s.occupies p k n d).port p).busy = s.now + s.octetTime p (n + 12) ∧
      (r ≠ p → (s.occupies p k n d).port r = s.port r) := by
  unfold State.occupies
  refine ⟨?_, ?_, fun hr => ?_⟩
  · rw [State.port_modPort]
    split
    · next h => rw [State.port_modPort, if_pos rfl, h]
    · next h => rw [State.port_modPort, if_neg h]
  · rw [State.port_modPort, if_pos rfl]
  · rw [State.port_modPort, if_neg hr, State.port_modPort, if_neg hr]

/-- The frame has left its queue, the medium is busy for its octets and 12 more, and no other port changes. -/
theorem State.sendsHead_port (s : State) (p q k : Nat) (f : EthFrame) (l : List EthFrame) :
    ((s.sendsHead p q k f l).port p).queues =
        (if l.isEmpty then nerase (s.port p).queues k else nset (s.port p).queues k l) ∧
      ((s.sendsHead p q k f l).port p).busy = s.now + s.octetTime p (s.wireOctets p f + 12) ∧
      (∀ r, r ≠ p → (s.sendsHead p q k f l).port r = s.port r) ∧
      nfind (s.sendsHead p q k f l).esw.sent p = some { bytes := s.wireBytes p f, sa := none } := by
  unfold State.sendsHead
  extract_lets u n v
  have hu : ∀ r, u.port r = if r = p then
      { s.port p with queues := (if l.isEmpty then nerase (s.port p).queues k else nset (s.port p).queues k l) }
      else s.port r :=
    fun r => State.port_modPort ..
  have hcfg : u.cfg = s.cfg := rfl
  have hsent : ∀ r, ((u.stampsSent p q f)).port r = u.port r := fun r => State.port_congr (u.stampsSent_esw p q f) r
  have hport : ∀ r, ((({ v with esw := { v.esw with sent := nset v.esw.sent p { bytes := u.wireBytes p f, sa := none } } } :
      State).cnt p 2).cnt p 3 (n - 8)).port r = v.port r := fun r => by
    rw [State.port_congr (State.cnt_esw ..), State.port_congr (State.cnt_esw ..)]
    rfl
  refine ⟨?_, ?_, fun r hr => ?_, ?_⟩
  · rw [hport, ((u.stampsSent p q f).occupies_port p k n _ p).1, hsent, hu, if_pos rfl]
  · rw [hport, ((u.stampsSent p q f).occupies_port p k n _ p).2.1, State.stampsSent_now,
      State.octetTime_congr ((u.stampsSent_cfg p q f).trans hcfg), show n = s.wireOctets p f from State.wireOctets_congr hcfg p f]
    rfl
  · rw [hport, ((u.stampsSent p q f).occupies_port p k n _ r).2.2 hr, hsent, hu, if_neg hr]
  · rw [State.cnt_esw, State.cnt_esw, nfind_nset, if_pos rfl, State.wireBytes_congr hcfg]

/-- Registers of the bridge's counters lie apart from those of the time bases. -/
theorem State.stampsSent_counted (s : State) (p q r c : Nat) (f : EthFrame) :
    (s.stampsSent p q f).counted r c = s.counted r c := by
  have hset : ∀ (t : State) (g : Fld) v, g.reg = TBU_TSQ_STATUS ∨ g.reg = TBU_EVT → (t.set g v).counted r c = t.counted r c := by
    intro t g v hg
    unfold State.counted State.set
    rw [rd_wr_other, rd_wr_other] <;> rcases hg with h | h <;> rw [h] <;>
      simp only [Reg.addr, ESW_PORTp_CNTc_LO, ESW_PORTp_CNTc_HI, TBU_TSQ_STATUS, TBU_EVT] <;> omega
  unfold State.stampsSent State.stampFrame
  split
  · extract_lets h info
    split
    · exact (hset _ _ _ (Or.inr rfl)).trans (hset _ _ _ (Or.inl rfl))
    · rfl
  · rfl

/-- The counters of frames and bytes advance by one and by the octets after the preamble. -/
theorem State.sendsHead_counted (s : State) (p q k : Nat) (f : EthFrame) (l : List EthFrame) :
    (s.sendsHead p q k f l).counted p 2 = (s.counted p 2 + 1) % 2 ^ 64 ∧
      (s.sendsHead p q k f l).counted p 3 = (s.counted p 3 + (s.wireOctets p f - 8)) % 2 ^ 64 := by
  have hn : (s.takesHead p k l).wireOctets p f = s.wireOctets p f := State.wireOctets_congr rfl p f
  unfold State.sendsHead
  extract_lets u n v
  have hregs : ({ v with esw := { v.esw with sent := nset v.esw.sent p { bytes := u.wireBytes p f, sa := none } } } :
      State).regs = (u.stampsSent p q f).regs := rfl
  have hstamped : ∀ c, (u.stampsSent p q f).counted p c = s.counted p c := fun c =>
    (u.stampsSent_counted p q p c f).trans (State.counted_congr rfl p c)
  generalize ({ v with esw := { v.esw with sent := nset v.esw.sent p { bytes := u.wireBytes p f, sa := none } } } : State) = w
    at hregs ⊢
  have hv : ∀ c, w.counted p c = s.counted p c := fun c => (State.counted_congr hregs p c).trans (hstamped c)
  constructor
  · rw [State.counted_cnt_other _ _ (by decide), State.counted_cnt, hv]
  · rw [State.counted_cnt, State.counted_cnt_other _ _ (by decide), hv, show n = s.wireOctets p f from hn]

/-! ### Frames received, links and PLCA (R279, R281, R287) -/

/-- Settles O41: the frame's checks in their order, the link's and PLCA's guards, and the chain of a transmission. -/
theorem portsAndTransmission : Obligations.PortsAndTransmission := by
  refine ⟨fun s p q hp hnet hup => ⟨fun hlink b => ⟨?fcs, ?short, ?long, ?taken⟩, ?up, ?down, fun hplca hnode hlink => ⟨?lost, ?heard⟩⟩,
    fun s p q hp hnet hup hlink hplca hsec => ?send⟩
  case send =>
    intro u v total k f l hk hhead hwb
    obtain ⟨hqueues, hbusy, hother, hsent⟩ := (s.readyToSend p).sendsHead_port p q k f l
    obtain ⟨hframes, hbytes⟩ := (s.readyToSend p).sendsHead_counted p q k f l
    have hsends := State.frameTxStart_sends (q := q) hp hup hlink hplca hsec hk hhead hwb
    refine ⟨(s.readyToSend p).sendsHead p q k f l, ends_of_eq ?_, hqueues, hbusy, hsent, hframes, hbytes, hother, ?_, ?_, ?_⟩
    · rw [State.portTx, hnet]
      exact hsends
    · exact State.sendsHead_keeps (g := State.pe) (fun _ _ _ _ _ => rfl) (fun s e n => s.count_pe e n) (fun _ _ => rfl)
        (fun _ _ => rfl) (fun _ _ => rfl) _ p q k f l
    · exact State.sendsHead_keeps (g := fun s => s.sf.cmds) (fun _ _ _ _ _ => rfl) (fun s e n => by rw [State.count_sf])
        (fun _ _ => rfl) (fun _ _ => rfl) (fun _ _ => rfl) _ p q k f l
    · exact State.sendsHead_keeps (g := State.now) (fun _ _ _ _ _ => rfl) (fun s e n => s.count_now e n) (fun _ _ => rfl)
        (fun _ _ => rfl) (fun _ _ => rfl) _ p q k f l
  case fcs => exact ends_of_eq (by simp [State.portRx, hnet, State.frameRx, hp, hup, hlink])
  case short =>
    intro hshort
    exact ends_of_eq (by simp [State.portRx, hnet, State.frameRx, hp, hup, hlink, hshort])
  case long =>
    intro hmin hlong
    exact ends_of_eq (by simp [State.portRx, hnet, State.frameRx, hp, hup, hlink, hmin.not_gt, hlong])
  case taken =>
    intro hmin hmax hsec
    exact ends_of_eq (by simp [State.portRx, hnet, State.frameRx, hp, hup, hlink, hmin.not_gt, hmax.not_gt, hsec])
  case up =>
    intro hdown hon hphy htest u v
    refine ends_of_eq ?_
    have hgo : ¬ (¬ (p < 10 ∧ (s.eswUp = true ∨ ¬ true = true)) ∨ s.linkUp p = true ∨
        (true = true ∧ (s.portOff p = true ∨ ¬ s.phyUp p = true))) := by simp [hp, hup, hdown, hon, hphy]
    simp only [State.portLink, hnet, htest, Option.isSome_none, Bool.or_self, Bool.and_false, Bool.false_eq_true, if_false]
    rw [State.linkChange, if_neg hgo]
    rfl
  case down =>
    intro hlink u
    refine ends_of_eq ?_
    have hgo : ¬ (¬ (p < 10 ∧ (s.eswUp = true ∨ ¬ false = true)) ∨ s.linkUp p = false ∨
        (false = true ∧ (s.portOff p = true ∨ ¬ s.phyUp p = true))) := by simp [hp, hlink]
    simp only [State.portLink, Bool.false_and, Bool.false_eq_true, if_false]
    rw [State.linkChange, if_neg hgo]
    rfl
  case lost =>
    intro hup' u
    refine ends_of_eq ?_
    simp [State.plcaFallback, hplca, hnode, hlink, hup', u]
  case heard =>
    exact ends_of_eq (if_neg (by simp [hplca, hnode, hlink]))

end Sys2Proof.Machine
end

section
/-!
# Ageing, gates and registers of the bridge (O42)
-/

namespace Sys2Proof.Machine

/-! ### Registers of the bridge (R294, R298–R300) -/

theorem rowWrite_devEtype {s : State} {a : Init} (hreach : s.reaches a ESW_DEV_ETYPE 0 0 true = true) {v : Word}
    (hok : s.etypeRefused (v.toNat % 65536) = false) :
    s.rowWrite a ESW_DEV_ETYPE v =
      (let u := s.wr ESW_DEV_ETYPE (ESW_DEV_ETYPE.written (s.rd ESW_DEV_ETYPE) v)
       ({ u with esw := { u.esw with etypeAt := some s.now } } : State)).answer (some []) := by
  have heff : s.writeReg a ESW_DEV_ETYPE (ESW_DEV_ETYPE.addr 0 0) 0 0 v =
      (let u := s.wr ESW_DEV_ETYPE (ESW_DEV_ETYPE.written (s.rd ESW_DEV_ETYPE) v)
       ({ u with esw := { u.esw with etypeAt := some s.now } } : State)) := by
    unfold State.writeReg
    rw [Reg.slotOf_addr (k := 6) (by decide) (by decide) (by decide)]
    refine (if_pos rfl).trans ?_
    rw [State.writeEtype, hok]
    rfl
  have hrun : ∀ (u : State) (e : Esw), ({ u with esw := e } : State).coreRuns = u.coreRuns := fun _ _ => rfl
  exact rowWrite_effect hreach heff ((hrun _ _).trans (by simp [reaches_runs hreach])) (k := 6) (by decide) (by decide)
    (by decide) (by decide) (by decide) (isBuffer_of_lt (by decide)) (by decide) (by decide)

/-- The bits of a register whose bits are all cleared by a one. -/
theorem written_blocked (old v : Word) : ESW_SF_BLOCKEDw.written old v = old &&& ~~~v := by
  have hone : ∀ x : Word, x &&& 4294967295#32 = x := fun x => by
    rw [show (4294967295#32 : Word) = BitVec.allOnes 32 by decide, BitVec.and_allOnes]
  simp [Reg.written, ESW_SF_BLOCKEDw, w32, hone]

theorem rowWrite_sfBlocked {s : State} {a : Init} {w : Nat} (hw : w < 8)
    (hreach : s.reaches a ESW_SF_BLOCKEDw w 0 true = true) (v : Word) :
    s.rowWrite a ESW_SF_BLOCKEDw v w = (s.wr ESW_SF_BLOCKEDw (s.rd ESW_SF_BLOCKEDw w &&& ~~~v) w).answer (some []) := by
  refine rowWrite_effect hreach ?_ (by simp [reaches_runs hreach]) (k := 6) (by decide) (by decide) (by decide) (by decide) (by decide)
    (isBuffer_of_lt (by simp only [Reg.addr, ESW_SF_BLOCKEDw]; omega)) hw (by decide)
  unfold State.writeReg
  rw [Reg.slotOf_addr (k := 6) (by decide) hw (by decide), ← written_blocked]
  rfl

/-- The registers of a guest queue are words of their own in slot 2. -/
theorem rowWrite_queueReg {s t : State} {a : Init} {fn q : Nat} {v : Word} {r : Reg}
    (hr : r ∈ [ESW_Qq_CFG, ESW_Qq_TX_TAIL, ESW_Qq_RX_TAIL]) (hfn : fn < 64) (hq : q < 64)
    (hreach : s.reaches a r fn q true = true) (heff : s.writeQueueReg r q v = t) (hrun : t.coreRuns = true) :
    s.rowWrite a r v fn q = t.answer (some []) := by
  have hq' : q < 128 := by omega
  have hslot : ∀ r' : Reg, r'.inSlot 2 = true → isQueueReg r' = true → fn < r'.n1 → q < r'.n2 →
      s.writeReg a r' (r'.addr fn q) fn q v = s.writeQueueReg r' q v := fun r' hin hqueue h1 h2 => by
    unfold State.writeReg
    rw [Reg.slotOf_addr hin h1 h2]
    exact if_pos hqueue
  simp only [List.mem_cons, List.not_mem_nil, or_false] at hr
  rcases hr with rfl | rfl | rfl
  · exact rowWrite_effect hreach ((hslot _ (by decide) rfl hfn hq').trans heff) hrun (k := 2) (by decide) (by decide) (by decide)
      (by decide) (by decide) (isBuffer_of_lt (by simp only [Reg.addr, ESW_Qq_CFG]; omega)) hfn hq'
  · exact rowWrite_effect hreach ((hslot _ (by decide) rfl hfn hq').trans heff) hrun (k := 2) (by decide) (by decide) (by decide)
      (by decide) (by decide) (isBuffer_of_lt (by simp only [Reg.addr, ESW_Qq_TX_TAIL]; omega)) hfn hq'
  · exact rowWrite_effect hreach ((hslot _ (by decide) rfl hfn hq').trans heff) hrun (k := 2) (by decide) (by decide) (by decide)
      (by decide) (by decide) (isBuffer_of_lt (by simp only [Reg.addr, ESW_Qq_RX_TAIL]; omega)) hfn hq'

theorem State.queueStart_coreRuns (s : State) (q : Nat) : (s.queueStart q).coreRuns = s.coreRuns := rfl

/-! ### A counter is read and cleared whole (R13, R305) -/

theorem State.viewAt_counter (s : State) (secure : Bool) {r : Reg} (hr : r = ESW_PORTp_CNTc_LO ∨ r = ESW_PORTp_CNTc_HI)
    {p c : Nat} (hp : p < 12) (hc : c < 32) : s.viewAt secure (r.addr p c) = (s.rd r p c, s) := by
  have hall : ~~~(w32 0) = BitVec.allOnes 32 := by decide
  have hview : ∀ r' : Reg, slotOf r'.base = some 6 → r'.wo = 0 → s.view secure r' p c = (s.rd r' p c, s) := fun r' hslot hwo => by
    simp only [State.view, hslot, hwo, hall, BitVec.and_allOnes]
  rcases hr with rfl | rfl <;>
    rw [State.viewAt, regAt_addr (k := 6) (by decide) (by decide) (by decide) hp hc] <;>
    exact hview _ rfl rfl

/-- What a read of a port's counter leaves behind: both words zero, and their value latched for the reader. -/
def State.counterTaken (s : State) (a : Init) (p c : Nat) : State :=
  ((s.wr ESW_PORTp_CNTc_LO 0 p c).wr ESW_PORTp_CNTc_HI 0 p c).latchFor a (ESW_PORTp_CNTc_LO.addr p c)
    [s.rd ESW_PORTp_CNTc_LO p c, s.rd ESW_PORTp_CNTc_HI p c]

theorem State.blind_counter (s : State) (a : Init) (n : Nat) : s.blind a ESW_PORTp_CNTc_LO n = false := by
  have hcounter : ¬ (ESW_PORTp_CNTc_LO.base = DBG_CNTe_LO.base ∨ ESW_PORTp_CNTc_LO.base = DBG_CNTe_HI.base) := by decide
  have hsample : ¬ (DBG_SMP_INFO.base ≤ ESW_PORTp_CNTc_LO.base ∧ ESW_PORTp_CNTc_LO.base < DBG_SMP_INFO.base + 20) := by decide
  rw [State.blind]
  cases s.dbg.samples <;> simp [hcounter, hsample]

theorem State.readReg_counter {s : State} {a : Init} {p c : Nat} (hp : p < 12) (hc : c < 32)
    (hreach : s.reaches a ESW_PORTp_CNTc_LO p c false = true) :
    s.readReg a (ESW_PORTp_CNTc_LO.addr p c) = (s.rd ESW_PORTp_CNTc_LO p c, s.counterTaken a p c) := by
  obtain ⟨-, -, -, -, hlive⟩ := reaches_parts hreach
  have haddr : 0x46000000 ≤ ESW_PORTp_CNTc_LO.addr p c ∧ ESW_PORTp_CNTc_LO.addr p c < 0x47000000 := by
    simp only [Reg.addr, ESW_PORTp_CNTc_LO]; omega
  have hhi : ESW_PORTp_CNTc_LO.addr p c + 4 = ESW_PORTp_CNTc_HI.addr p c := by
    simp only [Reg.addr, ESW_PORTp_CNTc_LO, ESW_PORTp_CNTc_HI]; omega
  have hlog : s.logHead (ESW_PORTp_CNTc_LO.addr p c) = none := by
    unfold State.logHead
    split
    case h_7 => rfl
    all_goals omega
  have hvalue : s.readValue a.secure ESW_PORTp_CNTc_LO (ESW_PORTp_CNTc_LO.addr p c) 2 p =
      ([s.rd ESW_PORTp_CNTc_LO p c, s.rd ESW_PORTp_CNTc_HI p c], s) := by
    rw [State.readValue, hlog]
    refine (if_neg (by decide)).trans ((if_neg (by decide)).trans ?_)
    simp only [show List.range 2 = [0, 1] from rfl, List.map_cons, List.map_nil, Nat.mul_zero, Nat.mul_one, Nat.add_zero, hhi,
      State.viewAll, State.viewAt_counter s a.secure (Or.inl rfl) hp hc, State.viewAt_counter s a.secure (Or.inr rfl) hp hc]
  have hgroup : valueOf ESW_PORTp_CNTc_LO (ESW_PORTp_CNTc_LO.addr p c) c = (ESW_PORTp_CNTc_LO.addr p c, 2) := rfl
  have hworld : ¬ (ESW_PORTp_CNTc_LO.world = .S ∧ a.secure = false) := fun h => absurd h.1 (by decide)
  have hclear : s.clearRead ESW_PORTp_CNTc_LO p c = (s.wr ESW_PORTp_CNTc_LO 0 p c).wr ESW_PORTp_CNTc_HI 0 p c := by
    have hzero : ∀ x : Word, x &&& ~~~(w32 ESW_PORTp_CNTc_LO.rc) = 0 := fun x => by
      rw [show ~~~(w32 ESW_PORTp_CNTc_LO.rc) = 0 by decide]
      simp
    rw [State.clearRead, if_neg (by decide), hzero]
    exact if_pos rfl
  have htsq : ¬ ESW_PORTp_CNTc_LO.addr p c = 0x45000040 := by omega
  rw [State.readReg, regAt_addr (k := 6) (by decide) (by decide) (by decide) hp hc]
  simp only [if_neg hworld, hlive, Bool.not_true, Bool.false_eq_true, if_false, hgroup, if_neg (show ¬ 2 ≤ 1 by decide),
    if_true, State.blind_counter, hvalue, hclear, decide_eq_false htsq, Bool.false_and]
  rfl

theorem State.counterTaken_rd (s : State) (a : Init) {p c : Nat} (hc : c < 32) :
    (s.counterTaken a p c).rd ESW_PORTp_CNTc_LO p c = 0 ∧ (s.counterTaken a p c).rd ESW_PORTp_CNTc_HI p c = 0 ∧
      (∀ x y, y < 32 → ¬ (x = p ∧ y = c) →
        (s.counterTaken a p c).rd ESW_PORTp_CNTc_LO x y = s.rd ESW_PORTp_CNTc_LO x y) := by
  have hrd : ∀ r x y, (s.counterTaken a p c).rd r x y =
      ((s.wr ESW_PORTp_CNTc_LO 0 p c).wr ESW_PORTp_CNTc_HI 0 p c).rd r x y := fun _ _ _ => rfl
  have hne : ∀ x y, ESW_PORTp_CNTc_LO.addr x y ≠ ESW_PORTp_CNTc_HI.addr p c := fun x y => by
    simp only [Reg.addr, ESW_PORTp_CNTc_LO, ESW_PORTp_CNTc_HI]; omega
  refine ⟨?_, ?_, fun x y hy h => ?_⟩
  · rw [hrd, rd_wr_other _ _ (hne p c), rd_wr_self]
  · rw [hrd, rd_wr_self]
  · have hother : ESW_PORTp_CNTc_LO.addr x y ≠ ESW_PORTp_CNTc_LO.addr p c := by
      simp only [Reg.addr, ESW_PORTp_CNTc_LO]; omega
    rw [hrd, rd_wr_other _ _ (hne x y), rd_wr_other _ _ hother]

/-! ### What ages (R284, R295) -/

/-- A learned address waits for its age and is forgotten. -/
theorem State.ageOut_learned {s u : State} {vid mac p t : Nat}
    (hl : nfind s.esw.learned (vid * 281474976710656 + mac) = some (p, t)) (hu : u = s.until (t + s.ageSec * 1000000000)) :
    s.ageOut vid mac =
      { u with esw := { u.esw with learned := nerase u.esw.learned (vid * 281474976710656 + mac) } } := by
  unfold State.ageOut
  generalize vid * 281474976710656 + mac = k at *
  simp only [hl, hu]

/-- A recovery whose history is not yet reset waits for its time and is reset. -/
theorem State.frerTimeout_due {s u : State} {h : Nat} {r : Recovery} {raw : List Byte} (hr : nfind s.esw.recov h = some r)
    (hraw : s.cfgData 0x0101 10 h = some raw) (hany : r.any = false)
    (hu : u = s.until (r.at_ + leAt raw 12 2 * 1000000)) :
    s.frerTimeout h = { u with esw := { u.esw with recov := nset u.esw.recov h { r with any := true, hist := [] } } } := by
  simp only [State.frerTimeout, hr, hraw, hany, Bool.false_eq_true, if_false, hu]

/-! ### The statement -/

theorem exec_addressAgeOut (vid mac : Nat) (s : State) : exec (.addressAgeOut vid mac) s = s.ends (s.ageOut vid mac) := rfl
theorem exec_frerResetTimeout (h : Nat) (s : State) : exec (.frerResetTimeout h) s = s.ends (s.frerTimeout h) := rfl
theorem exec_devEtypeWrite (a : Init) (v : Word) (s : State) :
    exec (.devEtypeWrite a v) s = s.ends (s.rowWrite a ESW_DEV_ETYPE v) := rfl
theorem exec_sfBlockedClear (a : Init) (w : Nat) (v : Word) (s : State) :
    exec (.sfBlockedClear a w v) s = s.ends (s.rowWrite a ESW_SF_BLOCKEDw v w) := rfl
theorem exec_queueCfgWrite (a : Init) (fn q : Nat) (v : Word) (s : State) :
    exec (.queueCfgWrite a fn q v) s = s.ends (s.rowWrite a ESW_Qq_CFG v fn q) := rfl
theorem exec_queueTxTail (a : Init) (fn q : Nat) (v : Word) (s : State) :
    exec (.queueTxTail a fn q v) s = s.ends (s.rowWrite a ESW_Qq_TX_TAIL v fn q) := rfl
theorem exec_queueRxTail (a : Init) (fn q : Nat) (v : Word) (s : State) :
    exec (.queueRxTail a fn q v) s = s.ends (s.rowWrite a ESW_Qq_RX_TAIL v fn q) := rfl
theorem exec_portCounterRead (a : Init) (p c : Nat) (s : State) :
    exec (.portCounterRead a p c) s = s.ends (s.rowRead a ESW_PORTp_CNTc_LO p c) := rfl

/-- Settles O42: what ages and cycles by its guard, each write by its register's effect, and the counter's read. -/
theorem agingGatesAndRegisters : Obligations.AgingGatesAndRegisters := by
  refine ⟨fun s => ⟨?age, ?recovery, ?gate, ?list⟩,
    fun s a fn q v => ⟨?etype, ?etypeEffect, ?blocked, fun hfn hq => ⟨?config, ?txTail, ?rxTail⟩, ?counter⟩⟩
  case age =>
    intro vid mac p t hl u
    rw [exec_addressAgeOut]
    exact ends_of_eq (State.ageOut_learned hl rfl)
  case recovery =>
    intro h r raw hr hraw hany u
    rw [exec_frerResetTimeout]
    exact ends_of_eq (State.frerTimeout_due hr hraw hany rfl)
  case gate =>
    intro p r hrun hnext hhold hcore u htill
    refine ⟨fun hidx => ends_of_eq ?_, fun hidx => ends_of_eq ?_⟩
    · simp [State.gateExpiry, hrun, hnext, hhold, hcore, u, htill.not_gt, hidx]
    · simp [State.gateExpiry, hrun, hnext, hhold, hcore, u, htill.not_gt, hidx.not_gt]
  case list =>
    intro p n hnext hcore u htill
    exact ends_of_eq (by simp [State.gateSwitch, hnext, hcore, u, htill.not_gt])
  case etype =>
    intro hreach hok u
    rw [exec_devEtypeWrite]
    exact ends_of_eq (rowWrite_devEtype hreach hok)
  case etypeEffect =>
    intro t ht hgrid hlate
    exact ends_of_eq (by simp [State.etypeEffect, ht, hgrid, hlate])
  case blocked =>
    intro w hw hreach
    rw [exec_sfBlockedClear]
    exact ends_of_eq (rowWrite_sfBlocked hw hreach v)
  case config =>
    intro hreach hoff hen
    rw [exec_queueCfgWrite]
    refine ends_of_eq (rowWrite_queueReg (by simp) hfn hq hreach ?_ ?_)
    · rw [State.writeQueueReg, if_neg (by decide), if_pos rfl, hoff, hen]
      rfl
    · rw [State.queueStart_coreRuns]
      simp [reaches_runs hreach]
  case txTail =>
    intro hreach hroom
    rw [exec_queueTxTail]
    refine ends_of_eq (rowWrite_queueReg (by simp) hfn hq hreach ?_ (by simp [reaches_runs hreach]))
    rw [State.writeQueueReg, if_neg (by decide), if_neg (by decide)]
    exact if_neg (by rw [if_pos rfl]; exact hroom.not_ge)
  case rxTail =>
    intro hreach hroom
    rw [exec_queueRxTail]
    refine ends_of_eq (rowWrite_queueReg (by simp) hfn hq hreach ?_ (by simp [reaches_runs hreach]))
    rw [State.writeQueueReg, if_neg (by decide), if_neg (by decide)]
    exact if_neg (by rw [if_neg (by decide)]; exact hroom.not_ge)
  case counter =>
    intro p c hp hc hreach
    obtain ⟨hlo, hhi, hother⟩ := s.counterTaken_rd a (p := p) hc
    rw [exec_portCounterRead, rowRead_reaches (k := 6) (by decide) (by decide) (by decide)
      (isBuffer_of_lt (by simp only [Reg.addr, ESW_PORTp_CNTc_LO]; omega)) hp hc hreach, State.readReg_counter hp hc hreach]
    exact ⟨s.counterTaken a p c, rfl, hlo, hhi, rfl, rfl, fun x y _ hy h => hother x y hy h⟩

end Sys2Proof.Machine
end

section
/-!
# Transmit descriptors of a guest queue (O43)
-/

namespace Sys2Proof.Machine

theorem exec_queueTxDescriptor (q : Nat) (s : State) : exec (.queueTxDescriptor q) s = s.ends (s.queueTx q) := rfl

theorem State.modEthq_congr {s : State} {q : Nat} {f g : EthQ → EthQ} (h : f (s.ethq q) = g (s.ethq q)) :
    s.modEthq q f = s.modEthq q g := by
  rw [State.modEthq, State.modEthq, h]

/-- The tags that a guest queue's frame does not begin with. -/
theorem etype_isTag_iff (n : Nat) :
    ([0x8100, 0x88A8, 0x88E5, 0xF1C1].contains n = true) ↔ n = 0x8100 ∨ n = 0x88A8 ∨ n = 0x88E5 ∨ n = 0xF1C1 := by
  simp

section Descriptor

variable {s : State} {q : Nat} (hup : s.eswUp = true) (hruns : s.qRuns q = true)
  (hhead : (s.ethq q).txHead ≠ s.get ESW_Qq_TX_TAIL_INDEX 0 q)

include hup hruns hhead

theorem State.queueTx_unreadable {e u} (hread : s.fnRead (s.qOwner q) (s.txDesc q (s.ethq q).txHead) 16 = (.error e, u)) :
    s.queueTx q = u.qStop q := by
  have hidle : ¬ (¬ (s.eswUp = true ∧ s.qRuns q = true) ∨ (s.ethq q).txHead = s.get ESW_Qq_TX_TAIL_INDEX 0 q) := by
    simp [hup, hruns, hhead]
  rw [State.queueTx]
  simp only [if_neg hidle, hread]

variable {d : List Byte} {u v : State}
  (hread : s.fnRead (s.qOwner q) (s.txDesc q (s.ethq q).txHead) 16 = (.ok d, u)) (hown : bitOf (byteAt d 10) 0 = true)
  (hv : v = u.modEthq q fun x =>
    { x with txHead := if (s.ethq q).txHead + 1 ≥ u.txDepth q then 0 else (s.ethq q).txHead + 1 })

include hread hown hv

theorem State.queueTx_badLength (hlen : leAt d 8 2 < 14 ∨ v.maxFrame portH - 8 < leAt d 8 2) :
    s.queueTx q = v.txWriteBack q (s.txDesc q (s.ethq q).txHead) d 2 0 := by
  have hidle : ¬ (¬ (s.eswUp = true ∧ s.qRuns q = true) ∨ (s.ethq q).txHead = s.get ESW_Qq_TX_TAIL_INDEX 0 q) := by
    simp [hup, hruns, hhead]
  rw [State.queueTx]
  simp only [if_neg hidle, hread, hown, not_true_eq_false, if_false, ← hv, if_pos hlen]

variable (hlong : 14 ≤ leAt d 8 2) (hshort : leAt d 8 2 ≤ v.maxFrame portH - 8)

include hlong hshort

theorem State.queueTx_bytesUnreadable {e w} (hbytes : v.fnRead (s.qOwner q) (leAt d 0 8) (leAt d 8 2) = (.error e, w)) :
    s.queueTx q = w.txWriteBack q (s.txDesc q (s.ethq q).txHead) d 4 0 := by
  have hidle : ¬ (¬ (s.eswUp = true ∧ s.qRuns q = true) ∨ (s.ethq q).txHead = s.get ESW_Qq_TX_TAIL_INDEX 0 q) := by
    simp [hup, hruns, hhead]
  have hlen : ¬ (leAt d 8 2 < 14 ∨ v.maxFrame portH - 8 < leAt d 8 2) := by omega
  rw [State.queueTx]
  simp only [if_neg hidle, hread, hown, not_true_eq_false, if_false, ← hv, if_neg hlen, hbytes]

variable {b : List Byte} {w : State} (hbytes : v.fnRead (s.qOwner q) (leAt d 0 8) (leAt d 8 2) = (.ok b, w))

include hbytes

theorem State.queueTx_spoofed
    (hbad : beAt b 6 6 ≠ w.qMac q ∨ [0x8100, 0x88A8, 0x88E5, 0xF1C1].contains (beAt b 12 2) = true) :
    s.queueTx q = w.txWriteBack q (s.txDesc q (s.ethq q).txHead) d 1 0 := by
  have hidle : ¬ (¬ (s.eswUp = true ∧ s.qRuns q = true) ∨ (s.ethq q).txHead = s.get ESW_Qq_TX_TAIL_INDEX 0 q) := by
    simp [hup, hruns, hhead]
  have hlen : ¬ (leAt d 8 2 < 14 ∨ v.maxFrame portH - 8 < leAt d 8 2) := by omega
  rw [etype_isTag_iff] at hbad
  rw [State.queueTx]
  simp only [if_neg hidle, hread, hown, not_true_eq_false, if_false, ← hv, if_neg hlen, hbytes, if_pos hbad]

theorem State.queueTx_enters (hmac : beAt b 6 6 = w.qMac q)
    (htag : [0x8100, 0x88A8, 0x88E5, 0xF1C1].contains (beAt b 12 2) = false) :
    s.queueTx q =
      (let frame := b.take 12 ++ beBytes 2 0x8100 ++ beBytes 2 (w.qPcp q * 8192 + w.qVid q) ++ b.drop 12
       let k := (w.ethq q).fetched
       (w.modEthq q fun x =>
          { x with wait := x.wait ++ [{ id := k, addr := s.txDesc q (s.ethq q).txHead, desc := d }], fetched := k + 1 }).ingress
        portH (frame.length + 4) frame ((List.range 10).find? fun p => w.boundQueue p == some q) (some (q, k))
        (fun _ => true) []) := by
  have hidle : ¬ (¬ (s.eswUp = true ∧ s.qRuns q = true) ∨ (s.ethq q).txHead = s.get ESW_Qq_TX_TAIL_INDEX 0 q) := by
    simp [hup, hruns, hhead]
  have hlen : ¬ (leAt d 8 2 < 14 ∨ v.maxFrame portH - 8 < leAt d 8 2) := by omega
  have hgood : ¬ (beAt b 6 6 ≠ w.qMac q ∨ beAt b 12 2 = 0x8100 ∨ beAt b 12 2 = 0x88A8 ∨ beAt b 12 2 = 0x88E5 ∨
      beAt b 12 2 = 0xF1C1) := by
    rw [← etype_isTag_iff, htag, hmac]
    simp
  rw [State.queueTx]
  simp only [if_neg hidle, hread, hown, not_true_eq_false, if_false, ← hv, if_neg hlen, hbytes, if_neg hgood]

end Descriptor

/-- Settles O43: each end of a descriptor by the check that decides it, and the release of the one that waits. -/
theorem guestQueues : Obligations.GuestQueues := by
  intro s q
  refine ⟨fun hup hruns hhead => ⟨?unreadable, ?descriptor⟩, ?release⟩
  case unreadable =>
    intro e u hread
    rw [exec_queueTxDescriptor]
    exact ends_of_eq (State.queueTx_unreadable hup hruns hhead hread)
  case descriptor =>
    intro d u hread hown v len
    refine ⟨?length, fun hlong hshort => ⟨?bytes, ?frame⟩⟩
    case length =>
      intro hlen
      rw [exec_queueTxDescriptor]
      exact ends_of_eq (State.queueTx_badLength hup hruns hhead hread hown rfl hlen)
    case bytes =>
      intro e w hbytes
      rw [exec_queueTxDescriptor]
      exact ends_of_eq (State.queueTx_bytesUnreadable hup hruns hhead hread hown rfl hlong hshort hbytes)
    case frame =>
      intro b w hbytes
      refine ⟨fun hbad => ?_, fun hmac htag => ?_⟩
      · rw [exec_queueTxDescriptor]
        exact ends_of_eq (State.queueTx_spoofed hup hruns hhead hread hown rfl hlong hshort hbytes hbad)
      · rw [exec_queueTxDescriptor]
        exact ends_of_eq (State.queueTx_enters hup hruns hhead hread hown rfl hlong hshort hbytes hmac htag)
  case release =>
    intro e st stamp hwait sent
    refine ⟨fun hfree => ?_, fun hstored => ?_⟩
    · simp only [State.txRelease, hwait, List.find?_cons, beq_self_eq_true, hfree, Bool.false_eq_true, if_false]
      exact congrArg (State.txWriteBack · q e.addr e.desc _ _) (State.modEthq_congr (by simp [hwait]))
    · simp only [State.txRelease, hwait, List.find?_cons, beq_self_eq_true, hstored, if_true]
      exact State.modEthq_congr (by simp [hwait, sent])

end Sys2Proof.Machine
end

section
/-!
# The registers of a CAN controller (O44)
-/

namespace Sys2Proof.Machine

/-! ### What the registers leave of the power states -/

theorem State.msi_pcs (s : State) (a id : Nat) : (s.msi a id).pcs = s.pcs := congrArg Prod.fst (s.msi_holdView a id)

theorem State.modCan_pcs (s : State) (c : Nat) (f : Can → Can) : (s.modCan c f).pcs = s.pcs := rfl

theorem State.canEvt_pcs (s : State) (c bit : Nat) : (s.canEvt c bit).pcs = s.pcs := by
  unfold State.canEvt
  extract_lets old t
  split
  · exact State.msi_pcs ..
  · rfl

theorem State.putPend_pcs (s : State) (c b : Nat) (on : Bool) : (s.putPend c b on).pcs = s.pcs := by
  unfold State.putPend
  split
  · rfl
  · extract_lets t
    rw [State.setFlag_pcs]
    exact (apply_ite State.pcs ..).trans (ite_self _)

theorem State.txStatus_pcs (s : State) (c b status sof attempts : Nat) : (s.txStatus c b status sof attempts).pcs = s.pcs := by
  unfold State.txStatus
  split
  · rfl
  · exact State.canEvt_pcs ..

theorem State.txEnd_pcs (s : State) (c b status attempts : Nat) : (s.txEnd c b status attempts).pcs = s.pcs :=
  (State.txStatus_pcs ..).trans (State.putPend_pcs ..)

theorem State.makePend_pcs (s : State) (c b : Nat) (f : CanFrame) : (s.makePend c b f).pcs = s.pcs := by
  unfold State.makePend
  extract_lets x had t u
  have hcounted : u.pcs = t.pcs := by
    simp only [u]
    split
    · exact State.inc_pcs ..
    · rfl
  exact (State.putPend_pcs ..).trans hcounted

theorem State.canRequest_pcs (s : State) (c b : Nat) : (s.canRequest c b).pcs = s.pcs := by
  unfold State.canRequest
  extract_lets base h t
  split
  · exact State.makePend_pcs ..
  · exact State.txStatus_pcs ..

theorem State.endEarly_pcs (s : State) (c b : Nat) (abort : Bool) : (s.endEarly c b abort).pcs = s.pcs := by
  unfold State.endEarly
  extract_lets x
  cases nfind x.pend b with
  | none => rfl
  | some f =>
    dsimp only
    split
    · rfl
    · exact State.txEnd_pcs ..

theorem State.canRequests_pcs (s : State) (c base mask : Nat) : (s.canRequests c base mask).pcs = s.pcs :=
  State.each_keeps (p := State.pcs)
    (fun u i => by by_cases h : u.gwReserved c (base + i) = true <;> simp [h, State.canRequest_pcs]) ..

theorem State.canAbort_pcs (s : State) (c base mask : Nat) : (s.canAbort c base mask).pcs = s.pcs :=
  State.each_keeps (p := State.pcs)
    (fun u i => by by_cases h : u.gwReserved c (base + i) = true <;> simp [h, State.endEarly_pcs]) ..

/-! ### One bit of a request register -/

theorem bitList_two_pow {n b : Nat} (hb : b < n) : bitList n (2 ^ b) = [b] := by
  have hbit : ∀ k, bitOf (2 ^ b) k = (k == b) := fun k => by
    rw [bitOf_eq_testBit, Nat.testBit_two_pow, Bool.beq_eq_decide_eq]
    exact decide_eq_decide.mpr eq_comm
  rw [bitList, List.filter_congr (q := (· == b)) fun k _ => hbit k, List.filter_beq,
    List.count_eq_one_of_mem List.nodup_range (List.mem_range.mpr hb)]
  rfl

theorem State.canRequests_one {s : State} {c b : Nat} (hb : b < 32) (hgw : s.gwReserved c b = false) :
    s.canRequests c 0 (2 ^ b) = s.canRequest c b := by
  simp [State.canRequests, State.each, bitList_two_pow hb, hgw]

theorem State.canAbort_one {s : State} {c b : Nat} (hb : b < 32) (hgw : s.gwReserved c b = false) :
    s.canAbort c 0 (2 ^ b) = s.endEarly c b true := by
  simp [State.canAbort, State.each, bitList_two_pow hb, hgw]

theorem State.endEarly_idle {s : State} {c b : Nat} {f : CanFrame} (hpend : nfind (s.can c).pend b = some f)
    (hcur : (s.can c).cur = none) (abort : Bool) :
    s.endEarly c b abort = s.txEnd c b (if abort then stAborted else stExpired) f.attempts := by
  simp [State.endEarly, hpend, hcur]

/-! ### The statement -/

theorem canReg_not_isBuffer : ∀ r ∈ [FBC_CANc_TXREQ_LO, FBC_CANc_TXREQ_HI, FBC_CANc_TXABORT_LO, FBC_CANc_TXABORT_HI,
    FBC_CANc_CTRL, FBC_CANc_RXF_RIDX], ∀ c < 8, isBuffer (r.addr c 0) = false := by decide

/-- The registers of a CAN controller that a write acts through are words of their own in slot 7. -/
theorem rowWrite_canReg {s t : State} {a : Init} {c : Nat} {v : Word} {r : Reg}
    (hr : r ∈ [FBC_CANc_TXREQ_LO, FBC_CANc_TXREQ_HI, FBC_CANc_TXABORT_LO, FBC_CANc_TXABORT_HI, FBC_CANc_CTRL, FBC_CANc_RXF_RIDX])
    (hc : c < 8) (hreach : s.reaches a r c 0 true = true) (heff : s.writeReg a r (r.addr c 0) c 0 v = t)
    (hpcs : t.pcs = s.pcs) : s.rowWrite a r v c = t.answer (some []) := by
  have hrun : t.coreRuns = true := (coreRuns_congr hpcs).trans (reaches_runs hreach)
  have hbuf := canReg_not_isBuffer r hr c hc
  have hwrite : ∀ r' : Reg, r = r' → r' ∈ slotRegs 7 → r'.inSlot 7 = true → (r'.mwLen ≤ 1 ∧ r'.mwAbs = 0) →
      r'.base / 0x1000 ≠ 0x4A001 → c < r'.n1 → 0 < r'.n2 → s.rowWrite a r v c = t.answer (some []) :=
    fun r' h hmem hin hmw hbase hx hj => by
      subst h
      exact rowWrite_effect hreach heff hrun (k := 7) (by decide) hmem hin hmw hbase hbuf hx hj
  simp only [List.mem_cons, List.not_mem_nil, or_false] at hr
  rcases hr with h | h | h | h | h | h <;>
    exact hwrite _ h (by decide) (by decide) (by decide) (by decide) hc (by decide)

/-- What a write does to a register of a CAN controller is the branch of slot 7. -/
theorem writeReg_canReg {s : State} {a : Init} {c : Nat} {v : Word} (hc : c < 8) :
    s.writeReg a FBC_CANc_TXREQ_LO (FBC_CANc_TXREQ_LO.addr c 0) c 0 v = s.canRequests c 0 v.toNat ∧
    s.writeReg a FBC_CANc_TXREQ_HI (FBC_CANc_TXREQ_HI.addr c 0) c 0 v = s.canRequests c 32 v.toNat ∧
    s.writeReg a FBC_CANc_TXABORT_LO (FBC_CANc_TXABORT_LO.addr c 0) c 0 v = s.canAbort c 0 v.toNat ∧
    s.writeReg a FBC_CANc_TXABORT_HI (FBC_CANc_TXABORT_HI.addr c 0) c 0 v = s.canAbort c 32 v.toNat ∧
    s.writeReg a FBC_CANc_CTRL (FBC_CANc_CTRL.addr c 0) c 0 v = (if bitOf v.toNat 0 then s.canRecover c else s) ∧
    s.writeReg a FBC_CANc_RXF_RIDX (FBC_CANc_RXF_RIDX.addr c 0) c 0 v = s.rxfConsume c v.toNat := by
  refine ⟨?_, ?_, ?_, ?_, ?_, ?_⟩ <;>
    (unfold State.writeReg; rw [Reg.slotOf_addr (k := 7) (by decide) hc (by decide)]; rfl)

theorem exec_canTxreqWrite (a : Init) (c w : Nat) (v : Word) (s : State) : exec (.canTxreqWrite a c w v) s =
    s.ends (if w = 0 then s.rowWrite a FBC_CANc_TXREQ_LO v c else if w = 1 then s.rowWrite a FBC_CANc_TXREQ_HI v c else s) := rfl
theorem exec_canTxabortWrite (a : Init) (c w : Nat) (v : Word) (s : State) : exec (.canTxabortWrite a c w v) s =
    s.ends (if w = 0 then s.rowWrite a FBC_CANc_TXABORT_LO v c else if w = 1 then s.rowWrite a FBC_CANc_TXABORT_HI v c else s) :=
  rfl
theorem exec_canRecoverWrite (a : Init) (c : Nat) (v : Word) (s : State) :
    exec (.canRecoverWrite a c v) s = s.ends (s.rowWrite a FBC_CANc_CTRL (putBits v 0 0 1) c) := rfl
theorem exec_rxfRidxWrite (a : Init) (c : Nat) (v : Word) (s : State) :
    exec (.rxfRidxWrite a c v) s = s.ends (s.rowWrite a FBC_CANc_RXF_RIDX v c) := rfl

/-- Settles O44: each register's write by what it does to the controller. -/
theorem canRegisters : Obligations.CanRegisters := by
  intro s a c b v hc hb
  obtain ⟨hreqLo, hreqHi, habLo, habHi, hctrl, hridx⟩ := writeReg_canReg (s := s) (a := a) (v := v) hc
  refine ⟨?requestLo, ?requestHi, ?abortLo, ?abortHi, ?recover, ?consume⟩
  case requestLo =>
    intro hreach hv hgw u h
    rw [exec_canTxreqWrite]
    rw [hv, State.canRequests_one hb hgw] at hreqLo
    exact ends_of_eq (rowWrite_canReg (by simp) hc hreach hreqLo (State.canRequest_pcs ..))
  case requestHi =>
    intro hreach
    rw [exec_canTxreqWrite]
    exact ends_of_eq (rowWrite_canReg (by simp) hc hreach hreqHi (State.canRequests_pcs ..))
  case abortLo =>
    intro hreach hv hgw f hpend hcur
    rw [exec_canTxabortWrite]
    rw [hv, State.canAbort_one hb hgw, State.endEarly_idle hpend hcur] at habLo
    exact ends_of_eq (rowWrite_canReg (by simp) hc hreach habLo (State.txEnd_pcs ..))
  case abortHi =>
    intro hreach
    rw [exec_canTxabortWrite]
    exact ends_of_eq (rowWrite_canReg (by simp) hc hreach habHi (State.canAbort_pcs ..))
  case recover =>
    intro hreach hst hflag hcount
    have hbit : bitOf (putBits v 0 0 1).toNat 0 = true := by rw [bitOf_putBits_one v (by decide), if_pos rfl]
    obtain ⟨-, -, -, -, hput, -⟩ := writeReg_canReg (s := s) (a := a) (v := putBits v 0 0 1) hc
    rw [if_pos hbit, State.canRecover, if_pos ⟨hst, hflag, by simp [hcount]⟩] at hput
    rw [exec_canRecoverWrite]
    exact ends_of_eq (rowWrite_canReg (by simp) hc hreach hput ((State.set_pcs ..).trans (State.setFlag_pcs ..)))
  case consume =>
    intro hreach n hn
    rw [State.rxfConsume] at hridx
    rw [if_neg hn.not_gt] at hridx
    rw [exec_rxfRidxWrite]
    exact ends_of_eq (rowWrite_canReg (by simp) hc hreach hridx ((State.modCan_pcs ..).trans (State.set_pcs ..)))

end Sys2Proof.Machine
end

section
/-!
# Attempts of a CAN controller and the schedule matrix (O45)
-/

namespace Sys2Proof.Machine

theorem exec_canArbitration (c : Nat) (s : State) : exec (.canArbitration c) s = s.ends (if c < 8 then s.canArbitrate c else s) := rfl
theorem exec_canAttemptEnd (c : Nat) (e : CanEnd) (s : State) :
    exec (.canAttemptEnd c e) s = s.ends (if c < 8 then s.canAttemptEnd c e else s) := rfl
theorem exec_validityExpiry (c b : Nat) (s : State) :
    exec (.validityExpiry c b) s = s.ends (if c < 8 then s.validityExpiry c b else s) := rfl
theorem exec_busOffEnd (c : Nat) (s : State) : exec (.busOffEnd c) s = s.ends (if c < 8 then s.busOffEnd c else s) := rfl
theorem exec_canBusJoin (c : Nat) (s : State) : exec (.canBusJoin c) s = s.ends (if c < 8 then s.canJoin c else s) := rfl
theorem exec_scheduleColumnStart (c : Nat) (s : State) :
    exec (.scheduleColumnStart c) s = s.ends (if c < 8 then s.columnStart c else s) := rfl
theorem exec_schedMiss (c : Nat) (s : State) : exec (.schedMiss c) s = s.ends (if c < 8 then s.schedMiss c else s) := rfl

theorem State.can_modCan (s : State) (c : Nat) (f : Can → Can) : (s.modCan c f).can c = f (s.can c) :=
  (ngetD_nput ..).trans (if_pos rfl)

/-! ### The end of an attempt (R338–R346) -/

/-- The state in which the attempt is over. -/
def State.attemptOver (s : State) (c : Nat) : State := s.modCan c fun x => { x with cur := none }

theorem State.canAttemptEnd_dead {s : State} {c : Nat} {t : CanTx} (hcur : (s.can c).cur = some t)
    (hdead : t.uv = true ∨ s.pcs.vcanUv = true) (e : CanEnd) :
    s.canAttemptEnd c e = ((s.attemptOver c).txFailed c t).canCounters c
      (s.get FBC_CANc_ERR_TEC c + match e with | .error inc _ => inc | _ => 8) (s.get FBC_CANc_ERR_REC c) := by
  have hbus : (t.uv || s.pcs.vcanUv) = true := by simpa using hdead
  unfold State.canAttemptEnd
  simp only [hcur, State.modCan_pcs, hbus, if_true]
  cases e <;> rfl

section Live

variable {s : State} {c : Nat} {t : CanTx} (hcur : (s.can c).cur = some t) (huv : t.uv = false) (hvcan : s.pcs.vcanUv = false)

include hcur huv hvcan

theorem State.canAttemptEnd_sent (hrep : t.replaced = false) (hbuf : t.buf < 64) :
    s.canAttemptEnd c .sent =
      (let u := s.attemptOver c
       ((((u.count (440 + c)).canCounters c (u.get FBC_CANc_ERR_TEC c - 1) (u.get FBC_CANc_ERR_REC c)).modCan c fun x =>
          { x with sent := some (t.frame.idw, byteAt t.frame.hdr 4, t.data, t.sof), pend := nerase x.pend t.buf }).putPend c
          t.buf false).txStatus c t.buf stOk t.sof t.frame.attempts) := by
  unfold State.canAttemptEnd
  simp only [hcur, State.modCan_pcs, huv, hvcan, Bool.or_false, hrep, Bool.false_eq_true, if_false, if_neg hbuf.ne]
  rfl

theorem State.canAttemptEnd_lost : s.canAttemptEnd c .lost = (s.attemptOver c).txFailed c t := by
  unfold State.canAttemptEnd
  simp only [hcur, State.modCan_pcs, huv, hvcan, Bool.or_false, Bool.false_eq_true, if_false]
  rfl

theorem State.canAttemptEnd_error (inc : Nat) :
    s.canAttemptEnd c (.error inc false) =
      (let u := s.attemptOver c
       (u.txFailed c t).canCounters c (u.get FBC_CANc_ERR_TEC c + inc) (u.get FBC_CANc_ERR_REC c)) := by
  unfold State.canAttemptEnd
  simp only [hcur, State.modCan_pcs, huv, hvcan, Bool.or_false, Bool.false_eq_true, if_false]
  rfl

end Live

/-- A frame that stays pending is left alone by the failure of its attempt. -/
theorem State.txFailed_stays {s : State} {c : Nat} {t : CanTx} {f : CanFrame} (hrep : t.replaced = false)
    (hpend : nfind (s.can c).pend t.buf = some f) (hexp : f.expired = false) (hab : f.aborted = false) :
    (s.attemptOver c).txFailed c t = s.attemptOver c := by
  simp [State.txFailed, State.attemptOver, State.can_modCan, hrep, hpend, hexp, hab]

/-! ### Expiry, bus-off and joining (R340, R345, R346) -/

theorem State.validityExpiry_idle {s : State} {c b : Nat} {f : CanFrame} (hpend : nfind (s.can c).pend b = some f)
    (hv : leAt f.hdr 10 2 ≠ 0) (hup : s.fbcUp = true)
    (hcur : ((s.until (f.req + leAt f.hdr 10 2 * 1000000)).can c).cur = none)
    (hstill : nfind ((s.until (f.req + leAt f.hdr 10 2 * 1000000)).can c).pend b = some f) :
    s.validityExpiry c b = (s.until (f.req + leAt f.hdr 10 2 * 1000000)).txEnd c b stExpired f.attempts := by
  unfold State.validityExpiry
  rw [hpend]
  refine (if_neg (by simp [hv, hup])).trans ?_
  rw [State.endEarly_idle hstill hcur]
  rfl

/-! ### The schedule matrix (R342, R343, R367) -/

theorem State.columnStart_next {s : State} {c : Nat} {m : MatRun} (hup : s.fbcUp = true) (hmat : (s.can c).mat = some m)
    (hold : (s.can c).matNext = none ∨ ∃ n, (s.can c).matNext = some n ∧ s.oldColumnFirst m n = true)
    (hdue : m.next ≤ ((s.untilTd m.td m.next).td m.td).ns) :
    s.columnStart c = (s.untilTd m.td m.next).modCan c fun x => { x with mat := some m.advance } := by
  unfold State.columnStart
  obtain hnone | ⟨n, hnext, hfirst⟩ := hold
  · simp only [hup, hmat, hnone, not_true_eq_false, if_false, if_neg hdue.not_gt]
  · simp only [hup, hmat, hnext, hfirst, not_true_eq_false, if_false, if_neg hdue.not_gt]

theorem State.columnStart_overlay {s : State} {c : Nat} {m n : MatRun} (hup : s.fbcUp = true) (hmat : (s.can c).mat = some m)
    (hnext : (s.can c).matNext = some n) (hfirst : s.oldColumnFirst m n = false)
    (hdue : n.next ≤ ((s.untilTd n.td n.next).td n.td).ns) :
    s.columnStart c = (s.untilTd n.td n.next).modCan c fun x => { x with mat := some (n.cycleAt n.next), matNext := none } := by
  unfold State.columnStart
  simp only [hup, hmat, hnext, hfirst, not_true_eq_false, if_false, if_neg hdue.not_gt]

/-- An exclusive window whose frame has not started by its latest instant is missed. -/
theorem State.schedMiss_missed {s u : State} {c t b : Nat} {m : MatRun} (hmat : (s.can c).mat = some m) (hup : s.fbcUp = true)
    (hkind : matCell m.raw m.row m.col % 4 = 1) (hmiss : m.missed = false) (hbegun : m.begun = true)
    (ht : t = m.start + matLatest m.raw m.col) (hin : t < m.next) (hu : u = s.untilTd m.td (t + 1)) (hpast : t < (u.td m.td).ns)
    (hcur : (u.can c).cur = none) (hb : b = bitsOf (matCell m.raw m.row m.col) 9 4)
    (hpend : (nfind (u.can c).pend b).isSome = true) (hsched : u.scheduled c b = true) :
    s.schedMiss c = (u.inc FBC_CANc_CNT_SCHED_MISS 1 c).modCan c fun x => { x with mat := some { m with missed := true } } := by
  subst ht hu hb
  unfold State.schedMiss
  simp only [hmat]
  rw [if_neg (by simp [hkind, hmiss, hbegun, hup, hin])]
  refine if_neg ?_
  simp [hpast, hcur, hsched, Option.isSome_iff_ne_none.mp hpend]

/-! ### The statement -/

/-- Settles O45: each end of an attempt by its branch, and the matrix by the column that comes first. -/
theorem canAttemptsAndSchedule : Obligations.CanAttemptsAndSchedule := by
  refine ⟨fun s c hc => ⟨?start, ?dead, ?live, ?expiry, ?busOff, ?join⟩, fun s c m hc hup hmat => ⟨?column, ?overlay, ?miss⟩⟩
  case start =>
    intro b f hmay hcur hchoice
    rw [exec_canArbitration, if_pos hc]
    exact ends_of_eq (by simp [State.canArbitrate, hmay, hcur, hchoice] <;> rfl)
  case dead =>
    intro t e hcur hdead
    rw [exec_canAttemptEnd, if_pos hc]
    refine ends_of_eq ((State.canAttemptEnd_dead hcur hdead e).trans ?_)
    cases e <;> rfl
  case live =>
    intro t hcur huv hvcan hrep hbuf u
    refine ⟨?_, fun f hpend hexp hab => ⟨?_, fun inc => ?_⟩⟩
    · rw [exec_canAttemptEnd, if_pos hc]
      exact ends_of_eq (State.canAttemptEnd_sent hcur huv hvcan hrep hbuf)
    · rw [exec_canAttemptEnd, if_pos hc]
      exact ends_of_eq ((State.canAttemptEnd_lost hcur huv hvcan).trans (State.txFailed_stays hrep hpend hexp hab))
    · rw [exec_canAttemptEnd, if_pos hc]
      refine ends_of_eq ((State.canAttemptEnd_error hcur huv hvcan inc).trans ?_)
      exact congrArg (State.canCounters · c _ _) (State.txFailed_stays hrep hpend hexp hab)
  case expiry =>
    intro b f hpend hv hup u hcur hstill
    rw [exec_validityExpiry, if_pos hc]
    exact ends_of_eq (State.validityExpiry_idle hpend hv hup hcur hstill)
  case busOff =>
    intro hup hst hcount
    rw [exec_busOffEnd, if_pos hc]
    exact ends_of_eq (if_neg (by simp [hup, hst, hcount]))
  case join =>
    intro hup hdone hst htest hnet
    rw [exec_canBusJoin, if_pos hc]
    exact ends_of_eq (if_neg (by simp [hup, hdone, hst, htest, hnet]))
  case column =>
    intro hold u hdue
    rw [exec_scheduleColumnStart, if_pos hc]
    exact ends_of_eq (State.columnStart_next hup hmat hold hdue)
  case overlay =>
    intro n hnext hfirst u hdue
    rw [exec_scheduleColumnStart, if_pos hc]
    exact ends_of_eq (State.columnStart_overlay hup hmat hnext hfirst hdue)
  case miss =>
    intro cell t u hkind hmiss hbegun hcol hin hpast hcur hpend hsched
    rw [exec_schedMiss, if_pos hc]
    exact ends_of_eq (State.schedMiss_missed hmat hup hkind hmiss hbegun rfl hin rfl hpast hcur rfl hpend hsched)

end Sys2Proof.Machine
end

section
/-!
# CAN reception and LIN channels (O46)
-/

namespace Sys2Proof.Machine

theorem exec_canFrameRx (c : Nat) (f : CanRx) (s : State) :
    exec (.canFrameRx c f) s = s.ends (if c < 8 then s.canFrameRx c f else s) := rfl
theorem exec_linHeaderSlot (l : Nat) (s : State) : exec (.linHeaderSlot l) s = s.ends (if l < 4 then s.linSlot l else s) := rfl
theorem exec_linResponse (l id st : Nat) (data : List Byte) (ago : Nat) (s : State) :
    exec (.linResponse l id st data ago) s = s.ends (if l < 4 then s.linResponse l id st data ago else s) := rfl
theorem exec_linGoToSleep (l : Nat) (s : State) : exec (.linGoToSleep l) s = s.ends (if l < 4 then s.linGoToSleep l else s) := rfl
theorem exec_linBusIdleTimeout (l : Nat) (s : State) : exec (.linBusIdleTimeout l) s = s.ends (if l < 4 then s.linIdle l else s) :=
  rfl

/-! ### CAN reception (R333, R344, R348–R351) -/

theorem State.canFrameRx_unpowered {s : State} {c : Nat} (hv : s.pcs.vcanUv = true) (f : CanRx) : s.canFrameRx c f = s := by
  unfold State.canFrameRx
  simp [hv]

section Reception

variable {s u : State} {c : Nat} {f : CanRx} (hc : c < 8) (hup : s.fbcUp = true) (hv : s.pcs.vcanUv = false)
  (hkind : rxKind f = 0) (hu : u = s.netActivity c (s.now - f.ago)) (huup : u.fbcUp = true) (huv : u.pcs.vcanUv = false)
  (hflag : u.canFlag c 5 = true) (htest : u.canTested c = false) (hst : u.get FBC_CANc_ERR_STATE c < 2)
  (hnet : u.netState c ≠ 0) (hcommit : (u.net c).commit = none)

include hc hup hv hkind hu huup huv hflag htest hst hnet hcommit

theorem State.canFrameRx_error (herr : f.errs ≠ 0) :
    s.canFrameRx c f = u.canCounters c (u.get FBC_CANc_ERR_TEC c) (u.get FBC_CANc_ERR_REC c + f.errs) := by
  have hst3 : u.get FBC_CANc_ERR_STATE c ≠ 3 := by omega
  unfold State.canFrameRx
  simp only [if_pos (show s.fbcUp = true ∧ c < 8 ∧ ¬ s.pcs.vcanUv = true from ⟨hup, hc, by simp [hv]⟩), ← hu]
  refine (if_neg ?_).trans (if_pos herr)
  simp [hc, huup, huv, hflag, hst3, hkind, htest, hnet, hcommit]

/-- A good frame lowers REC, counts and is looked for in the filters. -/
theorem State.canFrameRx_good {v w : State} (herr : f.errs = 0) (hrec : u.get FBC_CANc_ERR_REC c ≤ 127)
    (hv' : v = u.canCounters c (u.get FBC_CANc_ERR_TEC c) (u.get FBC_CANc_ERR_REC c - 1))
    (hw : w = (v.count (448 + c)).canBell c f) (hcatch : w.filterOn 3 (8 * c) 8 0 f = none) :
    s.canFrameRx c f = match w.filterOn 4 (256 * c) 256 2 f with
      | none => w
      | some (i, r) =>
        let t := if byteAt r 9 % 4 = 1 ∨ byteAt r 9 % 4 = 3 then w.canFifo c i f false (v.td0 - f.ago) else w
        if byteAt r 9 % 4 = 2 ∨ byteAt r 9 % 4 = 3 then t.gwCan c f.id.toNat (rxKind f) f.data else t := by
  have hst3 : u.get FBC_CANc_ERR_STATE c ≠ 3 := by omega
  have hst2 : decide (u.get FBC_CANc_ERR_STATE c = 2) = false := decide_eq_false hst.ne
  unfold State.canFrameRx
  simp only [if_pos (show s.fbcUp = true ∧ c < 8 ∧ ¬ s.pcs.vcanUv = true from ⟨hup, hc, by simp [hv]⟩), ← hu]
  refine (if_neg ?_).trans ((if_neg (not_not_intro herr)).trans ?_)
  · simp [hc, huup, huv, hflag, hst3, hkind, htest, hnet, hcommit]
  · simp only [if_pos hrec, ← hv', ← hw, hcatch, hst2, Bool.not_true, Bool.false_eq_true, if_false] <;>
      cases w.filterOn 4 (256 * c) 256 2 f <;> rfl

end Reception

/-! ### LIN (R352, R353, R361, R362) -/

theorem State.msi_rd (s : State) (a id : Nat) (r : Reg) (i j : Nat) : (s.msi a id).rd r i j = s.rd r i j := by
  unfold State.msi
  split <;> rfl

theorem State.msi_fbc (s : State) (a id : Nat) : (s.msi a id).fbc = s.fbc := by
  unfold State.msi
  split <;> rfl

theorem State.linEvt_fbc (s : State) (l bit : Nat) : (s.linEvt l bit).fbc = s.fbc := by
  unfold State.linEvt
  extract_lets old t
  split
  · exact State.msi_fbc ..
  · rfl

/-- A field reads as its register's word does. -/
theorem State.get_of_rd {s t : State} {f : Fld} {i j : Nat} (h : t.rd f.reg i j = s.rd f.reg i j) : t.get f i j = s.get f i j := by
  rw [State.get, State.get, h]

/-- An event of a LIN channel is written in its own word. -/
theorem State.linEvt_rd_status (s : State) (l bit n : Nat) (hn : n < 12) :
    (s.linEvt l bit).rd FBC_NETn_STATUS n = s.rd FBC_NETn_STATUS n := by
  have hne : FBC_NETn_STATUS.addr n 0 ≠ FBC_LINl_EVT.addr l 0 := by
    simp only [Reg.addr, FBC_NETn_STATUS, FBC_LINl_EVT]; omega
  unfold State.linEvt
  extract_lets old t
  have ht : t.rd FBC_NETn_STATUS n = s.rd FBC_NETn_STATUS n := rd_wr_other s _ hne
  split
  · exact (State.msi_rd ..).trans ht
  · exact ht

theorem State.linSleep_commits {s : State} {l : Nat} (hst : (s.linEvt l 2).netState (8 + l) = 1)
    (hneed : (s.linEvt l 2).netNeed (8 + l) = false) (hcommit : ((s.linEvt l 2).net (8 + l)).commit = none) :
    s.linSleep l = (s.linEvt l 2).netCommit (8 + l) :=
  if_pos ⟨hst, by simp [hneed], by simp [hcommit]⟩

/-- A slot that is due sends the header of its schedule entry. -/
theorem State.linSlot_sends {s u : State} {l t : Nat} (hl : l < 4) (hup : s.fbcUp = true) (hon : s.linOn l = true)
    (hslot : (s.lin l).slotAt = some t) (hcom : s.linCommander l = true) (hn : leAt (s.fbcRec 7 l) 0 2 ≠ 0)
    (hnet : s.netState (8 + l) = 1) (hu : u = s.until t) :
    s.linSlot l =
      (let r := s.fbcRec 7 l
       let i := (u.lin l).idx % leAt r 0 2
       u.modLin l fun x =>
        { x with idx := (i + 1) % leAt r 0 2, slotAt := some (t + leAt r (18 + 4 * i) 2 * 1000000),
                 cur := some (byteAt r (16 + 4 * i) % 64), act := u.now }) := by
  subst hu
  unfold State.linSlot
  simp only [hslot]
  exact if_neg (by simp [hl, hup, hon, hcom, hn, hnet])

/-- The state in which a response has counted as activity and the channel waits for no response. -/
def State.linAnswered (s : State) (l ago : Nat) : State :=
  (s.netActivity (8 + l) (s.now - ago)).modLin l fun x =>
    { x with act := (s.netActivity (8 + l) (s.now - ago)).now, cur := none }

section Response

variable {s : State} {l id ago : Nat} {data : List Byte} (hl : l < 4) (hup : s.fbcUp = true) (hon : s.linOn l = true)
  (hid : id < 64) (hgts : (s.lin l).gts = false ∨ id ≠ 0x3C) (hnet : s.netState (8 + l) ≠ 0)
  (hcommit : (s.net (8 + l)).commit = none)

include hl hup hon hid hgts hnet hcommit

theorem State.linResponse_published (hkind : byteAt ((s.linAnswered l ago).linEntry l id) 0 % 4 = 1) (st : Nat) :
    s.linResponse l id st data ago =
      (let u := s.linAnswered l ago
       let t := ((u.linPublished l id (s.now - ago) (byteAt (u.linEntry l id) 1)).setArea (linArea l + 16 * id + 9)
          (leBytes 1 st)).setArea (linArea l + 16 * id + 12) (leBytes 4 (u.td0 - ago))
       if st = 1 then t else t.linEvt l 1) := by
  have hg : ¬ ((s.lin l).gts = true ∧ id = 60) := by rcases hgts with h | h <;> simp [h]
  unfold State.linResponse
  simp only [if_neg (show ¬ ¬ (s.fbcUp = true ∧ l < 4 ∧ s.linOn l = true ∧ id < 64) from not_not_intro ⟨hup, hl, hon, hid⟩),
    if_neg hg, hcommit, hnet, false_and, if_false, Bool.false_eq_true]
  unfold State.linAnswered at *
  simp only [hkind]

theorem State.linResponse_received (hkind : byteAt ((s.linAnswered l ago).linEntry l id) 0 % 4 = 2) (st : Nat) :
    s.linResponse l id st data ago =
      (let u := s.linAnswered l ago
       let base := linArea l + 16 * id
       if st = 1 then
        let d := data.take (byteAt (u.linEntry l id) 1)
        let seq := ((ngetD u.fbc.area (base + 8) 0).toNat + 2) % 256
        ((((u.setArea base d).setArea (base + 8) (leBytes 1 seq ++ leBytes 1 st)).setArea (base + 12)
          (leBytes 4 (u.td0 - ago))).linEvt l 0).gwLin l id d
       else (u.setArea (base + 9) (leBytes 1 st)).linEvt l 1) := by
  have hg : ¬ ((s.lin l).gts = true ∧ id = 60) := by rcases hgts with h | h <;> simp [h]
  unfold State.linResponse
  simp only [if_neg (show ¬ ¬ (s.fbcUp = true ∧ l < 4 ∧ s.linOn l = true ∧ id < 64) from not_not_intro ⟨hup, hl, hon, hid⟩),
    if_neg hg, hcommit, hnet, false_and, if_false, Bool.false_eq_true]
  unfold State.linAnswered at *
  simp only [hkind]

end Response

/-! ### The statement -/

/-- Settles O46: a frame by its filters, and each LIN command by its branch. -/
theorem receptionAndLin : Obligations.ReceptionAndLin := by
  refine ⟨fun s c f hc hup hv => ?unpowered, fun s c f hc hup hv hkind => ?reception,
    fun s l hl hup hon => ⟨?slot, ?response, ?sleepSent, fun hcom hnet => ⟨?goToSleep, ?idle⟩⟩⟩
  case unpowered =>
    rw [exec_canFrameRx, if_pos hc]
    exact ends_of_eq (State.canFrameRx_unpowered hv f)
  case reception =>
    intro u huup huv hflag htest hst hnet hcommit
    refine ⟨fun herr => ?_, fun herr hrec => ?_⟩
    · rw [exec_canFrameRx, if_pos hc]
      exact ends_of_eq (State.canFrameRx_error hc hup hv hkind rfl huup huv hflag htest hst hnet hcommit herr)
    · intro v w hcatch
      have hgood := State.canFrameRx_good (v := v) (w := w) hc hup hv hkind rfl huup huv hflag htest hst hnet hcommit herr hrec rfl
        rfl hcatch
      rw [exec_canFrameRx, if_pos hc]
      refine ⟨fun i r hfifo hact => ends_of_eq (hgood.trans ?_), fun hno => ends_of_eq (hgood.trans ?_)⟩
      · rw [hfifo]
        simp [hact]
      · rw [hno]
  case slot =>
    intro t hslot hcom hn hnet u r i id
    rw [exec_linHeaderSlot, if_pos hl]
    exact ends_of_eq (State.linSlot_sends hl hup hon hslot hcom hn hnet rfl)
  case response =>
    intro id data ago hid hgts hnet hcommit a u base time
    refine ⟨fun hkind => ?_, fun hkind => ?_⟩
    · intro v w
      have hpub := State.linResponse_published (data := data) hl hup hon hid hgts hnet hcommit hkind
      refine ⟨?_, fun st hst => ?_⟩
      · rw [exec_linResponse, if_pos hl]
        exact ends_of_eq ((hpub 1).trans (if_pos rfl))
      · rw [exec_linResponse, if_pos hl]
        exact ends_of_eq ((hpub st).trans (if_neg hst))
    · intro d seq
      have hrec := State.linResponse_received (data := data) hl hup hon hid hgts hnet hcommit hkind
      refine ⟨?_, fun st hst => ?_⟩
      · rw [exec_linResponse, if_pos hl]
        exact ends_of_eq ((hrec 1).trans (if_pos rfl))
      · rw [exec_linResponse, if_pos hl]
        exact ends_of_eq ((hrec st).trans (if_neg hst))
  case sleepSent =>
    intro st data ago hgts
    rw [exec_linResponse, if_pos hl]
    refine ends_of_eq ?_
    unfold State.linResponse
    exact (if_neg (by simp [hup, hl, hon])).trans (if_pos ⟨hgts, rfl⟩)
  case goToSleep =>
    intro hneed hcommit
    have hrd := s.linEvt_rd_status l 2 (8 + l) (by omega)
    rw [exec_linGoToSleep, if_pos hl]
    refine ends_of_eq ((if_neg (by simp [hup, hl, hon, hcom, hnet])).trans (State.linSleep_commits ?_ ?_ ?_))
    · exact (State.get_of_rd hrd).trans hnet
    · exact (congrArg (· == 1) (State.get_of_rd hrd)).trans hneed
    · rw [← hcommit, State.net, State.net, State.linEvt_fbc]
  case idle =>
    intro t u hst hneed hcommit
    rw [exec_linBusIdleTimeout, if_pos hl]
    exact ends_of_eq ((if_neg (by simp [hup, hl, hon, hcom, hnet])).trans (State.linSleep_commits hst hneed hcommit))

end Sys2Proof.Machine
end

section
/-!
# Network management and transceivers (O47)
-/

namespace Sys2Proof.Machine

theorem exec_bellwetherDue (n : Nat) (s : State) : exec (.bellwetherDue n) s = s.ends (if n < 16 then s.bellDue n else s) := rfl
theorem exec_bellwetherRx (s : State) : exec .bellwetherRx s = s.ends s.bellRx := rfl
theorem exec_idleTimerExpiry (n : Nat) (s : State) : exec (.idleTimerExpiry n) s = s.ends (if n < 16 then s.idleExpiry n else s) :=
  rfl
theorem exec_tPrepExpiry (n : Nat) (s : State) : exec (.tPrepExpiry n) s = s.ends (if n < 16 then s.tPrepExpiry n else s) := rfl
theorem exec_busRelease (n : Nat) (s : State) : exec (.busRelease n) s = s.ends (if n < 16 then s.busRelease n else s) := rfl
theorem exec_wakeDetected (n : Nat) (s : State) : exec (.wakeDetected n) s = s.ends (if n < 16 then s.netWakes n else s) := rfl
theorem exec_transceiverRefresh (s : State) : exec .transceiverRefresh s = s.ends s.xcvrRefresh := rfl
theorem exec_transceiverFailsafe (x : Nat) (s : State) : exec (.transceiverFailsafe x) s = s.ends (s.xcvrFailsafe x) := rfl
theorem exec_vcanUv (below : Bool) (s : State) : exec (.vcanUv below) s = s.ends (s.vcanChange below) := rfl

/-! ### Network management (R356, R359, R361, R362, R365) -/

/-- A due Bellwether leaves by the medium of its network, and the next one is due while the need lasts. -/
theorem State.bellDue_sends {s u : State} {n t fl : Nat} (hn : n < 16) (hup : s.fbcUp = true)
    (hdue : (s.net n).due = some (t, fl)) (hst : s.netState n = 1) (hu : u = s.until t) :
    s.bellDue n =
      (let v := u.modNet n fun x => { x with due := if u.netNeed n then some (t + u.netPeriod n, 0) else none }
       if isCanNet n then v.bellCan n (fl + b2n (u.netNeed n))
       else if isEthNet n then v.bellEth n (fl + b2n (u.netNeed n)) else v) := by
  subst hu
  unfold State.bellDue
  simp only [hdue]
  exact if_neg (not_not_intro ⟨hup, hn, hst⟩)

theorem State.bellRx_taken {s : State} {f : EthFrame} (hup : s.fbcUp = true)
    (hf : s.esw.mq.find? (fun f => f.etype == s.esw.etype && f.kind == 3) = some f) :
    s.bellRx = ({ s with esw := { s.esw with mq := s.esw.mq.erase f } } : State).each [12, 13, 14, 15] fun u k =>
      if leAt (u.netRec k) 24 4 = f.streamId then u.bellHeard k f.node else u := by
  unfold State.bellRx
  rw [State.mTake_some hf]
  exact if_neg (not_not_intro hup)

theorem State.idleExpiry_prepares {s u : State} {n : Nat} (hn : n < 16) (hup : s.fbcUp = true) (hst : s.netState n = 1)
    (hu : u = s.until (s.net n).idleAt) (hneed : u.netNeed n = false)
    (hcom : isLinNet n = true → u.linCommander (n - 8) = true) :
    s.idleExpiry n = (u.set FBC_NETn_STATUS_STATE 2 n).modNet n fun x =>
      { x with prepAt := some (u.now + u.netPrep n), due := none } := by
  subst hu
  unfold State.idleExpiry
  exact (if_neg (not_not_intro ⟨hup, hn, hst⟩)).trans (if_neg (by simpa [hneed] using hcom))

theorem State.tPrepExpiry_commits {s : State} {n t : Nat} (hn : n < 16) (hup : s.fbcUp = true)
    (hprep : (s.net n).prepAt = some t) (hst : s.netState n = 2) (hcommit : (s.net n).commit = none) (hlin : isLinNet n = false) :
    s.tPrepExpiry n = (s.until t).netCommit n := by
  unfold State.tPrepExpiry
  simp only [hprep]
  exact (if_neg (by simp [hup, hn, hst, hcommit])).trans (if_neg (by simp [hlin]))

/-- The state in which the medium of a CAN network is in low power and its controller has left the bus. -/
def State.canReleased (s : State) (n t : Nat) : State :=
  let v := ((s.until (t + 10000)).set FBC_NETn_STATUS_STATE 0 n).xcvrSleep n true
  (v.modNet n fun x => { x with errSt := v.get FBC_CANc_ERR_STATE n }).canLeave n

theorem State.busRelease_can {s : State} {n t : Nat} (hn : n < 8) (hup : s.fbcUp = true)
    (hcommit : (s.net n).commit = some t) (hst : s.netState n = 2) (hwake : ((s.canReleased n t).net n).wakeSeen = false)
    (hneed : ((s.canReleased n t).net n).needSeen = false) :
    s.busRelease n = (s.canReleased n t).modNet n fun x => { x with prepAt := none } := by
  have hcan : isCanNet n = true := decide_eq_true hn
  have hn16 : n < 16 := by omega
  unfold State.canReleased at *
  unfold State.busRelease
  simp only [hcommit]
  refine (if_neg (by simp [hup, hn16, hst])).trans ?_
  simp only [hcan, if_true, hwake, hneed, Bool.false_eq_true, if_false]

theorem State.netWakes_armed {s : State} {n : Nat} (hn : n < 16) (hup : s.fbcUp = true) (hawake : s.asleep = false)
    (hst : s.netState n = 0) (harm : bitOf s.fbc.armed n = true) : s.netWakes n = s.netWake n 2 := by
  unfold State.netWakes State.wakeDetected
  simp [hawake, hup, hn, hst, harm]

/-! ### Transceivers (R333, R364) -/

/-- A refresh at `now` of the transceivers listed, none of which is in failsafe. -/
def State.refreshed (s : State) (now : Nat) (l : List Nat) : State :=
  l.foldl (fun (v : State) x => { v with fbc := { v.fbc with refresh := nset v.fbc.refresh x now } }) s

/-- Without a transceiver in failsafe each one is refreshed and nothing else happens to it. -/
theorem State.xcvrRefresh_fold (l : List Nat) : ∀ s : State, s.fbc.fs = 0 →
    (s.each l fun s x =>
      let s := { s with fbc := { s.fbc with refresh := nset s.fbc.refresh x s.now } }
      if bitOf s.fbc.fs x then
        let s := { s with fbc := { s.fbc with fs := setBit s.fbc.fs x false } }
        let asleep := s.netState x == 0
        (s.xcvrSleep x asleep).arm x (asleep && s.wakeEn x)
      else s) = s.refreshed s.now l := by
  induction l with
  | nil => exact fun _ _ => rfl
  | cons x l ih =>
    intro s hfs
    have hbit : bitOf s.fbc.fs x = false := by simp [hfs, bitOf]
    have hstep := ih { s with fbc := { s.fbc with refresh := nset s.fbc.refresh x s.now } } hfs
    simp only [State.each, List.foldl_cons, hbit, Bool.false_eq_true, if_false] at hstep ⊢
    exact hstep

theorem State.xcvrRefresh_all {s u : State} (hup : s.fbcUp = true)
    (hu : u = s.until ((List.range 12).foldl (fun m x => max m (ngetD s.fbc.refresh x 0)) 0 + 100000000))
    (hfs : u.fbc.fs = 0) (htests : u.fcu.tests = []) : s.xcvrRefresh = u.refreshed u.now (List.range 12) := by
  have hlive : (List.range 12).filter (fun x => !(decide (x < 8) && u.canTested x)) = List.range 12 :=
    List.filter_eq_self.mpr fun x _ => by simp [State.canTested, htests, nfind]
  unfold State.xcvrRefresh
  rw [if_neg (not_not_intro hup)]
  simp only [← hu, hlive]
  exact State.xcvrRefresh_fold _ u hfs

theorem State.xcvrFailsafe_expires {s u : State} {x : Nat} (hx : x < 12) (hfs : bitOf s.fbc.fs x = false)
    (hvbat : s.pcs.vbat = true) (hu : u = s.until (ngetD s.fbc.refresh x 0 + s.tfs x)) :
    s.xcvrFailsafe x =
      (({ u with fbc := { u.fbc with fs := setBit u.fbc.fs x true } } : State).xcvrSleep x true).arm x true := by
  subst hu
  unfold State.xcvrFailsafe
  exact if_neg (by simp [hx, hfs, hvbat])

/-! ### The statement -/

/-- Settles O47: each command by the guard that holds in its case. -/
theorem networksAndTransceivers : Obligations.NetworksAndTransceivers := by
  refine ⟨fun s n hn hup => ⟨?due, ?heard, ?idle, ?prepared, ?release, ?wake⟩, fun s => ⟨?refresh, ?failsafe, ?undervoltage⟩⟩
  case due =>
    intro t fl hdue hst u v
    refine ⟨fun hcan => ?_, fun heth => ?_⟩
    · rw [exec_bellwetherDue, if_pos hn]
      exact ends_of_eq ((State.bellDue_sends hn hup hdue hst rfl).trans (if_pos (decide_eq_true hcan)))
    · have hnot : ¬ isCanNet n = true := by simp [isCanNet]; omega
      rw [exec_bellwetherDue, if_pos hn]
      exact ends_of_eq ((State.bellDue_sends hn hup hdue hst rfl).trans
        ((if_neg hnot).trans (if_pos (decide_eq_true ⟨heth, hn⟩))))
  case heard =>
    intro f hf
    rw [exec_bellwetherRx]
    exact ends_of_eq (State.bellRx_taken hup hf)
  case idle =>
    intro hst u hneed hcom
    rw [exec_idleTimerExpiry, if_pos hn]
    exact ends_of_eq (State.idleExpiry_prepares hn hup hst rfl hneed hcom)
  case prepared =>
    intro t hprep hst hcommit hlin u
    rw [exec_tPrepExpiry, if_pos hn]
    exact ends_of_eq (State.tPrepExpiry_commits hn hup hprep hst hcommit hlin)
  case release =>
    intro t hcommit hst hcan v u hwake hneed
    rw [exec_busRelease, if_pos hn]
    exact ends_of_eq (State.busRelease_can hcan hup hcommit hst hwake hneed)
  case wake =>
    intro hawake hst harm
    rw [exec_wakeDetected, if_pos hn]
    exact ends_of_eq (State.netWakes_armed hn hup hawake hst harm)
  case refresh =>
    intro hup _ u hfs htests
    rw [exec_transceiverRefresh]
    exact ends_of_eq (State.xcvrRefresh_all hup rfl hfs htests)
  case failsafe =>
    intro x hx hfs hvbat u
    rw [exec_transceiverFailsafe]
    exact ends_of_eq (State.xcvrFailsafe_expires hx hfs hvbat rfl)
  case undervoltage =>
    intro below hvbat u
    rw [exec_vcanUv]
    refine ends_of_eq ?_
    unfold State.vcanChange
    exact if_neg (not_not_intro hvbat)

end Sys2Proof.Machine
end

section
/-!
# The signal gateway (O48)
-/

namespace Sys2Proof.Machine

theorem exec_gwPeriodicTx (p : Nat) (s : State) : exec (.gwPeriodicTx p) s = s.ends (s.periodicTx p) := rfl
theorem exec_gwGapEnd (p : Nat) (s : State) : exec (.gwGapEnd p) s = s.ends (s.gapEnd p) := rfl
theorem exec_gwRxTimeout (p : Nat) (s : State) : exec (.gwRxTimeout p) s = s.ends (s.gwTimeout p) := rfl
theorem exec_containerHoldExpiry (k : Nat) (s : State) : exec (.containerHoldExpiry k) s = s.ends (s.holdExpiry k) := rfl
theorem exec_containerRx (s : State) : exec .containerRx s = s.ends s.containerRx := rfl
theorem exec_routeChangeEffect (s : State) : exec .routeChangeEffect s = s.ends (s.after (s.routesDue s.modeHolds)) := rfl

/-! ### Sending (R370, R374, R376) -/

theorem State.pdu_modPdu (s : State) (p : Nat) (f : GwPdu → GwPdu) : (s.modPdu p f).pdu p = f (s.pdu p) :=
  (ngetD_nput ..).trans (if_pos rfl)

/-- The image that leaves does not depend on what a PDU notes of its own sending. -/
theorem State.pduNow_modPdu (s : State) (p : Nat) (r : List Byte) {f : GwPdu → GwPdu}
    (hupd : (f (s.pdu p)).upd = (s.pdu p).upd) : (s.modPdu p f).pduNow p r = s.pduNow p r := by
  have htime : (s.modPdu p f).td0 = s.td0 := rfl
  have himage : (s.modPdu p f).pduImage p r = s.pduImage p r := rfl
  rw [State.pduNow, State.pduNow, State.pdu_modPdu, hupd, htime, himage]

theorem State.periodicTx_due {s u : State} {p t : Nat} {r : List Byte} (hup : s.sgwUp = true) (hr : s.pduRec p = some r)
    (htx : pduTx r = true) (hper : pduOnUpdate r = false) (ht : t = (s.pdu p).next.getD s.td0) (hu : u = s.untilTd 0 t)
    (hdue : t ≤ u.td0) :
    s.periodicTx p =
      (u.modPdu p fun x => { x with next := some (t + leAt r 8 4 * 1000) }).pduSend p r
        ((u.modPdu p fun x => { x with next := some (t + leAt r 8 4 * 1000) }).pduNow p r) true := by
  unfold State.periodicTx
  simp only [hr, ← ht, ← hu]
  rw [if_neg (by simp [hup, htx, hper]), if_neg hdue.not_gt, State.pduNow_modPdu _ _ _ rfl]

section Gap

variable {s : State} {p t : Nat} {r : List Byte} (hup : s.sgwUp = true) (hr : s.pduRec p = some r) (htx : pduTx r = true)
  (ht : (s.pdu p).last = some t)

include hup hr htx ht

theorem State.gapEnd_queued {d : GwImage} {q : List GwImage} (hqueue : (s.pdu p).queue ≠ [])
    (hnext : ((s.until (t + pduGap r)).pdu p).queue = d :: q) :
    s.gapEnd p = ((s.until (t + pduGap r)).modPdu p fun x => { x with queue := q }).pduSend p r d false := by
  unfold State.gapEnd
  simp only [hr, ht]
  refine (if_neg (by simp [hup, htx, hqueue])).trans ?_
  simp only [hnext]

theorem State.gapEnd_waiting (hwait : (s.pdu p).wait = true) (hnext : ((s.until (t + pduGap r)).pdu p).queue = []) :
    s.gapEnd p =
      (let v := (s.until (t + pduGap r)).modPdu p fun x => { x with wait := false }
       v.pduSend p r (v.pduNow p r) true) := by
  unfold State.gapEnd
  simp only [hr, ht]
  refine (if_neg (by simp [hup, htx, hwait])).trans ?_
  simp only [hnext, State.pduNow_modPdu]

end Gap

/-! ### Reception timeouts (R375, R378) -/

theorem State.gwTimeout_due {s : State} {p : Nat} {r : List Byte} (hup : s.sgwUp = true) (hr : s.pduRec p = some r)
    (hrx : pduTx r = false) (hms : leAt r 16 2 ≠ 0) (hnot : (s.pdu p).timedOut = false) :
    s.gwTimeout p =
      (let u := s.until ((s.pdu p).seen + leAt r 16 2 * 1000000)
       let v := (u.modPdu p fun x => { x with timedOut := true }).sgwEvt SGW_EVT_TIMEOUT
       (v.each v.sgw.routes fun w e => w.routeTimeout p e.1 e.2).flushPdus) := by
  unfold State.gwTimeout
  simp only [hr]
  exact if_neg (by simp [hup, hrx, hms, hnot])

/-- A route from a signal of the PDU is timed out, and its destination takes what ON_TIMEOUT says. -/
theorem State.routeTimeout_eq {s : State} {p k : Nat} {x : GwRoute} {a b : GwSignal} (ha : s.sig? x.src = some a)
    (hb : s.sig? x.dst = some b) :
    s.routeTimeout p k x =
      if sgPdu a.raw ≠ p then s
      else
        let u := s.setRoute k { x with timedOut := true }
        if x.onTimeout = 1 then u.sigWrite x.dst (sgInit b.raw) (x.mode == 1)
        else if x.onTimeout = 2 ∧ sgHasInvalid b.raw then u.sigWrite x.dst (sgInvalid b.raw) (x.mode == 1)
        else u := by
  unfold State.routeTimeout
  simp only [ha, hb]

/-! ### Containers and route changes (R377, R380) -/

/-- What a received container does to one container record: its entries go to their PDUs. -/
def State.containerTake (f : EthFrame) (v : State) (e : Nat × List Byte) : State :=
  if byteAt e.2 0 % 4 = 1 ∧ leAt e.2 4 4 = f.streamId ∧ leAt e.2 2 2 = f.node then
    match contEntries f (f.words + 1) 0 with
    | none => v.gwShort
    | some l => v.each l fun w x =>
      match w.pduRec x.1 with
      | some q => if pduKind q = 8 ∧ byteAt q 1 = e.1 then w.pduTake f.rxAt x.1 q x.2 else w
      | none => w
  else v

theorem State.containerRx_taken {s u : State} {f : EthFrame} (hup : s.sgwUp = true)
    (hf : s.esw.mq.find? (fun f => f.etype == s.esw.etype && f.kind == 4) = some f)
    (hu : u = { s with esw := { s.esw with mq := s.esw.mq.erase f } }) :
    s.containerRx = u.each (u.cfgAll 0x0104 3) (State.containerTake f) := by
  have hupU : u.sgwUp = true := by rw [hu]; exact hup
  unfold State.containerRx
  rw [State.mTake_some hf, ← hu]
  refine (if_neg (not_not_intro hupU)).trans (congrArg (u.each _) (funext fun v => funext fun e => ?_))
  obtain ⟨k, r⟩ := e
  unfold State.containerTake
  by_cases h : byteAt r 0 % 4 = 1 ∧ leAt r 4 4 = f.streamId ∧ leAt r 2 2 = f.node
  · obtain ⟨h1, h2, h3⟩ := h
    simp only [h1, h2, h3, ne_eq, not_true_eq_false, or_self, if_false, and_self, if_true] <;>
      cases contEntries f (f.words + 1) 0 <;> rfl
  · have h' : byteAt r 0 % 4 ≠ 1 ∨ leAt r 4 4 ≠ f.streamId ∨ leAt r 2 2 ≠ f.node := by
      simpa only [not_and_or] using h
    rw [if_neg h]
    exact if_pos h'

/-- The one route change that is due takes effect unless its deadline has passed. -/
theorem State.routesDue_one {s : State} {c : Cmd} (hgrid : s.atGrid = true) (hcmds : s.sf.cmds = [c]) (hst : c.stage = .started)
    (hop : c.desc.opcode.toNat = 0x0502 ∨ c.desc.opcode.toNat = 0x0503) (hat : c.at_ < s.now) (hholds : s.modeHolds c = false)
    (hlate : c.late s.effectNs = false) : s.routesDue s.modeHolds = s.routeEffect c := by
  have hdue : (c.stage == .started && (c.desc.opcode.toNat == 0x0502 || c.desc.opcode.toNat == 0x0503) &&
      decide (c.at_ < s.now) && !(s.modeHolds c)) = true := by
    rcases hop with h | h <;> simp [hst, h, hat, hholds]
  unfold State.routesDue
  rw [if_neg (not_not_intro hgrid), hcmds]
  have hall : [c].filter (fun c => c.stage == .started && (c.desc.opcode.toNat == 0x0502 || c.desc.opcode.toNat == 0x0503) &&
      decide (c.at_ < s.now) && !(s.modeHolds c)) = [c] := List.filter_cons_of_pos hdue
  rw [hall]
  exact if_neg (by simp [hlate])

/-! ### Receptions and updates (R370, R373, R375–R378) -/

theorem State.pduUpdated_unknown {s : State} {p : Nat} (h : s.pduRec p = none) (rescale : Bool) : s.pduUpdated p rescale = s := by
  unfold State.pduUpdated
  simp only [h]

/-- An update that a raw route carries: the route counts, and its destination takes the value. -/
theorem State.routeUpdate_raw {s : State} {k v : Nat} {x y : GwRoute} {a b : GwSignal} (ha : s.sig? x.src = some a)
    (hb : s.sig? x.dst = some b) (hmode : x.mode = 0) (hpdu : s.pduRec (sgPdu b.raw) = none) (hy : s.route? k = some y)
    (hsince : y.since = x.since) :
    s.routeUpdate k x v =
      (let u := (s.count 456).setRoute k { x with seen := true, timedOut := false, fwd := (x.fwd + 1) % 4294967296 }
       { u with sgw := { u.sgw with sigs := nset u.sgw.sigs x.dst { b with val := v % 2 ^ sgLen b.raw } } }) := by
  have hsgw : (s.count 456).sgw = s.sgw := State.count_sgw s 456 1
  have hsig : ∀ i z, ((s.count 456).setRoute k z).sig? i = s.sig? i := fun i z => by
    simp only [State.sig?, State.setRoute, hsgw]
  have hroute : (s.count 456).route? k = some y := by
    rw [State.route?, hsgw]
    exact hy
  have hcfg : (s.count 456).pduRec (sgPdu b.raw) = none := by
    rw [State.pduRec, State.cfgData, State.count_cfg]
    exact hpdu
  unfold State.routeUpdate
  simp only [ha, hb, if_pos hmode, State.routeNote, hroute, Option.any_some, hsince, beq_self_eq_true, if_true]
  unfold State.sigWrite
  simp only [hsig, hb]
  exact State.pduUpdated_unknown (by exact hcfg) _

/-! ### The statement -/

/-- Settles O48: each command by its guard, the timeout and the reception by their branches, the update by what it writes. -/
theorem signalGateway : Obligations.SignalGateway := by
  refine ⟨fun s hup => ⟨?sending, ?timeout, ?routeTimeout, ?hold, ?container, ?change⟩, ?reception, ?update⟩
  case sending =>
    intro p r hr htx
    refine ⟨?_, ?_⟩
    · intro hper t u hdue
      rw [exec_gwPeriodicTx]
      exact ends_of_eq (State.periodicTx_due hup hr htx hper rfl rfl hdue)
    · intro t ht u
      refine ⟨fun d q hqueue hnext => ?_, fun hwait hnext => ?_⟩
      · rw [exec_gwGapEnd]
        exact ends_of_eq (State.gapEnd_queued hup hr htx ht hqueue hnext)
      · rw [exec_gwGapEnd]
        exact ends_of_eq (State.gapEnd_waiting hup hr htx ht hwait hnext)
  case timeout =>
    intro p r hr hrx hms hnot u v
    rw [exec_gwRxTimeout]
    exact ends_of_eq (State.gwTimeout_due hup hr hrx hms hnot)
  case routeTimeout =>
    intro p k x a b ha hb
    have heq := State.routeTimeout_eq (p := p) (k := k) ha hb
    refine ⟨fun hp => heq.trans (if_pos hp), ?_⟩
    intro hp u
    rw [if_neg (not_not_intro hp)] at heq
    refine ⟨fun h => ?_, fun h => heq.trans (if_pos h), fun h hinv => ?_⟩
    · exact heq.trans ((if_neg (by omega)).trans (if_neg (by omega)))
    · exact heq.trans ((if_neg (by omega)).trans (if_pos ⟨h, hinv⟩))
  case hold =>
    intro k t ht
    rw [exec_containerHoldExpiry]
    refine ends_of_eq ?_
    unfold State.holdExpiry
    simp only [ht]
    exact if_neg (not_not_intro hup)
  case container =>
    intro f hf u
    rw [exec_containerRx]
    refine ends_of_eq ((State.containerRx_taken hup hf rfl).trans ?_)
    refine congrArg (u.each _) (funext fun v => funext fun e => ?_)
    unfold State.containerTake
    cases contEntries f (f.words + 1) 0 <;> rfl
  case change =>
    intro c hgrid hcmds hst hat hholds hlate
    refine ⟨fun hop hnone hdst => ?_, fun hop hroute => ⟨?_, ?_⟩⟩
    · have hopn : c.desc.opcode.toNat = 0x0502 := by rw [hop]; rfl
      rw [exec_routeChangeEffect, State.routesDue_one hgrid hcmds hst (Or.inl hopn) hat hholds hlate]
      refine ends_of_eq (congrArg s.after ?_)
      simp [State.routeEffect, State.routeRefused, hopn, hnone, hdst] <;> rfl
    · have hopn : c.desc.opcode.toNat = 0x0503 := by rw [hop]; rfl
      rw [exec_routeChangeEffect, State.routesDue_one hgrid hcmds hst (Or.inr hopn) hat hholds hlate]
      refine ends_of_eq (congrArg s.after ?_)
      simp [State.routeEffect, State.routeRefused, hopn, Option.isSome_iff_ne_none.mp hroute] <;> rfl
    · exact (nfind_nerase ..).trans (if_pos rfl)
  case reception =>
    intro s t p r d hlen u
    refine ⟨if_neg hlen.not_gt, fun i a ha => ?_, fun k x a ha => ?_⟩
    · rw [State.sig?] at ha ⊢
      simp only [u, State.pduSignals, nfind_nmap]
      exact congrArg (Option.map _) ha
    · unfold State.routeCarry
      simp only [ha]
  case update =>
    intro s k v x a b ha hb hmode hpdu hroute u
    obtain ⟨y, hy, hsince⟩ := hroute
    have hu : u = _ := State.routeUpdate_raw (v := v) ha hb hmode hpdu hy hsince
    have hsigs : u.sgw.sigs = nset s.sgw.sigs x.dst { b with val := v % 2 ^ sgLen b.raw } := by
      simp only [hu, State.setRoute, State.count_sgw]
    have hroutes : u.sgw.routes =
        nset s.sgw.routes k { x with seen := true, timedOut := false, fwd := (x.fwd + 1) % 4294967296 } := by
      simp only [hu, State.setRoute, State.count_sgw]
    have hsig : ∀ i, u.sig? i = if i = x.dst then some { b with val := v % 2 ^ sgLen b.raw } else s.sig? i := fun i => by
      rw [State.sig?, hsigs, nfind_nset, State.sig?]
    have hroute : ∀ j, u.route? j = if j = k then
        some { x with seen := true, timedOut := false, fwd := (x.fwd + 1) % 4294967296 } else s.route? j := fun j => by
      rw [State.route?, hroutes, nfind_nset, State.route?]
    exact ⟨(hsig _).trans (if_pos rfl), (hroute _).trans (if_pos rfl), fun i h => (hsig i).trans (if_neg h),
      fun j h => (hroute j).trans (if_neg h)⟩

end Sys2Proof.Machine
end

section
/-!
# Accesses through outbound windows and the end of reads (O49)
-/

namespace Sys2Proof.Machine

theorem exec_outboundWrite (a : Init) (addr : Nat) (d : List Byte) (s : State) :
    exec (.outboundWrite a addr d) s = s.ends (s.outboundWrite a addr d) := rfl
theorem exec_splitRead (a : Init) (addr n : Nat) (s : State) : exec (.splitRead a addr n) s = s.ends (s.splitRead a addr n) := rfl
theorem exec_heldRead (a : Init) (addr n : Nat) (s : State) : exec (.heldRead a addr n) s = s.ends (s.heldRead a addr n) := rfl
theorem exec_readCompletionRx (t : Nat) (d : Option (List Byte)) (s : State) :
    exec (.readCompletionRx t d) s = s.ends (s.readCompletion t d) := rfl
theorem exec_cplTo (t : Nat) (s : State) : exec (.cplTo t) s = s.ends (s.cplTimeout t) := rfl
theorem exec_heldReadTimeout (i : Nat) (s : State) : exec (.heldReadTimeout i) s = s.ends (s.heldTimeout i) := rfl
theorem exec_prefetchAgeExpiry (k : Nat) (s : State) : exec (.prefetchAgeExpiry k) s = s.ends (s.pfExpiry k) := rfl
theorem exec_discInfoRead (a : Init) (s : State) : exec (.discInfoRead a) s = s.ends (s.rowRead a PLB_DISC_INFO) := rfl

/-! ### Accesses (R391–R393) -/

section Access

variable {s : State} {a : Init} {addr w : Nat} {r : List Byte} (hrun : s.coreRuns = true) (hpow : s.powered 40 = true)
  (hpen : s.penRuns 31 = true) (hlink : s.plbLink = true) (hfree : s.stalled a = false)

include hrun hpow hpen hlink hfree

omit hlink in
/-- A write through a control window leaves as one request to the partner. -/
theorem State.outboundWrite_posts {d : List Byte} (hadm : s.outAdmit a addr d.length true = (true, s))
    (hwin : s.outWin addr d.length = some (w, r)) (hlane : laneOk (owFlag r 4) (owElem r) (addr - owBase r) d.length = true)
    (hlines : s.plb.lines = []) (hcfg : owFlag r 3 = false) (hctl : owControl r = true) :
    s.outboundWrite a addr d =
      (s.toPartner { kind := 0, addr := owTo r + (laneMap (owFlag r 4) (owElem r) (addr - owBase r) d).1,
                     data := (laneMap (owFlag r 4) (owElem r) (addr - owBase r) d).2 }).answer (some []) := by
  have hout : s.outWrite addr d = (true, s.toPartner
      { kind := 0, addr := owTo r + (laneMap (owFlag r 4) (owElem r) (addr - owBase r) d).1,
        data := (laneMap (owFlag r 4) (owElem r) (addr - owBase r) d).2 }) := by
    unfold State.outWrite
    simp [hpow, hpen, hwin, hlane, hlines, hcfg, hctl]
  unfold State.outboundWrite
  simp only [hrun, hfree, not_true_eq_false, Bool.false_eq_true, or_self, if_false, hadm, hout]

omit hrun hfree in
/-- A read that its window admits. -/
theorem State.readWin_admits {n : Nat} (hadm : s.outAdmit a addr n false = (true, s)) (hwin : s.outWin addr n = some (w, r))
    (hlane : laneOk (owFlag r 4) (owElem r) (addr - owBase r) n = true) {control : Bool} (hctl : owControl r = control) :
    s.readWin a addr n control = (some (w, r), s) := by
  unfold State.readWin
  simp [hadm, hpow, hpen, hwin, hlane, hctl, hlink]

variable {n : Nat} (hadm : s.outAdmit a addr n false = (true, s)) (hwin : s.outWin addr n = some (w, r))
  (hlane : laneOk (owFlag r 4) (owElem r) (addr - owBase r) n = true)

include hadm hwin hlane

theorem State.splitRead_line {l : PfLine} (hctl : owControl r = false) (hl : s.lineOf w addr n = some l) :
    s.splitRead a addr n = (s.lineUsed l addr n).answer (some ((l.data.drop (addr - l.addr)).take n)) := by
  unfold State.splitRead
  simp only [hrun, hfree, not_true_eq_false, Bool.false_eq_true, or_self, if_false,
    State.readWin_admits hpow hpen hlink hadm hwin hlane hctl, hl]

theorem State.splitRead_waits {u : State} (hctl : owControl r = false) (hpre : owFlag r 2 = false)
    (hl : s.lineOf w addr n = none) (hu : u = s.freeNat.2) :
    s.splitRead a addr n =
      ({ u with plb := { u.plb with queue := u.plb.queue ++
        [{ tag := 0, init := a.id.toNat, win := w, addr := addr, len := n, at_ := u.now, fetch := n }] } } : State).issueReads := by
  have hfetch : s.fetchLen r addr n = (n, u) := by
    rw [hu]
    unfold State.fetchLen
    simp [hpre]
  unfold State.splitRead
  simp only [hrun, hfree, not_true_eq_false, Bool.false_eq_true, or_self, if_false,
    State.readWin_admits hpow hpen hlink hadm hwin hlane hctl, hl, hfetch]

theorem State.heldRead_sends (hctl : owControl r = true) :
    s.heldRead a addr n =
      s.sendRead { tag := 64, init := a.id.toNat, win := w, addr := addr, len := n, at_ := s.now, fetch := n } := by
  unfold State.heldRead
  simp only [hrun, hfree, not_true_eq_false, Bool.false_eq_true, or_self, if_false,
    State.readWin_admits hpow hpen hlink hadm hwin hlane hctl]

end Access

/-! ### The end of a read (R392, R393, R396, R414) -/

theorem length_swapElems (e k : Nat) (l : List Byte) : (swapElems e k l).length = l.length := by
  induction k generalizing l with
  | zero => rfl
  | succ k ih =>
    simp only [swapElems, List.length_append, List.length_reverse, List.length_take, ih, List.length_drop]
    omega

/-- The lanes of a window reorder the bytes. -/
theorem length_laneMap (lane : Bool) (e o : Nat) (d : List Byte) : (laneMap lane e o d).2.length = d.length := by
  unfold laneMap
  split
  · rfl
  · split
    · exact List.length_reverse
    · exact length_swapElems ..

theorem length_padTo (n : Nat) (d : List Byte) : (padTo n d).length = n := by
  simp only [padTo, List.length_append, List.length_take, List.length_replicate]
  omega

/-- A read that asked for no more than it answers leaves no line. -/
theorem State.keepLine_whole (s : State) (w a : Nat) {n : Nat} {d : List Byte} (h : d.length = n) : s.keepLine w a n d = s :=
  if_neg (by omega)

section End

variable {s : State} {t : Nat} {x : PlbRead} (hup : s.plbUp = true)

include hup

theorem State.readCompletion_data {w d : List Byte} (hx : s.readOf t = some x) (hw : s.cfgData 0x0105 2 x.win = some w)
    (hlen : x.fetch = x.len) :
    s.readCompletion t (some d) = ((s.dropRead x).readAnswer x
      (some ((laneMap (owFlag w 4) (owElem w) (x.addr - owBase w) (padTo x.fetch d)).2.take x.len))).issueReads := by
  have hw' : (s.dropRead x).cfgData 0x0105 2 x.win = some w := hw
  have hwhole : (laneMap (owFlag w 4) (owElem w) (x.addr - owBase w) (padTo x.fetch d)).2.length = x.len := by
    rw [length_laneMap, length_padTo, hlen]
  unfold State.readCompletion
  simp only [hup, not_true_eq_false, if_false, hx, hw', State.keepLine_whole _ _ _ hwhole]

theorem State.readCompletion_error (hx : s.readOf t = some x) :
    s.readCompletion t none = ((s.dropRead x).readAnswer x none).issueReads := by
  unfold State.readCompletion
  simp only [hup, not_true_eq_false, if_false, hx]
  cases (s.dropRead x).cfgData 0x0105 2 x.win <;> rfl

theorem State.cplTimeout_ends (ht : t < 64) (hx : s.readOf t = some x) :
    s.cplTimeout t = (((((s.until (x.at_ + s.cplTo)).dropRead x).setFlag PLB_EVT_CPL_TO true).plbReport 1).readAnswer x
      none).issueReads := by
  unfold State.cplTimeout
  simp only [hx]
  exact if_neg (by simp [hup, ht])

theorem State.heldTimeout_ends (hx : s.readOf (64 + t) = some x) :
    s.heldTimeout t = ((((s.until (x.at_ + 64000)).dropRead x).setFlag PLB_EVT_HELD_TO true).plbReport 0).readAnswer x none := by
  unfold State.heldTimeout
  simp only [hx]
  exact if_neg (not_not_intro hup)

theorem State.pfExpiry_discards {k : Nat} {l : PfLine} (hl : s.plb.lines[k]? = some l) :
    s.pfExpiry k = (s.until (l.used + s.pfAge)).discard l := by
  unfold State.pfExpiry
  simp only [hl]
  exact if_neg (not_not_intro hup)

end End

/-! ### The log of discarded lines -/

theorem leBytes_four_w32 (v : Nat) : leBytes 4 (w32 v).toNat = leBytes 4 v := by
  have hbyte : ∀ k : Nat, k ≤ 16777216 → 256 * k ∣ 4294967296 → BitVec.ofNat 8 (v % 4294967296 / k) = BitVec.ofNat 8 (v / k) := by
    intro k _ hk
    refine BitVec.eq_of_toNat_eq ?_
    obtain ⟨m, hm⟩ := hk
    rw [BitVec.toNat_ofNat, BitVec.toNat_ofNat, hm, Nat.mul_comm 256 k, Nat.mul_assoc, Nat.mod_mul_right_div_self,
      Nat.mod_mul_right_mod]
  have h1 := hbyte 1 (by decide) (by decide)
  have h2 := hbyte 256 (by decide) (by decide)
  have h3 := hbyte 65536 (by decide) (by decide)
  have h4 := hbyte 16777216 (by decide) (by decide)
  simp only [w32, BitVec.toNat_ofNat, leBytes, Nat.div_div_eq_div_mul, Nat.div_one] at *
  simp only [h1, h2, h3, h4]

/-- The oldest entry of the log of discarded lines is answered by its first word, and leaves the log. -/
theorem rowRead_discInfo {s : State} {a : Init} (hreach : s.reaches a PLB_DISC_INFO 0 0 false = true) {y : PlbDisc}
    {l : List PlbDisc} (hy : s.plb.disc = y :: l) :
    s.rowRead a PLB_DISC_INFO =
      (({ s with plb := { s.plb with disc := l } } : State).latchFor a (PLB_DISC_INFO.addr 0 0) (s.discWords.map w32)).answer
        (some (leBytes 4 (y.len % 1024 + y.win * 65536 + 2147483648))) := by
  have hhead : s.logHead (PLB_DISC_INFO.addr 0 0) =
      some (s.discWords.map w32, { s with plb := { s.plb with disc := s.plb.disc.drop 1 } }) := rfl
  have hblind : s.blind a PLB_DISC_INFO 0 = false := by
    rw [State.blind]
    cases s.dbg.samples <;> simp [show ¬ (PLB_DISC_INFO.base = DBG_CNTe_LO.base ∨ PLB_DISC_INFO.base = DBG_CNTe_HI.base) by decide,
      show ¬ (DBG_SMP_INFO.base ≤ PLB_DISC_INFO.base ∧ PLB_DISC_INFO.base < DBG_SMP_INFO.base + 20) by decide]
  rw [rowRead_log (k := 9) (len := 3) (by decide) (by decide) (by decide) rfl (by decide) hhead rfl hblind (by rfl)
    (isBuffer_of_outside (by decide)) (by decide) (by decide) hreach, hy]
  have hfirst : (s.discWords.map w32).headD 0 = w32 (y.len % 1024 + y.win * 65536 + 2147483648) := by
    rw [State.discWords, hy]
    rfl
  rw [hfirst, leBytes_four_w32]
  rfl

/-! ### The statement -/

/-- Settles O49: each access by its window, each end of a read by what answers it. -/
theorem partnerReads : Obligations.PartnerReads := by
  refine ⟨fun s a addr w r hrun hpow hpen hlink hfree => ⟨?write, fun n hadm hwin hlane => ⟨?line, ?waits, ?held⟩⟩, ?stalled, ?ends⟩
  case write =>
    intro d hadm hwin hlane hlines hcfg hctl m
    rw [exec_outboundWrite]
    refine ends_of_eq ((State.outboundWrite_posts hrun hpow hpen hfree hadm hwin hlane hlines hcfg hctl).trans ?_)
    exact congrArg (State.answer · _) (if_pos hlink)
  case line =>
    intro l hctl hl
    rw [exec_splitRead]
    exact ends_of_eq (State.splitRead_line hrun hpow hpen hlink hfree hadm hwin hlane hctl hl)
  case waits =>
    intro hctl hpre hl u
    rw [exec_splitRead]
    exact ends_of_eq (State.splitRead_waits hrun hpow hpen hlink hfree hadm hwin hlane hctl hpre hl rfl)
  case held =>
    intro hctl
    rw [exec_heldRead]
    exact ends_of_eq (State.heldRead_sends hrun hpow hpen hlink hfree hadm hwin hlane hctl)
  case stalled =>
    intro s a addr n d hstall
    rw [exec_outboundWrite, exec_splitRead, exec_heldRead]
    exact ⟨ends_of_eq (if_pos (Or.inr hstall)), ends_of_eq (if_pos (Or.inr hstall)), ends_of_eq (if_pos (Or.inr hstall))⟩
  case ends =>
    intro s t x hup ans
    refine ⟨fun hx => ⟨fun w d hw hlen => ?_, ?_, fun ht => ?_⟩, fun hx => ?_, fun l hl => ?_, fun a hreach y l hy => ?_⟩
    · rw [exec_readCompletionRx]
      exact ends_of_eq (State.readCompletion_data hup hx hw hlen)
    · rw [exec_readCompletionRx]
      exact ends_of_eq (State.readCompletion_error hup hx)
    · rw [exec_cplTo]
      exact ends_of_eq (State.cplTimeout_ends hup ht hx)
    · rw [exec_heldReadTimeout]
      exact ends_of_eq (State.heldTimeout_ends hup hx)
    · rw [exec_prefetchAgeExpiry]
      exact ends_of_eq (State.pfExpiry_discards hup hl)
    · rw [exec_discInfoRead, rowRead_discInfo hreach hy]
      exact ⟨_, rfl, rfl, rfl, rfl⟩

end Sys2Proof.Machine
end

section
/-!
# The partner link (O50)
-/

namespace Sys2Proof.Machine

theorem exec_inboundRequest (bar : Nat) (w : Bool) (addr n : Nat) (d : List Byte) (s : State) :
    exec (.inboundRequest bar w addr n d) s = s.ends (s.inboundRequest bar w addr n d) := rfl
theorem exec_perstNLinkReset (s : State) : exec .perstNLinkReset s = s.ends s.perstReset := rfl
theorem exec_plbLinkChange (up : Bool) (speed width : Nat) (s : State) :
    exec (.plbLinkChange up speed width) s = s.ends (s.plbLinkChange up speed width) := rfl
theorem exec_heartbeatSend (s : State) : exec .heartbeatSend s = s.ends s.hbSend := rfl
theorem exec_heartbeatRx (d : List Byte) (s : State) : exec (.heartbeatRx d) s = s.ends (s.hbRx d) := rfl
theorem exec_peerLost (s : State) : exec .peerLost s = s.ends s.peerLost := rfl
theorem exec_msixSend (a : Init) (v : Word) (s : State) : exec (.msixSend a v) s = s.ends (s.rowWrite a PLB_MSIX_SEND v) := rfl

/-! ### Inbound requests (R394) -/

theorem State.inbound_miss {s : State} {w : Bool} {addr n : Nat} {d : List Byte}
    (hmiss : ((s.cfgAll 0x0105 3).find? fun e => owFlag e.2 0 && decide (owBase e.2 ≤ addr ∧
      addr + (if w then d.length else n) ≤ owBase e.2 + owSize e.2)) = none) : s.inbound w addr n d = s.inbMiss := by
  unfold State.inbound
  simp only [hmiss]

theorem State.inboundRequest_miss {s : State} {bar addr n : Nat} {w : Bool} {d : List Byte} (hup : s.plbUp = true)
    (hlink : s.plbLink = true)
    (hrole : (s.plbRoot = true ∧ (w = true → s.cfgData 0x0105 4 0 = none)) ∨ (s.plbRoot = false ∧ bar ≠ 0 ∧ bar ≠ 6))
    (hmiss : ((s.cfgAll 0x0105 3).find? fun e => owFlag e.2 0 && decide (owBase e.2 ≤ addr ∧
        addr + (if w then d.length else n) ≤ owBase e.2 + owSize e.2)) = none ∨
      (s.plbRoot = false ∧ s.bar2Size < addr + (if w then d.length else n))) :
    s.inboundRequest bar w addr n d = s.inbMiss := by
  unfold State.inboundRequest
  rw [if_neg (not_not_intro ⟨hup, hlink⟩)]
  obtain ⟨hroot, hcfg⟩ | ⟨hroot, hbar0, hbar6⟩ := hrole
  · rw [if_pos hroot]
    have hfind := hmiss.resolve_right fun h => by simp [hroot] at h
    cases w with
    | false => exact State.inbound_miss hfind
    | true =>
      refine (if_pos rfl).trans ?_
      unfold State.rootWrite
      exact (if_neg (by simp [hcfg rfl])).trans (State.inbound_miss hfind)
  · rw [if_neg (by simp [hroot]), if_neg hbar0, if_neg hbar6]
    by_cases hsize : s.bar2Size < addr + (if w then d.length else n)
    · exact if_pos hsize
    · rw [if_neg hsize]
      exact State.inbound_miss (hmiss.resolve_right fun h => hsize h.2)

theorem State.bar0_msixRead {s : State} {addr n : Nat} (hlo : 0x2000 ≤ addr) (hhi : addr + n ≤ 0x2400) (d : List Byte) :
    s.bar0 false addr n d = s.inAnswers (some ((List.range n).map fun k => s.msixByte (addr - 0x2000 + k))) := by
  unfold State.bar0
  refine (if_neg ?_).trans ((if_neg (by decide)).trans (if_pos ⟨hlo, hhi⟩))
  simp only [Bool.false_eq_true, if_false]
  omega

/-! ### Heartbeats (R398) -/

/-- A whole heartbeat gives its node and its activity to the capture register. -/
theorem State.hbTake_whole {s u : State} {d : List Byte} (hd : d.length = 16)
    (hu : u = s.wr PLB_HB_RX (w32 (leAt d 8 2 + (byteAt d 14 % 2) * 65536))) :
    s.hbTake 0 d = { u with plb := { u.plb with hbSeen := s.now, hbLost := false } } := by
  have hget : ∀ k < 16, 0 ≤ k ∧ k < 0 + d.length := fun k hk => by omega
  have h8 : 8 < d.length := by omega
  have h9 : 9 < d.length := by omega
  have hle : leAt d 8 2 = byteAt d 8 + byteAt d 9 * 256 := by
    simp only [leAt, byteAt, List.drop_eq_getElem_cons h8, List.drop_eq_getElem_cons h9, List.take_succ_cons, List.take_zero, leNat,
      List.getD_eq_getElem _ _ h8, List.getD_eq_getElem _ _ h9]
    omega
  unfold State.hbTake
  simp only [if_pos (hget 8 (by decide)), if_pos (hget 9 (by decide)), if_pos (hget 14 (by decide)), Nat.sub_zero, ← hle, ← hu]
  rw [hu]
  rfl

theorem State.rootWrite_heartbeat {s : State} {d : List Byte} (hd : d.length = 16) (hcfg : (s.cfgData 0x0105 4 0).isSome = true) :
    s.rootWrite (leAt s.hbRec 8 8) d = s.hbTake 0 d := by
  have hne : d ≠ [] := List.ne_nil_of_length_pos (by omega)
  have hall : d.take 16 = d := List.take_of_length_le (by omega)
  have hrest : d.drop 16 = [] := List.drop_eq_nil_of_le (by omega)
  unfold State.rootWrite
  rw [if_pos ⟨hcfg, hne, by omega, by omega⟩]
  simp [hall, hrest, hd]

theorem State.bar0_heartbeat {s : State} {d : List Byte} (hd : d.length = 16) (n : Nat) : s.bar0 true 0 n d = s.hbTake 0 d := by
  have hne : d ≠ [] := List.ne_nil_of_length_pos (by omega)
  have hall : d.take 16 = d := List.take_of_length_le (by omega)
  unfold State.bar0
  simp [hd, hne, hall]

theorem State.hbSend_due {s u : State} {t : Nat} (hup : s.plbUp = true) (ht : s.plb.hbDue = some t)
    (hms : leAt s.hbRec 16 2 ≠ 0) (hu : u = s.until t) :
    s.hbSend =
      ({ u with plb := { u.plb with hbCount := (u.plb.hbCount + 1) % 4294967296,
                                    hbDue := some (t + leAt s.hbRec 16 2 * 1000000) } } : State).toPartner
        { kind := 0, addr := leAt s.hbRec 0 8,
          data := leBytes 8 u.td0 ++ leBytes 4 u.plb.hbCount ++ leBytes 2 (u.get ESW_NODE_ID_NODE) ++
            leBytes 2 (u.get PLB_HB_CTRL_ACTIVE) } := by
  unfold State.hbSend
  simp only [ht, ← hu]
  exact if_neg (by simp [hup, hms])

theorem State.peerLost_due {s u : State} (hup : s.plbUp = true) (hms : leAt s.hbRec 18 2 ≠ 0) (hlost : s.plb.hbLost = false)
    (hu : u = s.until (s.plb.hbSeen + leAt s.hbRec 18 2 * 1000000)) : s.peerLost = u.peerGone := by
  unfold State.peerLost
  rw [hu]
  exact if_neg (by simp [hup, hms, hlost])

/-! ### The link (R387, R388) -/

/-- The reads of the partner link that wait for an answer, and those that wait for a tag. -/
def State.plbWaiting (s : State) : List PlbRead × List PlbRead := (s.plb.reads, s.plb.queue)

theorem State.discard_plbWaiting (s : State) (l : PfLine) : (s.discard l).plbWaiting = s.plbWaiting := by
  unfold State.discard
  extract_lets left t
  cases l.got.findIdx? (!·) with
  | none => rfl
  | some i =>
    dsimp only
    split <;> rfl

theorem State.readAnswer_plbWaiting (s : State) (x : PlbRead) (d : Option (List Byte)) :
    (s.readAnswer x d).plbWaiting = s.plbWaiting := by
  unfold State.readAnswer
  split <;> rfl

theorem State.failReads_plbWaiting (s : State) : s.failReads.plbWaiting = ([], []) := by
  unfold State.failReads
  extract_lets l p t
  exact State.each_keeps (p := State.plbWaiting) (f := fun s r => (s.plbReport 3).readAnswer r none)
    (fun u x => State.readAnswer_plbWaiting (u.plbReport 3) x none) t l

theorem State.linkDown_plbWaiting (s : State) : s.linkDown.plbWaiting = ([], []) := by
  unfold State.linkDown
  extract_lets t u v w
  have hw : w.plbWaiting = v.plbWaiting := State.each_keeps (p := State.plbWaiting) State.discard_plbWaiting ..
  exact (rfl : w.peerGone.plbWaiting = w.plbWaiting).trans (hw.trans (State.failReads_plbWaiting _))

/-! ### Message-signalled interrupts (R399) -/

theorem State.msixMessage_pcs (s : State) (v : Nat) : (s.msixMessage v).pcs = s.pcs := by
  unfold State.msixMessage State.toPartner
  extract_lets at_
  split <;> rfl

theorem rowWrite_msixSend {s : State} {a : Init} {v : Word} (hreach : s.reaches a PLB_MSIX_SEND 0 0 true = true)
    (hroot : s.plbRoot = false) (hrole : s.plbRole = true) (hmask : s.msixMasked (v.toNat % 64) = false) :
    s.rowWrite a PLB_MSIX_SEND v = (s.msixMessage (v.toNat % 64)).answer (some []) := by
  have heff : s.writeReg a PLB_MSIX_SEND (PLB_MSIX_SEND.addr 0 0) 0 0 v = s.msixMessage (v.toNat % 64) := by
    unfold State.writeReg
    rw [Reg.slotOf_addr (k := 9) (by decide) (by decide) (by decide)]
    refine (if_pos rfl).trans ?_
    unfold State.msixSend
    simp [hroot, hrole, hmask]
  exact rowWrite_effect hreach heff ((coreRuns_congr (State.msixMessage_pcs ..)).trans (reaches_runs hreach)) (k := 9) (by decide)
    (by decide) (by decide) (by decide) (by decide) (isBuffer_of_outside (by decide)) (by decide) (by decide)

/-! ### The statement -/

/-- Settles O50: each event of the link by the branch that its hypotheses choose. -/
theorem partnerLink : Obligations.PartnerLink := by
  intro s hup
  have hrole : s.plbRole = true := by
    have h := hup
    simp only [State.plbUp, Bool.and_eq_true] at h
    exact h.2
  refine ⟨?miss, ?table, ?perst, ?linkUp, ?linkDown, ?send, ?capture, ?lost, ?msix⟩
  case miss =>
    intro bar w addr n d hlink hside hmiss
    rw [exec_inboundRequest]
    exact ends_of_eq (State.inboundRequest_miss hup hlink hside hmiss)
  case table =>
    intro addr n hlink hroot hlo hhi
    rw [exec_inboundRequest]
    refine ends_of_eq ?_
    unfold State.inboundRequest
    rw [if_neg (not_not_intro ⟨hup, hlink⟩), if_neg (by simp [hroot]), if_pos rfl]
    exact State.bar0_msixRead hlo hhi []
  case perst =>
    intro hroot hlink
    rw [exec_perstNLinkReset]
    exact ends_of_eq (if_neg (by simp [hup, hroot, hlink]))
  case linkUp =>
    intro speed width _ hlink
    rw [exec_plbLinkChange]
    refine ends_of_eq ?_
    unfold State.plbLinkChange
    rw [if_neg (by simp [hup, hlink])]
    rfl
  case linkDown =>
    intro speed width hlink
    have hgone := s.linkDown_plbWaiting
    rw [exec_plbLinkChange]
    refine ⟨ends_of_eq ?_, congrArg Prod.fst hgone, congrArg Prod.snd hgone⟩
    unfold State.plbLinkChange
    rw [if_neg (by simp [hup, hlink])]
    rfl
  case send =>
    intro t ht hms u d
    rw [exec_heartbeatSend]
    exact ends_of_eq (State.hbSend_due hup ht hms rfl)
  case capture =>
    intro d hlink hd u t
    have htake : s.hbTake 0 d = t := State.hbTake_whole hd rfl
    rw [exec_heartbeatRx]
    refine ⟨ends_of_eq ((if_neg (not_not_intro ⟨hup, hlink⟩)).trans htake), fun hroot hcfg bar n => ?_, fun hroot n => ?_⟩
    · rw [exec_inboundRequest]
      refine ends_of_eq (((if_neg (not_not_intro ⟨hup, hlink⟩)).trans ((if_pos hroot).trans (if_pos rfl))).trans ?_)
      exact (State.rootWrite_heartbeat hd hcfg).trans htake
    · rw [exec_inboundRequest]
      refine ends_of_eq (((if_neg (not_not_intro ⟨hup, hlink⟩)).trans ((if_neg (by simp [hroot])).trans (if_pos rfl))).trans ?_)
      exact (State.bar0_heartbeat hd n).trans htake
  case lost =>
    intro hms hlost u
    rw [exec_peerLost]
    exact ends_of_eq (State.peerLost_due hup hms hlost rfl)
  case msix =>
    intro a v hreach hroot hmask
    rw [exec_msixSend]
    exact ends_of_eq (rowWrite_msixSend hreach hroot hrole hmask)

end Sys2Proof.Machine
end

section
/-!
# Lockstep pairs, handover and machine timers (O51)
-/

namespace Sys2Proof.Machine

theorem exec_lockstepMismatch (u : Nat) (s : State) : exec (.lockstepMismatch u) s = s.ends (s.lockstepMismatch u) := rfl
theorem exec_registerFold (u : Nat) (main check : List Byte) (s : State) :
    exec (.registerFold u main check) s = s.ends (s.registerFold u main check) := rfl
theorem exec_handover (a : Init) (p : Nat) (v : Word) (s : State) :
    exec (.handover a p v) s = s.ends (s.rowWrite a CC_PAIRp_CTRL (putBits v 0 0 1) p) := rfl
theorem exec_pairRestart (a : Init) (p : Nat) (v : Word) (s : State) :
    exec (.pairRestart a p v) s = s.ends (s.rowWrite a CC_PAIRp_CTRL (putBits v 1 1 1) p) := rfl
theorem exec_handoverExecute (p : Nat) (s : State) :
    exec (.handoverExecute p) s = s.ends (if p < 7 then s.handoverExecute p else s) := rfl
theorem exec_machineTimerCompare (h : Nat) (s : State) : exec (.machineTimerCompare h) s = s.ends (s.timerCompare h) := rfl

/-! ### Mismatches (R405, R414) -/

/-- A mismatch of a unit that is no pair is reported under its source. -/
theorem State.mismatch_single (s : State) {u : Nat} (hu : 7 ≤ u) :
    s.mismatch u 1 = { s with fcu := { s.fcu with todo := s.fcu.todo ++ [{ src := unitSrc u, lock := false }] } } := by
  have hpair : ¬ u < 7 := by omega
  simp [State.mismatch, hpair]

/-- A mismatch of a pair that has not returned notes its cause, counts and is reported under the pair's source. -/
theorem State.mismatch_pair {s v : State} {u : Nat} (hu : u < 7) (hret : (s.pair u).returned = none)
    (hv : v = ((s.set CC_PAIRp_STATUS_CAUSE 1 u).inc CC_PAIRp_MISMATCH_COUNT 1 u).modPair u fun x => { x with mis := true }) :
    s.mismatch u 1 = { v with fcu := { v.fcu with todo := v.fcu.todo ++ [{ src := 8 * u, lock := false }] } } := by
  have hsrc : unitSrc u = 8 * u := if_pos (by omega)
  unfold State.mismatch
  simp only [if_pos hu, hret, hsrc, ← hv, Nat.sub_self, Nat.add_zero]

/-- Counting an event takes no time. -/
theorem State.countHart_now (s : State) (h k : Nat) : (s.countHart h k).now = s.now := by
  have hfree : s.freeNat.2.now = s.now := rfl
  unfold State.countHart
  dsimp only
  split
  · rfl
  · split
    · rfl
    · split
      · rfl
      · split
        · exact hfree
        · exact hfree

section Fold

variable {s v : State} {u : Nat} {main check : List Byte} (hrun : s.unitRuns u = true) (hu : u < 7)
  (hhalt : (s.hart (s.pairHart u)).halted = false)
  (hv : v = (s.wr CC_PAIRp_FOLD (w32 (crc32c main)) u).countHart (s.pairHart u) 24)

include hrun hu hhalt hv

theorem State.registerFold_equal (hcrc : crc32c main = crc32c check) : s.registerFold u main check = v := by
  unfold State.registerFold
  rw [if_neg (by simp [hrun, hhalt])]
  simp only [if_pos hu, if_pos hcrc, ← hv]

theorem State.registerFold_differs (hcrc : crc32c main ≠ crc32c check) :
    s.registerFold u main check = (v.modPair u fun x => { x with foldAt := some s.now }).mismatch u 2 := by
  have hnow : v.now = s.now := by
    rw [hv, State.countHart_now]
    rfl
  unfold State.registerFold
  rw [if_neg (by simp [hrun, hhalt])]
  simp only [if_pos hu, if_neg hcrc, ← hv, hnow]

end Fold

/-! ### The control register of a pair (R416, R419, R420) -/

theorem State.setPair_pcs (s : State) (p st hart : Nat) : (s.setPair p st hart).pcs = s.pcs :=
  (State.set_pcs ..).trans (State.set_pcs ..)

theorem State.hartStart_pcs (s : State) (h pc a0 : Nat) : (s.hartStart h pc a0).pcs = s.pcs := rfl

theorem State.modPair_pcs (s : State) (p : Nat) (f : Pair → Pair) : (s.modPair p f).pcs = s.pcs := rfl

theorem State.pairStart_pcs (s : State) (p h a0 : Nat) : (s.pairStart p h a0).pcs = s.pcs := by
  unfold State.pairStart
  extract_lets t back u
  have hu : u.pcs = s.pcs := (State.modPair_pcs ..).trans (State.setPair_pcs ..)
  split
  · exact (State.hartStart_pcs ..).trans hu
  · exact hu

theorem State.reReport_pcs (s : State) (p : Nat) : (s.reReport p).pcs = s.pcs := by
  unfold State.reReport
  extract_lets hit t
  have ht : t.pcs = s.pcs := State.each_keeps (p := State.pcs) (fun _ _ => State.report_pcs ..) ..
  refine (State.each_keeps (p := State.pcs) ?_ ..).trans ht
  exact fun _ _ => rfl

theorem State.handover_pcs (s : State) (h p : Nat) : (s.handover h p).pcs = s.pcs := by
  unfold State.handover
  split
  · rfl
  · exact State.setFlag_pcs ..

/-- The control register of a pair takes effect by its two commands. -/
theorem rowWrite_pairCtrl {s t : State} {a : Init} {p : Nat} {v : Word} (hp : p < 7)
    (hreach : s.reaches a CC_PAIRp_CTRL p 0 true = true)
    (heff : (let u := if bitOf v.toNat 0 then s.handover a.id.toNat p else s
      if bitOf v.toNat 1 then u.pairRestart p else u) = t) (hpcs : t.pcs = s.pcs) :
    s.rowWrite a CC_PAIRp_CTRL v p = t.answer (some []) := by
  have hwrite : s.writeReg a CC_PAIRp_CTRL (CC_PAIRp_CTRL.addr p 0) p 0 v = t := by
    rw [← heff]
    unfold State.writeReg
    rw [Reg.slotOf_addr (k := 0) (by decide) hp (by decide)]
    rfl
  exact rowWrite_effect hreach hwrite ((coreRuns_congr hpcs).trans (reaches_runs hreach)) (k := 0) (by decide) (by decide)
    (by decide) (by decide) (by decide) (isBuffer_of_lt (by simp only [Reg.addr, CC_PAIRp_CTRL]; omega)) hp (by decide)

theorem rowWrite_handover {s : State} {a : Init} {p : Nat} (hp : p < 7) (hreach : s.reaches a CC_PAIRp_CTRL p 0 true = true)
    {v : Word} (hbit : bitOf v.toNat 1 = false) :
    s.rowWrite a CC_PAIRp_CTRL (putBits v 0 0 1) p = (s.handover a.id.toNat p).answer (some []) := by
  refine rowWrite_pairCtrl hp hreach ?_ (State.handover_pcs ..)
  have hset : bitOf (putBits v 0 0 1).toNat 0 = true := (bitOf_putBits_one v (by decide)).trans (if_pos rfl)
  have hkeep : bitOf (putBits v 0 0 1).toNat 1 = false := (bitOf_putBits_one v (by decide)).trans ((if_neg (by decide)).trans hbit)
  simp only [hset, hkeep, if_true, Bool.false_eq_true, if_false]

theorem rowWrite_pairRestart {s : State} {a : Init} {p : Nat} (hp : p < 6) (hreach : s.reaches a CC_PAIRp_CTRL p 0 true = true)
    {v : Word} (hbit : bitOf v.toNat 0 = false) (hst : s.pairState p = prFenced)
    (hcar : (s.setPen (1 + p) 0).carrier p = none) :
    s.rowWrite a CC_PAIRp_CTRL (putBits v 1 1 1) p =
      (((s.setPen (1 + p) 0).pairStart p p 3).reReport (1 + p)).answer (some []) := by
  refine rowWrite_pairCtrl (by omega) hreach ?_
    ((State.reReport_pcs ..).trans ((State.pairStart_pcs ..).trans (State.set_pcs ..)))
  have hset : bitOf (putBits v 1 1 1).toNat 1 = true := (bitOf_putBits_one v (by decide)).trans (if_pos rfl)
  have hkeep : bitOf (putBits v 1 1 1).toNat 0 = false := (bitOf_putBits_one v (by decide)).trans ((if_neg (by decide)).trans hbit)
  simp only [hset, hkeep, if_true, Bool.false_eq_true, if_false]
  unfold State.pairRestart
  simp [hst, hcar, show ¬ 6 < p by omega]

/-- A handover that is allowed moves the hart to the spare pair. -/
theorem State.handoverExecute_moves {s : State} {p : Nat} (hp : p < 6) (hreq : (s.pair p).handover = true)
    (hok : s.handoverOk p = true) (hreads : s.readsOut (s.pairHart p) = false) :
    s.handoverExecute p =
      ((((s.modPair p fun x => { x with handover := false }).setPair p prStandby noHart).modHart p Hart.stop).takeover p 2) := by
  have hok' : (s.modPair p fun x => { x with handover := false }).handoverOk p = true := hok
  unfold State.handoverExecute
  rw [if_neg (by simp [hreq, hreads])]
  exact (if_neg (by simp [hok'])).trans (if_neg (by omega))

/-! ### The statement -/

/-- Settles O51: a mismatch by its unit, the control register by its commands, the handover and the timer by their guards. -/
theorem lockstepPairs : Obligations.LockstepPairs := by
  refine fun s => ⟨fun u hrun => ⟨?single, ?pair, ?fold⟩, fun a p v hp hreach => ⟨?allowed, ?refused, ?restart⟩, ?execute, ?timer⟩
  case single =>
    intro hu
    rw [exec_lockstepMismatch]
    exact ends_of_eq ((if_pos hrun).trans (s.mismatch_single hu))
  case pair =>
    intro hu hret v
    rw [exec_lockstepMismatch]
    exact ends_of_eq ((if_pos hrun).trans (State.mismatch_pair hu hret rfl))
  case fold =>
    intro hu hhalt main check v
    refine ⟨fun hcrc => ?_, fun hcrc => ?_⟩
    · rw [exec_registerFold]
      exact ends_of_eq (State.registerFold_equal hrun hu hhalt rfl hcrc)
    · rw [exec_registerFold]
      exact ends_of_eq (State.registerFold_differs hrun hu hhalt rfl hcrc)
  case allowed =>
    intro hcar hok hhalt hbit
    rw [exec_handover, rowWrite_handover hp hreach hbit]
    exact ends_of_eq (congrArg (State.answer · _) (if_pos ⟨hcar, hok, hhalt⟩))
  case refused =>
    intro hcar hbit
    rw [exec_handover, rowWrite_handover hp hreach hbit]
    exact ends_of_eq (congrArg (State.answer · _) (if_neg fun h => hcar h.1))
  case restart =>
    intro hbit hst hp6 hcar
    rw [exec_pairRestart, rowWrite_pairRestart hp6 hreach hbit hst hcar]
    rfl
  case execute =>
    intro p hp hreq hok hreads u
    rw [exec_handoverExecute, if_pos (by omega)]
    exact ends_of_eq (State.handoverExecute_moves hp hreq hok hreads)
  case timer =>
    intro h hh h7 hrun u
    rw [exec_machineTimerCompare]
    refine ends_of_eq ?_
    unfold State.timerCompare
    exact if_neg (by simp [hrun, hh, h7])

end Sys2Proof.Machine
end

section
/-!
# The registers of the secure world (O53)

A read of the generator's word clears it, as the register's line says, while the statement leaves every register as it was: the
two differ in a state in which the word's register is not zero already.
-/

namespace Sys2Proof.Machine

/-- A running device whose generator has stopped without words left, with a register SEC_RNG_DATA that is not zero. -/
def rngShown : State := { Tests.wR.wr SEC_RNG_DATA 5 with sec.rngFail := true }

/-- The word that the register SEC_RNG_DATA holds after a command. -/
def Out.rngWord : Out → Option Word
  | .next s => some (s.rd SEC_RNG_DATA)
  | _ => none

theorem rngDataRead_clears : Out.rngWord (exec (.rngDataRead Tests.svp) rngShown) = some 0 := by decide +kernel

/-- Refutes O53: the read of the generator's word clears its register, which the statement keeps at 5. -/
theorem not_secureRegisters : ¬ Obligations.SecureRegisters := by
  intro h
  obtain ⟨-, -, -, -, -, -, -, hread, -⟩ := h rngShown Tests.svp 0
  have hcleared := rngDataRead_clears
  rw [hread (by decide +kernel)] at hcleared
  revert hcleared
  decide +kernel

end Sys2Proof.Machine
end

section
/-!
# ERR_N, reboot after a fatal event, return of the service pair (O56)
-/

namespace Sys2Proof.Machine

theorem exec_errnPulseEnd (s : State) : exec .errnPulseEnd s = s.ends s.errnPulseEnd := rfl
theorem exec_fatalReboot (pins : Nat) (testen : Bool) (rails : Nat) (s : State) :
    exec (.fatalReboot pins testen rails) s = s.ends (s.fatalReboot pins testen rails) := rfl
theorem exec_svpResume (s : State) : exec .svpResume s = s.ends s.svpResume := rfl

/-- A free value of a range lies in it. -/
theorem State.freeIn_mem (s : State) {lo hi : Int} (h : lo ≤ hi) : lo ≤ (s.freeIn lo hi).1 ∧ (s.freeIn lo hi).1 ≤ hi := by
  simp only [State.freeIn, clampI]
  split_ifs <;> omega

/-- The pulse of ERR_N ends after its length, within the tolerance that a free value gives. -/
theorem State.errnPulseEnd_eq {s u : State} {d : Nat} {x : Int × State} (herrn : s.fcu.errn = true)
    (hd : d = clampN 1 10000 (s.get FCU_ERRN_CFG_MIN_PULSE) * 1000) (hx : x = s.freeIn (-(d / 20 : Nat)) (d / 20 : Nat))
    (hu : u = x.2.until ((s.fcu.errnAt : Int) + d + x.1).toNat) :
    s.errnPulseEnd = if u.errnWanted then u else { u with fcu := { u.fcu with errn := false } } := by
  have hat : x.2.fcu.errnAt = s.fcu.errnAt := by rw [hx]; rfl
  unfold State.errnPulseEnd
  simp only [herrn, Bool.not_true, Bool.false_eq_true, if_false, ← hd, ← hx, hat, ← hu]

/-- The reboot that is due starts the core die. -/
theorem State.fatalReboot_due {s u : State} {pins rails t : Nat} {testen : Bool} (ht : s.fcu.fatalDue = some t)
    (hwaits : s.releaseWaits = true) (hgood : suppliesGood pins rails = true) (hu : u = s.until t) :
    s.fatalReboot pins testen rails =
      ({ u with fcu := { u.fcu with fatalDue := none, fatalReleased := some u.now } } : State).coreBoot pins testen rails := by
  unfold State.fatalReboot
  simp only [ht, ← hu]
  exact if_neg (by simp [hwaits, hgood])

theorem State.svpResume_now {s u v : State} {t : Nat} (ht : s.fcu.svpFence = some t) (hpast : t < s.now) (hu : u = s.setPen 8 0)
    (hv : v = { u with fcu := { u.fcu with svpFence := none, svpResumed := some u.now }
                       sf := { u.sf with running := true, groups := [], ownPend := [] }
                       cfg := { u.cfg with jobs := [] }
                       sec := { u.sec with calls := [] } }) :
    s.svpResume = ((v.prepareOver.each v.prepareOver.sf.cmds State.fencedEnd).each (List.range 64) State.fnUnfenced).reReport 8 := by
  unfold State.svpResume
  simp only [ht, if_pos hpast, ← hu, ← hv]

section Fenced

variable (s : State) {c : Cmd} (hmute : c.mute = false)

include hmute

/-- A dirty disable that has begun goes on. -/
theorem State.fencedEnd_dirty (hop : c.op = 0x0F05) (hst : c.stage = .started) : s.fencedEnd c = s := by
  unfold State.fencedEnd
  rw [if_neg (by simp [hmute]), if_pos ⟨hop, hst⟩]

variable (hnot : ¬ (c.op = 0x0F05 ∧ c.stage = .started))

include hnot

theorem State.fencedEnd_fixed {st r : Nat} (hfin : c.fin = some (st, r)) : s.fencedEnd c = s.complete c.seq st r := by
  unfold State.fencedEnd
  rw [if_neg (by simp [hmute]), if_neg hnot]
  simp only [hfin]

theorem State.fencedEnd_effected (hfin : c.fin = none) (hst : c.stage = .effected) : s.fencedEnd c = s := by
  unfold State.fencedEnd
  rw [if_neg (by simp [hmute]), if_neg hnot]
  simp only [hfin, hst, if_true]

theorem State.fencedEnd_fenced (hfin : c.fin = none) (hst : c.stage ≠ .effected)
    (hroom : c.stage = .waiting → c.src = 8 ∨ s.cqRoom c.fn c.src 1 = true) : s.fencedEnd c = s.finish c.seq (bad stFenced) := by
  have hends : ¬ (c.stage = .waiting ∧ c.src ≠ 8 ∧ (!(s.cqRoom c.fn c.src 1)) = true) := by
    rintro ⟨hwait, hsrc, hfull⟩
    have hfree := (hroom hwait).resolve_left hsrc
    simp [hfree] at hfull
  unfold State.fencedEnd
  rw [if_neg (by simp [hmute]), if_neg hnot]
  simp only [hfin, if_neg hst, if_neg hends]

end Fenced

/-- Settles O56: the pulse by what still calls for ERR_N, the reboot and the resumption by their guards, each command in
flight by how far it had come. -/
theorem recoveryEvents : Obligations.RecoveryEvents := by
  refine fun s => ⟨?pulse, ?reboot, ?resume, fun c hmute hnot => ⟨?fenced, ?fixed, ?effected⟩, ?dirty, ?unfenced⟩
  case pulse =>
    intro herrn d x u
    have heq : s.errnPulseEnd = _ := State.errnPulseEnd_eq (d := d) (x := x) (u := u) herrn rfl rfl rfl
    refine ⟨s.freeIn_mem (by omega), fun hnot => ?_, fun hwant => ?_⟩
    · rw [exec_errnPulseEnd]
      exact ends_of_eq (heq.trans (if_neg (by simp [hnot])))
    · rw [exec_errnPulseEnd]
      exact ends_of_eq (heq.trans (if_pos hwant))
  case reboot =>
    intro pins testen rails t ht hwaits hgood u
    rw [exec_fatalReboot]
    exact ends_of_eq (State.fatalReboot_due ht hwaits hgood rfl)
  case resume =>
    intro t ht hpast u v w
    rw [exec_svpResume]
    exact ends_of_eq (State.svpResume_now ht hpast rfl rfl)
  case fenced =>
    exact fun hfin hst hroom => s.fencedEnd_fenced hmute hnot hfin hst hroom
  case fixed =>
    exact fun st r hfin => s.fencedEnd_fixed hmute hnot hfin
  case effected =>
    exact fun hfin hst => s.fencedEnd_effected hmute hnot hfin hst
  case dirty =>
    exact fun c hmute hop hst => s.fencedEnd_dirty hmute hop hst
  case unfenced =>
    refine fun n => ⟨fun hst => ?_, fun hst => ?_⟩
    · rw [State.fnUnfenced, if_pos hst]
    · rw [State.fnUnfenced, if_neg hst]

end Sys2Proof.Machine
end

section
/-!
# What commands, channels, pens and networks leave of the boot stage

How far boot has come, the power state, the mode that the Sheepdog sleeps in and the instant change by few commands only. The
lemmas say that completing a command, moving a channel, taking a pen or an island down or up, and starting the networks leave
all four.
-/

namespace Sys2Proof.Machine

/-- How far boot has come, the power state, the mode of the Sheepdog's rules, and the instant. -/
def State.phase (s : State) : Boot × Power × Nat × Nat := (s.pcs.boot, s.pcs.power, s.pcs.sdMode, s.now)

theorem State.coreRuns_of_phase {s t : State} (h : t.phase = s.phase) : t.coreRuns = s.coreRuns := by
  have hboot : t.pcs.boot = s.pcs.boot := congrArg Prod.fst h
  rw [State.coreRuns, State.coreRuns, hboot]

theorem State.phase_of_busView {s t : State} (h : t.busView = s.busView) : t.phase = s.phase := by
  have hpcs : t.pcs = s.pcs := congrArg (fun v => v.1.1) h
  have hnow : t.now = s.now := congrArg (fun v => v.2.1) h
  rw [State.phase, State.phase, hpcs, hnow]

@[simp] theorem State.each_phase {α : Type} (s : State) (l : List α) {f : State → α → State}
    (hf : ∀ t a, (f t a).phase = t.phase) : (s.each l f).phase = s.phase := State.each_keeps hf s l

@[simp] theorem State.foldl_phase {α : Type} (s : State) (l : List α) {f : State → α → State}
    (hf : ∀ t a, (f t a).phase = t.phase) : (l.foldl f s).phase = s.phase := State.foldl_keeps hf l s

/-! ### What one change leaves -/

@[simp] theorem State.wr_phase (s : State) (r : Reg) (v : Word) (i j : Nat) : (s.wr r v i j).phase = s.phase := rfl
@[simp] theorem State.set_phase (s : State) (f : Fld) (v i j : Nat) : (s.set f v i j).phase = s.phase := rfl
@[simp] theorem State.setFlag_phase (s : State) (f : Fld) (b : Bool) (i j : Nat) : (s.setFlag f b i j).phase = s.phase := rfl
@[simp] theorem State.setBitOf_phase (s : State) (f : Fld) (k i j : Nat) : (s.setBitOf f k i j).phase = s.phase := rfl
@[simp] theorem State.inc_phase (s : State) (f : Fld) (k i j : Nat) : (s.inc f k i j).phase = s.phase := rfl
@[simp] theorem State.report_phase (s : State) (k : Nat) : (s.report k).phase = s.phase := rfl
@[simp] theorem State.plbReport_phase (s : State) (k : Nat) : (s.plbReport k).phase = s.phase := rfl
@[simp] theorem State.modChan_phase (s : State) (n : Nat) (f : Ch → Ch) : (s.modChan n f).phase = s.phase := rfl
@[simp] theorem State.setPark_phase (s : State) (k : Nat) (x : Park) : (s.setPark k x).phase = s.phase := rfl
@[simp] theorem State.setInst_phase (s : State) (h : Nat) (x : Inst) : (s.setInst h x).phase = s.phase := rfl
@[simp] theorem State.setDraining_phase (s : State) (i : Nat) (on : Bool) : (s.setDraining i on).phase = s.phase := rfl
@[simp] theorem State.setGated_phase (s : State) (i : Nat) (on : Bool) : (s.setGated i on).phase = s.phase := rfl
@[simp] theorem State.setIsl_phase (s : State) (i : Nat) (on : Bool) : (s.setIsl i on).phase = s.phase := rfl
@[simp] theorem State.bankLost_phase (s : State) (b : Nat) : (s.bankLost b).phase = s.phase := rfl
@[simp] theorem State.modHart_phase (s : State) (h : Nat) (f : Hart → Hart) : (s.modHart h f).phase = s.phase := rfl
@[simp] theorem State.debugEnds_phase (s : State) : s.debugEnds.phase = s.phase := rfl
@[simp] theorem State.modCan_phase (s : State) (c : Nat) (f : Can → Can) : (s.modCan c f).phase = s.phase := rfl
@[simp] theorem State.modLin_phase (s : State) (l : Nat) (f : Lin → Lin) : (s.modLin l f).phase = s.phase := rfl
@[simp] theorem State.modNet_phase (s : State) (n : Nat) (f : Net → Net) : (s.modNet n f).phase = s.phase := rfl
@[simp] theorem State.modPort_phase (s : State) (p : Nat) (f : Port → Port) : (s.modPort p f).phase = s.phase := rfl
@[simp] theorem State.modEthq_phase (s : State) (q : Nat) (f : EthQ → EthQ) : (s.modEthq q f).phase = s.phase := rfl
@[simp] theorem State.modPair_phase (s : State) (p : Nat) (f : Pair → Pair) : (s.modPair p f).phase = s.phase := rfl
@[simp] theorem State.setPair_phase (s : State) (p st hart : Nat) : (s.setPair p st hart).phase = s.phase := rfl
@[simp] theorem State.hartStart_phase (s : State) (h pc a0 : Nat) : (s.hartStart h pc a0).phase = s.phase := rfl
@[simp] theorem State.readsVoid_phase (s : State) (i : Nat) : (s.readsVoid i).phase = s.phase := rfl
@[simp] theorem State.answer_phase (s : State) (d : Option (List Byte)) : (s.answer d).phase = s.phase := rfl
@[simp] theorem State.peerGone_phase (s : State) : s.peerGone.phase = s.phase := rfl
@[simp] theorem State.svpStops_phase (s : State) : s.svpStops.phase = s.phase := rfl
@[simp] theorem State.setPen_phase (s : State) (p st : Nat) : (s.setPen p st).phase = s.phase := rfl
@[simp] theorem State.bumpGen_phase (s : State) : s.bumpGen.phase = s.phase := rfl
@[simp] theorem State.peTrack_phase (s : State) : s.peTrack.phase = s.phase := rfl
@[simp] theorem State.plbApply_phase (s : State) : s.plbApply.phase = s.phase := rfl
@[simp] theorem State.arm_phase (s : State) (n : Nat) (on : Bool) : (s.arm n on).phase = s.phase := rfl
@[simp] theorem State.idleRestart_phase (s : State) (n : Nat) : (s.idleRestart n).phase = s.phase := State.modNet_phase ..
@[simp] theorem State.unplace_phase (s : State) (h : Nat) (x : Inst) : (s.unplace h x).phase = s.phase := rfl
theorem State.dutyFollow_phase (s : State) (n : Nat) : (s.dutyFollow n).phase = s.phase :=
  State.ite_keeps (p := State.phase) ((State.set_phase ..).trans (State.setFlag_phase ..)) rfl

@[simp] theorem State.pwmConfig_phase (s : State) (n : Nat) (c : Cmd) : (s.pwmConfig n c).phase = s.phase :=
  (State.dutyFollow_phase ..).trans ((State.wr_phase ..).trans ((State.wr_phase ..).trans (State.wr_phase ..)))

@[simp] theorem State.count_phase (s : State) (e n : Nat) : (s.count e n).phase = s.phase :=
  State.phase_of_busView (s.count_busView e n)

@[simp] theorem State.fnWrite_phase (s : State) (fn a : Nat) (d : List Byte) : (s.fnWrite fn a d).2.phase = s.phase :=
  State.phase_of_busView (s.fnWrite_busView fn a d)

@[simp] theorem State.msi_phase (s : State) (a id : Nat) : (s.msi a id).phase = s.phase := State.ite_keeps rfl rfl

@[simp] theorem State.discard_phase (s : State) (l : PfLine) : (s.discard l).phase = s.phase :=
  State.phase_of_busView (s.discard_busView l)

/-! ### Completing a command -/

@[simp] theorem State.sfEvt_phase (s : State) (bit : Nat) : (s.sfEvt bit).phase = s.phase :=
  State.ite_keeps (p := State.phase) (State.msi_phase ..) rfl

@[simp] theorem State.qpErr_phase (s : State) (fn q code : Nat) : (s.qpErr fn q code).phase = s.phase := State.sfEvt_phase ..

theorem State.writeCompletion_phase (s : State) (c : Cmd) (status result : Nat) :
    (s.writeCompletion c status result).phase = s.phase := by
  unfold State.writeCompletion
  extract_lets x d base b t wrap x'
  have hwrite : (t.fnWrite c.fn (base + 16 * x.cqTail) b).2.phase = s.phase := (State.fnWrite_phase ..).trans (State.count_phase ..)
  generalize t.fnWrite c.fn (base + 16 * x.cqTail) b = w at hwrite ⊢
  obtain ⟨_ | _, u⟩ := w
  · exact (State.qpErr_phase ..).trans hwrite
  · have hset : (u.setQp c.fn c.src x').phase = u.phase := rfl
    refine Eq.trans ?_ (hset.trans hwrite)
    exact State.ite_keeps (p := State.phase) (State.msi_phase ..) rfl

theorem State.writeMailbox_phase (s : State) (c : Cmd) (status result : Nat) : (s.writeMailbox c status result).phase = s.phase := by
  unfold State.writeMailbox
  extract_lets f b t u v
  exact (State.msi_phase ..).trans (State.count_phase s 423 1)

@[simp] theorem State.complete_phase (s : State) (seq status result : Nat) : (s.complete seq status result).phase = s.phase := by
  unfold State.complete
  cases s.cmd? seq with
  | none => rfl
  | some c =>
    refine State.ite_keeps (p := State.phase) rfl ?_
    exact State.ite_keeps (p := State.phase) rfl (State.ite_keeps (State.writeMailbox_phase ..) (State.writeCompletion_phase ..))

@[simp] theorem State.finish_phase (s : State) (seq : Nat) (r : Res) : (s.finish seq r).phase = s.phase := by
  unfold State.finish
  cases r.2 with
  | none => exact State.complete_phase ..
  | some v => exact State.complete_phase ..

@[simp] theorem State.secureDown_phase (s : State) : s.secureDown.phase = s.phase := by
  unfold State.secureDown
  refine State.ite_keeps (p := State.phase) rfl ?_
  exact State.each_phase _ _ fun t k => State.complete_phase ..

/-! ### Channels -/

theorem State.clockRestart_phase (s : State) (n : Nat) : (s.clockRestart n).phase = s.phase :=
  State.ite_keeps (p := State.phase) rfl rfl

theorem State.endOffset_phase (s : State) (n : Nat) : (s.endOffset n).phase = s.phase := by
  unfold State.endOffset
  cases nfind s.pda.cal n with
  | none => rfl
  | some x => exact State.finish_phase ..

@[simp] theorem State.fieldOn_phase (s : State) (n : Nat) : (s.fieldOn n).phase = s.phase := by
  unfold State.fieldOn
  extract_lets t
  have ht : t.phase = s.phase := State.endOffset_phase ..
  exact State.ite_keeps (p := State.phase) rfl (State.ite_keeps rfl (State.ite_keeps (p := State.phase)
    ((State.clockRestart_phase ..).trans ht) ht))

theorem State.rangeChange_phase (s : State) (n : Nat) (before : List Byte) : (s.rangeChange n before).phase = s.phase :=
  State.ite_keeps (p := State.phase) rfl rfl

@[simp] theorem State.setChState_phase (s : State) (n st : Nat) : (s.setChState n st).phase = s.phase := by
  unfold State.setChState
  extract_lets old t u v w
  have ht : t.phase = s.phase := State.modChan_phase ..
  have hu : u.phase = t.phase := State.ite_keeps (p := State.phase)
    (State.each_phase _ _ fun x k => (State.complete_phase ..).trans (State.pwmConfig_phase ..)) rfl
  have hv : v.phase = u.phase := State.ite_keeps (p := State.phase) rfl (State.modChan_phase ..)
  have hw : w.phase = v.phase := State.ite_keeps (p := State.phase) ((State.rangeChange_phase ..).trans (State.modChan_phase ..)) rfl
  have hx : ∀ c : Prop, [Decidable c] → (if c then w else w.modChan n fun c => { c with stuck := 0 }).phase = w.phase :=
    fun _ _ => State.ite_keeps (p := State.phase) rfl (State.modChan_phase ..)
  exact (hx _).trans (hw.trans (hv.trans (hu.trans ht)))

@[simp] theorem State.parkDrive_phase (s : State) (k : Nat) (x : Park) : (s.parkDrive k x).phase = s.phase := by
  unfold State.parkDrive
  extract_lets n d t
  have ht : t.phase = s.phase := (State.modChan_phase ..).trans (State.fieldOn_phase ..)
  exact (State.setPark_phase ..).trans ((State.setChState_phase ..).trans ht)

@[simp] theorem State.turnOff_phase (s : State) (n : Nat) (fast : Bool) : (s.turnOff n fast).phase = s.phase :=
  (State.setChState_phase ..).trans (State.modChan_phase ..)

theorem State.channelSleeps_phase (s : State) (n : Nat) : (s.channelSleeps n).phase = s.phase := by
  unfold State.channelSleeps
  extract_lets c
  refine State.ite_keeps (p := State.phase) rfl ?_
  cases s.parkOf n with
  | none => exact State.turnOff_phase ..
  | some x =>
    cases decide (c.state = chOn ∨ c.state = chPwm)
    · exact State.turnOff_phase ..
    · exact State.parkDrive_phase ..

theorem State.senseFault_phase (s : State) : s.senseFault.phase = s.phase :=
  State.each_phase _ _ fun _ _ => State.ite_keeps (p := State.phase) rfl rfl

theorem State.failWaitOn_phase (s : State) (n : Nat) : (s.failWaitOn n).phase = s.phase := by
  unfold State.failWaitOn
  cases (s.chan n).waitOn with
  | nil => rfl
  | cons k l => exact State.each_phase _ _ fun u k => State.complete_phase ..

@[simp] theorem State.setFault_phase (s : State) (n bit : Nat) : (s.setFault n bit).phase = s.phase := by
  unfold State.setFault
  extract_lets t u
  have ht : t.phase = s.phase := State.ite_keeps (p := State.phase) (State.modChan_phase ..) rfl
  have hset : u.phase = t.phase := State.set_phase ..
  rw [← ht]
  refine State.ite_keeps (p := State.phase) ?_ rfl
  rw [← hset]
  exact State.ite_keeps (p := State.phase) (State.setBitOf_phase ..) (State.setBitOf_phase ..)

end Sys2Proof.Machine
end

section
/-!
# What islands, pens and networks leave of the boot stage

The chain goes on from completing commands and tripping channels: placing instances, stopping and starting pairs, taking a pen
or an island down or up again.
-/

namespace Sys2Proof.Machine

/-! ### The protection engine -/

@[simp] theorem State.bulRefresh_phase (s : State) (chg : NMap Nat) : (s.bulRefresh chg).phase = s.phase := by
  refine State.each_phase _ _ fun t b => ?_
  extract_lets on ts td at_ u x en y
  have hu : u.phase = t.phase := State.set_phase ..
  exact State.ite_keeps (p := State.phase) rfl hu

@[simp] theorem State.putLatch_phase (s : State) (n : Nat) (b : Bool) : (s.putLatch n b).phase = s.phase :=
  State.ite_keeps (p := State.phase) (State.set_phase ..) (State.set_phase ..)

theorem State.latchStays_phase (s : State) (n : Nat) : (s.latchStays n).phase = s.phase := by
  unfold State.latchStays
  cases nfind s.pe.cleared n with
  | none => rfl
  | some x =>
    obtain ⟨k, st, by_⟩ := x
    have hlatch : (s.putLatch n true).phase = s.phase := State.putLatch_phase ..
    refine State.ite_keeps (p := State.phase) rfl ?_
    rw [← hlatch]
    exact State.ite_keeps (p := State.phase) (State.setChState_phase ..) rfl

theorem State.peTrip_phase (s : State) (n td : Nat) : (s.peTrip n td).phase = s.phase := by
  unfold State.peTrip
  extract_lets t c u v
  have ht : t.phase = s.phase := State.setFault_phase ..
  have hu : u.phase = t.phase := State.modChan_phase ..
  have hv : v.phase = u.phase := State.ite_keeps (p := State.phase) (State.modChan_phase ..)
    (State.ite_keeps (p := State.phase) ((State.setChState_phase ..).trans (State.modChan_phase ..))
      (State.ite_keeps (p := State.phase) (State.modChan_phase ..)
        (State.ite_keeps (p := State.phase) rfl ((State.setChState_phase ..).trans (State.modChan_phase ..)))))
  exact (State.failWaitOn_phase ..).trans (hv.trans (hu.trans ht))

theorem State.rowLatch_phase (s : State) (row mask td : Nat) : (s.rowLatch row mask td).phase = s.phase := by
  refine State.each_phase _ _ fun t n => ?_
  extract_lets u by_ pe v w x
  have hu : u.phase = t.phase := State.latchStays_phase ..
  have hv : v.phase = u.phase := rfl
  have hw : w.phase = v.phase := State.putLatch_phase ..
  have hx : x.phase = w.phase := State.ite_keeps (p := State.phase) (State.setBitOf_phase ..) (State.setBitOf_phase ..)
  rw [← hu, ← hv]
  exact State.ite_keeps (p := State.phase) rfl ((State.peTrip_phase ..).trans (hx.trans hw))

theorem State.rowsFollow_phase (s : State) (k : Nat) (was : NMap (Bool × Bool × Bool)) :
    (s.rowsFollow k was).2.phase = s.phase := by
  unfold State.rowsFollow
  extract_lets t chg u
  have ht : t.phase = s.phase := State.each_phase _ _ fun v e => by
    exact State.ite_keeps (p := State.phase) (State.setInst_phase ..) rfl
  have hu : u.phase = t.phase := State.each_phase _ _ fun v e => by
    refine State.ite_keeps (p := State.phase) rfl ?_
    cases nfind chg e.1 with
    | none => exact State.rowLatch_phase ..
    | some x => exact State.rowLatch_phase ..
  exact hu.trans ht

@[simp] theorem State.rowsNow_phase (s : State) (was : NMap (Bool × Bool × Bool)) : (s.rowsNow was).phase = s.phase :=
  State.ite_keeps (p := State.phase) ((State.bulRefresh_phase ..).trans (State.rowsFollow_phase ..)) rfl

theorem State.replace_phase (s : State) (h : Nat) (x : Inst) : (s.replace h x).2.phase = s.phase := by
  unfold State.replace
  cases placeOne s.peK (nerase s.pe.insts h) x s.epCands <;> rfl

@[simp] theorem State.reflow_phase (s : State) (p : Nat) : (s.reflow p).phase = s.phase := by
  unfold State.reflow
  extract_lets hit t u
  have ht : t.phase = s.phase := State.each_phase _ _ fun v e => by
    exact State.setInst_phase ..
  have hu : u.phase = t.phase := State.each_phase _ _ fun v e => by
    cases v.inst? e.1 with
    | none => rfl
    | some x =>
      refine State.ite_keeps (p := State.phase) ?_ ?_
      · extract_lets y
        cases v.secondCopy y <;> rfl
      · have hplace := State.replace_phase v e.1 { x with await := true }
        exact State.ite_keeps (p := State.phase) hplace ((State.unplace_phase ..).trans hplace)
  exact State.ite_keeps (p := State.phase) rfl ((State.bumpGen_phase u).trans (hu.trans ht))

@[simp] theorem State.pairLeaves_phase (s : State) (p : Nat) : (s.pairLeaves p).phase = s.phase :=
  (State.rowsNow_phase ..).trans (State.reflow_phase ..)

theorem foldl_snd_phase {α : Type} {f : Bool × State → α → Bool × State} (hf : ∀ a e, (f a e).2.phase = a.2.phase)
    (l : List α) (a : Bool × State) : (l.foldl f a).2.phase = a.2.phase := by
  induction l generalizing a with
  | nil => rfl
  | cons e l ih => exact (ih _).trans (hf a e)

@[simp] theorem State.placeRetry_phase (s : State) : s.placeRetry.phase = s.phase := by
  unfold State.placeRetry
  generalize hr : (keyOrder s.pe.insts).foldl _ (false, s) = r
  have hplaced : r.2.phase = s.phase := by
    rw [← hr]
    refine foldl_snd_phase (fun a e => ?_) _ (false, s)
    cases a.2.inst? e.1 with
    | none => rfl
    | some x =>
      by_cases hx : x.unplaced = true
      · simp only [hx, if_true]
        exact State.replace_phase ..
      · simp only [hx, Bool.false_eq_true, if_false]
        by_cases hd : (x.dual && x.a.isSome && x.b.isNone) = true
        · rw [if_pos hd]
          cases a.2.secondCopy x <;> rfl
        · rw [if_neg hd]
  obtain ⟨changed, t⟩ := r
  rw [← hplaced]
  exact State.ite_keeps (p := State.phase) (State.bumpGen_phase t) rfl

@[simp] theorem State.pairReturns_phase (s : State) (p : Nat) : (s.pairReturns p).phase = s.phase :=
  State.ite_keeps (p := State.phase) ((State.peTrack_phase ..).trans (State.placeRetry_phase ..)) rfl

@[simp] theorem State.epIsland_phase (s : State) (i : Nat) : (s.epIsland i).phase = s.phase := by
  unfold State.epIsland
  extract_lets p clk pwr on t _ u v
  have ht : t.phase = s.phase := (State.setFlag_phase ..).trans (State.setDraining_phase ..)
  have hu : u.phase = t.phase := State.ite_keeps (p := State.phase) rfl ((State.pairLeaves_phase ..).trans rfl)
  have hv : v.phase = u.phase := (State.setFlag_phase ..).trans (State.setDraining_phase ..)
  refine State.ite_keeps (p := State.phase) ?_ (State.ite_keeps (p := State.phase) rfl ?_)
  · exact State.ite_keeps (p := State.phase) (State.pairReturns_phase ..)
      (State.ite_keeps (p := State.phase) rfl (State.pairReturns_phase ..))
  · rw [← ht]
    refine State.ite_keeps (p := State.phase) rfl ?_
    rw [← hu]
    exact State.ite_keeps (p := State.phase) rfl
      ((State.setIsl_phase ..).trans ((State.setGated_phase ..).trans (Eq.refl v.phase |>.trans hv)))

/-! ### The switch and the field bus -/

@[simp] theorem State.cnt_phase (s : State) (p c n : Nat) : (s.cnt p c n).phase = s.phase := by
  unfold State.cnt
  extract_lets v t
  have ht : t.phase = s.phase := State.ite_keeps (p := State.phase) (State.count_phase ..) rfl
  exact (State.wr_phase ..).trans ((State.wr_phase ..).trans ht)

theorem State.qStop_phase (s : State) (q : Nat) : (s.qStop q).phase = s.phase :=
  (State.setFlag_phase ..).trans ((State.setFlag_phase ..).trans (State.set_phase ..))

theorem State.qWroteBack_phase (s : State) (q : Nat) : (s.qWroteBack q).phase = s.phase :=
  State.ite_keeps (p := State.phase) rfl (State.modEthq_phase ..)

theorem State.txWriteBack_phase (s : State) (q addr : Nat) (d : List Byte) (status stamp : Nat) :
    (s.txWriteBack q addr d status stamp).phase = s.phase := by
  unfold State.txWriteBack
  extract_lets b t
  have ht : t.phase = s.phase := State.ite_keeps (p := State.phase) rfl (State.cnt_phase ..)
  have hwrite := (t.fnWrite_phase (t.qOwner q) addr b).trans ht
  generalize t.fnWrite (t.qOwner q) addr b = r at hwrite ⊢
  obtain ⟨_ | _, u⟩ := r
  · exact (u.qStop_phase q).trans hwrite
  · exact (u.qWroteBack_phase q).trans hwrite

@[simp] theorem State.txRelease_phase (s : State) (wb : Option (Nat × Nat)) (status : Nat) (stamp : Option Nat) :
    (s.txRelease wb status stamp).phase = s.phase := by
  unfold State.txRelease
  split
  · rfl
  split
  · rfl
  · exact State.ite_keeps (p := State.phase) (State.modEthq_phase ..)
      ((State.txWriteBack_phase ..).trans (State.modEthq_phase ..))

@[simp] theorem State.linkChange_phase (s : State) (p : Nat) (up : Bool) : (s.linkChange p up).phase = s.phase := by
  unfold State.linkChange
  extract_lets t u v w x fs y
  have hu : u.phase = s.phase := (State.cnt_phase ..).trans ((State.setFlag_phase ..).trans (State.setFlag_phase ..))
  have hv : v.phase = u.phase := State.ite_keeps (p := State.phase) (State.set_phase ..) rfl
  have hw : w.phase = v.phase := State.modPort_phase ..
  have hx : x.phase = u.phase := (State.setFlag_phase ..).trans (State.setFlag_phase ..)
  have hy : y.phase = x.phase := State.modPort_phase ..
  refine State.ite_keeps (p := State.phase) rfl ?_
  rw [← hu]
  refine State.ite_keeps (p := State.phase) ((State.setFlag_phase ..).trans (hw.trans hv)) ?_
  refine Eq.trans ?_ (hy.trans hx)
  exact State.each_phase _ _ fun z f => (State.txRelease_phase ..).trans (State.cnt_phase ..)

theorem State.putPend_phase (s : State) (c b : Nat) (on : Bool) : (s.putPend c b on).phase = s.phase := by
  unfold State.putPend
  extract_lets t
  have ht : t.phase = s.phase := State.ite_keeps (p := State.phase) (State.set_phase ..) (State.set_phase ..)
  exact State.ite_keeps (p := State.phase) rfl ((State.setFlag_phase ..).trans ht)

@[simp] theorem State.fbcDown_phase (s : State) : s.fbcDown.phase = s.phase := by
  unfold State.fbcDown
  extract_lets t
  have ht : t.phase = s.phase := State.each_phase _ _ fun u c =>
    (State.set_phase ..).trans ((State.modCan_phase ..).trans (State.each_phase _ _ fun v e => State.putPend_phase ..))
  exact (State.each_phase _ _ fun u l => State.modLin_phase ..).trans ht

/-! ### Pairs -/

@[simp] theorem State.pairStart_phase (s : State) (p h a0 : Nat) : (s.pairStart p h a0).phase = s.phase := by
  unfold State.pairStart
  extract_lets t back u
  have ht : t.phase = s.phase := State.setPair_phase ..
  have hu : u.phase = t.phase := State.modPair_phase ..
  rw [← ht, ← hu]
  exact State.ite_keeps (p := State.phase) (State.hartStart_phase ..) rfl

theorem State.takeover_phase (s : State) (h a0 : Nat) : (s.takeover h a0).phase = s.phase :=
  (State.setBitOf_phase ..).trans ((State.pairStart_phase ..).trans (State.modHart_phase ..))

theorem State.faultTakeover_phase (s : State) (h : Nat) : (s.faultTakeover h).phase = s.phase := State.takeover_phase s h 1

theorem State.pairFence_phase (s : State) (p : Nat) (lock : Bool) : (s.pairFence p lock).phase = s.phase := by
  unfold State.pairFence
  extract_lets was h ran t u v w
  have hv : v.phase = s.phase :=
    (State.setBitOf_phase ..).trans ((State.modPair_phase ..).trans (State.setPair_phase ..))
  have hw : w.phase = v.phase := (State.readsVoid_phase ..).trans (State.modHart_phase ..)
  rw [← hv]
  refine State.ite_keeps (p := State.phase) rfl ?_
  rw [← hw]
  refine State.ite_keeps (p := State.phase) (State.ite_keeps (p := State.phase) (State.pairStart_phase ..) rfl) ?_
  refine State.ite_keeps (p := State.phase) rfl ?_
  exact State.ite_keeps (p := State.phase) (State.faultTakeover_phase ..)
    (State.ite_keeps (p := State.phase) ((State.faultTakeover_phase ..).trans (State.modHart_phase ..)) rfl)

/-! ### The partner link -/

theorem State.readAnswer_phase (s : State) (r : PlbRead) (d : Option (List Byte)) : (s.readAnswer r d).phase = s.phase :=
  State.ite_keeps (p := State.phase) rfl (State.answer_phase ..)

theorem State.failReads_phase (s : State) : s.failReads.phase = s.phase := by
  unfold State.failReads
  extract_lets l _ t
  have ht : t.phase = s.phase := rfl
  exact (State.foldl_phase _ _ fun u r => (State.readAnswer_phase ..).trans (State.plbReport_phase ..)).trans ht

theorem State.linkDown_phase (s : State) : s.linkDown.phase = s.phase := by
  unfold State.linkDown
  extract_lets t u v w
  have hu : u.phase = s.phase := rfl
  have hv : v.phase = u.phase := State.failReads_phase ..
  have hw : w.phase = v.phase := State.foldl_phase _ _ fun x l => State.discard_phase ..
  exact (State.peerGone_phase ..).trans (hw.trans (hv.trans hu))

theorem State.plbDown_phase (s : State) : s.plbDown.phase = s.phase := by
  unfold State.plbDown
  extract_lets t
  have ht : t.phase = s.phase := State.ite_keeps (p := State.phase) (State.linkDown_phase ..) rfl
  exact ht

/-! ### Tests -/

theorem State.offResult_phase (s : State) (n : Nat) (r : Option Nat) : (s.offResult n r).phase = s.phase := by
  unfold State.offResult
  cases r with
  | none => exact State.modChan_phase ..
  | some k =>
    have hrun : ∀ f : Ch → Ch, (s.modChan n f).phase = s.phase := fun f => State.modChan_phase ..
    refine Eq.trans ?_ (hrun fun c => { c with
      offRun := if c.offLast = some k then min 8 (c.offRun + 1) else 1, offLast := some k,
      openTests := if k = 0 then satAdd 65535 c.openTests 1 else c.openTests })
    exact State.ite_keeps (p := State.phase) (State.setFault_phase ..) rfl

@[simp] theorem State.reReport_phase (s : State) (p : Nat) : (s.reReport p).phase = s.phase := by
  unfold State.reReport
  extract_lets hit t
  have ht : t.phase = s.phase := State.each_phase _ _ fun u e => State.report_phase ..
  refine Eq.trans ?_ ht
  exact State.each_phase _ _ fun u e => rfl

theorem State.testAfter_phase (s : State) (id code : Nat) : (s.testAfter id code).phase = s.phase := by
  unfold State.testAfter
  extract_lets i _ t _
  split
  · exact State.ite_keeps (p := State.phase) rfl (State.ite_keeps (p := State.phase)
      ((State.reReport_phase ..).trans ((State.setPen_phase ..).trans (State.setPair_phase ..)))
      ((State.setPen_phase ..).trans (State.setPair_phase ..)))
  · have ht : t.phase = s.phase := State.ite_keeps (p := State.phase) (State.setPen_phase ..) rfl
    refine State.ite_keeps (p := State.phase) rfl ?_
    rw [← ht]
    exact State.ite_keeps (p := State.phase) ((State.reReport_phase ..).trans (State.pairReturns_phase ..))
      (State.ite_keeps (p := State.phase) rfl rfl)
  · exact State.ite_keeps (p := State.phase) rfl (State.ite_keeps (p := State.phase) (State.offResult_phase ..)
      (State.ite_keeps (p := State.phase) (State.offResult_phase ..)
        (State.ite_keeps (p := State.phase) (State.offResult_phase ..) rfl)))
  · rfl

theorem State.testEnd_phase (s : State) (id code us : Nat) : (s.testEnd id code us).phase = s.phase := by
  unfold State.testEnd
  cases nfind s.fcu.tests id with
  | none => rfl
  | some seq =>
    dsimp -zeta only
    extract_lets r _ t u v
    have ht : t.phase = s.phase := rfl
    have hu : u.phase = t.phase := State.testAfter_phase ..
    have hv : v.phase = u.phase := State.ite_keeps (p := State.phase) rfl (State.report_phase ..)
    exact (State.complete_phase ..).trans (hv.trans (hu.trans ht))

/-! ### Taking a pen or an island down -/

theorem State.penDown_phase (s : State) (p : Nat) (lock : Bool) : (s.penDown p lock).phase = s.phase := by
  unfold State.penDown
  extract_lets t secure u l v
  have ht : t.phase = s.phase := State.each_phase _ _ fun w id => State.testEnd_phase ..
  have hu : u.phase = t.phase := State.pairFence_phase ..
  rw [← ht]
  refine State.ite_keeps (p := State.phase) ?_ (State.ite_keeps (p := State.phase) (State.pairLeaves_phase ..)
    (State.ite_keeps (p := State.phase) (State.linkChange_phase ..) ?_))
  · rw [← hu]
    exact State.ite_keeps (p := State.phase) (State.secureDown_phase ..) rfl
  · split
    · exact State.svpStops_phase ..
    · exact State.each_phase _ _ fun w h => State.modHart_phase ..
    · exact State.each_phase _ _ fun w q => State.linkChange_phase ..
    · exact State.fbcDown_phase ..
    · exact State.plbDown_phase ..
    · exact State.ite_keeps (p := State.phase) rfl ((State.set_phase ..).trans (State.setFlag_phase ..))
    · rfl
    · exact State.debugEnds_phase ..
    · rfl

theorem State.powerGate_phase (s : State) (i : Nat) : (s.powerGate i).phase = s.phase := by
  unfold State.powerGate
  extract_lets t
  have ht : t.phase = s.phase := by
    refine State.ite_keeps (p := State.phase) (State.ite_keeps (p := State.phase) (State.modHart_phase ..) rfl)
      (State.ite_keeps (p := State.phase) (State.each_phase _ _ fun w b => State.bankLost_phase ..) ?_)
    cases islPen i with
    | none => rfl
    | some p => exact State.penDown_phase ..
  exact (State.setIsl_phase ..).trans ht

theorem State.islandEval_phase (s : State) (i : Nat) : (s.islandEval i).phase = s.phase := by
  unfold State.islandEval
  refine State.ite_keeps (p := State.phase) rfl (State.ite_keeps (p := State.phase) (State.epIsland_phase ..)
    (State.ite_keeps (p := State.phase) (State.setDraining_phase ..) (State.ite_keeps (p := State.phase) rfl
      (State.ite_keeps (p := State.phase) (State.setDraining_phase ..) ?_))))
  exact (State.powerGate_phase ..).trans (State.setDraining_phase ..)

end Sys2Proof.Machine
end

section
/-!
# What starting the networks and releasing a pen leave of the boot stage
-/

namespace Sys2Proof.Machine

/-! ### The field bus controller -/

theorem State.appStart_phase (s : State) (a0 : Nat) : (s.appStart a0).phase = s.phase :=
  State.each_phase _ _ fun _ _ => State.hartStart_phase ..

theorem State.linsBoot_phase (s : State) : s.linsBoot.phase = s.phase := State.each_phase _ _ fun _ _ => State.modLin_phase ..

theorem State.matLoad_phase (s : State) (c : Nat) : (s.matLoad c).phase = s.phase :=
  State.ite_keeps (p := State.phase) (State.modCan_phase ..) (State.modCan_phase ..)

theorem State.canEvt_phase (s : State) (c bit : Nat) : (s.canEvt c bit).phase = s.phase := by
  unfold State.canEvt
  extract_lets old t
  have ht : t.phase = s.phase := State.wr_phase ..
  rw [← ht]
  exact State.ite_keeps (p := State.phase) (State.msi_phase ..) rfl

theorem State.txStatus_phase (s : State) (c b status sof attempts : Nat) :
    (s.txStatus c b status sof attempts).phase = s.phase := by
  unfold State.txStatus
  exact State.ite_keeps (p := State.phase) rfl ((State.canEvt_phase ..).trans ((State.wr_phase ..).trans
    ((State.wr_phase ..).trans ((State.wr_phase ..).trans (State.wr_phase ..)))))

theorem State.txEnd_phase (s : State) (c b status attempts : Nat) : (s.txEnd c b status attempts).phase = s.phase :=
  (State.txStatus_phase ..).trans ((State.putPend_phase ..).trans (State.modCan_phase ..))

theorem State.txFailed_phase (s : State) (c : Nat) (t : CanTx) : (s.txFailed c t).phase = s.phase := by
  unfold State.txFailed
  refine State.ite_keeps (p := State.phase) rfl ?_
  cases nfind (s.can c).pend t.buf with
  | none => rfl
  | some f =>
    exact State.ite_keeps (p := State.phase) (State.txEnd_phase ..) (State.ite_keeps (p := State.phase) (State.txEnd_phase ..) rfl)

theorem State.canLeave_phase (s : State) (c : Nat) : (s.canLeave c).phase = s.phase := by
  unfold State.canLeave
  extract_lets t
  have ht : t.phase = s.phase := by
    dsimp only [t]
    cases (s.can c).cur with
    | none => rfl
    | some x => exact (State.txFailed_phase ..).trans (State.modCan_phase ..)
  rw [← ht]
  exact State.ite_keeps (p := State.phase) rfl (State.set_phase ..)

theorem State.xcvrSleep_phase (s : State) (n : Nat) (on : Bool) : (s.xcvrSleep n on).phase = s.phase :=
  State.ite_keeps (p := State.phase) (State.set_phase ..) (State.ite_keeps (p := State.phase) (State.set_phase ..) rfl)

/-! ### The networks -/

theorem State.mediumNormal_phase (s : State) (n : Nat) : (s.mediumNormal n).phase = s.phase := by
  unfold State.mediumNormal
  extract_lets t
  have ht : t.phase = s.phase := (State.arm_phase ..).trans (State.xcvrSleep_phase ..)
  rw [← ht]
  exact State.ite_keeps (p := State.phase) (State.canLeave_phase ..) rfl

theorem State.netDisable_phase (s : State) (n : Nat) : (s.netDisable n).phase = s.phase := by
  unfold State.netDisable
  extract_lets t u
  have hu : u.phase = s.phase := (State.modNet_phase ..).trans (State.set_phase ..)
  rw [← hu]
  exact State.ite_keeps (p := State.phase) (State.modLin_phase ..) rfl

theorem State.netEnter_phase (s : State) (n : Nat) (reason : Option Nat) : (s.netEnter n reason).phase = s.phase := by
  unfold State.netEnter
  extract_lets t u v w
  have ht : t.phase = s.phase := State.set_phase ..
  have hu : u.phase = t.phase := by
    dsimp only [u]
    cases reason with
    | none => rfl
    | some r => exact State.set_phase ..
  have hv : v.phase = u.phase := State.modNet_phase ..
  have hw : w.phase = v.phase := State.ite_keeps (p := State.phase) (State.modLin_phase ..) rfl
  exact (State.idleRestart_phase ..).trans (hw.trans (hv.trans (hu.trans ht)))

theorem State.netsBoot_phase (s : State) : s.netsBoot.phase = s.phase := by
  refine State.each_phase _ _ fun t n => ?_
  refine State.ite_keeps (p := State.phase) ?_ (State.netDisable_phase ..)
  exact (State.modNet_phase ..).trans ((State.netEnter_phase ..).trans (State.mediumNormal_phase ..))

theorem State.canApply_phase (s : State) (c : Nat) (old matOld : List Byte) : (s.canApply c old matOld).phase = s.phase := by
  unfold State.canApply
  extract_lets new rates t
  have ht : t.phase = s.phase := State.ite_keeps (p := State.phase) ((State.wr_phase ..).trans (State.canLeave_phase ..)) rfl
  rw [← ht]
  exact State.ite_keeps (p := State.phase) (State.matLoad_phase ..) rfl

/-! ### Releasing a pen -/

theorem State.penUp_phase (s : State) (p a0 : Nat) : (s.penUp p a0).phase = s.phase := by
  unfold State.penUp
  refine State.ite_keeps (p := State.phase) (State.pairReturns_phase ..) ?_
  split
  · exact State.appStart_phase ..
  · refine State.ite_keeps (p := State.phase) ?_ rfl
    exact (State.linsBoot_phase _).trans ((State.netsBoot_phase _).trans (State.each_phase _ _ fun t c => State.matLoad_phase t c))
  · exact State.plbApply_phase ..
  · rfl

theorem State.penRelease_phase (s : State) (p a0 : Nat) : (s.penRelease p a0).phase = s.phase := by
  unfold State.penRelease
  extract_lets t
  have ht : t.phase = s.phase := State.setPen_phase ..
  refine (State.reReport_phase ..).trans ?_
  rw [← ht]
  exact State.ite_keeps (p := State.phase) (State.penUp_phase ..) rfl

end Sys2Proof.Machine
end

section
/-!
# Run control of the harts

A rule per request of the debugger: what it does to the hart that it selects, and what it needs before it does it.
-/

namespace Sys2Proof.Machine

theorem exec_haltRequest (h : Nat) (s : State) : exec (.haltRequest h) s = s.ends (s.haltRequest h) := rfl
theorem exec_haltEffect (h : Nat) (s : State) : exec (.haltEffect h) s = s.ends (s.haltEffect h) := rfl
theorem exec_resumeRequest (h : Nat) (s : State) : exec (.resumeRequest h) s = s.ends (s.resumeRequest h) := rfl
theorem exec_hartreset (h : Nat) (s : State) : exec (.hartreset h) s = s.ends (s.hartResetOf h) := rfl
theorem exec_ndmreset (s : State) : exec .ndmreset s = s.ends s.ndmReset := rfl
theorem exec_debugTrigger (h : Nat) (dmode : Bool) (s : State) :
    exec (.debugTrigger h dmode) s = s.ends (s.debugTrigger h dmode) := rfl
theorem exec_tapReset (s : State) : exec .tapReset s = s.ends s.tapReset := rfl

/-! ### Requests through the debug module -/

/-- Selecting a hart leaves what decides whether the debugger may hold it, and whether it has just been taken over. -/
theorem State.dbgSelect_dbgOpen (s : State) (h k : Nat) : (s.dbgSelect h).dbgOpen k = s.dbgOpen k := rfl
theorem State.dbgSelect_justTaken (s : State) (h k : Nat) : (s.dbgSelect h).justTaken k = s.justTaken k := rfl
theorem State.dbgSelect_hart (s : State) (h k : Nat) : (s.dbgSelect h).hart k = s.hart k := rfl

theorem State.haltRequest_notes {s : State} {h : Nat} (hup : s.dbgUp = true) (hopen : s.dbgOpen h = true)
    (hruns : (s.hart h).halted = false) (htaken : s.justTaken h = false) :
    s.haltRequest h = (s.dbgSelect h).modHart h fun x => { x with haltReq := true } := by
  rw [State.haltRequest, hup, Bool.not_true, if_neg Bool.false_ne_true]
  refine if_pos ?_
  rw [State.dbgSelect_dbgOpen, State.dbgSelect_hart, State.dbgSelect_justTaken, hopen, hruns, htaken]
  rfl

theorem State.haltRequest_fails {s : State} {h : Nat} (hup : s.dbgUp = false) (hcore : s.coreRuns = true) :
    s.haltRequest h = { s with dbg := { s.dbg with dmiOp := 2 } } := by
  rw [State.haltRequest, hup, Bool.not_false, if_pos rfl, State.dmiFail, if_pos hcore]

theorem State.resumeRequest_resumes {s : State} {h : Nat} (hup : s.dbgUp = true) (huser : userHart h = true)
    (hhalt : (s.hart h).halted = true) :
    s.resumeRequest h = if s.stepping h then (s.dbgSelect h).regsVoid h else (s.dbgSelect h).hartResume h := by
  rw [State.resumeRequest, hup, Bool.not_true, if_neg Bool.false_ne_true]
  refine if_pos ?_
  rw [State.dbgSelect_hart, huser, hhalt]
  rfl

theorem State.hartResetOf_resets {s : State} {h : Nat} (hup : s.dbgUp = true) (hopen : s.dbgOpen h = true) :
    s.hartResetOf h = (s.dbgSelect h).hartReset h := by
  rw [State.hartResetOf, hup, Bool.not_true, if_neg Bool.false_ne_true]
  exact if_pos hopen

theorem State.ndmReset_resets {s : State} (hup : s.dbgUp = true) :
    s.ndmReset = s.dmActive.each ((List.range 12).filter s.dmActive.dbgOpen) State.hartReset := by
  rw [State.ndmReset, hup, Bool.not_true, if_neg Bool.false_ne_true]

/-! ### What a hart does by itself -/

theorem State.haltEffect_halts {s : State} {h : Nat} (hcore : s.coreRuns = true) (hruns : (s.hart h).running = true)
    (hreq : (s.hart h).haltReq = true) (hreads : s.readsOut h = false) :
    s.haltEffect h = s.modHart h fun x => { x with halted := true, haltReq := false } :=
  if_pos (by rw [hcore, hruns, hreq, hreads]; rfl)

/-- While a read of the hart is outstanding it is at no instruction boundary. -/
theorem State.haltEffect_waits {s : State} {h : Nat} (hreads : s.readsOut h = true) : s.haltEffect h = s :=
  if_neg (by simp [hreads])

theorem State.debugTrigger_reaches {s : State} {h : Nat} (hcore : s.coreRuns = true) (huser : userHart h = true)
    (hruns : (s.hart h).running = true) (hhalt : (s.hart h).halted = false) (dmode : Bool) :
    s.debugTrigger h dmode =
      if !dmode then s.modHart h fun x => { x with breakpoint := true }
      else if s.hasDmode h && s.invasive (s.hartSecure h) then s.modHart h fun x => { x with halted := true, haltReq := false }
      else s :=
  if_neg (by simp [hcore, huser, hruns, hhalt])

/-! ### The statement -/

/-- Settles O59: each request by its rule above. -/
theorem runControl : Obligations.RunControl := by
  unfold Obligations.RunControl
  intro s h
  refine ⟨?request, ?effect, ?resume, ?hart, ?ndm, ⟨rfl, rfl, rfl⟩, ?fails, ?trigger, ?tap⟩
  case request =>
    intro hup hopen hruns htaken
    rw [exec_haltRequest]
    exact ends_of_eq (State.haltRequest_notes hup hopen hruns htaken)
  case effect =>
    intro hcore hruns hreq
    rw [exec_haltEffect]
    exact ⟨fun hreads => ends_of_eq (State.haltEffect_halts hcore hruns hreq hreads),
      fun hreads => ends_of_eq (State.haltEffect_waits hreads)⟩
  case resume =>
    intro hup huser hhalt
    rw [exec_resumeRequest]
    exact ends_of_eq (State.resumeRequest_resumes hup huser hhalt)
  case hart =>
    intro hup hopen
    rw [exec_hartreset]
    exact ends_of_eq (State.hartResetOf_resets hup hopen)
  case ndm =>
    intro hup
    rw [exec_ndmreset]
    exact ends_of_eq (State.ndmReset_resets hup)
  case fails =>
    intro hup hcore
    rw [exec_haltRequest]
    exact ends_of_eq (State.haltRequest_fails hup hcore)
  case trigger =>
    intro hcore huser hruns hhalt
    have hreach := State.debugTrigger_reaches hcore huser hruns hhalt
    rw [exec_debugTrigger, exec_debugTrigger]
    refine ⟨ends_of_eq (hreach false), fun hdmode hinv => ends_of_eq ?_⟩
    rw [hreach true, hdmode, hinv]
    rfl
  case tap =>
    intro hup
    rw [exec_tapReset]
    exact ends_of_eq (if_pos hup)

end Sys2Proof.Machine
end

section
/-!
# What the debugger reads and writes

The abstract commands and the system bus, the loader behind the test access port, and the samplers with their FIFO.
-/

namespace Sys2Proof.Machine

theorem exec_abstractCommand (h : Nat) (mem : Bool) (at_ : Nat) (write : Bool) (size v : Nat) (post : Bool) (s : State) :
    exec (.abstractCommand h mem at_ write size v post) s = s.ends (s.abstractCommand h mem at_ write size v post) := rfl
theorem exec_systemBusAccess (write : Bool) (addr size v : Nat) (s : State) :
    exec (.systemBusAccess write addr size v) s = s.ends (s.systemBus write addr size v) := rfl
theorem exec_loaderShift (w : Word) (s : State) : exec (.loaderShift w) s = s.ends (s.loaderShift w) := rfl
theorem exec_loaderImageDone (s : State) : exec .loaderImageDone s = s.ends s.loaderDone := rfl
theorem exec_samplerSample (k pc mode : Nat) (s : State) :
    exec (.samplerSample k pc mode) s = s.ends (s.samplerSample k pc mode) := rfl
theorem exec_smpInfoRead (a : Init) (s : State) : exec (.smpInfoRead a) s = s.ends (s.rowRead a DBG_SMP_INFO) := rfl

/-! ### Abstract commands -/

/-- A hart that is not halted, or that is none of the user's, carries no abstract command out. -/
theorem State.abstractCommand_refused {s : State} {h : Nat} (hup : s.dbgUp = true)
    (hhart : userHart h = false ∨ (s.hart h).halted = false) (mem : Bool) (at_ : Nat) (w : Bool) (size v : Nat) (post : Bool) :
    s.abstractCommand h mem at_ w size v post = (s.dbgSelect h).abstractEnd 4 0 := by
  rw [State.abstractCommand, hup, Bool.not_true, if_neg Bool.false_ne_true]
  refine if_pos ?_
  rw [State.dbgSelect_hart]
  obtain huser | hruns := hhart
  · rw [huser]
    rfl
  · rw [hruns, Bool.not_false, Bool.or_true]

/-- A halted hart answers a register access, and then runs the program buffer where the access has succeeded. -/
theorem State.abstractCommand_register {s : State} {h : Nat} (hup : s.dbgUp = true) (huser : userHart h = true)
    (hhalt : (s.hart h).halted = true) (n : Nat) (w : Bool) (size v : Nat) (post : Bool) :
    s.abstractCommand h false n w size v post =
      (let t := (s.dbgSelect h).abstractReg h (n % 65536) w size v
       if post && t.dbg.cmderr == 0 then t.regsVoid h else t) := by
  rw [State.abstractCommand, hup, Bool.not_true, if_neg Bool.false_ne_true]
  refine if_neg ?_
  rw [State.dbgSelect_hart, huser, hhalt]
  exact Bool.false_ne_true

/-- A number below 0x1040 and a size of 32 or 64 bits name a register that every hart has. -/
theorem abstract_register_there {n size : Nat} (hn : n < 0x1040) (hsize : size = 2 ∨ size = 3) (vector : Bool) :
    (!(decide (n < 0x1040) || vector) || !(size == 2 || size == 3 || (vector && size == 4))) = false := by
  obtain rfl | rfl := hsize <;> simp [hn]

/-- A general register other than x0 takes what the debugger writes. -/
theorem State.abstractReg_writes (u : State) {h n size : Nat} (hlow : 0x1000 < n) (hn : n < 0x1040) (hsize : size = 2 ∨ size = 3)
    (v : Nat) :
    u.abstractReg h n true size v = (u.setHartReg h n (v % 2 ^ (8 * 2 ^ size))).abstractEnd 0 u.dbg.abstractData := by
  rw [State.abstractReg]
  extract_lets
  rw [abstract_register_there hn hsize, if_neg Bool.false_ne_true, if_pos rfl, if_neg (by omega : ¬ n < 0x1000),
    if_neg (by omega : ¬ n = 0x1000)]

/-- A general register reads what the debugger has written or seen. -/
theorem State.abstractReg_reads {u : State} {h n size x : Nat} (hlow : 0x1000 < n) (hn : n < 0x1040) (hsize : size = 2 ∨ size = 3)
    (v : Nat) (hx : nfind u.cc.gpr (h * 65536 + n) = some x) :
    u.abstractReg h n false size v = u.abstractEnd 0 (x % 2 ^ (8 * 2 ^ size)) := by
  rw [State.abstractReg]
  extract_lets
  have hreg : u.hartReg h n = (x, u) := by
    rw [State.hartReg, if_neg (by omega : ¬ n = 0x1000)]
    simp only [hx]
  rw [abstract_register_there hn hsize, if_neg Bool.false_ne_true, if_neg Bool.false_ne_true, if_neg (by omega : ¬ n < 0x1000), hreg]

/-! ### The system bus -/

/-- The debug module drives the bus only in a world whose invasive enable is on, and only to an aligned address. -/
theorem State.systemBus_refused {s : State} (hup : s.dbgUp = true) {a size : Nat}
    (hbad : s.invasive (s.flag DBG_SBA_WORLD) = false ∨ (size ≤ 3 ∧ a % 2 ^ size ≠ 0)) (w : Bool) (v : Nat) :
    s.systemBus w a size v = { s.dmActive with dbg := { s.dmActive.dbg with sberror := 3 } } := by
  have henable : s.dmActive.invasive (s.dmActive.flag DBG_SBA_WORLD) = s.invasive (s.flag DBG_SBA_WORLD) := rfl
  rw [State.systemBus, hup, Bool.not_true, if_neg Bool.false_ne_true]
  extract_lets u secure err i
  change (if !(u.invasive secure) then err u 3 else _) = _
  rw [show u.invasive secure = _ from henable]
  cases hinv : s.invasive (s.flag DBG_SBA_WORLD)
  · rfl
  · obtain hoff | ⟨hsize, halign⟩ := hbad
    · exact absurd (hinv.symm.trans hoff) Bool.noConfusion
    · rw [Bool.not_true, if_neg Bool.false_ne_true, if_neg (by omega : ¬ 3 < size), if_pos halign]

theorem State.systemBus_reads {s t : State} (hup : s.dbgUp = true) {a size : Nat}
    (hinv : s.invasive (s.flag DBG_SBA_WORLD) = true) (hsize : size ≤ 3) (halign : a % 2 ^ size = 0) (v : Nat) {d : List Byte}
    (hread : s.dmActive.busRead { id := 0x20, secure := s.flag DBG_SBA_WORLD } a (2 ^ size) = (some d, t)) :
    s.systemBus false a size v = { t with dbg := { t.dbg with sbdata := leNat d, sberror := 0 } } := by
  have henable : s.dmActive.invasive (s.dmActive.flag DBG_SBA_WORLD) = s.invasive (s.flag DBG_SBA_WORLD) := rfl
  have hread' : s.dmActive.busRead { id := 0x20, secure := s.dmActive.flag DBG_SBA_WORLD } a (2 ^ size) = (some d, t) := hread
  rw [State.systemBus, hup, Bool.not_true, if_neg Bool.false_ne_true]
  simp only [henable, hinv, hread', Bool.not_true, Bool.false_eq_true, if_false, if_neg (by omega : ¬ 3 < size), halign, ne_eq, not_true]

/-! ### The image loader -/

theorem State.tapScan_loader_shows (s : State) : (s.tapScan irLoader).dbg.tapDr = (s.rd DBG_LOADER_STATUS).toNat := rfl

/-- While the boot ROM does not serve the loader, a shift is a scan of the port alone. -/
theorem State.loaderShift_unserved {s : State} (htap : s.tapUp = true) (hserves : s.loaderServes = false) (w : Word) :
    s.loaderShift w = s.tapScan irLoader := by
  have hshift : (s.tapScan irLoader).loaderServes = false := hserves
  rw [State.loaderShift, if_pos htap]
  exact if_pos (Or.inl (by rw [hshift]; rfl))

theorem loaderShift_taken {s : State} (hserves : s.loaderServes = true) (hphase : s.get DBG_LOADER_STATUS_PHASE < 2) :
    ¬ ((!(s.tapScan irLoader).loaderServes) = true ∨ 2 ≤ (s.tapScan irLoader).get DBG_LOADER_STATUS_PHASE) := by
  have hshift : (s.tapScan irLoader).loaderServes = true := hserves
  have hget : (s.tapScan irLoader).get DBG_LOADER_STATUS_PHASE = s.get DBG_LOADER_STATUS_PHASE := rfl
  rw [hshift, hget]
  rintro (hoff | hlate)
  · exact absurd hoff Bool.false_ne_true
  · omega

/-- The first word shifted in is the image's length, a whole number of 16-byte units that the area has room for. -/
theorem State.loaderShift_length {s : State} (htap : s.tapUp = true) (hserves : s.loaderServes = true)
    (hphase : s.get DBG_LOADER_STATUS_PHASE < 2) (hlen : s.dbg.loaderLen = 0) {w : Word} (hpos : w.toNat ≠ 0)
    (hunits : w.toNat % 16 = 0) (hroom : w.toNat ≤ areaRoom 1) :
    s.loaderShift w =
      (let u := ((s.tapScan irLoader).set DBG_LOADER_STATUS_PHASE 1).set DBG_LOADER_STATUS_FAIL 0
       { u with dbg := { u.dbg with loaderLen := w.toNat, loader := [] } }) := by
  rw [State.loaderShift, if_pos htap]
  extract_lets n
  rw [if_neg (loaderShift_taken hserves hphase), if_pos (show (s.tapScan irLoader).dbg.loaderLen = 0 from hlen)]
  refine if_neg ?_
  rintro (hzero | hrest | hbig)
  · exact hpos hzero
  · exact hrest hunits
  · exact absurd hbig (by omega)

/-- A word after the length is the image's next, and the last of them asks for the verification. -/
theorem State.loaderShift_word {s : State} (htap : s.tapUp = true) (hserves : s.loaderServes = true)
    (hphase : s.get DBG_LOADER_STATUS_PHASE < 2) (hlen : s.dbg.loaderLen ≠ 0) (w : Word) :
    s.loaderShift w =
      (let l := s.dbg.loader ++ leBytes 4 w.toNat
       let t := s.tapScan irLoader
       let u : State := { t with dbg := { t.dbg with loader := l } }
       if s.dbg.loaderLen ≤ l.length then u.set DBG_LOADER_STATUS_PHASE 2 else u) := by
  rw [State.loaderShift, if_pos htap]
  extract_lets n
  rw [if_neg (loaderShift_taken hserves hphase), if_neg (show ¬ (s.tapScan irLoader).dbg.loaderLen = 0 from hlen)]
  rfl

theorem State.loaderDone_serves {s : State} (hserves : s.loaderServes = true) (hphase : s.get DBG_LOADER_STATUS_PHASE = 2) :
    s.loaderDone =
      match s.verifyBoot s.dbg.loader with
      | .error e =>
        let u := (s.set DBG_LOADER_STATUS_PHASE 0).set DBG_LOADER_STATUS_FAIL e
        { u with dbg := { u.dbg with loaderLen := 0, loader := [] } }
      | .ok _ =>
        let u := s.setBytes (areaBase 1 (1 - s.runHalf 1) + 64) s.dbg.loader
        let v := u.setCommit 1 (1 - s.runHalf 1) { seq := s.newSeq 1, state := icCommitted, len := s.dbg.loader.length }
        (v.set DBG_LOADER_STATUS_PHASE 3).coreReset 4 := by
  rw [State.loaderDone, if_neg (by simp [hserves, hphase])]
  extract_lets im
  subst im
  cases s.verifyBoot s.dbg.loader <;> rfl

/-! ### Samplers -/

/-- An enabled sampler that is due takes its sample: an event that is counted exactly has been counted, and of another the
missing events happen now. -/
theorem State.samplerSample_due {s : State} {k : Nat} (hk : k < 8) (hcore : s.coreRuns = true)
    (hen : s.flag DBG_SMPs_CFG_EN k = true) (hcounts : neverCounts (s.get DBG_SMPs_CFG_EVENT k) = false)
    (hdue : countsExactly (s.get DBG_SMPs_CFG_EVENT k) = true →
      max 1 (s.get DBG_SMPs_PERIOD_PERIOD k) ≤
        countFrom (s.dbg.sampleBase.getD k 0) (ngetD s.dbg.counters (s.get DBG_SMPs_CFG_EVENT k) 0)) (pc mode : Nat) :
    s.samplerSample k pc mode =
      (let e := s.get DBG_SMPs_CFG_EVENT k
       let period := max 1 (s.get DBG_SMPs_PERIOD_PERIOD k)
       let base := s.dbg.sampleBase.getD k 0
       let gone := countFrom base (ngetD s.dbg.counters e 0)
       let u := if gone < period then s.counterAdvance e (period - gone) else s
       (u.sampleFrom k (countAfter base period)).sampleStore k (u.sampleRec k e pc mode)) := by
  have hlate : (countsExactly (s.get DBG_SMPs_CFG_EVENT k) &&
      decide (countFrom (s.dbg.sampleBase.getD k 0) (ngetD s.dbg.counters (s.get DBG_SMPs_CFG_EVENT k) 0) <
        max 1 (s.get DBG_SMPs_PERIOD_PERIOD k))) = false := by
    cases hexact : countsExactly (s.get DBG_SMPs_CFG_EVENT k)
    · rfl
    · rw [Bool.true_and, decide_eq_false_iff_not]
      exact Nat.not_lt.mpr (hdue hexact)
  rw [State.samplerSample]
  refine if_neg ?_
  rw [hlate, hcounts, hcore, hen, decide_eq_false (by omega : ¬ 8 ≤ k)]
  exact Bool.false_ne_true

/-- The fields of a record's word are the sampler, the hart, the mode and what is hidden. -/
theorem sampleInfo_fields {k h m : Nat} (hk : k < 8) (hh : h < 12) (hm : m < 8) (hide : Bool) :
    let info := (w32 (k + h * 16 + m * 256 + b2n hide * 2048 + 2147483648)).toNat
    bitsOf info 3 0 = k ∧ bitsOf info 7 4 = h ∧ bitsOf info 10 8 = m ∧ bitOf info 11 = hide ∧ bitOf info 31 = true := by
  have hw : (w32 (k + h * 16 + m * 256 + b2n hide * 2048 + 2147483648)).toNat =
      k + h * 16 + m * 256 + b2n hide * 2048 + 2147483648 := by
    rw [w32, BitVec.toNat_ofNat]
    cases hide <;> simp only [b2n, if_true, Bool.false_eq_true, if_false] <;> omega
  rw [hw]
  simp only [bitsOf, bitOf]
  cases hide <;> simp only [b2n, if_true, Bool.false_eq_true, if_false] <;> refine ⟨?_, ?_, ?_, ?_, ?_⟩ <;> simp <;> omega

theorem State.sampleRec_fields (s : State) {k e : Nat} (hk : k < 8) (he : e < 384) (pc mode : Nat) :
    let hide := !(s.flag DBG_SMPs_CFG_WORLD k) && s.hartSecure (e / 32)
    let r := s.sampleRec k e pc mode
    r.time = s.td0 ∧ r.pc = (if hide then 0 else pc % 2 ^ 64) ∧ bitsOf r.info.toNat 3 0 = k ∧ bitsOf r.info.toNat 7 4 = e / 32 ∧
      bitsOf r.info.toNat 10 8 = mode % 8 ∧ bitOf r.info.toNat 11 = hide ∧ bitOf r.info.toNat 31 = true := by
  intro hide r
  have hrec : r = { info := w32 (k + e / 32 * 16 + mode % 8 * 256 + b2n hide * 2048 + 2147483648)
                    pc := if hide then 0 else pc % 2 ^ 64, time := s.td0 } := by
    have hfull : ¬ 384 ≤ e := Nat.not_le.mpr he
    simp only [r, hide, State.sampleRec, decide_eq_true he, Bool.true_and, if_pos he, hfull, or_false]
  rw [hrec]
  exact ⟨rfl, rfl, sampleInfo_fields hk (by omega) (by omega) hide⟩

/-- A sample later than those in the FIFO is the last of them. -/
theorem sampleEnter_latest {l : List Sample} {r : Sample} (hl : ∀ x ∈ l, x.time ≠ r.time) : sampleEnter l r = l ++ [r] := by
  have hlater : l.reverse.takeWhile (fun x => x.time == r.time && decide (r.info.toNat % 8 < x.info.toNat % 8)) = [] := by
    cases hrev : l.reverse with
    | nil => rfl
    | cons x m =>
      have hx : x ∈ l := List.mem_reverse.mp (by rw [hrev]; exact List.mem_cons_self)
      rw [List.takeWhile_cons, beq_eq_false_iff_ne.mpr (hl x hx)]
      rfl
  simp only [sampleEnter, hlater, List.length_nil, Nat.sub_zero, List.take_length, List.drop_length, List.append_nil]

theorem State.sampleStore_enters {s : State} {k : Nat} {r : Sample} (hroom : s.dbg.samples.length < 64)
    (hlate : ∀ x ∈ s.dbg.samples, x.time ≠ r.time) :
    s.sampleStore k r =
      ({ s with dbg := { s.dbg with samples := s.dbg.samples ++ [r] } } : State).setBitOf DBG_EVT_SAMPLE k := by
  rw [State.sampleStore, if_neg (Nat.not_le.mpr hroom), sampleEnter_latest hlate]

/-- To a reader without the enable of its world the words of a log read zero, but the oldest entry leaves the log (R531). -/
theorem rowRead_log_blind {s t : State} {i : Init} {k : Nat} (hk : k < 14) {r : Reg} (hr : r ∈ slotRegs k)
    (hs : r.inSlot k = true) {x j len : Nat} {ws : List Word} (hv : valueOf r (r.addr x j) j = (r.addr x j, len)) (hl : 1 < len)
    (hh : s.logHead (r.addr x j) = some (ws, t)) (hrc : r.rc = 0) (hbl : s.blind i r x = true)
    (hne : r.addr x j ≠ TBU_TSQ_INFO.addr 0 0) (hb : isBuffer (r.addr x j) = false) (hx : x < r.n1) (hj : j < r.n2)
    (h : s.reaches i r x j false = true) :
    s.rowRead i r x j = (t.latchFor i (r.addr x j) (ws.map fun _ => 0)).answer (some (leBytes 4 0)) := by
  have hread : s.readReg i (r.addr x j) = (0, t.latchFor i (r.addr x j) (ws.map fun _ => 0)) := by
    obtain ⟨-, -, hworld, -, hlive⟩ := reaches_parts h
    have hopen : ¬ (r.world = .S ∧ i.secure = false) := by
      rintro ⟨e1, e2⟩
      simp [e1, e2] at hworld
    have hvalue : s.readValue i.secure r (r.addr x j) len x = (ws, t) := by rw [State.readValue, hh]
    have hclear : t.clearRead r x j = t := by rw [State.clearRead, hrc, if_pos rfl]
    have hqueue : decide (r.addr x j = 0x45000040) = false := decide_eq_false hne
    have hfirst : (ws.map fun _ => (0 : Word)).headD 0 = 0 := by cases ws <;> rfl
    rw [State.readReg, regAt_addr hk hr hs hx hj]
    simp only [if_neg hopen, hlive, Bool.not_true, Bool.false_eq_true, if_false, hv, if_neg (Nat.not_le.mpr hl), if_true, hvalue,
      hbl, hclear, hqueue, Bool.false_and, hfirst] <;> rfl
  rw [rowRead_reaches hk hr hs hb hx hj h, hread]
  rfl

/-- The oldest sample is answered by its first word, or by zero, and leaves the FIFO. -/
theorem rowRead_smpInfo {s : State} {a : Init} (hreach : s.reaches a DBG_SMP_INFO 0 0 false = true) {x : Sample}
    {l : List Sample} (hx : s.dbg.samples = x :: l) :
    ∃ u : State, s.rowRead a DBG_SMP_INFO =
        u.answer (some (leBytes 4 (if s.blind a DBG_SMP_INFO 0 then 0 else x.info.toNat))) ∧
      u.dbg = { s.dbg with samples := l } ∧ u.mem = s.mem ∧ u.regs = s.regs := by
  have hhead : s.logHead (DBG_SMP_INFO.addr 0 0) =
      some (x.info :: (words2 x.pc ++ words2 x.time), { s with dbg := { s.dbg with samples := l } }) := by
    change (match s.dbg.samples with | [] => _ | e :: l => _) = _
    rw [hx]
  cases hblind : s.blind a DBG_SMP_INFO 0
  · have hread := rowRead_log (k := 13) (len := 5) (by decide) (by decide) (by decide) rfl (by decide) hhead rfl hblind (by rfl)
      (isBuffer_of_outside (by decide)) (by decide) (by decide) hreach
    exact ⟨_, hread, rfl, rfl, rfl⟩
  · have hread := rowRead_log_blind (k := 13) (len := 5) (by decide) (by decide) (by decide) rfl (by decide) hhead rfl hblind
      (by decide) (isBuffer_of_outside (by decide)) (by decide) (by decide) hreach
    exact ⟨_, hread, rfl, rfl, rfl⟩

/-! ### The statement -/

/-- Settles O60: the rules of the abstract commands, the bus and the loader, and of the samplers. -/
theorem debugAccess : Obligations.DebugAccess := by
  unfold Obligations.DebugAccess
  intro s
  refine ⟨?refused, ?register, ?bus, ?shift, ?image, ?sampler, ?record, ?store, ?info⟩
  case refused =>
    intro h mem at_ w size v post hup hhart
    rw [exec_abstractCommand]
    exact ends_of_eq (State.abstractCommand_refused hup hhart mem at_ w size v post)
  case register =>
    intro h n size v post hup huser hhalt hlow hn hsize u
    have hmod : n % 65536 = n := Nat.mod_eq_of_lt (by omega)
    constructor
    · intro x w
      rw [exec_abstractCommand]
      refine ends_of_eq ?_
      rw [State.abstractCommand_register hup huser hhalt, hmod, State.abstractReg_writes _ hlow hn hsize]
      cases post <;> rfl
    · intro x hx w
      rw [exec_abstractCommand]
      refine ends_of_eq ?_
      rw [State.abstractCommand_register hup huser hhalt, hmod, State.abstractReg_reads hlow hn hsize v (u := s.dbgSelect h) hx]
      cases post <;> rfl
  case bus =>
    intro w addr size v hup u
    constructor
    · intro hbad
      rw [exec_systemBusAccess]
      exact ends_of_eq (State.systemBus_refused hup hbad w v)
    · intro hinv hsize halign d t hread
      rw [exec_systemBusAccess]
      exact ends_of_eq (State.systemBus_reads hup hinv hsize halign v hread)
  case shift =>
    intro w htap t
    refine ⟨State.tapScan_loader_shows s, ?_, ?_⟩
    · intro hserves
      rw [exec_loaderShift]
      exact ends_of_eq (State.loaderShift_unserved htap hserves w)
    · intro hserves hphase
      rw [exec_loaderShift]
      exact ⟨fun hlen hpos hunits hroom => ends_of_eq (State.loaderShift_length htap hserves hphase hlen hpos hunits hroom),
        fun hlen => ends_of_eq (State.loaderShift_word htap hserves hphase hlen w)⟩
  case image =>
    intro hserves hphase
    rw [exec_loaderImageDone]
    exact ends_of_eq ((State.loaderDone_serves hserves hphase).trans (by cases s.verifyBoot s.dbg.loader <;> rfl))
  case sampler =>
    intro k pc mode hk hcore hen e period base gone hcounts hdue u
    rw [exec_samplerSample]
    exact ends_of_eq (State.samplerSample_due hk hcore hen hcounts hdue pc mode)
  case record =>
    intro k e pc mode hk he
    exact State.sampleRec_fields s hk he pc mode
  case store =>
    intro k r
    exact ⟨State.sampleStore_enters, fun hfull => if_pos hfull⟩
  case info =>
    intro a hreach x l hx
    obtain ⟨u, hread, hdbg, hmem, hregs⟩ := rowRead_smpInfo hreach hx
    rw [exec_smpInfoRead]
    exact ⟨u, ends_of_eq hread, hdbg, hmem, hregs⟩

end Sys2Proof.Machine
end

section
/-!
# Lifecycle, keys, jobs, debug tokens, secure calls and islands

Each clause is a rule of one operation of the secure world or of an island's vote; `State.phase` says that the core die runs on
after an operation that completes a command or takes an island down.
-/

namespace Sys2Proof.Machine

theorem exec_lcCtrlWrite (a : Init) (v : Word) (ok : Bool) (s : State) :
    exec (.lcCtrlWrite a v ok) s = s.ends (s.lcWrite a v ok) := rfl
theorem exec_keyLoad (a : Init) (v : Word) (s : State) :
    exec (.keyLoad a v) s = s.ends (s.rowWrite a SEC_KEY_CTRL (putBits v 9 8 1)) := rfl
theorem exec_keyDerive (a : Init) (v : Word) (s : State) :
    exec (.keyDerive a v) s = s.ends (s.rowWrite a SEC_KEY_CTRL (putBits v 9 8 2)) := rfl
theorem exec_keyClear (a : Init) (v : Word) (s : State) :
    exec (.keyClear a v) s = s.ends (s.rowWrite a SEC_KEY_CTRL (putBits v 9 8 3)) := rfl
theorem exec_jobGo (a : Init) (v : Word) (s : State) :
    exec (.jobGo a v) s = s.ends (s.rowWrite a SEC_JOB_CTRL (putBits v 0 0 1)) := rfl
theorem exec_jobDone (s : State) : exec .jobDone s = s.ends s.jobDone := rfl
theorem exec_debugToken (tok : List Byte) (ok : Bool) (s : State) :
    exec (.debugToken tok ok) s = s.ends (s.debugToken tok ok) := rfl
theorem exec_callAnswer (a : Init) (v : Word) (s : State) :
    exec (.callAnswer a v) s = s.ends (s.rowWrite a SEC_CALL_ANSw v 3) := rfl
theorem exec_callTimeout (s : State) : exec .callTimeout s = s.ends s.callTimeout := rfl
theorem exec_islandVoteWrite (a : Init) (i : Nat) (v : Word) (s : State) :
    exec (.islandVoteWrite a i v) s = s.ends (s.rowWrite a PCS_ISLi_VOTE v i) := rfl
theorem exec_islandReturn (i : Nat) (s : State) : exec (.islandReturn i) s = s.ends (s.islandReturn i) := rfl

/-! ### Fields of a word of which one field was put -/

theorem putBits_toNat_testBit (v : Word) {hi lo : Nat} (hle : lo ≤ hi) (x : Nat) {j : Nat} (hj : j < 32) :
    (putBits v hi lo x).toNat.testBit j = if lo ≤ j ∧ j ≤ hi then x.testBit (j - lo) else v.toNat.testBit j := by
  rw [putBits, w32, BitVec.toNat_ofNat, Nat.testBit_mod_two_pow, decide_eq_true hj, Bool.true_and, testBit_setBits _ _ _ hle]

theorem bitsOf_putBits_same (v : Word) {hi lo : Nat} (hle : lo ≤ hi) (hhi : hi < 32) (x : Nat) :
    bitsOf (putBits v hi lo x).toNat hi lo = x % 2 ^ (hi + 1 - lo) := by
  refine Nat.eq_of_testBit_eq fun j => ?_
  rw [testBit_bitsOf, Nat.testBit_mod_two_pow]
  by_cases hj : j < hi + 1 - lo
  · rw [putBits_toNat_testBit v hle x (by omega), if_pos (by omega), Nat.add_sub_cancel_left]
  · rw [decide_eq_false hj, Bool.false_and, Bool.false_and]

theorem bitsOf_putBits_other (v : Word) {hi lo hi' lo' : Nat} (hle : lo ≤ hi) (hhi : hi' < 32) (hout : hi' < lo ∨ hi < lo')
    (x : Nat) : bitsOf (putBits v hi lo x).toNat hi' lo' = bitsOf v.toNat hi' lo' := by
  refine Nat.eq_of_testBit_eq fun j => ?_
  rw [testBit_bitsOf, testBit_bitsOf]
  by_cases hj : j < hi' + 1 - lo'
  · rw [putBits_toNat_testBit v hle x (by omega), if_neg (by omega)]
  · rw [decide_eq_false hj, Bool.false_and, Bool.false_and]

/-! ### The lifecycle and the key slots -/

/-- A write of the lifecycle register that the gatekeeper admits, from the secure world. -/
theorem State.lcWrite_admitted {s : State} {a : Init} (hcore : s.coreRuns = true) (hstall : s.stalled a = false)
    (hok : s.accessOk a (SEC_LC_CTRL.addr 0 0) 4 true = (true, s)) (hsecure : a.secure = true) (v : Word) (ok : Bool) :
    s.lcWrite a v ok = (s.writeLcCtrl v ok).answer (some []) := by
  simp only [State.lcWrite, hcore, hstall, hok, hsecure, Bool.not_true, Bool.or_self, Bool.false_eq_true, if_false, if_true]

/-- Action `c` of the key slots' register, with the slot that the word names. -/
theorem rowWrite_keyCtrl {s t : State} {a : Init} (hreach : s.reaches a SEC_KEY_CTRL 0 0 true = true) (v : Word) {c : Nat}
    (heff : s.writeKeyCtrl (putBits v 9 8 c) = t) (hpcs : t.pcs = s.pcs) :
    s.rowWrite a SEC_KEY_CTRL (putBits v 9 8 c) = t.answer (some []) := by
  have hwrite : s.writeReg a SEC_KEY_CTRL (SEC_KEY_CTRL.addr 0 0) 0 0 (putBits v 9 8 c) = t := by
    rw [← heff]
    unfold State.writeReg
    rw [Reg.slotOf_addr (k := 10) (by decide) (by decide) (by decide)]
    rfl
  exact rowWrite_effect hreach hwrite ((coreRuns_congr hpcs).trans (reaches_runs hreach)) (k := 10) (by decide) (by decide)
    (by decide) (by decide) (by decide) (isBuffer_of_outside (by decide)) (by decide) (by decide)

theorem keySlot_putBits (v : Word) (c : Nat) : bitsOf (putBits v 9 8 c).toNat 4 0 = v.toNat % 32 := by
  rw [bitsOf_putBits_other v (by decide) (by decide) (by decide), bitsOf, Nat.pow_zero, Nat.div_one]
  rfl

theorem State.writeKeyCtrl_load (s : State) (v : Word) :
    s.writeKeyCtrl (putBits v 9 8 1) = s.setKey (v.toNat % 32) { loaded := true, key := s.keyBytes } := by
  simp only [State.writeKeyCtrl, keySlot_putBits, bitsOf_putBits_same v (show 8 ≤ 9 by decide) (by decide)] <;> rfl

theorem State.writeKeyCtrl_derive (s : State) (v : Word) :
    s.writeKeyCtrl (putBits v 9 8 2) = if s.lc = lcReturn then s
      else s.setKey (v.toNat % 32) { loaded := true, key := Config.shake256 (Config.dus ++ s.keyBytes) 32 } := by
  simp only [State.writeKeyCtrl, keySlot_putBits, bitsOf_putBits_same v (show 8 ≤ 9 by decide) (by decide)] <;> rfl

theorem State.writeKeyCtrl_clear (s : State) (v : Word) :
    s.writeKeyCtrl (putBits v 9 8 3) = s.setKey (v.toNat % 32) {} := by
  simp only [State.writeKeyCtrl, keySlot_putBits, bitsOf_putBits_same v (show 8 ≤ 9 by decide) (by decide)] <;> rfl

/-! ### Jobs of the engines -/

/-- GO with what it makes of the state. -/
theorem rowWrite_jobGo {s t : State} {a : Init} (hreach : s.reaches a SEC_JOB_CTRL 0 0 true = true) (v : Word)
    (heff : s.writeJobCtrl (putBits v 0 0 1) = t) (hpcs : t.pcs = s.pcs) :
    s.rowWrite a SEC_JOB_CTRL (putBits v 0 0 1) = t.answer (some []) := by
  have hwrite : s.writeReg a SEC_JOB_CTRL (SEC_JOB_CTRL.addr 0 0) 0 0 (putBits v 0 0 1) = t := by
    rw [← heff]
    unfold State.writeReg
    rw [Reg.slotOf_addr (k := 10) (by decide) (by decide) (by decide)]
    rfl
  exact rowWrite_effect hreach hwrite ((coreRuns_congr hpcs).trans (reaches_runs hreach)) (k := 10) (by decide) (by decide)
    (by decide) (by decide) (by decide) (isBuffer_of_outside (by decide)) (by decide) (by decide)

theorem State.writeJobCtrl_running {s : State} (hjob : s.sec.job.isSome = true) (v : Word) : s.writeJobCtrl v = s :=
  if_pos (Or.inr hjob)

/-- BUSY is a bit of the control register, and no word of the job. -/
theorem State.rd_job_of_busy (s : State) (w : Nat) (hw : w < 16) : (s.setFlag SEC_JOB_CTRL_BUSY true).rd SEC_JOBw w = s.rd SEC_JOBw w := by
  rw [State.setFlag, State.set]
  refine rd_wr_other _ _ ?_
  simp only [Reg.addr, SEC_JOBw, SEC_JOB_CTRL, SEC_JOB_CTRL_BUSY]
  omega

theorem State.jobWords_of_busy (s : State) :
    ((List.range 16).map fun w => (s.setFlag SEC_JOB_CTRL_BUSY true).rd SEC_JOBw w) = (List.range 16).map fun w => s.rd SEC_JOBw w :=
  List.map_congr_left fun w hw => s.rd_job_of_busy w (List.mem_range.mp hw)

theorem State.writeJobCtrl_go {s : State} (hjob : s.sec.job = none) (v : Word) :
    s.writeJobCtrl (putBits v 0 0 1) =
      if s.penRuns 32 then
        let u := s.setFlag SEC_JOB_CTRL_BUSY true
        { u with sec := { u.sec with job := some ((List.range 16).map fun w => s.rd SEC_JOBw w) } }
      else s.set SEC_JOB_CTRL_STATUS stHwFault := by
  have hgo : bitOf (putBits v 0 0 1).toNat 0 = true := (bitOf_putBits_one v (by decide)).trans (if_pos rfl)
  rw [State.writeJobCtrl, hgo, hjob, if_neg (by simp), ← State.jobWords_of_busy]
  cases s.penRuns 32
  · exact if_pos rfl
  · exact if_neg Bool.false_ne_true

theorem State.jobDone_ends {s : State} {l : List Word} (hl : s.sec.job = some l) :
    s.jobDone =
      (({ (s.runJob l).2 with sec := { (s.runJob l).2.sec with job := none } } : State).setFlag SEC_JOB_CTRL_BUSY false).set
        SEC_JOB_CTRL_STATUS (s.runJob l).1 := by
  rw [State.jobDone, hl]

/-! ### Debug tokens -/

/-- A token that asks for grants alone gives them where it is accepted, and changes the challenge in any case. -/
theorem State.debugToken_grants {s : State} (hup : s.powerUp = true) (hpower : s.powered 43 = true) {tok : List Byte}
    (hsmall : byteAt tok 6 < 16) (ok : Bool) :
    s.debugToken tok ok =
      (let u := ({ s with dbg := { s.dbg with tapIr := 0x14, token := tok } } : State).setFlag SEC_EVT_DBG_TOKEN true
       (if u.tokenOk tok then ({ u with sec := { u.sec with grants := some (byteAt tok 6 % 16) } } : State)
        else u).newChallenge) := by
  have hbit : ∀ k, 4 ≤ k → bitOf (byteAt tok 6) k = false := fun k hk => by
    have hdiv : byteAt tok 6 / 2 ^ k = 0 := Nat.div_eq_of_lt (lt_of_lt_of_le hsmall (Nat.pow_le_pow_right Nat.two_pos hk))
    rw [bitOf, hdiv]
    rfl
  simp only [State.debugToken, hup, hpower, hbit 4 (by decide), hbit 5 (by decide), Bool.not_true, Bool.or_self,
    Bool.false_eq_true, if_false]

/-! ### Secure calls -/

theorem rowWrite_callAnswer {s t : State} {a : Init} (hreach : s.reaches a SEC_CALL_ANSw 3 0 true = true) {v : Word}
    (heff : ({ s with sec := { s.sec with ans := s.sec.ans.set 3 v } } : State).callAnswer = t) (hphase : t.phase = s.phase) :
    s.rowWrite a SEC_CALL_ANSw v 3 = t.answer (some []) := by
  have hwrite : s.writeReg a SEC_CALL_ANSw (SEC_CALL_ANSw.addr 3 0) 3 0 v = t := by
    rw [← heff]
    unfold State.writeReg
    rw [Reg.slotOf_addr (k := 10) (by decide) (by decide) (by decide)]
    rfl
  exact rowWrite_effect hreach hwrite ((State.coreRuns_of_phase hphase).trans (reaches_runs hreach)) (k := 10) (by decide)
    (by decide) (by decide) (by decide) (by decide) (isBuffer_of_outside (by decide)) (by decide) (by decide)

/-- While no call is overdue, an answer ends the call that it names, and is counted as late where it names none. -/
theorem State.callAnswer_intime {u : State} (hdue : u.sec.calls.any u.overdue = false) :
    u.callAnswer =
      match u.sec.calls.find? fun k => k.seq == (u.sec.ans.getD 0 0).toNat with
      | none => u.inc SEC_CALL_LATE_COUNT
      | some k => u.callEnd k ((u.sec.ans.getD 1 0).toNat % 65536)
          ((u.sec.ans.getD 2 0).toNat + (u.sec.ans.getD 3 0).toNat * 4294967296) := by
  simp only [State.callAnswer, hdue, Bool.false_eq_true, if_false] <;> rfl

theorem State.callEnd_phase (s : State) (k : SecCall) (status result : Nat) : (s.callEnd k status result).phase = s.phase :=
  State.complete_phase ..

/-- The oldest call's time has passed: the secure world goes down, and every call that waits completes UNAVAILABLE. -/
theorem State.callTimeout_goesDown {s u : State} {k : SecCall} {l : List SecCall} (hl : s.sec.calls = k :: l)
    (hu : u = s.until (k.at_ + s.sec.callTo * 1000000 + 2)) (hup : u.sec.down = false) :
    s.callTimeout =
      ((((({ u with sec := { u.sec with down := true, calls := [] } } : State).setFlag SEC_STATUS_SW_DOWN true).setFlag
        SEC_EVT_SW_DOWN true).report 0x200).each u.sec.calls fun w c => w.complete c.cmd stUnavailable 0) := by
  simp only [State.callTimeout, hl]
  rw [← hu, State.secureDown, hup, if_neg Bool.false_ne_true]

/-! ### Islands -/

theorem rowWrite_islandVote {s : State} {a : Init} {i : Nat} (hi : i < 46) (hreach : s.reaches a PCS_ISLi_VOTE i 0 true = true)
    (hsecure : a.secure = true) (v : Word) :
    s.rowWrite a PCS_ISLi_VOTE v i =
      ((s.wr PCS_ISLi_VOTE ((s.rd PCS_ISLi_VOTE i &&& ~~~3) ||| (v &&& 3)) i).islandEval i).answer (some []) := by
  have hwrite : s.writeReg a PCS_ISLi_VOTE (PCS_ISLi_VOTE.addr i 0) i 0 v =
      (s.wr PCS_ISLi_VOTE ((s.rd PCS_ISLi_VOTE i &&& ~~~3) ||| (v &&& 3)) i).islandEval i := by
    unfold State.writeReg
    rw [Reg.slotOf_addr (k := 12) (by decide) hi (by decide)]
    change s.writeVote a (PCS_ISLi_VOTE.addr i 0) i v = _
    simp only [State.writeVote, hsecure, if_true, Bool.not_true, Bool.false_and, Bool.false_eq_true, if_false]
  have hphase := (State.islandEval_phase (s.wr PCS_ISLi_VOTE ((s.rd PCS_ISLi_VOTE i &&& ~~~3) ||| (v &&& 3)) i) i).trans
    (State.wr_phase ..)
  exact rowWrite_effect hreach hwrite ((State.coreRuns_of_phase hphase).trans (reaches_runs hreach)) (k := 12) (by decide)
    (by decide) (by decide) (by decide) (by decide) (isBuffer_of_outside (by simp only [Reg.addr, PCS_ISLi_VOTE]; omega)) hi
    (by decide)

/-- An island of a memory bank that a vote calls for runs when its power is back. -/
theorem State.islandReturn_memory {s : State} {i : Nat} (hcore : s.coreRuns = true) (hlo : 18 ≤ i) (hhi : i ≤ 25)
    (hoff : s.powered i = false) (hvote : s.pwrVoted i = true) (hpen : islPen i = none) :
    s.islandReturn i = (s.setGated i false).setIsl i true := by
  rw [State.islandReturn, if_neg (by simp [hcore, hoff, hvote]; omega), if_neg (by omega), if_neg (by omega), if_neg (by omega), hpen]

/-! ### The statement -/

/-- Settles O54: the rules of the secure world's registers, of the calls and of the islands. -/
theorem keysCallsAndIslands : Obligations.KeysCallsAndIslands := by
  unfold Obligations.KeysCallsAndIslands
  refine ⟨fun s a v => ⟨?lifecycle, ?keys, ?jobRuns, ?jobFenced, ?jobStarts, ?jobEnds, ?token⟩,
    fun s a v => ⟨?answer, ?timeout, ?vote, ?back⟩⟩
  case lifecycle =>
    intro hcore hstall hok hsecure ok
    have hadmit := State.lcWrite_admitted hcore hstall hok hsecure v ok
    rw [exec_lcCtrlWrite]
    refine ⟨fun hconfirm => ends_of_eq ?_, fun hconfirm => ends_of_eq ?_⟩
    · rw [hadmit, State.writeLcCtrl, if_neg hconfirm]
    · rw [hadmit, State.writeLcCtrl, if_pos hconfirm, State.lcAdvance]
  case keys =>
    intro hreach k
    rw [exec_keyLoad, exec_keyDerive, exec_keyClear]
    refine ⟨ends_of_eq (rowWrite_keyCtrl hreach v (s.writeKeyCtrl_load v) rfl),
      ends_of_eq (rowWrite_keyCtrl hreach v (s.writeKeyCtrl_derive v) ?_),
      ends_of_eq (rowWrite_keyCtrl hreach v (s.writeKeyCtrl_clear v) rfl)⟩
    exact State.ite_keeps (p := State.pcs) rfl rfl
  case jobRuns =>
    intro hreach hjob
    rw [exec_jobGo]
    exact ends_of_eq (rowWrite_jobGo hreach v (State.writeJobCtrl_running hjob _) rfl)
  case jobFenced =>
    intro hreach hjob hpen
    rw [exec_jobGo]
    refine ends_of_eq (rowWrite_jobGo hreach v ?_ (State.set_pcs s SEC_JOB_CTRL_STATUS stHwFault 0 0))
    rw [State.writeJobCtrl_go hjob, hpen, if_neg Bool.false_ne_true]
  case jobStarts =>
    intro hreach hjob hpen u
    rw [exec_jobGo]
    refine ends_of_eq (rowWrite_jobGo hreach v ?_ (State.setFlag_pcs s SEC_JOB_CTRL_BUSY true 0 0))
    rw [State.writeJobCtrl_go hjob, hpen, if_pos rfl]
  case jobEnds =>
    intro l hl u
    rw [exec_jobDone]
    exact ends_of_eq (State.jobDone_ends hl)
  case token =>
    intro tok ok hup hpower hsmall u
    rw [exec_debugToken]
    exact ends_of_eq (State.debugToken_grants hup hpower hsmall ok)
  case answer =>
    intro hreach u w hdue
    have heff := State.callAnswer_intime hdue
    rw [exec_callAnswer]
    refine ⟨fun hnone => ends_of_eq (rowWrite_callAnswer hreach ?_ (State.inc_phase ..)), fun k hk => ends_of_eq (rowWrite_callAnswer hreach ?_ ?_)⟩
    · exact heff.trans (by rw [hnone])
    · exact heff.trans (by rw [hk])
    · exact State.callEnd_phase ..
  case timeout =>
    intro k l hl hdown u hu
    rw [exec_callTimeout]
    exact ends_of_eq (State.callTimeout_goesDown hl rfl hu)
  case vote =>
    intro i hi hreach hsecure
    rw [exec_islandVoteWrite]
    exact ends_of_eq (rowWrite_islandVote hi hreach hsecure v)
  case back =>
    intro i hcore hlo hhi hoff hvote hpen
    rw [exec_islandReturn]
    exact ends_of_eq (State.islandReturn_memory hcore hlo hhi hoff hvote hpen)

end Sys2Proof.Machine
end

section
/-!
# The sources of the fault collector

Readings of the error pairs, the registers of the collector, and what an event of a source does: it is recorded, and it fences.
-/

namespace Sys2Proof.Machine

theorem exec_fcuErrorEvent (i : Nat) (s : State) : exec (.fcuErrorEvent i) s = s.ends (s.errorEvent i) := rfl
theorem exec_brokenPair (i : Nat) (s : State) : exec (.brokenPair i) s = s.ends (s.brokenPair i) := rfl
theorem exec_errorSourceIdle (i : Nat) (s : State) : exec (.errorSourceIdle i) s = s.ends (s.sourceIdle i) := rfl
theorem exec_srcCfgWrite (a : Init) (i : Nat) (v : Word) (s : State) :
    exec (.srcCfgWrite a i v) s = s.ends (s.rowWrite a FCU_SRCi_CFG v i) := rfl
theorem exec_srcStateClear (a : Init) (i : Nat) (v : Word) (s : State) :
    exec (.srcStateClear a i v) s = s.ends (s.rowWrite a FCU_SRCi_STATE v i) := rfl
theorem exec_penRelease (a : Init) (n : Nat) (v : Word) (s : State) :
    exec (.penRelease a n v) s = s.ends (s.rowWrite a FCU_PENn_CTRL (putBits v 0 0 1) n) := rfl
theorem exec_fatalSrcClear (a : Init) (v : Word) (s : State) :
    exec (.fatalSrcClear a v) s = s.ends (s.rowWrite a FCU_FATAL_SRC (putBits v 31 31 1)) := rfl
theorem exec_logInfoRead (a : Init) (s : State) : exec (.logInfoRead a) s = s.ends (s.rowRead a FCU_LOG_INFO) := rfl

/-! ### Readings of a source's pair -/

/-- The first reading `error` makes the source active, and is reported: by itself, or as a mismatch of a unit that runs. -/
theorem State.errorEvent_first {s u : State} {i : Nat} (hcore : s.coreRuns = true) (hused : srcUsed i = true)
    (hidle : s.flag FCU_SRCi_STATE_ACTIVE i = false)
    (hu : u = ({ s with fcu := { s.fcu with brokenNow := nerase s.fcu.brokenNow i } } : State).setFlag
      FCU_SRCi_STATE_ACTIVE true i) :
    s.errorEvent i =
      match mismatchUnit i with
      | some k => if u.unitRuns k then u.mismatch k (1 + i % 8) else u.report i
      | none => u.report i := by
  rw [State.errorEvent, hcore, hused, hidle, if_neg (by decide), hu] <;> rfl

theorem State.errorEvent_alone {s u : State} {i : Nat} (hcore : s.coreRuns = true) (hused : srcUsed i = true)
    (hidle : s.flag FCU_SRCi_STATE_ACTIVE i = false)
    (hu : u = ({ s with fcu := { s.fcu with brokenNow := nerase s.fcu.brokenNow i } } : State).setFlag
      FCU_SRCi_STATE_ACTIVE true i)
    (hunit : ∀ k, mismatchUnit i = some k → u.unitRuns k = false) : s.errorEvent i = u.report i := by
  rw [State.errorEvent_first hcore hused hidle hu]
  cases hk : mismatchUnit i with
  | none => rfl
  | some k => exact if_neg (by rw [hunit k hk]; exact Bool.false_ne_true)

theorem State.errorEvent_mismatch {s u : State} {i k : Nat} (hcore : s.coreRuns = true) (hused : srcUsed i = true)
    (hidle : s.flag FCU_SRCi_STATE_ACTIVE i = false)
    (hu : u = ({ s with fcu := { s.fcu with brokenNow := nerase s.fcu.brokenNow i } } : State).setFlag
      FCU_SRCi_STATE_ACTIVE true i)
    (hk : mismatchUnit i = some k) (hunit : u.unitRuns k = true) : s.errorEvent i = u.mismatch k (1 + i % 8) := by
  rw [State.errorEvent_first hcore hused hidle hu, hk]
  exact if_pos hunit

/-- The reading `broken` ends the reading `error`, and is reported as such. -/
theorem State.brokenPair_first {s : State} {i : Nat} (hcore : s.coreRuns = true) (hused : srcUsed i = true)
    (hnew : nfind s.fcu.brokenNow i = none) :
    s.brokenPair i =
      (let u := s.setFlag FCU_SRCi_STATE_ACTIVE false i
       let l := u.fcu.todo ++ [{ src := i, broken := true }]
       { u with fcu := { u.fcu with brokenNow := nset u.fcu.brokenNow i (), todo := l } }) := by
  rw [State.brokenPair, hcore, hused, hnew, if_neg (by decide)]

theorem State.sourceIdle_ends {s : State} {i : Nat} (hcore : s.coreRuns = true) (hused : srcUsed i = true) :
    s.sourceIdle i =
      (let u := s.setFlag FCU_SRCi_STATE_ACTIVE false i
       { u with fcu := { u.fcu with brokenNow := nerase u.fcu.brokenNow i } }) := by
  rw [State.sourceIdle, hcore, hused, if_neg (by decide)]

/-! ### The registers of the collector -/

/-- The line of the configurations lists a reset value for each source, so it is found by its place. -/
theorem mem_slotRegs_srcCfg : FCU_SRCi_CFG ∈ slotRegs 11 := List.mem_of_getElem? (i := 13) rfl

theorem rowWrite_srcCfg {s : State} {a : Init} {i : Nat} (hi : i < 1024) (hreach : s.reaches a FCU_SRCi_CFG i 0 true = true)
    (v : Word) :
    s.rowWrite a FCU_SRCi_CFG v i = (s.wr FCU_SRCi_CFG (fcuMerge i (s.rd FCU_SRCi_CFG i) v) i).answer (some []) := by
  have hwrite : s.writeReg a FCU_SRCi_CFG (FCU_SRCi_CFG.addr i 0) i 0 v =
      s.wr FCU_SRCi_CFG (fcuMerge i (s.rd FCU_SRCi_CFG i) v) i := by
    unfold State.writeReg
    rw [Reg.slotOf_addr (k := 11) (by decide) hi (by decide)]
    rfl
  exact rowWrite_effect hreach hwrite ((State.wr_coreRuns s FCU_SRCi_CFG _ i 0).trans (reaches_runs hreach)) (k := 11) (by decide)
    mem_slotRegs_srcCfg (by decide) (by decide) (by decide)
    (isBuffer_of_outside (by simp only [Reg.addr, FCU_SRCi_CFG]; omega)) hi (by decide)

theorem rowWrite_srcState {s t : State} {a : Init} {i : Nat} (hi : i < 1024)
    (hreach : s.reaches a FCU_SRCi_STATE i 0 true = true) {v : Word} (heff : s.writeSrcState i v = t) (hpcs : t.pcs = s.pcs) :
    s.rowWrite a FCU_SRCi_STATE v i = t.answer (some []) := by
  have hwrite : s.writeReg a FCU_SRCi_STATE (FCU_SRCi_STATE.addr i 0) i 0 v = t := by
    rw [← heff]
    unfold State.writeReg
    rw [Reg.slotOf_addr (k := 11) (by decide) hi (by decide)]
    rfl
  exact rowWrite_effect hreach hwrite ((coreRuns_congr hpcs).trans (reaches_runs hreach)) (k := 11) (by decide) (by decide)
    (by decide) (by decide) (by decide) (isBuffer_of_outside (by simp only [Reg.addr, FCU_SRCi_STATE]; omega)) hi (by decide)

/-- LATCHED of an active source stays, and the refusal is counted. -/
theorem State.writeSrcState_refused {s : State} {i : Nat} {v : Word} (hclear : bitOf v.toNat 1 = true)
    (hkeep : bitOf v.toNat 2 = false) (hlatched : s.flag FCU_SRCi_STATE_LATCHED i = true)
    (hactive : s.flag FCU_SRCi_STATE_ACTIVE i = true) : s.writeSrcState i v = s.inc FCU_STATUS_CLEAR_REFUSED := by
  simp only [State.writeSrcState, hclear, hkeep, hlatched, hactive, Bool.and_self, Bool.false_and, Bool.not_true, Bool.not_false,
    Bool.false_eq_true, if_true, if_false]

theorem State.writeSrcState_cleared {s : State} {i : Nat} {v : Word} (hclear : bitOf v.toNat 1 = true)
    (hkeep : bitOf v.toNat 2 = false) (hlatched : s.flag FCU_SRCi_STATE_LATCHED i = true)
    (hactive : s.flag FCU_SRCi_STATE_ACTIVE i = false) :
    s.writeSrcState i v =
      (({ s with fcu := { s.fcu with escd := nerase s.fcu.escd i } } : State).setFlag FCU_SRCi_STATE_LATCHED false i).set
        FCU_LATCHEDw_LATCHED (setBit (s.get FCU_LATCHEDw_LATCHED (i / 32)) (i % 32) false) (i / 32) := by
  simp only [State.writeSrcState, hclear, hkeep, hlatched, hactive, Bool.and_self, Bool.false_and, Bool.not_true, Bool.not_false,
    Bool.false_eq_true, if_true, if_false]

theorem rowWrite_penRelease {s : State} {a : Init} {p : Nat} (hlo : 9 ≤ p) (hhi : p ≤ 35)
    (hreach : s.reaches a FCU_PENn_CTRL p 0 true = true) (hfenced : s.get FCU_PENn_STATUS_STATE p = 1) (v : Word) :
    s.rowWrite a FCU_PENn_CTRL (putBits v 0 0 1) p = (s.penRelease p 3).answer (some []) := by
  have hp : p < 64 := by omega
  have hbit : bitOf (putBits v 0 0 1).toNat 0 = true := (bitOf_putBits_one v (by decide)).trans (if_pos rfl)
  have heff : s.writePenCtrl p (putBits v 0 0 1) = s.penRelease p 3 := by
    rw [State.writePenCtrl, if_neg]
    rw [hbit, hfenced]
    simp only [Bool.not_true, Bool.false_eq_true, ne_eq, not_true, false_or, or_false]
    omega
  have hwrite : s.writeReg a FCU_PENn_CTRL (FCU_PENn_CTRL.addr p 0) p 0 (putBits v 0 0 1) = s.penRelease p 3 := by
    rw [← heff]
    unfold State.writeReg
    rw [Reg.slotOf_addr (k := 11) (by decide) hp (by decide)]
    rfl
  exact rowWrite_effect hreach hwrite ((State.coreRuns_of_phase (State.penRelease_phase ..)).trans (reaches_runs hreach)) (k := 11)
    (by decide) (by decide) (by decide) (by decide) (by decide) (isBuffer_of_outside (by simp only [Reg.addr, FCU_PENn_CTRL]; omega))
    hp (by decide)

/-- VALID of the fatal record is the one bit that its clearing touches. -/
theorem fatalSrc_written (old v : Word) : FCU_FATAL_SRC.written old (putBits v 31 31 1) = old &&& 0x7FFFFFFF := by
  have hvalid : (putBits v 31 31 1) &&& 0x80000000 = 0x80000000 := by
    refine BitVec.eq_of_toNat_eq (Nat.eq_of_testBit_eq fun j => ?_)
    rw [BitVec.toNat_and, Nat.testBit_and]
    by_cases hj : j = 31
    · rw [hj, putBits_toNat_testBit v (Nat.le_refl 31) 1 (by decide), if_pos ⟨Nat.le_refl 31, Nat.le_refl 31⟩]
      rfl
    · have hzero : (0x80000000 : Word).toNat.testBit j = false := by
        rw [show (0x80000000 : Word).toNat = 2 ^ 31 by decide, Nat.testBit_two_pow_of_ne (Ne.symm hj)]
      rw [hzero, Bool.and_false]
  have hw1c : w32 FCU_FATAL_SRC.w1c = 0x80000000 := rfl
  have hrw : w32 FCU_FATAL_SRC.rw = 0 := rfl
  have hw1s : w32 FCU_FATAL_SRC.w1s = 0 := rfl
  rw [Reg.written, hw1c, hrw, hw1s, hvalid]
  simp only [BitVec.ofNat_eq_ofNat, BitVec.and_zero, BitVec.or_zero, BitVec.not_zero, BitVec.and_allOnes]
  rfl

theorem rowWrite_fatalSrc {s : State} {a : Init} (hreach : s.reaches a FCU_FATAL_SRC 0 0 true = true) (v : Word) :
    s.rowWrite a FCU_FATAL_SRC (putBits v 31 31 1) =
      (s.wr FCU_FATAL_SRC (s.rd FCU_FATAL_SRC &&& 0x7FFFFFFF)).answer (some []) := by
  have hwrite : s.writeReg a FCU_FATAL_SRC (FCU_FATAL_SRC.addr 0 0) 0 0 (putBits v 31 31 1) =
      s.wr FCU_FATAL_SRC (s.rd FCU_FATAL_SRC &&& 0x7FFFFFFF) := by
    rw [← fatalSrc_written (s.rd FCU_FATAL_SRC) v]
    unfold State.writeReg
    rw [Reg.slotOf_addr (k := 11) (by decide) (by decide) (by decide)]
    rfl
  exact rowWrite_effect hreach hwrite ((State.wr_coreRuns ..).trans (reaches_runs hreach)) (k := 11) (by decide) (by decide)
    (by decide) (by decide) (by decide) (isBuffer_of_outside (by decide)) (by decide) (by decide)

/-- The oldest entry of the collector's log is answered by its first word, and leaves the log. -/
theorem rowRead_fcuLog {s : State} {a : Init} (hreach : s.reaches a FCU_LOG_INFO 0 0 false = true) {x : FcuEntry}
    {l : List FcuEntry} (hx : s.fcu.log = x :: l) :
    ∃ u : State, s.rowRead a FCU_LOG_INFO = u.answer (some (leBytes 4 x.info.toNat)) ∧ u.fcu = { s.fcu with log := l } ∧
      u.mem = s.mem ∧ u.regs = s.regs := by
  have hhead : s.logHead (FCU_LOG_INFO.addr 0 0) =
      some (x.info :: words2 x.time, { s with fcu := { s.fcu with log := l } }) := by
    change (match s.fcu.log with | [] => _ | e :: l => _) = _
    rw [hx]
  have hblind : s.blind a FCU_LOG_INFO 0 = false := by
    rw [State.blind]
    cases s.dbg.samples <;> simp [show ¬ (FCU_LOG_INFO.base = DBG_CNTe_LO.base ∨ FCU_LOG_INFO.base = DBG_CNTe_HI.base) by decide,
      show ¬ (DBG_SMP_INFO.base ≤ FCU_LOG_INFO.base ∧ FCU_LOG_INFO.base < DBG_SMP_INFO.base + 20) by decide]
  have hread := rowRead_log (k := 11) (len := 3) (by decide) (by decide) (by decide) rfl (by decide) hhead rfl hblind (by rfl)
    (isBuffer_of_outside (by decide)) (by decide) (by decide) hreach
  exact ⟨_, hread, rfl, rfl, rfl⟩

/-! ### What an event of a source leaves and marks -/

/-- Besides the map of latched sources and the log's status, an event's record is the source's count and its LATCHED. -/
theorem State.srcRecord_rd (s : State) (i cls : Nat) {q : Reg} {x y : Nat}
    (hmap : q.addr x y ≠ FCU_LATCHEDw.addr (i / 32) 0) (hlog : q.addr x y ≠ FCU_LOG_STATUS.addr 0 0) :
    (s.srcRecord i cls false false).rd q x y =
      (((s.count 460).inc FCU_SRCi_STATE_COUNT 1 i).setFlag FCU_SRCi_STATE_LATCHED true i).rd q x y := by
  unfold State.srcRecord
  extract_lets t u v _ w info e full _ z
  have hu : u.rd q x y = t.rd q x y := congrArg (fun r : State => r.rd q x y) (if_neg Bool.false_ne_true)
  have hv : v.rd q x y = u.rd q x y := rd_wr_other u _ hmap
  have hw : w.rd q x y = v.rd q x y := congrArg (fun r : State => r.rd q x y) (if_neg Bool.false_ne_true)
  clear_value w e full
  have hz : z.rd q x y = w.rd q x y := rfl
  have hall : z.rd q x y = t.rd q x y := hz.trans (hw.trans (hv.trans hu))
  exact State.ite_keeps (p := fun r => r.rd q x y) (s := t) ((rd_wr_other z _ hlog).trans hall) hall

theorem State.srcRecord_rd_other (s : State) (i cls : Nat) {q : Reg} {x y : Nat}
    (hstate : q.addr x y ≠ FCU_SRCi_STATE.addr i 0) (hmap : q.addr x y ≠ FCU_LATCHEDw.addr (i / 32) 0)
    (hlog : q.addr x y ≠ FCU_LOG_STATUS.addr 0 0) : (s.srcRecord i cls false false).rd q x y = s.rd q x y :=
  (s.srcRecord_rd i cls hmap hlog).trans
    ((rd_wr_other _ _ hstate).trans ((rd_wr_other _ _ hstate).trans (State.count_rd ..)))

theorem State.srcRecord_cfg (s : State) {i : Nat} (hi : i < 1024) (cls k : Nat) (hk : k < 1024) :
    (s.srcRecord i cls false false).rd FCU_SRCi_CFG k = s.rd FCU_SRCi_CFG k :=
  s.srcRecord_rd_other i cls (by simp only [Reg.addr, FCU_SRCi_CFG, FCU_SRCi_STATE]; omega)
    (by simp only [Reg.addr, FCU_SRCi_CFG, FCU_LATCHEDw]; omega)
    (by simp only [Reg.addr, FCU_SRCi_CFG, FCU_LOG_STATUS]; omega)

theorem State.srcRecord_latched (s : State) {i : Nat} (hi : i < 1024) (cls : Nat) :
    (s.srcRecord i cls false false).flag FCU_SRCi_STATE_LATCHED i = true := by
  have hrd := s.srcRecord_rd i cls (q := FCU_SRCi_STATE) (x := i) (y := 0)
    (by simp only [Reg.addr, FCU_SRCi_STATE, FCU_LATCHEDw]; omega) (by simp only [Reg.addr, FCU_SRCi_STATE, FCU_LOG_STATUS]; omega)
  have hset := ((s.count 460).inc FCU_SRCi_STATE_COUNT 1 i).flag_setFlag_same (f := FCU_SRCi_STATE_LATCHED) rfl (by decide) true i 0
  rw [← hset, State.flag, State.flag, State.get, State.get]
  exact congrArg (fun w : Word => bitsOf w.toNat 1 1 == 1) hrd

/-- A latched source that calls for ERR_N asserts it. -/
theorem State.latchedErrn_of_flag {s : State} {i : Nat} (hi : i < 1024) (hlatched : s.flag FCU_SRCi_STATE_LATCHED i = true)
    (herrn : s.flag FCU_SRCi_CFG_ERRN i = true) : s.latchedErrn = true := by
  have hbit : bitOf (s.rd FCU_SRCi_STATE i).toNat 1 = true := hlatched
  have hword : nfind s.regs (FCU_SRCi_STATE.addr i 0) = some (s.rd FCU_SRCi_STATE i) := by
    rw [State.rd, ngetD] at hbit ⊢
    cases hfind : nfind s.regs (FCU_SRCi_STATE.addr i 0) with
    | some w => rfl
    | none =>
      have hreset : FCU_SRCi_STATE.resetAt i = 0 := rfl
      rw [hfind, Option.getD_none, hreset] at hbit
      exact absurd hbit (by decide)
  have haddr : FCU_SRCi_STATE.addr i 0 = 0x4B002000 + 4 * i := rfl
  have hindex : (FCU_SRCi_STATE.addr i 0 - 0x4B002000) / 4 = i := by omega
  have hrange : decide (0x4B002000 ≤ FCU_SRCi_STATE.addr i 0 ∧ FCU_SRCi_STATE.addr i 0 < 0x4B003000) = true :=
    decide_eq_true (by omega)
  refine List.any_eq_true.mpr ⟨_, mem_of_nfind hword, ?_⟩
  simp only [hbit, hindex, hrange, herrn, Bool.true_or, Bool.and_self]

theorem State.srcRecord_errnWanted (s : State) {i : Nat} (hi : i < 1024) (cls : Nat)
    (herrn : s.flag FCU_SRCi_CFG_ERRN i = true) : (s.srcRecord i cls false false).errnWanted = true := by
  have hflag : (s.srcRecord i cls false false).flag FCU_SRCi_CFG_ERRN i = true := by
    rw [← herrn]
    exact congrArg (fun w : Word => bitsOf w.toNat 4 4 == 1) (s.srcRecord_cfg hi cls i hi)
  rw [State.errnWanted, State.latchedErrn_of_flag hi (s.srcRecord_latched hi cls) hflag]
  rfl

/-! ### Events by their class -/

theorem srcUsed_lt {i : Nat} (h : srcUsed i = true) : i < 1024 := by
  rw [srcUsed, Bool.and_eq_true] at h
  exact of_decide_eq_true h.1

/-- A corrected event below its escalation is recorded, and nothing more. -/
theorem State.fcuEvent_corrected {s : State} {i : Nat} (hused : srcUsed i = true)
    (hpen : s.penFenced (s.get FCU_SRCi_CFG_PEN i) = false) (hclass : s.get FCU_SRCi_CFG_CLASS i = 0)
    (hesc : s.get FCU_SRCi_CFG_ESC_N i = 0) : s.fcuEvent { src := i } = s.srcRecord i 0 false false := by
  simp only [State.fcuEvent, hused, hpen, hclass, State.escalate, hesc, Bool.not_true, Bool.false_eq_true, if_false, if_true,
    ne_eq, not_true, or_true, Nat.zero_le, Nat.min_eq_right]

/-- An uncorrected event of a source that fences is recorded and fences its pen. -/
theorem State.fcuEvent_fences {s : State} {i : Nat} (hused : srcUsed i = true)
    (hpen : s.penFenced (s.get FCU_SRCi_CFG_PEN i) = false) (hclass : s.get FCU_SRCi_CFG_CLASS i = 1)
    (hp : s.get FCU_SRCi_CFG_PEN i ≠ 0) (hfence : s.flag FCU_SRCi_CFG_FENCE i = true) :
    s.fcuEvent { src := i } = (s.srcRecord i 1 false false).fencePen (s.get FCU_SRCi_CFG_PEN i) i false := by
  have hi := srcUsed_lt hused
  have hflag : (s.srcRecord i 1 false false).flag FCU_SRCi_CFG_FENCE i = true := by
    rw [← hfence]
    exact congrArg (fun w : Word => bitsOf w.toNat 3 3 == 1) (s.srcRecord_cfg hi 1 i hi)
  have hone : min 2 1 = 1 := rfl
  simp only [State.fcuEvent, hused, hpen, hclass, State.escalate, hone, Bool.not_true, Bool.false_eq_true, if_false, if_true,
    ne_eq, not_true, Nat.one_ne_zero, not_false_eq_true, true_or, hp, hflag, decide_true, Bool.and_self]

/-! ### The statement -/

/-- Settles O55: the readings, the registers, and the record that an event leaves. -/
theorem faultSources : Obligations.FaultSources := by
  unfold Obligations.FaultSources
  refine ⟨fun s a i v => ⟨?readings, ?config, ?state, ?pen, ?fatal, ?log⟩, fun s i hused => ?event⟩
  case readings =>
    intro hcore hused
    rw [exec_fcuErrorEvent, exec_brokenPair, exec_errorSourceIdle]
    refine ⟨fun hidle => ⟨fun hunit => ?_, fun k hk hunit => ?_⟩, fun hnew => ?_, ?_⟩
    · exact ends_of_eq (State.errorEvent_alone hcore hused hidle rfl hunit)
    · exact ends_of_eq (State.errorEvent_mismatch hcore hused hidle rfl hk hunit)
    · exact ends_of_eq (State.brokenPair_first hcore hused hnew)
    · exact ends_of_eq (State.sourceIdle_ends hcore hused)
  case config =>
    intro hi hreach
    rw [exec_srcCfgWrite]
    exact ends_of_eq (rowWrite_srcCfg hi hreach v)
  case state =>
    intro hi hreach hclear hkeep hlatched
    rw [exec_srcStateClear]
    refine ⟨fun hactive => ends_of_eq (rowWrite_srcState hi hreach (State.writeSrcState_refused hclear hkeep hlatched hactive) ?_),
      fun hactive => ends_of_eq (rowWrite_srcState hi hreach (State.writeSrcState_cleared hclear hkeep hlatched hactive) ?_)⟩
    · exact State.set_pcs ..
    · exact (State.set_pcs ..).trans (State.setFlag_pcs ..)
  case pen =>
    intro p hlo hhi hreach hfenced
    rw [exec_penRelease]
    exact ends_of_eq (rowWrite_penRelease hlo hhi hreach hfenced v)
  case fatal =>
    intro hreach
    rw [exec_fatalSrcClear]
    exact ends_of_eq (rowWrite_fatalSrc hreach v)
  case log =>
    intro hreach x l hx
    obtain ⟨u, hread, hfcu, hmem, hregs⟩ := rowRead_fcuLog hreach hx
    rw [exec_logInfoRead]
    exact ⟨u, ends_of_eq hread, hfcu, hmem, hregs⟩
  case event =>
    have hi := srcUsed_lt hused
    exact fun hpen => ⟨State.fcuEvent_corrected hused hpen, State.fcuEvent_fences hused hpen, s.srcRecord_latched hi 1,
      s.srcRecord_errnWanted hi 1⟩

end Sys2Proof.Machine
end

section
/-!
# Resets and boot

The steps of boot in their order, from the arrival of VBAT to the end of boot. The end of boot starts the networks and may bring
the secure world down; neither moves how far boot has come, the instant, or the words in which hardware shows it.
-/

namespace Sys2Proof.Machine

theorem exec_powerOn (s : State) : exec .powerOn s = s.ends s.powerOn := rfl
theorem exec_vbatLoss (s : State) : exec .vbatLoss s = s.ends s.vbatLoss := rfl
theorem exec_pinReset (s : State) : exec .pinReset s = s.ends s.pinReset := rfl
theorem exec_softwareReset (a : Init) (v : Word) (s : State) :
    exec (.softwareReset a v) s = s.ends (s.rowWrite a PCS_RESET_CTRL (putBits v 0 0 1)) := rfl
theorem exec_coreResetRelease (pins : Nat) (testen : Bool) (rails : Nat) (s : State) :
    exec (.coreResetRelease pins testen rails) s = s.ends (s.coreRelease pins testen rails) := rfl
theorem exec_protectionActive (s : State) : exec .protectionActive s = s.ends s.protectionActive := rfl
theorem exec_hartsReleased (s : State) : exec .hartsReleased s = s.ends s.hartsReleased := rfl
theorem exec_endOfBoot (s : State) : exec .endOfBoot s = s.ends s.endOfBoot := rfl

/-! ### Resets -/

theorem State.powerOn_off {s : State} (hoff : s.pcs.power = .off) :
    s.powerOn = { now := s.now, free := s.free, pending := s.pending, mem := s.mramOnly, sec := { otp := s.sec.otp }
                  fcu := { errnAt := s.now } } :=
  if_neg (not_not.mpr hoff)

theorem State.vbatLoss_on {s : State} (hon : s.pcs.power ≠ .off) : s.vbatLoss = s.vbatOff := if_neg hon

/-- A pin reset of a core die that runs ends LOCKED_RESET and a fatal event's delay with it. -/
theorem State.pinReset_runs {s : State} (hawake : s.asleep = false) (hon : s.pcs.power ≠ .off) (hcore : s.coreRuns = true) :
    s.pinReset =
      (let u : State := { s with fcu := { s.fcu with lockedReset := false, fatalDue := none } }
       { u.coreReset 2 with pcs := { (u.coreReset 2).pcs with porst := false, scanHold := false } }) := by
  have hrun : ({ s with fcu := { s.fcu with lockedReset := false, fatalDue := none } } : State).coreRuns = true := hcore
  rw [State.pinReset, if_neg (by simp [hawake, hon])]
  simp only [hrun, if_true]

theorem State.coreReset_held (s : State) (reason : Nat) : (s.coreReset reason).coreRuns = false := rfl

/-- A software reset is not answered: the core die no longer runs. -/
theorem rowWrite_softwareReset {s : State} {a : Init} (hreach : s.reaches a PCS_RESET_CTRL 0 0 true = true) {v : Word}
    (hconfirm : bitsOf v.toNat 15 8 = 0xA5) : s.rowWrite a PCS_RESET_CTRL (putBits v 0 0 1) = s.coreReset 4 := by
  have hgo : bitOf (putBits v 0 0 1).toNat 0 = true := (bitOf_putBits_one v (by decide)).trans (if_pos rfl)
  have hkeep : bitsOf (putBits v 0 0 1).toNat 15 8 = 0xA5 :=
    (bitsOf_putBits_other v (by decide) (by decide) (by decide) 1).trans hconfirm
  have hcond : (bitOf (putBits v 0 0 1).toNat 0 && bitsOf (putBits v 0 0 1).toNat 15 8 == 0xA5) = true := by
    rw [hgo, hkeep]
    rfl
  have hwrite : s.writeReg a PCS_RESET_CTRL (PCS_RESET_CTRL.addr 0 0) 0 0 (putBits v 0 0 1) = s.coreReset 4 := by
    unfold State.writeReg
    rw [Reg.slotOf_addr (k := 12) (by decide) (by decide) (by decide)]
    exact if_pos hcond
  rw [rowWrite_reaches (k := 12) (by decide) (by decide) (by decide) (by decide) (by decide) (isBuffer_of_outside (by decide))
    (by decide) (by decide) _ hreach, hwrite]
  exact if_neg (by rw [s.coreReset_held 4]; exact Bool.false_ne_true)

/-! ### The reset release and protection -/

theorem State.coreRelease_good {s : State} {pins : Nat} {testen : Bool} {rails : Nat} (hwaits : s.releaseWaits = true)
    (hdue : s.fcu.fatalDue = none) (hgood : suppliesGood pins rails = true) :
    s.coreRelease pins testen rails = (s.until s.pcs.noEarlier).coreBoot pins testen rails :=
  if_neg (by simp [hwaits, hdue, hgood])

theorem State.coreRelease_waits {s : State} {pins : Nat} {testen : Bool} {rails : Nat} (hbad : suppliesGood pins rails = false) :
    s.coreRelease pins testen rails = s :=
  if_pos (by simp [hbad])

theorem State.bootLoad_none {s : State} (hhalf : s.cfg.bootHalf = none) : s.bootLoad = s := by
  rw [State.bootLoad, hhalf]

theorem State.bootLoad_image {s : State} {h : Nat} {c : Commit} {b : BootImg} (hhalf : s.cfg.bootHalf = some h)
    (hcommit : s.commitOf 1 h = some c) (himage : parseBoot (s.imageOf 1 h c.len) = some b) :
    s.bootLoad =
      (s.ddrTrain (memRecord (s.imageOf 1 h c.len) b.comps)).loadComps (s.imageOf 1 h c.len) b.comps := by
  simp only [State.bootLoad, hhalf, hcommit, himage]

/-! ### The words of boot, through the end of commands -/

/-- The words of the power and fault registers that tell of boot. -/
def State.bootWords (s : State) : Word × Word := (s.rd PCS_STATE, s.rd FCU_STATUS)

/-- Both stand at the second word of a 64-byte line. -/
theorem State.wr_bootWords (s : State) (r : Reg) (v : Word) (i j : Nat) (h : r.addr i j % 64 ≠ 4) :
    (s.wr r v i j).bootWords = s.bootWords := by
  have hpcs : (s.wr r v i j).rd PCS_STATE = s.rd PCS_STATE :=
    rd_wr_other s v fun heq => h (by rw [← heq]; decide)
  have hfcu : (s.wr r v i j).rd FCU_STATUS = s.rd FCU_STATUS :=
    rd_wr_other s v fun heq => h (by rw [← heq]; decide)
  rw [State.bootWords, State.bootWords, hpcs, hfcu]

theorem State.set_bootWords (s : State) (f : Fld) (v i j : Nat) (h : f.reg.addr i j % 64 ≠ 4) :
    (s.set f v i j).bootWords = s.bootWords := s.wr_bootWords f.reg _ i j h

theorem State.bootWords_of_busView {s t : State} (h : t.busView = s.busView) : t.bootWords = s.bootWords :=
  congrArg (fun v => v.2.2) h

theorem State.msi_bootWords (s : State) (a id : Nat) : (s.msi a id).bootWords = s.bootWords := by
  rw [State.bootWords, State.msi_rd, State.msi_rd]
  rfl

theorem State.sfEvt_bootWords (s : State) (bit : Nat) : (s.sfEvt bit).bootWords = s.bootWords := by
  unfold State.sfEvt
  extract_lets t
  have ht : t.bootWords = s.bootWords := s.wr_bootWords _ _ 0 0 (by decide)
  rw [← ht]
  exact State.ite_keeps (p := State.bootWords) (State.msi_bootWords ..) rfl

theorem State.qpErr_bootWords (s : State) (fn q code : Nat) : (s.qpErr fn q code).bootWords = s.bootWords :=
  (State.sfEvt_bootWords ..).trans (s.set_bootWords _ _ fn q (by simp only [Reg.addr, SF_QPq_STATUS_ERR, SF_QPq_STATUS]; omega))

theorem State.writeCompletion_bootWords (s : State) (c : Cmd) (status result : Nat) :
    (s.writeCompletion c status result).bootWords = s.bootWords := by
  unfold State.writeCompletion
  extract_lets x d base b t wrap x'
  have hwrite : (t.fnWrite c.fn (base + 16 * x.cqTail) b).2.bootWords = s.bootWords :=
    (State.bootWords_of_busView (t.fnWrite_busView ..)).trans (State.bootWords_of_busView (s.count_busView ..))
  generalize t.fnWrite c.fn (base + 16 * x.cqTail) b = w at hwrite ⊢
  obtain ⟨_ | _, u⟩ := w
  · exact (State.qpErr_bootWords ..).trans hwrite
  · have hset : (u.setQp c.fn c.src x').bootWords = u.bootWords := rfl
    refine Eq.trans ?_ (hset.trans hwrite)
    exact State.ite_keeps (p := State.bootWords) (State.msi_bootWords ..) rfl

theorem State.writeMailbox_bootWords (s : State) (c : Cmd) (status result : Nat) :
    (s.writeMailbox c status result).bootWords = s.bootWords := by
  unfold State.writeMailbox
  extract_lets f b t _ u v
  have ht : t.bootWords = s.bootWords := State.bootWords_of_busView (s.count_busView ..)
  have hu : u.bootWords = t.bootWords := rfl
  have hv : v.bootWords = u.bootWords :=
    u.set_bootWords _ _ c.fn 0 (by simp only [Reg.addr, SF_MBX_STATUS_BUSY, SF_MBX_STATUS]; omega)
  exact (State.msi_bootWords ..).trans (hv.trans (hu.trans ht))

theorem State.complete_bootWords (s : State) (seq status result : Nat) : (s.complete seq status result).bootWords = s.bootWords := by
  unfold State.complete
  cases s.cmd? seq with
  | none => rfl
  | some c =>
    refine State.ite_keeps (p := State.bootWords) rfl ?_
    exact State.ite_keeps (p := State.bootWords) rfl
      (State.ite_keeps (State.writeMailbox_bootWords ..) (State.writeCompletion_bootWords ..))

theorem State.secureDown_bootWords (s : State) : s.secureDown.bootWords = s.bootWords := by
  unfold State.secureDown
  extract_lets calls _ t u v
  have ht : t.bootWords = s.bootWords := rfl
  have hdown : (t.setFlag SEC_STATUS_SW_DOWN true).bootWords = t.bootWords :=
    Prod.ext (rd_wr_other t _ (by decide)) (rd_wr_other t _ (by decide))
  have hu : u.bootWords = (t.setFlag SEC_STATUS_SW_DOWN true).bootWords :=
    State.set_bootWords (t.setFlag SEC_STATUS_SW_DOWN true) SEC_EVT_SW_DOWN 1 0 0 (by decide)
  have hv : v.bootWords = s.bootWords := hu.trans (hdown.trans ht)
  refine State.ite_keeps (p := State.bootWords) rfl (Eq.trans ?_ hv)
  exact State.each_keeps (p := State.bootWords) (fun w k => State.complete_bootWords ..) v calls

/-! ### The harts and the end of boot -/

theorem State.hartsReleased_protection {s : State} (hboot : s.pcs.boot = .protection) :
    s.hartsReleased =
      (let u := (s.bootLoad.each (List.range 7) fun v p => v.pairStart p p 0).appStart 0
       { u with pcs := { u.pcs with boot := .harts, rstout := true }, sf := { u.sf with running := true } }) :=
  if_neg (not_not.mpr hboot)

theorem State.protectionActive_configured {s u v w x : State} (hboot : s.pcs.boot = .configured) (hu : u = s.freeNat.2)
    (hv : v = { u with pcs := { u.pcs with boot := .protection, sdRunning := false
                                           parks := nmap (fun _ (x : Park) => { raw := x.raw }) u.pcs.parks }
                       pda := { u.pda with lost := false, sense := [] }
                       cfg := { u.cfg with entered := s.freeNat.1 % (s.td0 + 1) }
                       tbu := { u.tbu with kettleMs := s.td0 / 1000000 } })
    (hw : w = (v.setFlag PCS_STATE_PROT true).set PCS_BOOT_TIME_PROT (min 65535 ((s.now - s.pcs.bootAt) / 10000)))
    (hx : x = (w.setFlag PDA_CP_STATUS_CP_OK (!s.pda.cpLow)).setFlag PDA_CP_STATUS_UV_DEFER s.pda.cpLow) :
    s.protectionActive = (x.each allCh State.channelBack).subRows := by
  subst hx hw hv hu
  exact if_neg (not_not.mpr hboot)

/-- Boot is done: what hardware shows then. -/
def State.bootEnds (t : State) : State :=
  let u := (t.setFlag PCS_STATE_DONE true).set PCS_BOOT_TIME_DONE (min 65535 ((t.now - t.pcs.bootAt) / 10000))
  let v := u.setFlag FCU_STATUS_BOOT_HOLD false
  { v with pcs := { v.pcs with boot := .done, power := .run } }

theorem State.bootEnds_phase (t : State) : t.bootEnds.phase = (.done, .run, t.pcs.sdMode, t.now) := by
  unfold State.bootEnds
  extract_lets u v
  have hv : v.phase = t.phase := (State.setFlag_phase ..).trans ((State.set_phase ..).trans (State.setFlag_phase ..))
  clear_value v
  have hmode : v.pcs.sdMode = t.pcs.sdMode := congrArg (fun p => p.2.2.1) hv
  have hnow : v.now = t.now := congrArg (fun p => p.2.2.2) hv
  rw [← hmode, ← hnow]
  rfl

theorem State.bootEnds_done (t : State) : t.bootEnds.flag PCS_STATE_DONE = true := by
  have hflag := t.flag_setFlag_same (f := PCS_STATE_DONE) rfl (by decide) true 0 0
  unfold State.bootEnds
  extract_lets u v
  have hu : u.rd PCS_STATE = (t.setFlag PCS_STATE_DONE true).rd PCS_STATE :=
    rd_wr_other (t.setFlag PCS_STATE_DONE true) _ (by decide)
  have hv : v.rd PCS_STATE = u.rd PCS_STATE := rd_wr_other u _ (by decide)
  have hword := hv.trans hu
  clear_value v
  rw [← hflag]
  exact congrArg (fun w : Word => bitsOf w.toNat 5 5 == 1) hword

theorem State.bootEnds_hold (t : State) : t.bootEnds.flag FCU_STATUS_BOOT_HOLD = false := by
  unfold State.bootEnds
  extract_lets u v
  clear_value u
  exact u.flag_setFlag_same (f := FCU_STATUS_BOOT_HOLD) rfl (by decide) false 0 0

/-- The networks have started, and boot ends, before the secure world is judged. -/
def State.booted (s : State) : State := (s.each (List.range 8) fun u c => u.canApply c [] []).netsBoot.linsBoot.bootEnds

theorem State.endOfBoot_harts {s : State} (hboot : s.pcs.boot = .harts) :
    s.endOfBoot = if s.booted.get SEC_WORLD_MAP_MAP == 0 || !(s.booted.flag SEC_CALL_CFG_EN) then s.booted.secureDown else s.booted :=
  if_neg (not_not.mpr hboot)

theorem State.booted_phase (s : State) : s.booted.phase = (.done, .run, s.pcs.sdMode, s.now) := by
  have hphase : ((s.each (List.range 8) fun u c => u.canApply c [] []).netsBoot.linsBoot).phase = s.phase :=
    (State.linsBoot_phase _).trans ((State.netsBoot_phase _).trans (State.each_phase _ _ fun u c => State.canApply_phase ..))
  rw [State.booted]
  generalize (s.each (List.range 8) fun u c => u.canApply c [] []).netsBoot.linsBoot = t at hphase ⊢
  have hmode : t.pcs.sdMode = s.pcs.sdMode := congrArg (fun p => p.2.2.1) hphase
  have hnow : t.now = s.now := congrArg (fun p => p.2.2.2) hphase
  rw [State.bootEnds_phase, hmode, hnow]

/-- The flags of boot's words, from the words. -/
theorem State.bootFlags_of_bootWords {s t : State} (h : t.bootWords = s.bootWords) :
    t.flag PCS_STATE_DONE = s.flag PCS_STATE_DONE ∧ t.flag FCU_STATUS_BOOT_HOLD = s.flag FCU_STATUS_BOOT_HOLD :=
  ⟨congrArg (fun w : Word × Word => bitsOf w.1.toNat 5 5 == 1) h, congrArg (fun w : Word × Word => bitsOf w.2.toNat 2 2 == 1) h⟩

theorem State.endOfBoot_leaves {s : State} (hboot : s.pcs.boot = .harts) :
    s.endOfBoot.phase = (.done, .run, s.pcs.sdMode, s.now) ∧ s.endOfBoot.flag PCS_STATE_DONE = true ∧
      s.endOfBoot.flag FCU_STATUS_BOOT_HOLD = false := by
  have hphase := s.booted_phase
  have hdone : s.booted.flag PCS_STATE_DONE = true := State.bootEnds_done _
  have hhold : s.booted.flag FCU_STATUS_BOOT_HOLD = false := State.bootEnds_hold _
  rw [State.endOfBoot_harts hboot]
  generalize s.booted = t at hphase hdone hhold ⊢
  split
  · obtain ⟨hdone', hhold'⟩ := State.bootFlags_of_bootWords t.secureDown_bootWords
    exact ⟨t.secureDown_phase.trans hphase, hdone'.trans hdone, hhold'.trans hhold⟩
  · exact ⟨hphase, hdone, hhold⟩

/-! ### The statement -/

/-- Settles O57: each step of boot by its rule. -/
theorem resetsAndBoot : Obligations.ResetsAndBoot := by
  unfold Obligations.ResetsAndBoot
  intro s
  refine ⟨?arrival, ?loss, ?pin, ?software, ?release, ?protection, ?harts, fun hhalf => State.bootLoad_none hhalf,
    fun h c b hhalf hcommit himage => State.bootLoad_image hhalf hcommit himage, ?done⟩
  case arrival =>
    intro hoff
    rw [exec_powerOn]
    exact ⟨_, ends_of_eq (State.powerOn_off hoff), rfl, rfl, rfl, rfl, rfl, rfl, rfl⟩
  case loss =>
    intro hon
    rw [exec_vbatLoss]
    exact ends_of_eq (State.vbatLoss_on hon)
  case pin =>
    intro hawake hon hcore u
    rw [exec_pinReset]
    exact ends_of_eq (State.pinReset_runs hawake hon hcore)
  case software =>
    intro a v hreach hconfirm
    rw [exec_softwareReset]
    exact ⟨ends_of_eq (rowWrite_softwareReset hreach hconfirm), s.coreReset_held 4⟩
  case release =>
    intro pins testen rails hwaits hdue
    rw [exec_coreResetRelease]
    exact ⟨fun hgood => ends_of_eq (State.coreRelease_good hwaits hdue hgood), fun hbad => ends_of_eq (State.coreRelease_waits hbad)⟩
  case protection =>
    intro hboot u parks v w x
    rw [exec_protectionActive]
    exact ends_of_eq (State.protectionActive_configured hboot rfl rfl rfl rfl)
  case harts =>
    intro hboot u
    rw [exec_hartsReleased]
    exact ends_of_eq (State.hartsReleased_protection hboot)
  case done =>
    intro hboot
    obtain ⟨hphase, hdone, hhold⟩ := State.endOfBoot_leaves hboot
    rw [exec_endOfBoot]
    exact ⟨s.endOfBoot, ends_of_eq rfl, congrArg (fun p => p.1) hphase, congrArg (fun p => p.2.1) hphase, hdone, hhold,
      congrArg (fun p => p.2.2.2) hphase⟩

end Sys2Proof.Machine
end

section
/-!
# Sleep, the Sheepdog and wake

The way into sleep and out of it, step by step, and the rules that the Sheepdog runs in each of its cycles.
-/

namespace Sys2Proof.Machine

theorem exec_sleepAbort (s : State) : exec .sleepAbort s = s.ends s.sleepAbort := rfl
theorem exec_sleepCommit (s : State) : exec .sleepCommit s = s.ends s.sleepCommit := rfl
theorem exec_inhFall (s : State) : exec .inhFall s = s.ends s.inhFalls := rfl
theorem exec_inhRise (s : State) : exec .inhRise s = s.ends s.inhRises := rfl
theorem exec_sheepdogCycle (y : SdIn) (s : State) : exec (.sheepdogCycle y) s = s.ends (s.sdCycle y) := rfl
theorem exec_wkStaticEdge (i : Nat) (up : Bool) (s : State) : exec (.wkStaticEdge i up) s = s.ends (s.wkEdge i up) := rfl

/-! ### Into sleep -/

theorem State.prepareSleep_run {s : State} (hrun : s.pcs.power = .run) (hcond : s.sleepCondition = true) :
    s.prepareSleep =
      ({ s with pcs := { s.pcs with power := .prepareSleep, prepAt := some (s.now + s.pcs.tPrepMs * 1000000) } } :
        State).setFlag PCS_EVT_PREP true :=
  if_neg (by simp [hrun, hcond])

theorem State.sleepAbort_fails {s : State} (hprep : s.pcs.power = .prepareSleep) (hcond : s.sleepCondition = false) :
    s.sleepAbort = ({ s with pcs := { s.pcs with power := .run, prepAt := none } } : State).setFlag PCS_EVT_ABORT true :=
  if_neg (by simp [hprep, hcond])

/-- The handover to the Sheepdog: its mode, the networks' wake detection, the channels, and then the core die goes down. -/
def State.handsOver (u : State) : State :=
  let v := u.each ((List.range 16).filter fun n => !(u.netEn n)) fun w n => w.arm n false
  let w : State := { v with pcs := { v.pcs with power := .sentinel, sdMode := u.get SF_MODE_MODE } }
  (w.each allCh State.channelSleeps).dieDown .held

/-- The Sheepdog starts with no cycle run and no wake decided, and INH is about to fall. -/
def State.sheepdogStarts (v : State) : State :=
  { v with pda := { v.pda with limpTick := v.now }
           pcs := { v.pcs with sdRunning := true, cycle := 0, cycleAt := v.now, sleptAt := v.now, wake := none
                               inhFall := some (v.now + 100000)
                               rules := nmap (fun _ (q : Rule) => { raw := q.raw }) v.pcs.rules } }

theorem State.sleepCommit_due {s : State} {t : Nat} (hprep : s.pcs.power = .prepareSleep) (hdue : s.pcs.prepAt = some t)
    (hcond : s.sleepCondition = true) : s.sleepCommit = (s.until t).handsOver.sheepdogStarts.sdPower := by
  unfold State.sleepCommit
  rw [hprep, hdue]
  exact if_neg (by rw [hcond]; exact Bool.false_ne_true)

theorem State.dieDown_phase (s : State) (b : Boot) : (s.dieDown b).phase = (b, s.pcs.power, s.pcs.sdMode, s.now) := by
  have hfault : s.coreClear.senseFault.phase = s.phase := s.coreClear.senseFault_phase
  have hpower : s.coreClear.senseFault.pcs.power = s.pcs.power := congrArg (fun p => p.2.1) hfault
  have hmode : s.coreClear.senseFault.pcs.sdMode = s.pcs.sdMode := congrArg (fun p => p.2.2.1) hfault
  have hnow : s.coreClear.senseFault.now = s.now := congrArg (fun p => p.2.2.2) hfault
  unfold State.dieDown
  generalize s.coreClear.senseFault = t at hpower hmode hnow ⊢
  rw [← hpower, ← hmode, ← hnow]
  rfl

theorem State.handsOver_phase (u : State) : u.handsOver.phase = (.held, .sentinel, u.get SF_MODE_MODE, u.now) := by
  unfold State.handsOver
  extract_lets v _ w
  have hv : v.phase = u.phase := State.each_phase _ _ fun x n => State.arm_phase ..
  have hnow : v.now = u.now := congrArg (fun p => p.2.2.2) hv
  have hw : w.phase = (v.pcs.boot, .sentinel, u.get SF_MODE_MODE, v.now) := rfl
  have hsleep : (w.each allCh State.channelSleeps).phase = w.phase := State.each_phase _ _ fun x n => State.channelSleeps_phase ..
  have hx := hsleep.trans hw
  clear_value w
  generalize w.each allCh State.channelSleeps = x at hx ⊢
  have hpower : x.pcs.power = .sentinel := congrArg (fun p => p.2.1) hx
  have hmode : x.pcs.sdMode = u.get SF_MODE_MODE := congrArg (fun p => p.2.2.1) hx
  have hsame : x.now = v.now := congrArg (fun p => p.2.2.2) hx
  rw [State.dieDown_phase, hpower, hmode, hsame, hnow]

/-- What the Sheepdog's start fixes and its choice of power state leaves. -/
def State.dogView (s : State) : Bool × Bool × Nat × Nat × Option Nat × Option (Nat × Nat) :=
  (s.coreRuns, s.pcs.sdRunning, s.pcs.cycle, s.pcs.sdMode, s.pcs.inhFall, s.pcs.wake)

theorem State.sdPower_dogView (s : State) : s.sdPower.dogView = s.dogView := State.ite_keeps (p := State.dogView) rfl rfl

theorem State.sheepdogStarts_dogView (v : State) :
    v.sheepdogStarts.dogView = (v.coreRuns, true, 0, v.pcs.sdMode, some (v.now + 100000), none) := rfl

theorem State.sleepCommit_dogView {s : State} {t : Nat} (hprep : s.pcs.power = .prepareSleep) (hdue : s.pcs.prepAt = some t)
    (hcond : s.sleepCondition = true) :
    s.sleepCommit.dogView = (false, true, 0, (s.until t).get SF_MODE_MODE, some ((s.until t).now + 100000), none) := by
  have hphase := (s.until t).handsOver_phase
  rw [State.sleepCommit_due hprep hdue hcond, State.sdPower_dogView, State.sheepdogStarts_dogView]
  generalize (s.until t).handsOver = v at hphase ⊢
  have hboot : v.pcs.boot = .held := congrArg Prod.fst hphase
  have hcore : v.coreRuns = false := by rw [State.coreRuns, hboot]
  have hmode : v.pcs.sdMode = (s.until t).get SF_MODE_MODE := congrArg (fun p => p.2.2.1) hphase
  have hnow : v.now = (s.until t).now := congrArg (fun p => p.2.2.2) hphase
  rw [hcore, hmode, hnow]

/-! ### INH -/

theorem State.inhFalls_due {s u : State} {t : Nat} {x : Int × State} (hdue : s.pcs.inhFall = some t)
    (hx : x = s.freeIn (-10000) 10000) (hu : u = x.2.until ((t : Int) + x.1).toNat) :
    s.inhFalls =
      { u with pcs := { u.pcs with boot := .unpowered, inh := false, inhFall := none, inhFellAt := u.now, porst := false
                                   rails := 0 } } := by
  subst hu hx
  simp only [State.inhFalls, hdue]

theorem State.inhRises_wakes {s : State} (hasleep : s.asleep = true) (hwake : s.pcs.wake.isSome = true)
    (hfall : s.pcs.inhFall = none) :
    s.inhRises.pcs.power = .waking ∧ s.inhRises.pcs.inh = true ∧ s.inhRises.pcs.boot = .held ∧
      s.inhRises.now = ((s.freeIn 0 50000).2.until
        (max s.pcs.wakeAt (s.pcs.inhFellAt + s.pcs.inhMinMs * 1000000) + (s.freeIn 0 50000).1.toNat)).now ∧
      s.inhRises.mem = s.mem := by
  have hawake : ¬ ((!s.asleep) = true ∨ s.pcs.wake.isNone = true ∨ s.pcs.inhFall.isSome = true) := by
    obtain ⟨w, hw⟩ := Option.isSome_iff_exists.mp hwake
    simp [hasleep, hw, hfall]
  unfold State.inhRises
  rw [if_neg hawake]
  exact ⟨rfl, rfl, rfl, rfl, State.until_mem (s.freeIn 0 50000).2 _⟩

/-! ### The Sheepdog's cycle and its rules -/

theorem State.sdCycle_runs {s u v : State} {x : Int × State} (hruns : s.sdRuns = true) (y : SdIn)
    (hx : x = s.freeIn (-50000) 50000)
    (hu : u = x.2.until (s.pcs.cycleAt + (s.pcs.sdCycleMs * (1000000 + x.1)).toNat))
    (hv : v = u.each (List.range 64) fun w i => w.ruleRun y u.pcs.cycle i) :
    s.sdCycle y = ({ v with pcs := { v.pcs with cycle := u.pcs.cycle + 1, cycleAt := v.now } } : State).sdPower := by
  have hpcs : x.2.pcs = s.pcs := by
    rw [hx]
    rfl
  unfold State.sdCycle
  rw [if_neg (by rw [hruns]; exact Bool.false_ne_true), ← hx]
  rw [← hpcs] at hu
  rw [hv, hu]

/-- The trigger of a rule, on its filtered condition and whether that has changed. -/
theorem ruleTrigger_iff (k : Nat) (value change : Bool) :
    (match k with | 0 => value | 1 => change && value | 2 => change && !value | _ => change) = true ↔
      (k = 0 ∧ value = true) ∨ (k = 1 ∧ change = true ∧ value = true) ∨ (k = 2 ∧ change = true ∧ value = false) ∨
        (3 ≤ k ∧ change = true) := by
  match k with
  | 0 => simp
  | 1 => simp
  | 2 => simp
  | k + 3 => simp

/-- A sampled rule of another mode, or in another cycle, does nothing. -/
theorem State.ruleRun_idle {s : State} {i c : Nat} {q : Rule} (hq : nfind s.pcs.rules i = some q) (hkind : rlKind q.raw ≠ 7)
    (hidle : rlIn q.raw s.pcs.sdMode = false ∨ c % rlDiv q.raw ≠ 0) (y : SdIn) : s.ruleRun y c i = s := by
  simp only [State.ruleRun, hq]
  by_cases hin : (!(rlIn q.raw s.pcs.sdMode) || rlKind q.raw == 2) = true
  · rw [if_pos hin]
  · have hmode : rlIn q.raw s.pcs.sdMode = true := by
      cases h : rlIn q.raw s.pcs.sdMode
      · rw [h] at hin
        exact absurd rfl hin
      · rfl
    have hcycle : c % rlDiv q.raw ≠ 0 := hidle.resolve_left (by rw [hmode]; exact Bool.noConfusion)
    rw [if_neg hin, if_neg hkind, if_pos hcycle]

/-- A sampled rule of the mode, in its cycle, keeps its filter and acts where its trigger says so. -/
theorem State.ruleRun_sampled {s : State} {i c : Nat} {q : Rule} (hq : nfind s.pcs.rules i = some q) (hstatic : rlKind q.raw ≠ 2)
    (hperiod : rlKind q.raw ≠ 7) (hmode : rlIn q.raw s.pcs.sdMode = true) (hcycle : c % rlDiv q.raw = 0) (y : SdIn) :
    s.ruleRun y c i =
      (let f := q.filter (s.ruleTrue y q.raw)
       let u : State := { s with pcs := { s.pcs with rules := nset s.pcs.rules i f.1 } }
       if (rlTrigger q.raw = 0 ∧ f.1.value = true) ∨ (rlTrigger q.raw = 1 ∧ f.2 = true ∧ f.1.value = true) ∨
          (rlTrigger q.raw = 2 ∧ f.2 = true ∧ f.1.value = false) ∨ (3 ≤ rlTrigger q.raw ∧ f.2 = true)
       then u.ruleAct i q.raw else u) := by
  have hin : ¬ (!(rlIn q.raw s.pcs.sdMode) || rlKind q.raw == 2) = true := by simp [hmode, hstatic]
  simp only [State.ruleRun, hq]
  rw [if_neg hin, if_neg hperiod, if_neg (not_not.mpr hcycle)]
  generalize q.filter (s.ruleTrue y q.raw) = f
  exact if_congr (ruleTrigger_iff (rlTrigger q.raw) f.1.value f.2) rfl rfl

theorem State.wakeDecide_first {s : State} (hasleep : s.asleep = true) (hnone : s.pcs.wake = none) (reason idx : Nat) :
    s.wakeDecide reason idx = { s with pcs := { s.pcs with wake := some (reason, idx), wakeAt := s.now } } :=
  if_pos (by rw [hasleep, hnone]; rfl)

theorem State.ruleAct_flag (s : State) (i : Nat) {r : List Byte} {k : Nat} (hk : k < 2) (hact : rlAction r = 4 + k) :
    s.ruleAct i r = { s with pcs := { s.pcs with sdFlags := setBit s.pcs.sdFlags (rlArg r) (k == 0) } } := by
  obtain rfl | rfl : k = 0 ∨ k = 1 := by omega
  · rw [State.ruleAct, hact]
    rfl
  · rw [State.ruleAct, hact]
    rfl

theorem State.wkEdge_acts {s : State} {i : Nat} {q : Rule} {up : Bool} (hq : nfind s.pcs.rules i = some q) (hruns : s.sdRuns = true)
    (hmode : rlIn q.raw s.pcs.sdMode = true) (hkind : rlKind q.raw = 2)
    (htrigger : rlTrigger q.raw = 3 ∨ (rlTrigger q.raw = 1 ∧ up = true) ∨ (rlTrigger q.raw = 2 ∧ up = false)) :
    s.wkEdge i up = s.ruleAct i q.raw := by
  simp only [State.wkEdge, hq, hruns, hmode, hkind, Bool.not_true, Bool.or_self, bne_self_eq_false, Bool.false_eq_true, if_false]
  exact if_pos (by simpa only [Bool.not_eq_true'] using htrigger)

theorem State.netWakes_asleep {s : State} {n : Nat} (hasleep : s.asleep = true) (harmed : bitOf s.fbc.armed n = true)
    (hnone : s.pcs.wake = none) :
    s.netWakes n = { s with pcs := { s.pcs with wake := some (5, n), wakeAt := s.now } } := by
  rw [State.netWakes, if_pos hasleep, if_pos harmed, State.wakeDecide_first hasleep hnone]

/-! ### The statement -/

/-- Settles O58: each step of sleep and of the Sheepdog by its rule. -/
theorem sleepAndWake : Obligations.SleepAndWake := by
  unfold Obligations.SleepAndWake
  intro s
  refine ⟨?prepare, ?abort, ?commit, ?fall, ?rise, ?cycle, ?rule, ?action, ?edge, ?network⟩
  case prepare =>
    intro hrun hcond
    rw [exec_prepareSleep]
    exact ends_of_eq (State.prepareSleep_run hrun hcond)
  case abort =>
    intro hprep hcond
    rw [exec_sleepAbort]
    exact ends_of_eq (State.sleepAbort_fails hprep hcond)
  case commit =>
    intro t hprep hdue hcond
    have hview := State.sleepCommit_dogView hprep hdue hcond
    rw [exec_sleepCommit]
    exact ⟨s.sleepCommit, ends_of_eq rfl, congrArg Prod.fst hview, congrArg (fun p => p.2.1) hview, congrArg (fun p => p.2.2.1) hview,
      congrArg (fun p => p.2.2.2.1) hview, congrArg (fun p => p.2.2.2.2.1) hview, congrArg (fun p => p.2.2.2.2.2) hview⟩
  case fall =>
    intro t hdue x u
    rw [exec_inhFall]
    exact ⟨s.freeIn_mem (by decide), ends_of_eq (State.inhFalls_due hdue rfl rfl)⟩
  case rise =>
    intro hasleep hwake hfall
    obtain ⟨hpower, hinh, hboot, hnow, hmem⟩ := State.inhRises_wakes hasleep hwake hfall
    rw [exec_inhRise]
    exact ⟨s.inhRises, ends_of_eq rfl, hpower, hinh, hboot, ⟨s.freeIn_mem (by decide), hnow⟩, hmem⟩
  case cycle =>
    intro y hruns x u v
    rw [exec_sheepdogCycle]
    exact ⟨s.freeIn_mem (by decide), ends_of_eq (State.sdCycle_runs hruns y rfl rfl rfl)⟩
  case rule =>
    intro y c i q hq hstatic hperiod
    refine ⟨fun hidle => State.ruleRun_idle hq hperiod hidle y, fun hmode hcycle => ?_⟩
    have hrun := State.ruleRun_sampled hq hstatic hperiod hmode hcycle y
    exact ⟨fun hgo => hrun.trans (if_pos hgo), fun hgo => hrun.trans (if_neg hgo)⟩
  case action =>
    intro i r
    refine ⟨fun hact hasleep hnone => ?_, fun hact => ?_, fun hact => ?_, fun k hk hact => s.ruleAct_flag i hk hact⟩
    · rw [State.ruleAct, hact]
      exact State.wakeDecide_first hasleep hnone 6 i
    · rw [State.ruleAct, hact]
      rfl
    · rw [State.ruleAct, hact]
      rfl
  case edge =>
    intro i q up hq hruns hmode hkind htrigger
    rw [exec_wkStaticEdge]
    exact ends_of_eq (State.wkEdge_acts hq hruns hmode hkind htrigger)
  case network =>
    intro n hn hasleep harmed hnone
    rw [exec_wakeDetected, if_pos hn]
    exact ends_of_eq (State.netWakes_asleep hasleep harmed hnone)

end Sys2Proof.Machine
end

section
/-!
# The log of memory errors, and what settling leaves of an answer (O52)

The statement says that the word that a read of the log answers has its VALID bit set. The log is a list of entries, and an entry
whose word is zero answers zero; the entries that the model writes have the bit, but the statement speaks of every state. What the statement compares is the state after everything has been handled, and its other state
is free but for the registers; so the refutation shows that in a device whose fault sources, votes and switch are still, handling
leaves the answer as it was.
-/

namespace Sys2Proof.Machine

/-- The comparison that a comparator's source belongs to is a source of the map. -/
theorem comparatorBase_lt {i c : Nat} (h : comparatorBase i = some c) : c + 2 < 1024 := by
  simp only [comparatorBase] at h
  split at h
  · next hc =>
    have := Option.some.inj h
    omega
  · exact absurd h (by simp)

/-! ### A still device -/

/-- The registers that keep the device still: the configurations of the sources, the state of pen 0, the islands' votes, and the
switch's island. -/
def stillAddr (a : Nat) : Prop :=
  (0x4B001000 ≤ a ∧ a < 0x4B002000) ∨ a = 0x4B003000 ∨ (0x4C000400 ≤ a ∧ a < 0x4C0004B8) ∨ a = 0x4C00056C

/-- The answer's state is `b`, no source fences anything, every island is called for, and the switch is off. -/
structure State.Still (b : Bus) (s : State) : Prop where
  bus : s.bus = b
  config : ∀ i < 1024, s.rd FCU_SRCi_CFG i = 0
  pen : s.rd FCU_PENn_STATUS 0 = 0
  vote : ∀ i < 46, s.rd PCS_ISLi_VOTE i = 0x303
  power : s.rd PCS_ISLi_STATUS 27 = 0

namespace State.Still

variable {b : Bus} {s t : State}

/-- A state with the registers of a still device is still, whatever it answers. -/
theorem free (h : s.Still b) (hregs : t.regs = s.regs) : t.Still t.bus := by
  have hrd : ∀ (r : Reg) (i : Nat), t.rd r i = s.rd r i := fun r i => by rw [State.rd, State.rd, hregs]
  exact ⟨rfl, fun i hi => (hrd _ i).trans (h.config i hi), (hrd _ 0).trans h.pen,
    fun i hi => (hrd _ i).trans (h.vote i hi), (hrd _ 27).trans h.power⟩

/-- Besides the registers and the answer the state is free. -/
theorem of_eq (h : s.Still b) (hbus : t.bus = s.bus) (hregs : t.regs = s.regs) : t.Still b := by
  rw [← hbus.trans h.bus]
  exact h.free hregs

/-- So are the other registers. -/
theorem wr (h : s.Still b) {r : Reg} {i j : Nat} (hout : ¬ stillAddr (r.addr i j)) (v : Word) : (s.wr r v i j).Still b := by
  have hrd : ∀ (q : Reg) (k : Nat), stillAddr (q.addr k 0) → (s.wr r v i j).rd q k = s.rd q k := fun q k hq =>
    rd_wr_other s v fun heq => hout (heq ▸ hq)
  refine ⟨h.bus, fun k hk => (hrd _ k ?_).trans (h.config k hk), (hrd _ 0 (.inr (.inl rfl))).trans h.pen,
    fun k hk => (hrd _ k ?_).trans (h.vote k hk), (hrd _ 27 (.inr (.inr (.inr rfl)))).trans h.power⟩
  · refine .inl ?_
    simp only [Reg.addr, FCU_SRCi_CFG]
    omega
  · refine .inr (.inr (.inl ?_))
    simp only [Reg.addr, PCS_ISLi_VOTE]
    omega

theorem set (h : s.Still b) {f : Fld} {i j : Nat} (hout : ¬ stillAddr (f.reg.addr i j)) (v : Nat) : (s.set f v i j).Still b :=
  h.wr hout _

theorem ite {c : Prop} [Decidable c] {u : State} (ht : t.Still b) (hu : u.Still b) : (if c then t else u).Still b := by
  split
  · exact ht
  · exact hu

theorem each {α : Type} (h : s.Still b) {f : State → α → State} (hf : ∀ t a, t.Still b → (f t a).Still b) (l : List α) :
    (s.each l f).Still b := by
  unfold State.each
  induction l generalizing s with
  | nil => exact h
  | cons a l ih => exact ih (hf s a h)

/-! ### Fault events -/

theorem srcRecord (h : s.Still b) (i cls : Nat) (hi : i < 1024) (broken esc : Bool) : (s.srcRecord i cls broken esc).Still b := by
  have hstate : ¬ stillAddr (FCU_SRCi_STATE.addr i 0) := by
    simp only [stillAddr, Reg.addr, FCU_SRCi_STATE]
    omega
  have hmap : ¬ stillAddr (FCU_LATCHEDw.addr (i / 32) 0) := by
    simp only [stillAddr, Reg.addr, FCU_LATCHEDw]
    omega
  have hlog : ¬ stillAddr (FCU_LOG_STATUS.addr 0 0) := by
    simp only [stillAddr, Reg.addr, FCU_LOG_STATUS]
    omega
  unfold State.srcRecord
  extract_lets t u v _ w info e full _ x
  have ht : t.Still b := ((h.of_eq (State.count_bus ..) (State.count_regs ..)).set hstate _).set hstate _
  have hu : u.Still b := ite (ht.set hstate _) ht
  have hv : v.Still b := hu.set hmap _
  have hw : w.Still b := ite (hv.of_eq rfl rfl) hv
  have hx : x.Still b := hw.of_eq rfl rfl
  exact ite (hx.set hlog _) hx

/-- A field of a source's configuration reads zero. -/
theorem config_get (h : s.Still b) {i : Nat} (hi : i < 1024) {f : Fld} (hf : f.reg = FCU_SRCi_CFG) : s.get f i = 0 := by
  rw [State.get, hf, h.config i hi]
  simp [bitsOf]

/-- An event of a still device is recorded at most: its class is 0, its pen is pen 0, and that is not fenced. -/
theorem fcuEvent (h : s.Still b) (r : FcuReport) : (s.fcuEvent r).Still b := by
  unfold State.fcuEvent
  by_cases hused : srcUsed r.src = true
  · have hsrc := srcUsed_lt hused
    rw [hused, Bool.not_true, if_neg Bool.false_ne_true]
    extract_lets i cfg cls p _ t
    have hi : i < 1024 := by
      dsimp only [i]
      split
      · next c hc => exact comparatorBase_lt hc
      · exact hsrc
    have hcls : cls = 0 := by
      dsimp only [cls, cfg]
      rw [h.config_get hi rfl, h.config_get hi rfl]
      cases r.broken <;> rfl
    have hpen : s.penFenced p = false := by
      have hp : p = 0 := h.config_get hi rfl
      rw [hp, State.penFenced, State.get, show FCU_PENn_STATUS_STATE.reg = FCU_PENn_STATUS from rfl, h.pen]
      rfl
    have hbroken : ¬ stillAddr (FCU_SRCi_STATE.addr r.src 0) := by
      simp only [stillAddr, Reg.addr, FCU_SRCi_STATE]
      omega
    have ht : t.Still b := ite (h.set hbroken _) h
    have hesc : t.escalate i cls = (false, t) := if_pos (.inr (ht.config_get hi rfl))
    rw [hpen, if_neg Bool.false_ne_true, hesc, hcls]
    exact ht.srcRecord i 0 hi r.broken false
  · rw [Bool.not_eq_true] at hused
    rw [hused]
    exact h

theorem fcuLoop (n : Nat) (h : s.Still b) : (State.fcuLoop n s).Still b := by
  induction n generalizing s with
  | zero => exact h
  | succ n ih =>
    rw [State.fcuLoop]
    cases s.fcu.todo with
    | nil => exact h
    | cons r l =>
      have hrest : State.Still b { s with fcu := { s.fcu with todo := l } } := h.of_eq rfl rfl
      exact ih (hrest.fcuEvent r)

/-! ### Islands -/

/-- A write of an island's status, but for the switch's. -/
theorem island (h : s.Still b) {f : Fld} (hf : f.reg = PCS_ISLi_STATUS) {i : Nat} (hi : i < 27) (v : Nat) : (s.set f v i).Still b := by
  refine h.set ?_ v
  rw [hf]
  simp only [stillAddr, Reg.addr, PCS_ISLi_STATUS]
  omega

theorem setIsl (h : s.Still b) {i : Nat} (hi : i < 27) (on : Bool) : (s.setIsl i on).Still b :=
  (h.island (f := PCS_ISLi_STATUS_CLK) rfl hi _).island (f := PCS_ISLi_STATUS_PWR) rfl hi _

theorem replace (h : s.Still b) (k : Nat) (x : Inst) : (s.replace k x).2.Still b := by
  unfold State.replace
  cases placeOne s.peK (nerase s.pe.insts k) x s.epCands with
  | ok y => exact h.of_eq rfl rfl
  | error e => exact h

theorem foldl_snd {α : Type} {f : Bool × State → α → Bool × State} (hf : ∀ a e, a.2.Still b → (f a e).2.Still b) (l : List α)
    {a : Bool × State} (h : a.2.Still b) : (l.foldl f a).2.Still b := by
  induction l generalizing a with
  | nil => exact h
  | cons e l ih => exact ih (hf a e h)

theorem placeRetry (h : s.Still b) : s.placeRetry.Still b := by
  unfold State.placeRetry
  generalize hr : (keyOrder s.pe.insts).foldl _ (false, s) = r
  have hplaced : r.2.Still b := by
    rw [← hr]
    refine foldl_snd (fun a e ha => ?_) _ h
    cases a.2.inst? e.1 with
    | none => exact ha
    | some x =>
      by_cases hx : x.unplaced = true
      · simp only [hx, if_true]
        exact ha.replace ..
      · simp only [hx, Bool.false_eq_true, if_false]
        by_cases hd : (x.dual && x.a.isSome && x.b.isNone) = true
        · rw [if_pos hd]
          cases a.2.secondCopy x with
          | none => exact ha
          | some y => exact ha.of_eq rfl rfl
        · rw [if_neg hd]
          exact ha
  obtain ⟨changed, t⟩ := r
  have hgen : ¬ stillAddr (PE_PLACE_GEN.addr 0 0) := by simp [stillAddr, Reg.addr, PE_PLACE_GEN]
  exact ite (hplaced.set (f := PE_PLACE_GEN_GEN) hgen _) hplaced

theorem pairReturns (h : s.Still b) (p : Nat) : (s.pairReturns p).Still b := by
  have hdrain : State.Still b { s with pe := { s.pe with draining := setBit s.pe.draining p false } } := h.of_eq rfl rfl
  exact ite (hdrain.placeRetry.of_eq rfl rfl) hdrain

theorem clkVoted (h : s.Still b) {i : Nat} (hi : i < 46) : s.clkVoted i = true := by
  have hflag : s.flag PCS_ISLi_VOTE_S_CLK i = true := by
    rw [State.flag, State.get, show PCS_ISLi_VOTE_S_CLK.reg = PCS_ISLi_VOTE from rfl, h.vote i hi]
    rfl
  rw [State.clkVoted, hflag, Bool.true_or]

theorem epIsland (h : s.Still b) {i : Nat} (hi : i < 27) : (s.epIsland i).Still b := by
  have hundrain : (s.setDraining i false).Still b := h.of_eq rfl rfl
  have hungate : (s.setGated i false).Still b := h.of_eq rfl rfl
  have hstatus : ((s.setDraining i false).setFlag PCS_ISLi_STATUS_DRAINING false i).Still b := hundrain.island rfl hi _
  unfold State.epIsland
  extract_lets p clk pwr on
  have hclk : clk = true := h.clkVoted (by omega)
  rw [hclk, if_pos rfl]
  exact ite (hstatus.pairReturns p) (ite h ((hungate.setIsl hi true).pairReturns p))

/-- An island that is called for is not gated. -/
theorem islandEval (h : s.Still b) (i : Nat) : (s.islandEval i).Still b := by
  unfold State.islandEval
  by_cases hhw : hwIslands.contains i = true ∨ 45 < i
  · rw [if_pos hhw]
    exact h
  rw [if_neg hhw]
  have hi : i < 46 := by
    have := mt Or.inr hhw
    omega
  by_cases hep : 10 ≤ i ∧ i ≤ 17
  · rw [if_pos hep]
    exact h.epIsland (by omega)
  · have hvote : s.pwrVoted i = true := by rw [State.pwrVoted, h.clkVoted hi, Bool.true_or, Bool.true_or]
    rw [if_neg hep, hvote, if_pos rfl]
    exact h.of_eq rfl rfl

theorem gatesDue (h : s.Still b) : s.gatesDue.Still b := h.each (fun _ i ht => ht.islandEval i) _

/-! ### The debugger, the streams and the interrupts -/

theorem dbgSettle (h : s.Still b) : s.dbgSettle.Still b := by
  unfold State.dbgSettle
  extract_lets shut t
  have ht : t.Still b := h.each (f := State.hartResume) (fun _ _ hu => hu.of_eq rfl rfl) _
  exact ht.of_eq rfl rfl

/-- The switch's island is off, so no frame leaves. -/
theorem streamHand (h : s.Still b) (k : Nat) (x : Stream) : (s.streamHand k x).Still b := by
  have hoff : s.eswUp = false := by
    have hpower : s.powered 27 = false := by
      rw [State.powered, State.flag, State.get, show PCS_ISLi_STATUS_PWR.reg = PCS_ISLi_STATUS from rfl, h.power]
      rfl
    rw [State.eswUp, hpower, Bool.and_false, Bool.false_and]
  unfold State.streamHand
  cases x.wait with
  | none => exact h.of_eq rfl rfl
  | some w =>
    refine Eq.mpr (congrArg _ (if_neg ?_)) (h.of_eq rfl rfl : (s.setStream k x).Still b)
    rw [hoff]
    exact Bool.false_ne_true

theorem streamsHand (h : s.Still b) : s.streamsHand.Still b := h.each (fun _ e ht => ht.streamHand e.1 e.2) _

theorem msi (h : s.Still b) (a id : Nat) : (s.msi a id).Still b := ite (h.of_eq rfl rfl) h

theorem setAplic (h : s.Still b) (sup : Bool) (x : Aplic) : (s.setAplic sup x).Still b := by
  cases sup <;> exact h.of_eq rfl rfl

theorem aplicSend (h : s.Still b) (sup : Bool) (i : Nat) : (s.aplicSend sup i).Still b := by
  unfold State.aplicSend
  exact ite ((h.setAplic ..).msi ..) h

theorem aplicStep (h : s.Still b) : s.aplicStep.Still b := by
  unfold State.aplicStep
  refine h.each (fun t sup ht => ht.each (fun u i hu => ?_) _) _
  have hpend : (u.aplicPend sup i).Still b := hu.setAplic ..
  exact hpend.aplicSend sup i

/-! ### Settling -/

theorem settle (h : s.Still b) (before : State) : (State.settle before s).Still b := by
  unfold State.settle
  extract_lets t _ u v
  have ht : t.Still b := ite (h.fcuLoop 1024) h
  have hu : u.Still b := ite ht.gatesDue.dbgSettle.streamsHand (ht.of_eq rfl rfl)
  have hlimp : ¬ stillAddr (PCS_EVT.addr 0 0) := by simp [stillAddr, Reg.addr, PCS_EVT]
  have hv : v.Still b := ite (hu.set (f := PCS_EVT_LIMP) hlimp _) hu
  have hw : State.Still b (if v.coreRuns then v.aplicStep else v) := ite hv.aplicStep hv
  generalize (if v.coreRuns then v.aplicStep else v) = w at hw ⊢
  have hpower : w.sdPower.Still b := ite (hw.of_eq rfl rfl) hw
  exact ite (hpower.of_eq rfl rfl) hpower

end State.Still

/-! ### The refutation -/

theorem exec_errInfoRead (a : Init) (s : State) : exec (.errInfoRead a) s = s.ends (s.rowRead a MS_ERR_INFO) := rfl

/-- The word that an answer of four bytes gives its initiator. -/
theorem State.answer_word (s : State) (w : Word) : (s.answer (some (leBytes 4 w.toNat))).bus.answer.data = [w] := by
  have hword := leAt_leBytes4 w
  have hlen : ceilDiv (leBytes 4 w.toNat).length 4 = 1 := by rw [leBytes_length]; rfl
  simp only [State.answer, hlen, List.range_one, List.map_cons, List.map_nil, Nat.mul_zero, hword]

/-- The oldest entry of the memories' log is answered by its word, and leaves the log. -/
theorem rowRead_errInfo {s : State} {a : Init} (hreach : s.reaches a MS_ERR_INFO 0 0 false = true) {x : MsErr} {l : List MsErr}
    (hx : s.ms.log = x :: l) :
    ∃ u : State, s.rowRead a MS_ERR_INFO = u.answer (some (leBytes 4 x.info.toNat)) ∧ u.regs = s.regs := by
  have hhead : s.logHead (MS_ERR_INFO.addr 0 0) =
      some (x.info :: (words2 x.addr ++ words2 x.time), { s with ms := { s.ms with log := l } }) := by
    change (match s.ms.log with | [] => _ | e :: l => _) = _
    rw [hx]
  have hblind : s.blind a MS_ERR_INFO 0 = false := by
    rw [State.blind]
    cases s.dbg.samples <;> simp [show ¬ (MS_ERR_INFO.base = DBG_CNTe_LO.base ∨ MS_ERR_INFO.base = DBG_CNTe_HI.base) by decide,
      show ¬ (DBG_SMP_INFO.base ≤ MS_ERR_INFO.base ∧ MS_ERR_INFO.base < DBG_SMP_INFO.base + 20) by decide]
  have hread := rowRead_log (k := 1) (len := 5) (by decide) (by decide) (by decide) rfl (by decide) hhead rfl hblind (by rfl)
    (isBuffer_of_outside (by decide)) (by decide) (by decide) hreach
  exact ⟨_, hread, rfl⟩

/-- The words that keep a running device still. -/
def stillWords : NMap Word := (PCS_ISLi_STATUS.addr 27 0, 0) :: (List.range 1024).map fun i => (FCU_SRCi_CFG.addr i 0, 0)

/-- A still device whose log of memory errors holds an entry with a word of zero. -/
def errLogged : State :=
  { Tests.wR with regs := stillWords ++ Tests.wR.regs, ms.log := [{ info := 0, addr := 0, time := 0 }] }

theorem nfind_append_some {α : Type} {m : NMap α} {k : Nat} {v : α} (h : nfind m k = some v) (n : NMap α) :
    nfind (m ++ n) k = some v := by
  induction m with
  | nil => exact absurd h (by simp [nfind])
  | cons e m ih =>
    rw [List.cons_append, nfind] at *
    split at h
    · next hk => rw [if_pos hk, h]
    · next hk => rw [if_neg hk, ih h]

theorem nfind_map_const {α : Type} (v : α) (g : Nat → Nat) {l : List Nat} {k : Nat} (hk : k ∈ l.map g) :
    nfind (l.map fun i => (g i, v)) k = some v := by
  induction l with
  | nil => exact absurd hk (by simp)
  | cons i l ih =>
    rw [List.map_cons, nfind]
    split
    · rfl
    · next hne =>
      rw [List.map_cons, List.mem_cons] at hk
      exact ih (hk.resolve_left fun h => hne h.symm)

theorem stillWords_config {i : Nat} (hi : i < 1024) : nfind stillWords (FCU_SRCi_CFG.addr i 0) = some 0 := by
  have hother : PCS_ISLi_STATUS.addr 27 0 ≠ FCU_SRCi_CFG.addr i 0 := by
    simp only [Reg.addr, PCS_ISLi_STATUS, FCU_SRCi_CFG]
    omega
  rw [stillWords, nfind, if_neg hother]
  exact nfind_map_const 0 (fun k => FCU_SRCi_CFG.addr k 0) (List.mem_map_of_mem (List.mem_range.mpr hi))

theorem errLogged_still : errLogged.Still errLogged.bus where
  bus := rfl
  config i hi := by
    rw [State.rd, ngetD, errLogged, nfind_append_some (stillWords_config hi)]
    rfl
  pen := by decide +kernel
  vote := by decide +kernel
  power := by decide +kernel

/-- Refutes O52: an entry of the memories' log whose word is zero answers zero, whose VALID bit is clear. -/
theorem not_cachesAndMemories : ¬ Obligations.CachesAndMemories := by
  intro h
  obtain ⟨-, -, -, -, -, -, -, -, -, -, hread⟩ := h errLogged
  have hreach : errLogged.reaches Tests.svp MS_ERR_INFO 0 0 false = true := by decide +kernel
  obtain ⟨w, u, hexec, hvalid, -, -, hregs⟩ := hread Tests.svp hreach _ _ rfl
  obtain ⟨t, hrow, hregs'⟩ := rowRead_errInfo hreach rfl
  have hsettled : State.settle errLogged (t.answer (some (leBytes 4 (0 : Word).toNat))) =
      State.settle errLogged (u.answer (some (leBytes 4 w.toNat))) := by
    rw [exec_errInfoRead, hrow] at hexec
    injection hexec
  have hleft : (t.answer (some (leBytes 4 (0 : Word).toNat))).Still _ := errLogged_still.free hregs'
  have hright : (u.answer (some (leBytes 4 w.toNat))).Still _ := errLogged_still.free hregs
  have hbus : (t.answer (some (leBytes 4 (0 : Word).toNat))).bus = (u.answer (some (leBytes 4 w.toNat))).bus := by
    rw [← (hleft.settle errLogged).bus, ← (hright.settle errLogged).bus, hsettled]
  have hword : [(0 : Word)] = [w] := by
    rw [← State.answer_word t 0, ← State.answer_word u w, hbus]
  rw [← List.head_eq_of_cons_eq hword] at hvalid
  exact absurd hvalid (by decide)

end Sys2Proof.Machine
end
